-- ==== Sys2Proof/Word.lean ====
section
/-!
DEFINITION. The word types of the SA-7316 (R5: registers are 32 bits wide, every multi-byte quantity is little-endian)
and their plainest arithmetic.
-/
namespace Sys2Proof

/-- A byte of a packet, a record or a memory. -/
abbrev Byte := BitVec 8

/-- A 16-bit quantity of a packet or record. -/
abbrev Half := BitVec 16

/-- A register word (R5). -/
abbrev Word := BitVec 32

/-- A 64-bit quantity: a mask of contexts or views, eight payload bytes. -/
abbrev Wide := BitVec 64

/-- `bit n b` is `2 ^ n` when `b` holds, else 0. -/
def bit (n : Nat) (b : Bool) : Nat := if b then 2 ^ n else 0

/-- Bits `[hi:lo]` of a number. -/
def bitsOf (x hi lo : Nat) : Nat := x / 2 ^ lo % 2 ^ (hi + 1 - lo)

/-- Increment of a counter that saturates at `2 ^ w - 1`. -/
def satInc (w x : Nat) : Nat := if x + 1 < 2 ^ w then x + 1 else x

/-- Addition on a counter that saturates at `2 ^ w - 1`. -/
def satAdd (w x n : Nat) : Nat := min (x + n) (2 ^ w - 1)

/-- Ceiling of a quotient. -/
def ceilDiv (a b : Nat) : Nat := (a + b - 1) / b

/-- Round half up of an integer quotient (R32): an exact half goes toward plus infinity. -/
def roundDiv (a : Int) (b : Nat) : Int := (2 * a + b) / (2 * b : Nat)

/-- A signed value held in `w` bits of a number. -/
def signedOf (w x : Nat) : Int := if x % 2 ^ w < 2 ^ (w - 1) then (x % 2 ^ w : Nat) else (x % 2 ^ w : Nat) - (2 ^ w : Nat)

/-- The `w`-bit two's complement pattern of an integer. -/
def wrapOf (w : Nat) (x : Int) : Nat := (x % (2 ^ w : Nat)).toNat

end Sys2Proof
end

