-- ==== Sys2Proof/Syntax.lean ====
section
/-!
DEFINITION. The commands and events of the SA-7316: one constructor of `Instr` per row of spec/opcode_table.json.
The first operand `dt` of every constructor is the number of 400 MHz timebase ticks (R363) that have passed since the
command before it. The other operands are what arrives from outside with the command: packet fields, pin levels, bus
bytes, or the outcome of an analogue process that the spec bounds and does not fix.
-/
namespace Sys2Proof

/-- R36: the four Oante command ports. `lead k` is no port of the device: it is the executor, inside a shadow, of a
command of P2 that the lead decided and the shadow has accepted (R424). -/
inductive Port where
  | p0 | p1 | p2 | p3
  | lead (k : Fin 16)
deriving DecidableEq, Repr

/-- Number of a port. -/
def Port.toNat : Port → Nat
  | .p0 => 0 | .p1 => 1 | .p2 => 2 | .p3 => 3 | .lead _ => 2

/-- R424: a mirrored or forwarded command carries its port of origin, and what the unit that received it decided. -/
structure Mirror where
  origin : Port
  /-- The instant, row, boundary or window line the lead fixed for the command; none when a shadow forwards it. -/
  decided : Option Word
deriving DecidableEq, Repr

/-- R50: the header of a command packet as the device received it, with its CHECK (R52). -/
structure Hdr where
  port : Port
  seq : Word
  epochCheck : Bool
  active : Bool
  leaveWait : Half
  epoch : Half
  check : Word
  mirror : Option Mirror
deriving DecidableEq, Repr

/-- R236: one write of a SENS_SEQ: register, size and the four data bytes. -/
structure SeqWrite where
  reg : Half
  size : Byte
  data : Word
deriving DecidableEq, Repr

/-- R380: the payload of TRIG_SCHEDULE. -/
structure TrigReq where
  output : Half
  mode : Byte
  flags : Byte
  start : Word
  periodNs : Word
  periodFrac : Half
  context : Half
  width : Word
  count : Word
  source : Byte
  offset : Word
deriving DecidableEq, Repr

/-- R358: the payload of LINK_TEST. -/
structure TestReq where
  mode : Byte
  pattern : Byte
  inject : Byte
  burstLen : Byte
  lanes : Word
  duration : Word
  injectPeriod : Word
deriving DecidableEq, Repr

/-- R57: an Oante opcode with its payload fields. `unknown` is an opcode number no row of the table lists, and
`badLength` a known opcode whose payload length does not suit it (R580), each with the payload as received. -/
inductive Body where
  | sysInfo
  | sysReset (scope : Word)
  | regRead (offset count : Word)
  | regWrite (offset : Word) (words : List Word)
  | recWrite (recId inst : Half) (offset : Word) (first last : Bool) (data : List Byte)
  | recRead (recId inst : Half) (offset count : Word)
  | recApply (kind : Byte) (ctx : Half) (boundary : Word) (pairs : List (Half × Half))
  | streamStart (mask : Wide)
  | streamStop (mask : Wide)
  | streamStatus
  | expoSet (ctx : Half) (targetKind : Byte) (target exposureNs gain : Word)
  | statsRead (ctx : Half) (what : Byte) (serial offset count : Word)
  | sensWrite (sensor reg : Half) (data : List Byte)
  | sensRead (sensor reg : Half) (count : Byte)
  | sensSeq (sensor : Half) (sflags : Byte) (writes : List SeqWrite)
  | sensErrlog (start count : Word)
  | calRun (type target : Byte)
  | calCommit (flags : Word)
  | calExport (which : Byte) (offset count : Word)
  | calImport (flags : Byte) (offset : Word) (data : List Byte)
  | fwStage (target index flags : Byte) (offset : Word) (data : List Byte)
  | fwActivate (target index scope : Byte)
  | fwStatus
  | twinStatus
  | roleSwap (row : Word)
  | twinAdmit
  | timeSet (mode flags : Byte) (value at_ : Word)
  | timeIncr (incr flags : Word)
  | trigSchedule (req : TrigReq)
  | timeRead
  | evinRead (input : Byte) (start count : Word)
  | logRead (start count : Word)
  | logMark (mark : Wide)
  | logStatus
  | evtStatus (block : Byte)
  | evtClear (block : Byte) (mask : Word)
  | evtSeverity (block bit severity : Byte)
  | evtInject (block bit mode : Byte) (holdUs : Word)
  | pwrBudget (budget : Word)
  | pwrDomain (domain state : Byte)
  | pwrStatus
  | dmaStatus (first count : Byte)
  | dmaAbort (channel : Byte)
  | linkStatus
  | linkRetrain (flags : Word)
  | linkTest (req : TestReq)
  | testMode (mode : Byte)
  | testBist (targets : Word)
  | badLength (opcode : Half) (payload : List Byte)
  | unknown (opcode : Half) (payload : List Byte)
deriving DecidableEq, Repr

/-- R74: the inbound channels that firmware reads. -/
inductive InChan where
  | mb0 | mb2 | mb4 | mb7 | mb8
deriving DecidableEq, Repr

/-- R569, R573: what a boot run meets on its way. -/
structure BootRun where
  /-- The last step of R569 that ended; 9 when CMD_READY was reached. -/
  lastStep : Nat
  /-- Microseconds from the reference to CMD_READY (R577), or to the end of the last step. -/
  readyUs : Word
  /-- R507: the averages of T0, T1, ... and of the seven rails when the run ends. -/
  temps : List Int
  rails : List Int
  /-- R434: the capacity of a memory channel in MiB and its ranks, as read from the devices. -/
  capMib : Nat
  ranks : Nat
  /-- Memory channels that failed training twice (R436). -/
  trainFail : BitVec 6
  /-- Domains that missed their wake time (R497). -/
  wakeFail : List (Fin 22)
  /-- Queues the sweep put out of service (R140). -/
  queueOut : List (Fin 43)
deriving DecidableEq, Repr

/-- R97, R107: a long image packet as the inlet received it. -/
structure LinePacket where
  vc : Fin 32
  dataType : Fin 64
  wordCount : Nat
  /-- The payload, as sensor codes in line order (R99). -/
  codes : List Nat
  /-- R107: start of transmission was recognised on every lane. -/
  sotGood : Bool
  /-- R107: the header check: 0 clean, 1 corrected, 2 uncorrectable. -/
  header : Fin 3
  crcGood : Bool
  /-- Ticks from the packet header to the end of the footer (R29). -/
  footTicks : Nat
deriving DecidableEq, Repr

/-- R140: the outcome of a queue sweep. -/
inductive SweepResult where
  | clean (corrected : Nat) | repaired (rows corrected : Nat) | outOfService
deriving DecidableEq, Repr

/-- R330, R348, R350: a received Uahorn frame that is not accepted. -/
inductive BadFrame where
  | crc | badLength | malformedBlock | reservedType | gap | duplicate | beacon
deriving DecidableEq, Repr

/-- R338: the fields of a HELLO frame. -/
structure Hello where
  session : Half
  ident : Half
  epoch : Half
  version : Nat
  rate : Nat
  widthMax : Nat
  goodLanes : BitVec 18
  limits : List Word
  seen : Bool
  nextSeq : Half
deriving DecidableEq, Repr

/-- R335: what one lane reports at the end of a training stage. -/
structure LaneResult where
  lane : Nat
  locked : Bool
  eyeMui : Nat
  eyeMv : Nat
deriving DecidableEq, Repr

/-- R343: the end of a lane rotation. -/
inductive RotResult where
  | good (eyeMui eyeMv : Nat) | failed
deriving DecidableEq, Repr

/-- R232, R240: how a Sluice bus transaction ended. -/
inductive BusResult where
  | ack (data : List Byte)
  /-- NACK of the address, or of the data byte numbered. -/
  | addrNack | dataNack (index : Nat)
  | parity | arbitration | sdaLow
deriving DecidableEq, Repr

/-- R406, R347: the fields of a HEART frame and its frame header. -/
structure Heart where
  state : Nat
  holdover : Bool
  aloneCfg : Bool
  escalated : Bool
  hbAlive : Bool
  holdCause : Nat
  row : Word
  echoTx : Word
  echoRx : Word
  epoch : Half
  ident : Half
  txTime : Word
deriving DecidableEq, Repr

/-- R420: one digest of a DIGEST frame. -/
structure DigestEntry where
  row : Word
  near : Bool
  noStreams : Bool
  arrived : Wide
  digest : Wide
deriving DecidableEq, Repr

/-- R417: one tag of a TAG frame. -/
structure TagEntry where
  kind : Nat
  index : Nat
  num : Nat
  time : Word
  width : Word
deriving DecidableEq, Repr

/-- R11, R15: an accepted REC_APPLY whose boundary has not passed: a row K (KIND 1), or a frame or line of a context
(KIND 2). -/
structure Scheduled where
  kind : Nat
  ctx : Nat
  boundary : Int
  pairs : List (Nat × Nat)
  port : Port
  seq : Word
  originId : Half
  moved : Bool
deriving DecidableEq, Repr

/-- R381: a queued one-shot. -/
structure OneShot where
  start : Int
  width : Nat
  expo : Bool
  ctx : Nat
deriving DecidableEq, Repr

/-- R199 to R213: one exposure set of a context, from its EXPO_SET until it is in force. -/
structure ExpoSet where
  id : Half
  /-- Window line (frame or line), and the applied frame or line. -/
  window : Word := 0
  applied : Word := 0
  windowed : Bool := true
  requested : Nat := 0
  /-- R201: the quantised exposure time in ns, and the exposure count and gain code of the writes. -/
  e : Nat := 0
  count : Nat := 0
  gain : Nat := 0
  /-- 0 waits for its window, 1 its writes are issued, 2 waits for its pulse (R217). -/
  phase : Nat := 0
  moved : Bool := false
  port : Option Port := none
  /-- R217: for TRIG_MODE 2, the earliest edge time and the wanted line. -/
  edgeFrom : Int := 0
  target : Option Word := none
  /-- R216: the set whose pulse this one shares: context and ID. -/
  leader : Option (Nat × Half) := none
  /-- Writes acknowledged so far and whether the releasing write was issued. -/
  done : Nat := 0
  lateTie : Bool := false
deriving DecidableEq, Repr

/-- R216: a pulse record: edge time, driven width and the set ID of each context that takes its exposure from the
output. -/
structure PulseRec where
  edge : Int
  width : Nat
  ids : List (Nat × Half)
deriving DecidableEq, Repr

/-- R216: the pulse records of one TRIG output: the index of the first one held, and the records. -/
structure PulseQueue where
  base : Nat := 0
  recs : List PulseRec := []
deriving DecidableEq, Repr

/-- R380, R428: the schedule of an output, as it travels to the partner. -/
structure Schedule where
  mode : Nat
  start : Int
  periodNs : Nat
  periodFrac : Nat
  width : Nat
  expo : Bool
  ctx : Nat
  source : Nat
  offset : Int
  left : Option Nat
  nextK : Int
deriving DecidableEq, Repr

/-- R428: what a STATE chunk carries, for each item of the table. -/
inductive StateItem where
  /-- Cells of the active and the pending copies of the mirrored records, the accepted REC_APPLYs whose boundaries have not
  passed, and the contexts that stream at the lead (log entry 114). -/
  | records (active pending : List (Nat × Byte)) (locked : List Scheduled) (streaming : Wide)
  /-- Map data or a strip of temporal history, at its LPDDR6 address. -/
  | memory (addr : Nat) (bytes : List Byte)
  /-- The set-ID counter of a context, the ID and exposure time in force, the lead's time, and its queued sets. -/
  | exposure (ctx : Fin 64) (nextId inForce : Half) (e : Nat) (lead : Int) (sets : List ExpoSet)
  /-- The lead's time, the schedule of an output, its one-shot queue and, for a TRIG output, its pulse records. -/
  | trigger (out : Fin 48) (lead : Int) (schedule : Schedule) (oneShots : List OneShot) (pulses : PulseQueue)
  /-- The serial of the next capture of an input. -/
  | evin (input : Fin 8) (next : Word)
  /-- The lead's time. -/
  | time (value : Word)
  /-- The Weir state of R422: learning state and rows left, background and VALID per slot, hold, run and next SEQs. -/
  | weir (state left : Nat) (bg : List (List (Nat × Bool))) (hold run : List Nat) (seqs : List Word)
deriving DecidableEq, Repr

/-- R428: a STATE chunk: its item, whether its check is right, and whether it is the last. -/
structure StateChunk where
  item : StateItem
  good : Bool
  last : Bool
deriving DecidableEq, Repr

/-- R442: the outcome of one patrol scrub read. -/
inductive EccResult where
  | clean
  /-- With the number of the word within its 64-byte line. -/
  | corrected (word : Fin 8) | uncorrectable (word : Fin 8)
deriving DecidableEq, Repr

/-- R441: what a temperature report of MR4 means: its operating range, refresh to be raised, or beyond the range. -/
inductive Mr4 where
  | normal | raised | beyond
deriving DecidableEq, Repr

/-- R499: an operation that asks the power steward for leave. -/
inductive LeaveAsk where
  | domain (d : Fin 22) | training (mc : Fin 6) | lanes | context (c : Fin 64) | calibration | nvm | dma (ch : Fin 32)
  | stitch
deriving DecidableEq, Repr

/-- Where a check of held state found an error (R166, R190, R135 and the check sources of the other blocks); the check
sources that are no parity checks, MRAM reads and the twin's late start on a bus are reported in the same way (log
entry 112). -/
inductive ParityPlace where
  /-- A bank or context-store slot of a runnel, its resampler's coefficients and tap buffers. -/
  | bank (r : Fin 8) | resampler (r : Fin 8)
  /-- An entry of a runnel's line-scan cache or LUT: corrected, or restored from LPDDR6. -/
  | mapEntry (r : Fin 8) (corrected : Bool) | lutEntry (r : Fin 8) (corrected : Bool)
  /-- A single-bit error in a word that a queue's reader read. -/
  | queueWord (q : Fin 43)
  | routing | merge | weights | rowHeader | background | spans | format
  | descriptor (q : Fin 8) | link | twin | controller (m : Fin 6)
  | dmaSet | dmaCount | dmaBuffer (c : Fin 32) | events
  /-- The seal logic, the Basin's fence, the order of a launch queue, a launch before its time. -/
  | seal | basinFence | launchOrder (q : Fin 8) | earlyLaunch
  /-- DMA: a single-bit error in a buffer, two grants of one beat slot, RESIDUE against the addresses issued. -/
  | bufferWord | arbiter | residue
  /-- A bus error of firmware's own fabric request; an MRAM word at its window offset; the twin's start of a transaction
  on a bus more than 1 µs from the own one. -/
  | fabric | mramWord (offset : BitVec 23) (corrected : Bool) | joinLate (bus : Fin 32)
deriving DecidableEq, Repr

/-- One constructor per row of spec/opcode_table.json. -/
inductive Instr where
  /-- POWER_ON_RESET (R567): A rail falls below its reset threshold and later returns; on release of power-on reset the straps are sampled and the device boots. -/
  | powerOnReset (dt : Nat) (aoLost : Bool) (twinSel : Bool) (addrSel : Fin 8) (boot : BootRun)
  /-- RESET_N (R567): RESET_N held low for at least 1 µs resets everything except RWS fields, the kept list and MRAM, and the device boots. -/
  | resetN (dt : Nat) (boot : BootRun)
  /-- BOOT_WATCHDOG (R570): CMD_READY is not reached within 200 ms and the boot watchdog resets the device. -/
  | bootWatchdog (dt : Nat) (boot : BootRun)
  /-- MANAGEMENT_WATCHDOG (R567): The management watchdog resets the device as RESET_N does. -/
  | managementWatchdog (dt : Nat) (boot : BootRun)
  /-- LOCKSTEP (R491): The management cores disagree, LOCKSTEP is raised and the device resets. -/
  | lockstep (dt : Nat) (boot : BootRun)
  /-- FW_TRIAL_CONFIRM (R537): A trial slot has been command-ready for 10 s without a watchdog or lockstep reset and becomes ACTIVE. -/
  | fwTrialConfirm (dt : Nat)
  /-- SYS_INFO (R64): Returns the device identity. -/
  | sysInfo (dt : Nat) (h : Hdr)
  /-- SYS_RESET (R65): Replies OK and arranges a full reset or a management restart after the reply is taken. -/
  | sysReset (dt : Nat) (h : Hdr) (scope : Word)
  /-- SYS_RESET_BEGIN (R65): The reset of an accepted SYS_RESET begins once the reply is read, acknowledged on P3 or 10 ms have passed. -/
  | sysResetBegin (dt : Nat) (boot : BootRun)
  /-- MGMT_RESTART_DONE (R88): Firmware is ready again after a SCOPE 1 management restart and resumes commands and deferred audit entries. -/
  | mgmtRestartDone (dt : Nat)
  /-- REG_READ (R58): Reads 1 to 32 words of the block register space, with the side effects of the registers read. -/
  | regRead (dt : Nat) (h : Hdr) (offset count : Word)
  /-- REG_WRITE (R58): Writes 1 to 16 words of the block register space in ascending order. -/
  | regWrite (dt : Nat) (h : Hdr) (offset : Word) (words : List Word)
  /-- REGISTER_WRITE_PLAIN (R7): A write to a register field that has no behaviour of its own sets RW fields and is ignored for RO fields. -/
  | registerWritePlain (dt : Nat) (offset value : Word)
  /-- REC_WRITE (R10): Writes a piece of a record's pending copy after range checks. -/
  | recWrite (dt : Nat) (h : Hdr) (recId inst : Half) (offset : Word) (first last : Bool) (data : List Byte)
  /-- REC_READ (R64): Returns a piece of the pending or active copy of a record with its CRC. -/
  | recRead (dt : Nat) (h : Hdr) (recId inst : Half) (offset count : Word)
  /-- REC_APPLY (R11): Checks the named records for consistency, locks them and schedules them to become active together at a boundary. -/
  | recApply (dt : Nat) (h : Hdr) (kind : Byte) (ctx : Half) (boundary : Word) (pairs : List (Half × Half))
  /-- RECORD_OPEN_TIMEOUT (R63): An open record closes by itself 100 ms after its last REC_WRITE. -/
  | recordOpenTimeout (dt : Nat) (recId inst : Half)
  /-- GRID_ROW_ADVANCE (R252): Device time reaches the reference time of the next grid row and the current row advances. -/
  | gridRowAdvance (dt : Nat)
  /-- STREAM_START (R574): Requests leave for the named contexts and starts them streaming in one tick. -/
  | streamStart (dt : Nat) (h : Hdr) (mask : Wide)
  /-- STREAM_START_TICK (R574): All granted contexts begin streaming with LINE and FRAME at 0 in the chosen tick. -/
  | streamStartTick (dt : Nat)
  /-- STREAM_STOP (R575): Stops the named contexts after the current line or frame and replies when their views have emitted their last rows. -/
  | streamStop (dt : Nat) (h : Hdr) (mask : Wide)
  /-- STREAM_STATUS (R576): Returns the streaming contexts and per-stream row and sequence counters. -/
  | streamStatus (dt : Nat) (h : Hdr)
  /-- EXPO_SET (R209): Creates an exposure set, places its sequence in a safe window and replies when the releasing write is acknowledged. -/
  | expoSet (dt : Nat) (h : Hdr) (ctx : Half) (targetKind : Byte) (target exposureNs gain : Word)
  /-- STATS_READ (R223): Returns a piece of a statistics record or of the non-image buffer. -/
  | statsRead (dt : Nat) (h : Hdr) (ctx : Half) (what : Byte) (serial offset count : Word)
  /-- SENS_WRITE (R232): Writes sensor registers, non-posted or posted under SA-4108 compatibility. -/
  | sensWrite (dt : Nat) (h : Hdr) (sensor reg : Half) (data : List Byte)
  /-- SENS_READ (R233): Starts a fetch and answers RETRY, or answers with the fetched data or failure on a matching retry. -/
  | sensRead (dt : Nat) (h : Hdr) (sensor reg : Half) (count : Byte)
  /-- SENS_SEQ (R236): Writes up to 16 registers of one sensor as a grouped sequence. -/
  | sensSeq (dt : Nat) (h : Hdr) (sensor : Half) (sflags : Byte) (writes : List SeqWrite)
  /-- SENS_ERRLOG (R244): Returns entries of the posted-write error log. -/
  | sensErrlog (dt : Nat) (h : Hdr) (start count : Word)
  /-- SL_PLOG_ACK (R245): A write of a serial removes every posted-write log entry up to that serial. -/
  | slPlogAck (dt : Nat) (serial : Half)
  /-- FETCH_HOLD_EXPIRY (R234): A completed or failed fetch held for 10 ms is discarded. -/
  | fetchHoldExpiry (dt : Nat) (port : Port)
  /-- CAL_RUN (R524): Runs a calibration of one type or a drift round and replies with quality figures when it ends. -/
  | calRun (dt : Nat) (h : Hdr) (type target : Byte)
  /-- CAL_COMMIT (R525): Writes the working calibration copy as the new stored set. -/
  | calCommit (dt : Nat) (h : Hdr) (flags : Word)
  /-- CAL_EXPORT (R526): Returns a piece of the stored or working calibration set. -/
  | calExport (dt : Nat) (h : Hdr) (which : Byte) (offset count : Word)
  /-- CAL_IMPORT (R527): Writes a piece of an imported calibration set and checks and commits it at the last piece. -/
  | calImport (dt : Nat) (h : Hdr) (flags : Byte) (offset : Word) (data : List Byte)
  /-- IMPORT_IDLE_TIMEOUT (R527): An open import or stage with no piece for 100 ms is closed without a commit. -/
  | importIdleTimeout (dt : Nat)
  /-- FW_STAGE (R534): Writes a piece of a firmware, configuration or profile image and checks it at the last piece. -/
  | fwStage (dt : Nat) (h : Hdr) (target index flags : Byte) (offset : Word) (data : List Byte)
  /-- FW_ACTIVATE (R536): Commits a staged image and, for firmware, sets the trial slot and resets as SCOPE requests. -/
  | fwActivate (dt : Nat) (h : Hdr) (target index scope : Byte)
  /-- FW_STATUS (R539): Returns firmware slot and image states. -/
  | fwStatus (dt : Nat) (h : Hdr)
  /-- TWIN_STATUS (R431): Returns role, epoch, link and heartbeat state. -/
  | twinStatus (dt : Nat) (h : Hdr)
  /-- ROLE_SWAP (R426): Arranges the lead and shadow to exchange roles at a swap row. -/
  | roleSwap (dt : Nat) (h : Hdr) (row : Word)
  /-- TWIN_ADMIT (R428): Starts admission of a quarantined partner and replies with the admission row. -/
  | twinAdmit (dt : Nat) (h : Hdr)
  /-- TIME_SET (R372): Steps device time at once or at AT_TIME, optionally ending holdover. -/
  | timeSet (dt : Nat) (h : Hdr) (mode flags : Byte) (value at_ : Word)
  /-- TIME_STEP_AT (R373): The scheduled step of a TIME_SET with AT takes effect and every pending device time moves by the step. -/
  | timeStepAt (dt : Nat)
  /-- TIME_INCR (R371): Sets the timebase increment from the next tick. -/
  | timeIncr (dt : Nat) (h : Hdr) (incr flags : Word)
  /-- TRIG_SCHEDULE (R380): Sets the stop, one-shot, periodic or follow schedule of one output. -/
  | trigSchedule (dt : Nat) (h : Hdr) (req : TrigReq)
  /-- TIME_READ (R367): Returns time, fraction, increment, state and last step. -/
  | timeRead (dt : Nat) (h : Hdr)
  /-- EVIN_READ (R388): Returns captured EVIN time stamps. -/
  | evinRead (dt : Nat) (h : Hdr) (input : Byte) (start count : Word)
  /-- LOG_READ (R73): Returns up to 7 audit entries from a serial. -/
  | logRead (dt : Nat) (h : Hdr) (start count : Word)
  /-- LOG_MARK (R578): Writes a host mark audit entry and returns its serial. -/
  | logMark (dt : Nat) (h : Hdr) (mark : Wide)
  /-- LOG_STATUS (R578): Returns oldest and newest audit serial, staged and overflow counts. -/
  | logStatus (dt : Nat) (h : Hdr)
  /-- EVT_STATUS (R487): Returns the event summaries or one block's event registers. -/
  | evtStatus (dt : Nat) (h : Hdr) (block : Byte)
  /-- EVT_CLEAR (R478): Clears event bits whose cause is gone and reports those that stay set. -/
  | evtClear (dt : Nat) (h : Hdr) (block : Byte) (mask : Word)
  /-- EVT_SEVERITY (R483): Sets one source's severity in the pending and active copy. -/
  | evtSeverity (dt : Nat) (h : Hdr) (block bit severity : Byte)
  /-- EVT_INJECT (R490): Makes a source's setting condition occur for the event logic alone, as a pulse or a hold. -/
  | evtInject (dt : Nat) (h : Hdr) (block bit mode : Byte) (holdUs : Word)
  /-- INJECT_HOLD_END (R490): The HOLD_US of an injection hold ends and the injected cause is gone. -/
  | injectHoldEnd (dt : Nat) (block : Fin 53) (bit : Fin 32)
  /-- PWR_BUDGET (R505): Sets the power budget in the pending and active copy. -/
  | pwrBudget (dt : Nat) (h : Hdr) (budget : Word)
  /-- PWR_DOMAIN (R497): Switches a domain on, to RETAIN or off, or puts the device into standby. -/
  | pwrDomain (dt : Nat) (h : Hdr) (domain state : Byte)
  /-- PWR_STATUS (R505): Returns budget, grants, queue head and domain states. -/
  | pwrStatus (dt : Nat) (h : Hdr)
  /-- DMA_STATUS (R467): Returns status entries of DMA channels. -/
  | dmaStatus (dt : Nat) (h : Hdr) (first count : Byte)
  /-- DMA_ABORT (R464): Aborts a DMA channel and replies with its status when the abort has taken effect. -/
  | dmaAbort (dt : Nat) (h : Hdr) (channel : Byte)
  /-- LINK_STATUS (R359): Returns the Uahorn lane map, width and quality figures. -/
  | linkStatus (dt : Nat) (h : Hdr)
  /-- LINK_RETRAIN (R359): Starts a training attempt, optionally clearing lane marks or from POWER_UP, and replies when it ends. -/
  | linkRetrain (dt : Nat) (h : Hdr) (flags : Word)
  /-- LINK_TEST (R358): Enters or ends a PRBS or loopback test on selected lanes. -/
  | linkTest (dt : Nat) (h : Hdr) (req : TestReq)
  /-- LINK_TEST_END (R358): A LINK_TEST with a non-zero DURATION reaches its end and replies with error counts. -/
  | linkTestEnd (dt : Nat)
  /-- LINK_TEST_INJECT (R358): The injection period elapses and a bit or burst error is injected. -/
  | linkTestInject (dt : Nat)
  /-- TEST_MODE (R488): Enters or leaves factory test mode. -/
  | testMode (dt : Nat) (h : Hdr) (mode : Byte)
  /-- TEST_BIST (R489): Runs sweeps and memory tests on the selected targets and replies with results. -/
  | testBist (dt : Nat) (h : Hdr) (targets : Word)
  /-- I3C_PRIVATE_WRITE (R42): A private write sets the window offset and writes bytes upward, taking register writes effect at byte 3. -/
  | i3cPrivateWrite (dt : Nat) (bytes : List Byte)
  /-- I3C_PRIVATE_READ (R43): A private read returns bytes from the read pointer, snapshotting registers read from byte 0. -/
  | i3cPrivateRead (dt : Nat) (count : Nat)
  /-- LEGACY_I2C_TRANSFER (R41): A legacy I2C transfer at the static address accesses the window before a dynamic address is assigned. -/
  | legacyI2cTransfer (dt : Nat) (write : List Byte) (readCount : Nat)
  /-- HDR_DDR_WRITE (R44): An HDR-DDR command 0x20 writes window data from an offset. -/
  | hdrDdrWrite (dt : Nat) (code : Byte) (bytes : List Byte)
  /-- HDR_DDR_READ (R44): An HDR-DDR command 0xA0 reads from the read pointer. -/
  | hdrDdrRead (dt : Nat) (code : Byte) (count : Nat)
  /-- ENEC (R45): Enables target interrupts. -/
  | enec (dt : Nat) (events : Byte)
  /-- DISEC (R45): Disables target interrupts. -/
  | disec (dt : Nat) (events : Byte)
  /-- RSTDAA (R45): Clears the dynamic address. -/
  | rstdaa (dt : Nat)
  /-- ENTDAA (R40): Assigns a dynamic address by arbitration. -/
  | entdaa (dt : Nat) (addr : BitVec 7)
  /-- SETDASA (R40): Assigns a dynamic address through the static address. -/
  | setdasa (dt : Nat) (static addr : BitVec 7)
  /-- SETNEWDA (R45): Changes the dynamic address. -/
  | setnewda (dt : Nat) (addr : BitVec 7)
  /-- SETMWL (R579): Sets the maximum write length, or flags a protocol error when out of range. -/
  | setmwl (dt : Nat) (value : Half)
  /-- GETMWL (R45): Returns the maximum write length. -/
  | getmwl (dt : Nat)
  /-- SETMRL (R579): Sets the maximum read length, or flags a protocol error when out of range. -/
  | setmrl (dt : Nat) (value : Half)
  /-- GETMRL (R45): Returns the maximum read length. -/
  | getmrl (dt : Nat)
  /-- GETPID (R45): Returns the provisioned ID. -/
  | getpid (dt : Nat)
  /-- GETBCR (R45): Returns the bus characteristics register. -/
  | getbcr (dt : Nat)
  /-- GETDCR (R45): Returns the device characteristics register. -/
  | getdcr (dt : Nat)
  /-- GETSTATUS (R579): Returns target status and clears the protocol error bit. -/
  | getstatus (dt : Nat)
  /-- GETMXDS (R45): Returns maximum data speed. -/
  | getmxds (dt : Nat)
  /-- GETCAPS (R45): Returns HDR capabilities. -/
  | getcaps (dt : Nat)
  /-- ENTHDR0 (R45): Enters HDR-DDR mode. -/
  | enthdr0 (dt : Nat)
  /-- RSTACT (R579): With defining byte 0x01 resets the I3C target bus-protocol state, keeping address and window state. -/
  | rstact (dt : Nat) (defining : Byte)
  /-- IBI_DELIVERY (R46): An in-band interrupt carrying WIN_IBI_CAUSE is delivered and clears the delivered cause bits. -/
  | ibiDelivery (dt : Nat)
  /-- WIN_DOORBELL_RING (R49): Writing RING submits the packet in WIN_TX to MB0, or the window hardware writes a DOMAIN_OFF or NOT_READY reply. -/
  | winDoorbellRing (dt : Nat)
  /-- HW_REPLY_DEFERRED (R49): A ring held because WIN_RX was full gets its hardware reply once RX_FULL clears. -/
  | hwReplyDeferred (dt : Nat)
  /-- OANTE_INSTRUCTION (R66): The TAP instruction 0x2C selects the 36-bit command data register. -/
  | oanteInstruction (dt : Nat) (code : Byte)
  /-- JTAG_STATUS (R67): A scan with OP 0 captures the STATUS word or a reply word and performs no action. -/
  | jtagStatus (dt : Nat)
  /-- JTAG_WRITE (R67): A scan with OP 1 writes a word into MB8 and advances the write pointer. -/
  | jtagWrite (dt : Nat) (data : Word)
  /-- JTAG_READ (R67): A scan with OP 2 advances the MB9 read pointer and clears the slot after the last byte. -/
  | jtagRead (dt : Nat)
  /-- JTAG_RING (R67): CONTROL with RING rings the MB8 doorbell and resets the write pointer. -/
  | jtagRing (dt : Nat) (ack rewind : Bool)
  /-- JTAG_ACK (R67): CONTROL with ACK clears the MB9 slot and resets the read pointer. -/
  | jtagAck (dt : Nat) (rewind : Bool)
  /-- JTAG_REWIND (R67): CONTROL with REWIND resets both pointers. -/
  | jtagRewind (dt : Nat)
  /-- INBOUND_SLOT_READ (R78): Firmware reads a full inbound mailbox slot into the port's intake, clearing the slot. -/
  | inboundSlotRead (dt : Nat) (chan : InChan)
  /-- COMMAND_INTAKE_ACCEPT (R37): Once a port's reply is written, the waiting command in its intake is accepted and checked. -/
  | commandIntakeAccept (dt : Nat)
  /-- MAILBOX_TIMEOUT (R81): An outbound slot stays full longer than MB_TIMEOUT.LIMIT and TIMED_OUT and MB_SERVICE are raised. -/
  | mailboxTimeout (dt : Nat) (chan : Fin 10) (slot : Fin 2)
  /-- SEM_ACQUIRE (R92): A read of SEMn acquires the semaphore when free or returns its owner. -/
  | semAcquire (dt : Nat) (owner : Byte) (sem : Fin 64)
  /-- SEM_RELEASE (R94): The owner writes an index to SEM_RELEASE and the semaphore is freed, or NOT_OWNER is set. -/
  | semRelease (dt : Nat) (owner : Byte) (index : Fin 64)
  /-- SEM_FORCE (R94): Firmware releases a semaphore by writing SEM_FORCE. -/
  | semForce (dt : Nat) (index : Fin 64)
  /-- FRAME_START (R110): A frame start short packet opens a frame and advances FRAME. -/
  | frameStart (dt : Nat) (port : Fin 32) (vc : Fin 32) (fn : Half)
  /-- FRAME_END (R111): A frame end closes the open frame, inserting GAP records for a short frame, or is discarded with FRAME_SYNC. -/
  | frameEnd (dt : Nat) (port : Fin 32) (vc : Fin 32) (fn : Half)
  /-- LINE_START_PACKET (R115): A line start packet's line number is checked and GAP records are inserted for a jump of 1 to 256 lines. -/
  | lineStartPacket (dt : Nat) (port : Fin 32) (vc : Fin 32) (ln : Half)
  /-- LINE_PACKET (R107): A long image packet is checked, tagged and committed as a line to the inlet queue, or dropped whole. -/
  | linePacket (dt : Nat) (port : Fin 32) (pkt : LinePacket)
  /-- PENDING_GAP_WRITE (R157): Space frees in the GAP reserve and deferred GAP records are written in order. -/
  | pendingGapWrite (dt : Nat) (port : Fin 32)
  /-- NONIMAGE_PACKET (R120): An embedded-data or generic long packet is kept in the context's non-image buffer or discarded. -/
  | nonimagePacket (dt : Nat) (port : Fin 32) (vc : Fin 32) (dataType : Fin 64) (bytes : List Byte) (good : Bool)
  /-- GENERIC_SHORT_PACKET (R99): A generic short packet is counted in CP_VC_SEEN and ignored. -/
  | genericShortPacket (dt : Nat) (port : Fin 32) (vc : Fin 32) (dataType : Fin 64) (value : Half)
  /-- SKEW_SEQUENCE (R102): A sensor skew-calibration sequence arrives and the port sweeps its lanes' delay lines. -/
  | skewSequence (dt : Nat) (port : Fin 32) (initial : Bool)
  /-- DESKEW_SWEEP_END (R105): A deskew sweep ends, accepting or rejecting new taps. -/
  | deskewSweepEnd (dt : Nat) (port : Fin 32) (taps : List Nat) (eyes : List Nat)
  /-- DESKEW_REQ (R103): Writing CP_CTRL.DESKEW_REQ asks the sensor for a periodic skew sequence through the Sluice. -/
  | deskewReq (dt : Nat) (port : Fin 32)
  /-- CNT_CLEAR (R125): Writing CP_CTRL.CNT_CLEAR zeroes every counter of the camera port block. -/
  | cntClear (dt : Nat) (port : Fin 32)
  /-- LOCK_LOST (R126): An active lane or trio loses HS synchronisation during a packet. -/
  | lockLost (dt : Nat) (port : Fin 32) (lanes : BitVec 4)
  /-- ULPS_ENTRY (R126): The sensor puts the lanes into ULPS. -/
  | ulpsEntry (dt : Nat) (port : Fin 32)
  /-- ULPS_EXIT (R98): The sensor brings the lanes out of ULPS. -/
  | ulpsExit (dt : Nat) (port : Fin 32)
  /-- PHY_FAULT (R126): The PHY's supply or termination monitor trips. -/
  | phyFault (dt : Nat) (port : Fin 32) (tripped : Bool)
  /-- NO_DATA (R126): STALL_TIMEOUT elapses without a line for a streaming context. -/
  | noData (dt : Nat) (ctx : Fin 64)
  /-- POINTER_CROSSING (R132): A committed or release pointer completes its crossing to the other clock domain. -/
  | pointerCrossing (dt : Nat) (queue : Fin 43) (toReader : Bool)
  /-- QUEUE_CHECK_FAIL (R136): A queue's pointer or code check fails, the reader aborts and the queue refuses reservations and enters recovery. -/
  | queueCheckFail (dt : Nat) (queue : Fin 43)
  /-- QUEUE_FLUSH (R137): A requested flush takes effect at the packet boundary of both sides and discards unread packets. -/
  | queueFlush (dt : Nat) (queue : Fin 43)
  /-- Q_FLUSH (R141): Writing Q_FLUSH requests a flush of one queue. -/
  | qFlush (dt : Nat) (index : Nat)
  /-- QUEUE_SWEEP_END (R140): A queue sweep ends clean and the queue returns to service, restarts after a repair, or goes out of service. -/
  | queueSweepEnd (dt : Nat) (queue : Fin 43) (result : SweepResult)
  /-- RUNNEL_DECISION (R153): The running item has 64 input cycles left, or the runnel is idle, and the earliest-deadline eligible item is chosen. -/
  | runnelDecision (dt : Nat) (runnel : Fin 8)
  /-- ITEM_START (R151): The banks swap and the chosen item's first input cycle begins after any switch bubble. -/
  | itemStart (dt : Nat) (runnel : Fin 8)
  /-- ITEM_END (R149): The last input cycle of an item passes, with the line corrected, resampled and its statistics tapped. -/
  | itemEnd (dt : Nat) (runnel : Fin 8)
  /-- RUNNEL_WATCHDOG (R166): One item holds the runnel for more than 10 ms. -/
  | runnelWatchdog (dt : Nat) (runnel : Fin 8)
  /-- STRIP_LINE_ARRIVAL (R149): The next line of a started strip is committed and the stalled runnel continues. -/
  | stripLineArrival (dt : Nat) (runnel : Fin 8)
  /-- MAP_BLOCK_COMPLETE (R161): A strip's map block has fully arrived and the stalled strip proceeds. -/
  | mapBlockComplete (dt : Nat) (runnel : Fin 8)
  /-- MAP_TIMEOUT (R161): A due strip's map block does not arrive within MAP_TIMEOUT and the strip is replaced by 32 GAP lines. -/
  | mapTimeout (dt : Nat) (runnel : Fin 8)
  /-- CONTEXT_MOVE (R146): A streaming context starts on a new runnel with an empty carry store once its leave is granted. -/
  | contextMove (dt : Nat) (ctx : Fin 64)
  /-- STATS_PUBLISH (R221): A closed statistics record finishes publishing into the context's store. -/
  | statsPublish (dt : Nat) (runnel : Fin 8)
  /-- RS_CHECK (R273): A parity error in resampler coefficients or tap buffers ends the row in progress as ALL_GAP. -/
  | rsCheck (dt : Nat) (view : Fin 64)
  /-- VIEW_ROW_ARRIVAL (R289): A view row arrives at Confluence and is checked, staged into the Basin or discarded. -/
  | viewRowArrival (dt : Nat) (runnel : Fin 8)
  /-- ROW_DEADLINE_SEAL (R285): The row deadline D(n) is reached and the row is sealed with missing channels flagged. -/
  | rowDeadlineSeal (dt : Nat)
  /-- ROW_RELEASE (R287): A sealed row is read back from the Basin, merged and released to the Weir after its predecessor. -/
  | rowRelease (dt : Nat) (ecc : List (Nat × Nat)) (corrected : Nat)
  /-- STALL_OUT (R296): A released row waits more than 25 µs for the Weir. -/
  | stallOut (dt : Nat)
  /-- VIEW_SILENT (R300): An expected view delivers no view row for 1,024 rows. -/
  | viewSilent (dt : Nat) (view : Fin 64)
  /-- BASIN_STAGING_DRAIN (R293): The Basin staging buffer drains staged blocks into LPDDR6 as the controllers serve it. -/
  | basinStagingDrain (dt : Nat) (rows : Nat)
  /-- WEIR_ROW (R320): A released row arrives at the Weir, which forms spans, updates the background and formats pieces. -/
  | weirRow (dt : Nat)
  /-- PIECE_RESERVE (R320): A piece is reserved and written into its launch queue once a descriptor and storage are free. -/
  | pieceReserve (dt : Nat) (stream : Fin 8)
  /-- WEIR_STALL (R320): The Weir is held at a refused piece for more than 25 µs. -/
  | weirStall (dt : Nat)
  /-- LEARN_END (R310): LEARN_ROWS rows of learning have passed and the Weir begins gating. -/
  | learnEnd (dt : Nat)
  /-- RELEARN (R310): Writing WR_CTRL.RELEARN starts learning at the next row with VALID bits kept. -/
  | relearn (dt : Nat)
  /-- FRAMER_SEND (R355): The Uahorn framer can begin a frame and takes the first ready frame with credit in priority order. -/
  | framerSend (dt : Nat)
  /-- LAUNCH_TIME_REACHED (R391): TIME reaches a timed head piece's LAUNCH_TIME and the piece becomes ready. -/
  | launchTimeReached (dt : Nat) (queue : Fin 8)
  /-- DRAIN_LIMIT (R356): A launch queue holds an eligible piece unlaunched for DRAIN_LIMIT and becomes blocked. -/
  | drainLimit (dt : Nat) (queue : Fin 8)
  /-- STATUS_PERIOD (R351): STATUS_PERIOD elapses and a STATUS frame falls due, or is skipped for want of credit. -/
  | statusPeriod (dt : Nat)
  /-- UAHORN_ACK (R353): An ACK block releases acknowledged frames from the replay buffer. -/
  | uahornAck (dt : Nat) (lseq : Nat)
  /-- UAHORN_NAK (R353): A NAK block releases frames up to its LSEQ and starts a replay. -/
  | uahornNak (dt : Nat) (lseq : Nat)
  /-- REPLAY_TIMEOUT (R353): The oldest unacknowledged frame waits REPLAY_TIMEOUT and a replay starts. -/
  | replayTimeout (dt : Nat)
  /-- UAHORN_CREDIT (R351): A CREDIT block raises a class's cumulative credit limit. -/
  | uahornCredit (dt : Nat) (cls : Fin 9) (limit : Word)
  /-- UAHORN_CMD (R357): A CMD frame delivers a command packet into the named MB2 slot. -/
  | uahornCmd (dt : Nat) (lseq : Nat) (slot : Fin 2) (packet : List Byte)
  /-- UAHORN_MBOX_ACK (R357): An MBOX_ACK frame from the receiver clears the named MB3 slot. -/
  | uahornMboxAck (dt : Nat) (lseq : Nat) (channel : Nat) (slot : Fin 2)
  /-- UAHORN_BEACON (R369): A good BEACON is captured, stored, echoed and evaluated for holdover. -/
  | uahornBeacon (dt : Nat) (masterTime : Wide) (seq : Half)
  /-- UAHORN_BAD_FRAME (R350): A received frame is bad, is discarded and may lead to a NAK. -/
  | uahornBadFrame (dt : Nat) (kind : BadFrame)
  /-- UAHORN_HELLO (R338): A HELLO frame is received in HANDSHAKE and the handshake completes when both sides have seen each other. -/
  | uahornHello (dt : Nat) (hello : Hello)
  /-- ALIGN_MARKER (R331): An ALIGN marker is received and its BIP-8 is checked. -/
  | alignMarker (dt : Nat) (lane : Fin 18) (mismatch : Bool)
  /-- EIDLE_BLOCK (R329): An EIDLE block is received and the partner's transmitter enters electrical idle. -/
  | eidleBlock (dt : Nat)
  /-- TRAINING_ATTEMPT (R334): A training attempt begins and asks for leave for lane bring-up. -/
  | trainingAttempt (dt : Nat)
  /-- LINK_LEAVE_GRANT (R334): Leave for lane bring-up is granted and POWER_UP begins. -/
  | linkLeaveGrant (dt : Nat)
  /-- TRAINING_STAGE_END (R335): A training stage's ending condition is met and the attempt moves to the next stage. -/
  | trainingStageEnd (dt : Nat) (gelain : Bool) (lanes : List LaneResult) (hello : Option Hello)
  /-- TRAINING_STAGE_TIMEOUT (R335): A training stage times out, marking lanes bad or failing the attempt. -/
  | trainingStageTimeout (dt : Nat) (gelain : Bool) (lanes : List LaneResult)
  /-- PARTNER_ABSENT (R335): Every lane shows LOS for 500 µs in BIT_LOCK and the attempt fails as partner absent. -/
  | partnerAbsent (dt : Nat) (gelain : Bool)
  /-- RETRY_INTERVAL (R340): RETRY_MS elapses in IDLE_WAIT and a new attempt starts. -/
  | retryInterval (dt : Nat) (gelain : Bool)
  /-- SIGNAL_SEEN (R340): A lane shows signal for 10 µs in IDLE_WAIT and a new attempt starts. -/
  | signalSeen (dt : Nat) (gelain : Bool)
  /-- LOS (R333): Loss of signal is asserted on an active lane and the link retrains. -/
  | los (dt : Nat) (lane : Fin 18) (allLanes : Bool)
  /-- LOL (R333): Loss of lock is asserted on an active lane and the link retrains. -/
  | lol (dt : Nat) (lane : Fin 18)
  /-- ROTATION_ROUND (R344): RECAL_PERIOD elapses or the scheduler calls, and logical lanes are recalibrated in turn. -/
  | rotationRound (dt : Nat)
  /-- ROTATE_READY (R343): The partner's READY arrives and, with both ready, the device sends SWITCH. -/
  | rotateReady (dt : Nat)
  /-- ROTATE_SWITCH (R343): The SWITCH marker serial is reached and both sides read the logical lane from the new physical lane. -/
  | rotateSwitch (dt : Nat)
  /-- ROTATE_DONE (R343): The partner's DONE result arrives and the lane returns, or is marked bad. -/
  | rotateDone (dt : Nat) (result : RotResult)
  /-- ROTATE_STEP_TIMEOUT (R343): A rotation step times out and the device sends CANCEL. -/
  | rotateStepTimeout (dt : Nat)
  /-- EIDLE_ENTRY (R346): IDLE_AFTER elapses without traffic and the transmitter enters electrical idle. -/
  | eidleEntry (dt : Nat)
  /-- FAST_EXIT (R346): A frame is due, or a timed launch is 3 µs away, and the transmitter leaves electrical idle. -/
  | fastExit (dt : Nat)
  /-- FAST_EXIT_FAIL (R346): The receiver has not regained alignment within 4 µs of a fast exit and the link retrains. -/
  | fastExitFail (dt : Nat)
  /-- TRIG_EDGE (R382): A scheduled leading edge falls due and the output drives a pulse, writing a pulse record. -/
  | trigEdge (dt : Nat) (out : Fin 48)
  /-- TRIG_PULSE_END (R382): A pulse reaches its width and the output returns to inactive. -/
  | trigPulseEnd (dt : Nat) (out : Fin 48)
  /-- EVIN_EDGE (R387): An EVIN level holds for FILTER ticks and the edge is captured. -/
  | evinEdge (dt : Nat) (input : Fin 8) (rising : Bool)
  /-- TIME_WRAP (R366): TIME passes from 0xFFFF_FFFF to 0 and WRAP increments. -/
  | timeWrap (dt : Nat)
  /-- BEACON_TIMEOUT (R376): No good beacon arrives for BEACON_TIMEOUT and the device enters holdover. -/
  | beaconTimeout (dt : Nat)
  /-- SLUICE_BOOKING_DUE (R231): A booked exposure sequence or deskew write falls due and the Sluice starts it on the bus. -/
  | sluiceBookingDue (dt : Nat) (bus : Fin 32)
  /-- SLUICE_TRANSACTION_START (R231): The bus is idle and the next queued transaction in acceptance order starts. -/
  | sluiceTransactionStart (dt : Nat) (bus : Fin 32)
  /-- SLUICE_TRANSACTION_END (R232): A bus transaction completes with acknowledgement or failure and the next work proceeds. -/
  | sluiceTransactionEnd (dt : Nat) (bus : Fin 32) (result : BusResult)
  /-- NACK_GAP_REPEAT (R241): NACK_GAP after an address NACK elapses and the transaction is repeated. -/
  | nackGapRepeat (dt : Nat) (bus : Fin 32)
  /-- STRETCH_TIMEOUT (R241): SCL is held low beyond STRETCH_LIMIT and the transaction fails. -/
  | stretchTimeout (dt : Nat) (bus : Fin 32)
  /-- BUS_STUCK (R241): A line stays low for STUCK_LIMIT and the bus is suspended. -/
  | busStuck (dt : Nat) (bus : Fin 32)
  /-- BUS_RESUME (R241): Both lines have been high for 100 µs and a suspended bus resumes. -/
  | busResume (dt : Nat) (bus : Fin 32)
  /-- SDA_RECOVERY (R241): SDA is held low while SCL is free and the Sluice clocks SCL up to 9 times and sends STOP. -/
  | sdaRecovery (dt : Nat) (bus : Fin 32) (released : Bool)
  /-- SLUICE_SEM_GRANT (R237): The Sluice acquires a bus pair's semaphore after waiting and starts its grouped work. -/
  | sluiceSemGrant (dt : Nat) (bus : Fin 32)
  /-- SEM_WAIT_LONG (R237): The Sluice's wait for a semaphore exceeds 100 µs. -/
  | semWaitLong (dt : Nat) (bus : Fin 32)
  /-- DAA_PROCEDURE (R230): An I3C bus is enabled or its routing changes and the Sluice assigns dynamic addresses. -/
  | daaProcedure (dt : Nat) (bus : Fin 32) (found : List (BitVec 48))
  /-- GELAIN_HEART (R406): A HEART frame carries the partner's state and time echoes for offset measurement. -/
  | gelainHeart (dt : Nat) (heart : Heart)
  /-- GELAIN_DIGEST (R421): A DIGEST frame arrives and each row with both entries is compared. -/
  | gelainDigest (dt : Nat) (entries : List DigestEntry)
  /-- GELAIN_TAG (R417): A TAG frame supplies the lead's capture values to the shadow. -/
  | gelainTag (dt : Nat) (entries : List TagEntry)
  /-- TAG_WAIT_EXPIRY (R417): The shadow's wait for a lead tag exceeds TAG_WAIT_NS and it keeps its own values. -/
  | tagWaitExpiry (dt : Nat) (ctx : Fin 64)
  /-- GELAIN_CMD (R424): A CMD frame delivers a mirrored or forwarded command into MB4. -/
  | gelainCmd (dt : Nat) (mirror decided : Word) (slot : Fin 2) (packet : List Byte)
  /-- GELAIN_REPLY (R406): A REPLY frame delivers a reply into MB7. -/
  | gelainReply (dt : Nat) (slot : Fin 2) (packet : List Byte)
  /-- GELAIN_MBOX_ACK (R406): An MBOX_ACK frame clears the named MB5 or MB6 slot. -/
  | gelainMboxAck (dt : Nat) (channel : Fin 10) (slot : Fin 2)
  /-- SWAP_AT (R426): CONTROL SWAP_AT names the swap row and the shadow answers CONFIRM. -/
  | swapAt (dt : Nat) (row : Word) (epoch : Half)
  /-- CONFIRM (R426): CONTROL CONFIRM commits the swap. -/
  | confirm (dt : Nat) (row : Word) (epoch : Half)
  /-- QUARANTINE_YOU (R423): CONTROL QUARANTINE_YOU sends the shadow into QUARANTINE. -/
  | quarantineYou (dt : Nat) (epoch : Half)
  /-- ADMIT_BEGIN (R428): CONTROL ADMIT_BEGIN takes the partner into ADMITTING. -/
  | admitBegin (dt : Nat) (epoch : Half) (arg : Word)
  /-- ADMIT_ROW (R429): CONTROL ADMIT_ROW fixes the admission row and the TNR frames. -/
  | admitRow (dt : Nat) (row : Word) (epoch : Half) (frames : List (Fin 64 × Word))
  /-- REALIGN (R422): CONTROL REALIGN names the row after which the lead's Weir state is installed on the shadow. -/
  | realign (dt : Nat) (row : Word) (epoch : Half)
  /-- ABORT (R406): CONTROL ABORT ends a twin procedure in progress. -/
  | abort (dt : Nat) (epoch : Half) (arg : Word)
  /-- GELAIN_STATE (R428): A STATE chunk is received, checked by CRC and installed, or requested again. -/
  | gelainState (dt : Nat) (chunk : StateChunk)
  /-- REALIGN_FAIL (R422): The shadow's hold for realignment exceeds 50 µs and it enters QUARANTINE. -/
  | realignFail (dt : Nat)
  /-- UNCOMPARED (R421): The partner's digest entry is absent 1,000 µs after the unit's own. -/
  | uncompared (dt : Nat) (row : Word)
  /-- MIRROR_ACCEPT_TIMEOUT (R424): The shadow's acceptance of a mirrored command does not arrive within 1,000 µs and the lead quarantines it. -/
  | mirrorAcceptTimeout (dt : Nat)
  /-- HB_IN_ALIVE (R402): Eight consecutive in-window edges make HB_IN alive. -/
  | hbInAlive (dt : Nat)
  /-- HB_IN_LOST (R402): No HB_IN edge arrives for 3 µs and HB_IN is lost. -/
  | hbInLost (dt : Nat)
  /-- HB_OUT_STOP (R402): The management keepalive lapses for 50 µs, or lockstep fails, and HB_OUT is held low. -/
  | hbOutStop (dt : Nat)
  /-- GELAIN_LOST (R403): No good Gelain frame arrives for 20 µs, or the link leaves ACTIVE, and the link is lost. -/
  | gelainLost (dt : Nat)
  /-- DECISION_TIMER (R404): Joint loss of Gelain and HB_IN lasts DECIDE_US and the shadow promotes itself. -/
  | decisionTimer (dt : Nat)
  /-- FORM_WAIT (R408): FORM_WAIT_MS passes in FORMING and the unit leads alone or keeps waiting. -/
  | formWait (dt : Nat)
  /-- SWAP_ROW_REACHED (R426): The current row becomes the swap row and both units change role with a new epoch. -/
  | swapRowReached (dt : Nat)
  /-- ADMISSION_ROW_REACHED (R429): The current row becomes the admission row and the joining unit enters SHADOW. -/
  | admissionRowReached (dt : Nat)
  /-- EPOCH_WRITE (R409): A changed epoch is written to MRAM within 10 ms. -/
  | epochWrite (dt : Nat)
  /-- EV_STATUS_W1C (R479): A W1C write to EV_STATUS clears each bit whose cause is gone. -/
  | evStatusW1c (dt : Nat) (block : Fin 53) (value : Word)
  /-- AUDIT_FLUSH_START (R72): 16 entries are staged, the oldest is 5 ms old, or PWRFAIL_N is asserted, and a flush to MRAM starts. -/
  | auditFlushStart (dt : Nat)
  /-- AUDIT_FLUSH_END (R72): A flush completes and frees staging places for waiting entries and commands. -/
  | auditFlushEnd (dt : Nat)
  /-- MRAM_WRITE_DONE (R530): A two-copy MRAM write is read back and committed, or abandoned with NVM_COMMIT_FAIL. -/
  | mramWriteDone (dt : Nat) (ok : Bool)
  /-- REPAIR_APPEND (R528): A row added to MEM_REPAIR is committed into the stored calibration set within 10 ms. -/
  | repairAppend (dt : Nat)
  /-- DRIFT_ROUND_END (R521): Every part of a drift round has ended and TEMP_REF is updated when all are accepted. -/
  | driftRoundEnd (dt : Nat)
  /-- DRIFT_ROUND_REPEAT (R521): 60 s after a round with a rejected part, the round is repeated while the rule stays active. -/
  | driftRoundRepeat (dt : Nat)
  /-- CHANNEL_TRAINING (R436): An LPDDR6 channel completes or fails training under its leave. -/
  | channelTraining (dt : Nat) (mc : Fin 6) (ok : Bool)
  /-- PER_BANK_REFRESH (R439): A refresh interval elapses and one bank is refreshed. -/
  | perBankRefresh (dt : Nat) (mc : Fin 6)
  /-- WCK_TRACKING (R439): The 1 ms interval elapses and WCK oscillator tracking runs. -/
  | wckTracking (dt : Nat) (mc : Fin 6) (drift : Half)
  /-- ZQ_LATCH (R439): The 32 ms interval elapses and a ZQ latch runs. -/
  | zqLatch (dt : Nat) (mc : Fin 6)
  /-- RETRAINING_SLICE (R440): A retraining slice of one sub-channel and step runs for at most 2 µs. -/
  | retrainingSlice (dt : Nat) (mc : Fin 6) (ok : Bool)
  /-- MR4_REPORT (R441): An MR4 temperature report sets refresh derating or raises TEMP_CRIT. -/
  | mr4Report (dt : Nat) (mc : Fin 6) (code : Byte) (means : Mr4)
  /-- PATROL_SCRUB (R443): The scrubber reads a 64-byte line and writes back corrected data. -/
  | patrolScrub (dt : Nat) (mc : Fin 6) (result : EccResult)
  /-- SCRUB_PASS_END (R443): A patrol pass over installed memory ends or runs late. -/
  | scrubPassEnd (dt : Nat) (mc : Fin 6)
  /-- DMA_START (R458): CMD.START loads and checks the active descriptor, asking for leave when HEAVY. -/
  | dmaStart (dt : Nat) (ch : Fin 32)
  /-- DMA_CMD_ABORT (R464): CMD.ABORT aborts a DMA channel according to its state. -/
  | dmaCmdAbort (dt : Nat) (ch : Fin 32)
  /-- DMA_CMD_CLEAR (R467): CMD.CLEAR takes a halted channel to idle. -/
  | dmaCmdClear (dt : Nat) (ch : Fin 32)
  /-- DMA_SET_WRITE (R460): A write to the active or shadow descriptor set is accepted or ignored with SET_BUSY. -/
  | dmaSetWrite (dt : Nat) (ch : Fin 32) (shadow : Bool) (reg : Fin 5) (value : Word)
  /-- DMA_SWREQ (R453): Firmware adds a count of requests to a request line. -/
  | dmaSwreq (dt : Nat) (line : Fin 256) (count : Nat)
  /-- DMA_SWREQ_HOST (R453): The host adds a count of requests to lines 80 to 95. -/
  | dmaSwreqHost (dt : Nat) (index : Fin 16) (count : Nat)
  /-- DMA_REQUEST (R453): A peripheral posts a request on its line. -/
  | dmaRequest (dt : Nat) (line : Fin 48)
  /-- DMA_BURST (R459): A channel starts a burst on a consumed request or back to back, arbitrated by priority. -/
  | dmaBurst (dt : Nat) (ch : Fin 32)
  /-- DMA_COMPLETE (R459): A descriptor's last write is confirmed and the channel completes, chains or goes idle. -/
  | dmaComplete (dt : Nat) (ch : Fin 32)
  /-- DMA_BUS_ERROR (R465): A beat meets a bus error and the channel halts with BUS_ERR. -/
  | dmaBusError (dt : Nat) (ch : Fin 32) (addr : Nat) (write : Bool) (kind : Fin 8)
  /-- DMA_TAIL_ERROR (R466): An error arrives on a beat confirmed after COUNT reached zero and the channel halts. -/
  | dmaTailError (dt : Nat) (ch : Fin 32) (addr : Nat) (kind : Fin 8)
  /-- PREEMPT_LONG (R461): A burst in progress waits more than 100 µs. -/
  | preemptLong (dt : Nat) (ch : Fin 32)
  /-- DMA_WATCHDOG (R469): A started burst has not finished after 1 ms. -/
  | dmaWatchdog (dt : Nat) (ch : Fin 32)
  /-- HALT_WAIT (R469): A channel stays halted for 10 ms. -/
  | haltWait (dt : Nat) (ch : Fin 32)
  /-- LEAVE_REQUEST (R502): An operation asks the steward for leave and is queued or refused. -/
  | leaveRequest (dt : Nat) (req : LeaveAsk)
  /-- STEWARD_GRANT (R502): Releases make room and the head request is granted in a steward cycle. -/
  | stewardGrant (dt : Nat)
  /-- LEAVE_RELEASE (R502): An operation returns or reduces its leave. -/
  | leaveRelease (dt : Nat) (req : LeaveAsk)
  /-- LEAVE_WAIT_EXPIRY (R502): A queued request's wait limit ends and it ends with BUSY_LEAVE. -/
  | leaveWaitExpiry (dt : Nat)
  /-- DOMAIN_USABLE (R497): A woken domain becomes usable and its queue sweeps start. -/
  | domainUsable (dt : Nat) (domain : Fin 22)
  /-- DOMAIN_WAKE_FAIL (R497): A domain misses its wake time by more than 100 %. -/
  | domainWakeFail (dt : Nat) (domain : Fin 22)
  /-- STANDBY_ENTRY (R501): Once the management domain is idle, the device enters standby and domains go to RETAIN or OFF. -/
  | standbyEntry (dt : Nat)
  /-- WELLHEAD_SAMPLE (R508): A temperature, supply or pin input is sampled and averaged and rules are evaluated. -/
  | wellheadSample (dt : Nat) (input : Nat) (value : Int)
  /-- WELLHEAD_RULE_ACTIVE (R510): A rule's comparison has held for HOLD_US and the rule takes its actions. -/
  | wellheadRuleActive (dt : Nat) (rule : Fin 32)
  /-- PWRFAIL_ASSERT (R512): PWRFAIL_N is asserted and the device holds MRAM work and runs the emergency flush. -/
  | pwrfailAssert (dt : Nat)
  /-- PF_SAFE (R512): The emergency flush completes, MRAM is idle and PF_SAFE is set. -/
  | pfSafe (dt : Nat)
  /-- PWRFAIL_RELEASE (R512): PWRFAIL_N is released before power is lost and held MRAM work restarts. -/
  | pwrfailRelease (dt : Nat)
  /-- WAKE_PIN (R511): WAKE is asserted and rule 10 wakes the management domains. -/
  | wakePin (dt : Nat)
  /-- HEART_PERIOD (R403): Every 2 µs each unit sends a HEART frame carrying its state, flags, row and time echoes over the Gelain link. -/
  | heartPeriod (dt : Nat)
  /-- SCB_IBI_REQUEST (R227): A sensor on an I3C sensor control bus raises an in-band interrupt or hot-join request, which the Sluice NACKs and counts as IBI_NACKED. -/
  | scbIbiRequest (dt : Nat) (bus : Fin 32)
  /-- CREDIT_STARVED (R362): A credit class with a frame waiting has lacked credit for DRAIN_LIMIT, and CREDIT_STARVED is raised. -/
  | creditStarved (dt : Nat) (cls : Fin 9)
  /-- DESKEW_RUN_TIMEOUT (R524): A type 1 CAL_RUN sees no skew sequence within 1 s, ends with RESULT 2 and writes its reply. -/
  | deskewRunTimeout (dt : Nat)
  /-- MIRRORED_TIME_INSTANT (R415): The device time fixed by the lead for a mirrored TIME_SET or TIME_INCR is reached, and the step or new increment takes effect on both units. -/
  | mirroredTimeInstant (dt : Nat)
  /-- PARITY_ERROR (R166): A parity error arises in held state checked in place, such as a context-store bank, the routing, channel, weight or background tables, descriptors, pending counts or the event or twin state, and its check source is raised. -/
  | parityError (dt : Nat) (where_ : ParityPlace)
deriving DecidableEq, Repr

end Sys2Proof
end

