-- ==== Sys2Proof/Config.lean ====
section
/-!
DEFINITION. What one implementation of the SA-7316 fixes and the free values: opaque constants without a body, so that
nothing can be proved of what they are. Each is named in a row of the assumption log.
-/
namespace Sys2Proof.Config

/-- R47, R45, R64: the silicon revision, reset value "Silicon". -/
opaque siliconRev : Byte

/-- R64, R539: the version of the mask ROM. -/
opaque romVersion : Word

/-- R519: the identity of the die (DIE_ID), byte by byte. -/
opaque dieId : Nat → Byte

/-- R535: whether a staged firmware image (its bytes) carries a valid ECDSA P-256 signature. -/
opaque signatureGood : List Byte → Bool

/-- R527: whether every value of an imported set lies within that set's LIMITS item; how the values are measured the spec
does not say. -/
opaque limitsGood : List Byte → Bool

/-- R118, R200: the exposure time, in ns, of a line of a context that carries set ID 0 or 0xFFFF, where no set says it. -/
opaque unsetExposure : Nat → Nat → Nat

/-- R516 to R519: a value that a calibration run measures, named by the counter of free values. -/
opaque freeMeasure : Nat → Nat

/-- A word that the spec leaves open, named by the counter of free values. -/
opaque freeWord : Nat → Word

/-- A yes or no that the spec leaves open, named by the counter of free values. -/
opaque freeBool : Nat → Bool

end Sys2Proof.Config
end

