-- ==== Sys2Proof/Machine/State.lean ====
section
/-!
DEFINITION. The state of the SA-7316, component by component, as plain data: every register, queue, buffer, counter,
mode and pin the spec gives the block, and the queue of waiting commands. Each field's default is its value in
`State.reset`: the Reset column of the spec where there is one, else the value named in assumption log entry 2.
-/
namespace Sys2Proof.Machine

/-- Why a step stops. No meaning of this model raises one: every command of the table has an effect in the spec. -/
inductive Fault where
  /-- Raised by no meaning. It stands for an access the spec says does not exist; every such access has an effect in
  the spec (BAD_PARAM, a bus error, an ignored write). Safe: a stop proves nothing false. -/
  | noSuchPlace
deriving DecidableEq, Repr

/-- Why a command is turned away. -/
inductive Refusal where
  /-- Raised by the arms of the dispatch only, for a command that has no meaning yet. Safe: nothing is claimed of it. -/
  | notModelled (mnemonic : String)
deriving DecidableEq, Repr

/-- Which source, by block and bit (R470). -/
structure Src where
  block : Nat
  bit : Nat
deriving DecidableEq, Repr

/-- R492: the event registers of one block. -/
structure EvBlock where
  status : Word := 0
  /-- Causes that a step sets and clears by hand; other causes are computed from the state. -/
  held : Word := 0
  /-- R490: bits whose injected cause is held. -/
  injected : Word := 0
  last : Nat := 0
  lastInjected : Bool := false
  lastTime : Word := 0
  firstTime : Word := 0
  count : Nat := 0
deriving DecidableEq, Repr

/-- R492, R490, R493: all event blocks, the injection holds and the summary registers' latches. -/
structure Events where
  blocks : Vector EvBlock 53 := Vector.replicate 53 {}
  /-- R490: end tick of each held injection. -/
  holds : List (Src × Nat) := []
  summaryHi : Word := 0
  fsummaryHi : Word := 0
  /-- R491: rows egressed late (SYS_CNT_LATE). -/
  late : Nat := 0
  /-- R485: a severity 3 source became set in this step and its twin action is still to come. -/
  escalate : Bool := false
  /-- R477: a source of severity 1 or above became set from clear in this step. -/
  notify : Bool := false
deriving DecidableEq, Repr

/-- R69: one audit entry, without its CHECK, which is computed from the other fields. -/
structure Entry where
  time : Word := 0
  wrap : Half := 0
  origin : Byte := 0
  kind : Byte := 0
  code : Half := 0
  status : Byte := 0
  aflags : Byte := 0
  seq : Word := 0
  originId : Half := 0
  epoch : Half := 0
  detail : Wide := 0
deriving DecidableEq, Repr

/-- R71, R72: the audit log. Serials count entries since manufacture. -/
structure Audit where
  /-- Serial of the next entry. -/
  next : Word := 0
  /-- Entries in SRAM, oldest first, each with its serial and the tick it was staged. -/
  staged : List (Word × Nat × Entry) := []
  /-- Entries in the MRAM ring, newest first. -/
  ring : List (Word × Entry) := []
  /-- R72: entries merged into the overflow entry that waits for a place; 0 when none waits. -/
  merged : Nat := 0
  overflow : Nat := 0
  /-- Entries of a flush that runs. -/
  flushing : Nat := 0
  /-- R512: an epoch write is pending (R409). -/
  epochWrite : Option Half := none
deriving DecidableEq, Repr

/-- R75, R76: one mailbox slot. Bytes not listed read 0. -/
structure Slot where
  full : Bool := false
  bytes : List Byte := []
  /-- Tick at which it became full. -/
  since : Nat := 0
  timedOut : Bool := false
  /-- Order in which slots became full. -/
  order : Nat := 0
  /-- R406, R424: the mirror word of a command in MB4, and what the lead decided. -/
  mirror : Option (Word × Word) := none
deriving DecidableEq, Repr

/-- R74, R96: a mailbox channel and its MB_STAT register. -/
structure Chan where
  slots : List Slot
  lastSeq : Half := 0
  peerReset : Bool := false
  lateTie : Bool := false
  timedOut : Bool := false
  overrun : Bool := false
deriving DecidableEq, Repr

/-- R84: a command rung and not answered, kept on VDD_AO. -/
structure KeptCmd where
  chan : Nat
  opcode : Half
  seq : Word
deriving DecidableEq, Repr

/-- R74, R96, R84, R91: the mailbox and semaphore block. -/
structure Mailbox where
  chans : Vector Chan 10 := #v[⟨[{}], 0, false, false, false, false⟩, ⟨[{}], 0, false, false, false, false⟩,
    ⟨[{}, {}], 0, false, false, false, false⟩, ⟨[{}, {}], 0, false, false, false, false⟩,
    ⟨[{}, {}], 0, false, false, false, false⟩, ⟨[{}, {}], 0, false, false, false, false⟩,
    ⟨[{}, {}], 0, false, false, false, false⟩, ⟨[{}, {}], 0, false, false, false, false⟩,
    ⟨[{}], 0, false, false, false, false⟩, ⟨[{}], 0, false, false, false, false⟩]
  limit : Half := 1000
  rings : Nat := 0
  kept : List KeptCmd := []
  /-- R84: commands kept across the device's own reset, to be answered ABORTED at the next handshake. -/
  toAbort : List KeptCmd := []
  sems : Vector Byte 64 := Vector.replicate 64 0
  semErrIndex : Nat := 0
  semNotOwner : Bool := false
deriving DecidableEq, Repr

/-- R40 to R47: the I3C target and the P0 window's own registers. WIN_TX and WIN_RX are mailbox slots. -/
structure Window where
  ctrl : BitVec 4 := 15
  cause : BitVec 4 := 0
  err : BitVec 3 := 0
  readPtr : Nat := 0
  maxWrite : Nat := 258
  maxRead : Nat := 256
  protoError : Bool := false
  irqEnabled : Bool := true
  dynAddr : Option (BitVec 7) := none
  hdrDdr : Bool := false
  /-- R46: an IBI was raised and is not delivered. -/
  ibiPending : Bool := false
  /-- R49: the packet in WIN_TX waits for a hardware-written reply. -/
  hwWait : Bool := false
deriving DecidableEq, Repr

/-- R66, R67: the test access port's command data register. -/
structure Jtag where
  ir : Byte := 255
  writePtr : Nat := 0
  readPtr : Nat := 0
  /-- OP carried by the preceding Update-DR. -/
  lastOp : Nat := 0
deriving DecidableEq, Repr

/-- R233: a SENS_READ fetch held for a port. -/
structure Fetch where
  seq : Word
  sensor : Nat
  reg : Nat
  count : Nat
  /-- None while the bus transaction runs; then the far-side code (0 good) and the bytes. -/
  result : Option (Nat × List Byte) := none
  doneAt : Nat := 0
deriving DecidableEq, Repr

/-- What an accepted command waits for before its reply (R39). -/
inductive Waiting where
  /-- R574: leave of kind 4 for the contexts listed, still to be granted; the tick fixed for a pair. -/
  | streamLeave (mask : Wide) (togo : List (Fin 64)) (granted : List (Fin 64)) (tick : Option Int)
  /-- R574: the start tick of a mirrored start. -/
  | streamTick (mask : Wide) (at_ : Int)
  /-- R575: the last rows of the stopped views. -/
  | streamStop (mask : Wide)
  /-- R209: the acknowledgement of the releasing write of exposure set `id` of a context. -/
  | expo (ctx : Fin 64) (id : Half)
  /-- R232, R236: a bus transaction of the bus. -/
  | sluice (bus : Fin 32)
  /-- R279, R146, R438: leave that a REC_APPLY needs. -/
  | applyLeave
  /-- R144, R192: the next item boundary of the contexts. -/
  | applyItem (ctxs : List Nat)
  /-- R524: a calibration run. -/
  | calRun
  /-- R525, R527, R528, R536: an MRAM write. -/
  | nvm
  /-- R426: a role swap. -/
  | roleSwap
  /-- R428: an admission. -/
  | admission
  /-- R372: a step at AT_TIME. -/
  | timeStep
  /-- R464: the end of the burst in progress of a channel. -/
  | dmaAbort (ch : Fin 32)
  /-- R359: the end of a training attempt. -/
  | retrain
  /-- R358: the end of a link test. -/
  | linkTest
  /-- R489: the queue sweeps of a TEST_BIST. -/
  | bist (targets : Word)
  /-- R497: a domain that wakes. -/
  | domainWake (d : Fin 22)
  /-- R72: a free place in the audit staging before execution. -/
  | auditSpace
  /-- R424: the shadow's acceptance of a mirrored command, or the lead's reply to a forwarded one. -/
  | twinReply (seq : Word)
deriving DecidableEq, Repr

/-- R37: a command in execution. -/
structure Running where
  h : Hdr
  body : Body
  wait : Waiting
  /-- Tick of acceptance. -/
  since : Nat
  /-- R18: an awaited grant or arrival won a tie. -/
  lateTie : Bool := false
deriving DecidableEq, Repr

/-- R77: a command waiting in a port's intake: the slot's bytes with the mirror word of
a command of the twin, or a command already parsed. -/
inductive Inbound where
  | packet (mirror : Option Mirror) (bytes : List Byte)
  | parsed (h : Hdr) (body : Body)
deriving DecidableEq, Repr

/-- R56: the last reply a port sent. -/
structure Kept where
  seq : Word
  check : Word
  status : Nat
  bytes : List Byte
deriving DecidableEq, Repr

/-- R37, R56, R77, R233: one command port. -/
structure PortState where
  running : Option Running := none
  intake : Option Inbound := none
  kept : Option Kept := none
  /-- Replies that wait for an empty outbound slot, oldest first. -/
  outgoing : List (List Byte) := []
  /-- A reply whose audit entry waits for a staging place (R72). -/
  entryWait : Option (Entry × List Byte) := none
  fetch : Option Fetch := none
deriving DecidableEq, Repr

/-- R63, R15: a record that is open for a port, or locked by a REC_APPLY. -/
structure OpenRec where
  id : Nat
  inst : Nat
  port : Port
  /-- Tick of its last REC_WRITE. -/
  at_ : Nat
deriving DecidableEq, Repr

/-- R11, R13, R270: a grid row boundary with the contents of its records before and after it. -/
structure RowSwitch where
  serial : Nat
  boundary : Int
  pairs : List (Nat × Nat)
  old : List Host.Cell
  new : List Host.Cell
deriving DecidableEq, Repr

/-- R112, R151: a frame or line boundary that has passed at the inlet, with the contents its records had before it: items
of earlier frames or lines still use them. -/
structure FrameSwitch where
  ctx : Nat
  boundary : Word
  pairs : List (Nat × Nat)
  old : List Host.Cell
deriving DecidableEq, Repr

/-- Staged parameters: the pending and the active copy of every record, as sparse byte lists over the reset image. -/
structure Records where
  pending : List Host.Cell := []
  active : List Host.Cell := []
  opens : List OpenRec := []
  scheduled : List Scheduled := []
  /-- Oldest first. -/
  rows : List RowSwitch := []
  rowSerial : Nat := 0
  /-- Oldest first. -/
  frames : List FrameSwitch := []
deriving DecidableEq, Repr

/-- R495: the state of a power domain; `changing` carries the state it wakes to. -/
inductive DomState where
  | off | retain | on | changing
deriving DecidableEq, Repr

/-- R514: one power domain. -/
structure Domain where
  state : DomState := .on
  grant : Nat := 0
  /-- Tick of the wake's grant, and whether it wakes from OFF. -/
  wakeAt : Nat := 0
  fromOff : Bool := false
deriving DecidableEq, Repr

/-- R499: who asked for leave. -/
inductive Requester where
  | domain (d : Fin 22) (port : Option Port)
  | training (mc : Fin 6) (port : Option Port)
  | lanes
  | context (c : Fin 64) (port : Option Port)
  | move (c : Fin 64)
  | calibration (port : Option Port)
  | nvm (port : Option Port)
  | dma (ch : Fin 32)
  | stitch (port : Option Port)
deriving DecidableEq, Repr

/-- R502: a request waiting in the steward's queue, or a grant it made. -/
structure LeaveReq where
  who : Requester
  kind : Nat
  cost : Nat
  prio : Nat
  /-- Tick of the request, and the tick its wait limit ends. -/
  at_ : Nat
  limit : Option Nat := none
deriving DecidableEq, Repr

/-- R494 to R514: the power steward. -/
structure Power where
  /-- R514: ON with the leave of R494, as the reset column of PWR_DOMn gives it. -/
  doms : Vector Domain 22 := #v[{ grant := 4 }, { grant := 16 }, { grant := 40 }, { grant := 6 }, { grant := 24 }, { grant := 24 }, { grant := 24 }, { grant := 24 }, { grant := 16 }, { grant := 16 }, { grant := 16 },
    { grant := 16 }, { grant := 40 }, { grant := 12 }, { grant := 12 }, { grant := 8 }, { grant := 6 }, { grant := 8 }, { grant := 14 }, { grant := 14 }, { grant := 14 }, { grant := 6 }]
  queue : List LeaveReq := []
  grants : List LeaveReq := []
  /-- R500: standing grants other than the domains PD00 to PD03 (audit, Gelain). -/
  standing : Nat := 0
  denied : Nat := 0
  deniedBoot : Nat := 0
  grantCount : Nat := 0
  maxWait : Nat := 0
  pfActive : Bool := false
  pfSafe : Bool := false
  pfHold : Bool := false
  /-- R501: the domain states before standby, while standby lasts or is about to begin. -/
  standby : Option (List DomState) := none
  standbyAsked : Bool := false
deriving DecidableEq, Repr

/-- R507 to R515: the Wellhead. -/
structure Wellhead where
  temps : Vector Int 24 := Vector.replicate 24 0
  sampled : BitVec 24 := 0
  rails : Vector Int 7 := Vector.replicate 7 0
  tref : Int := 0
  pins : BitVec 3 := 0
  active : Word := 0
  fired : Word := 0
  /-- Tick since which each rule's comparison holds without a break. -/
  since : Vector (Option Nat) 32 := Vector.replicate 32 none
deriving DecidableEq, Repr

/-- R567 to R577, R488, R475: reset and boot state, straps, test mode and the pins the event logic drives. -/
structure Sys where
  twinSel : Bool := false
  addrSel : Nat := 0
  mgmtOn : Bool := false
  cmdReady : Bool := false
  readyAt : Nat := 0
  readyUs : Word := 0
  /-- Tick of the reference instant of R569. -/
  bootRef : Nat := 0
  cause : Nat := 1
  wdCount : Nat := 0
  failStep : Nat := 0
  factoryTest : Bool := false
  /-- R88: the management processor restarts. -/
  restarting : Bool := false
  /-- R65: a reset that follows a reply: its cause (0 restart only) , the port of the reply and the tick it is due. -/
  resetDue : Option (Nat × Port × Nat) := none
  faultLow : Bool := false
  irqLow : Bool := false
  hbOut : Bool := false
  romOnly : Bool := false
deriving DecidableEq, Repr

/-- R371, R372: a change of time that a command asked for. -/
inductive TimeChange where
  | set (absolute : Bool) (value : Word) (endHoldover : Bool)
  | incr (incr : Word) (endHoldover : Bool)
deriving DecidableEq, Repr

/-- R363 to R378, R394: the timebase. `ext` is device time without its 32-bit wrap; TIME is `ext` modulo 2^32. -/
structure Clock where
  ext : Int := 0
  frac : Nat := 0
  incr : Word := 0x02800000
  wrap : Half := 0
  /-- The high part of `ext` that WRAP has counted. -/
  counted : Int := 0
  fracLatch : Nat := 0
  holdover : Bool := false
  holdCause : Nat := 0
  beaconSeen : Bool := false
  lateTie : Bool := false
  stepped : Bool := false
  lastStep : Int := 0
  /-- Tick of the last good beacon. -/
  beaconAt : Nat := 0
  beaconGood : Bool := false
  bcnCap : Word := 0
  bcnMaster : Word := 0
  bcnSeq : Half := 0
  bcnFrac : Byte := 0
  beacons : Nat := 0
  jumps : Nat := 0
  /-- R372: a TIME_SET with AT that is pending, and its due time. -/
  pendingSet : Option (TimeChange × Int) := none
  /-- R415: a mirrored change of time that waits for its instant, oldest first. -/
  mirrored : List (TimeChange × Int) := []
deriving DecidableEq, Repr

/-- R380 to R385: one trigger or strobe output. Its schedule times are device times without their wrap. -/
structure Output where
  mode : Nat := 0
  start : Int := 0
  periodNs : Nat := 0
  periodFrac : Nat := 0
  width : Nat := 0
  expo : Bool := false
  ctx : Nat := 0
  source : Nat := 0
  offset : Int := 0
  /-- Pulses still to come; none when unending. -/
  left : Option Nat := none
  /-- Index of the next periodic edge. -/
  nextK : Int := 0
  oneShots : List OneShot := []
  follow : List Int := []
  /-- Edge time and end time of the pulse being driven, and the record it writes. -/
  pulse : Option (Int × Int) := none
  /-- R400: the pulse in progress appears on the pin. -/
  driven : Bool := false
  dropped : Nat := 0
  driveActive : Bool := true
  lowActive : Bool := true
deriving DecidableEq, Repr

/-- R387: one capture of an EVIN input. -/
structure Capture where
  serial : Word
  time : Word
  rising : Bool
  holdover : Bool
  step : Bool
deriving DecidableEq, Repr

/-- R386 to R388: one event input. -/
structure EvIn where
  ring : List Capture := []
  next : Word := 0
  overwritten : Nat := 0
  level : Bool := false
  /-- Serial after the newest capture that was read. -/
  readTo : Word := 0
  stepMark : Bool := false
deriving DecidableEq, Repr

/-- R379 to R388: the trigger generator and the event inputs. -/
structure Triggers where
  outs : Vector Output 48 := Vector.replicate 48 {}
  evins : Vector EvIn 8 := Vector.replicate 8 {}
deriving DecidableEq, Repr

/-- R517, R530: one calibration set (its items as bytes over the factory contents) with its header fields. -/
structure CalSet where
  bytes : List Host.Cell := []
  origin : Nat := 0
  serial : Word := 1
  session : Half := 0
  time : Word := 0
deriving DecidableEq, Repr

/-- R539: the state of an image area. -/
structure Image where
  state : Nat := 0
  bytes : List Byte := []
  version : Word := 0
  length : Word := 0
  bodyCrc : Word := 0
deriving DecidableEq, Repr

/-- R527, R534: an import or a stage that is open for a port. -/
structure OpenImport where
  port : Port
  /-- None for CAL_IMPORT; the target and index of FW_STAGE. -/
  stage : Option (Nat × Nat)
  at_ : Nat
  cells : List Host.Cell := []
deriving DecidableEq, Repr

/-- R530, R532: what the MRAM writes. -/
inductive NvmJob where
  | commit (port : Port) | import_ (port : Port) | append | activate (port : Port) (image : Nat) (bootSet : Bool)
  | activateFw (port : Port) (slot : Nat) (scope : Nat)
deriving DecidableEq, Repr

/-- R520, R524: a part of a calibration run: type and target. -/
structure CalPart where
  type : Nat
  target : Nat
deriving DecidableEq, Repr

/-- R524: the figures of one element: ELEMENT, EFLAGS, EYE_MUI, EYE_MV, SKEW_PS. -/
structure CalElem where
  element : Nat
  flags : Nat := 0
  eyeMui : Nat := 0
  eyeMv : Nat := 0
  skew : Nat := 0
deriving DecidableEq, Repr

/-- R521, R524: a calibration run: of a CAL_RUN on a port, or of the scheduler. -/
structure CalSession where
  port : Option Port
  type : Nat
  target : Nat
  /-- Leave is granted; the run has begun. -/
  granted : Bool := false
  began : Bool := false
  todo : List CalPart := []
  /-- Tick of its beginning. -/
  since : Nat := 0
  result : Nat := 0
  rejected : Nat := 0
  elements : List CalElem := []
deriving DecidableEq, Repr

/-- R516 to R540: the calibration and non-volatile store. -/
structure Nvm where
  stored : CalSet := {}
  working : CalSet := {}
  valid : Bool := true
  changes : Nat := 0
  session : Half := 0
  epoch : Half := 0
  activeSlot : Nat := 0
  running : Nat := 0
  trial : Bool := false
  bootSet : Nat := 255
  slots : Vector Image 2 := #v[{ state := 4 }, {}]
  sets : Vector Image 5 := Vector.replicate 5 {}
  /-- Committed copies of CS0 to CS3 and the profile library. -/
  committed : Vector (List Byte) 5 := Vector.replicate 5 []
  imports : List OpenImport := []
  /-- Writes in order; the first one runs. -/
  jobs : List NvmJob := []
  /-- Repair rows to append to the stored set. -/
  append : List (Nat × Word) := []
  eccUncorr : Nat := 0
  eccCorr : Nat := 0
  eccAddr : Word := 0
  pages : Nat := 0
  runs_ : List CalSession := []
  /-- Tick at which a round with a rejected part is repeated. -/
  repeatAt : Option Nat := none
  /-- The scheduler asks for a run again at the next change of budget or release (R503). -/
  calWait : Bool := false
  last : Nat × Nat × Nat × Nat := (0, 0, 0, 0)
  lastTime : Word := 0
  rejects : Nat := 0
  runs : Nat := 0
  /-- R527: the factory items in force since boot. -/
  inForce : List Host.Cell := []
deriving DecidableEq, Repr

/-- R116: the tag of a line or GAP record, its times without their wrap, with the deadline of R152 and the instant of
R29 at which its last word arrived. -/
structure LineTag where
  port : Nat := 0
  vc : Nat := 0
  ctx : Nat := 0
  gap : Bool := false
  first : Bool := false
  last : Bool := false
  stripEnd : Bool := false
  trigWidth : Bool := false
  holdover : Bool := false
  timeStep : Bool := false
  line : Word := 0
  frame : Word := 0
  strip : Half := 0
  setId : Half := 0
  sol : Int := 0
  mid : Int := 0
  width : Nat := 0
  sensorLine : Half := 0
  sensorFn : Half := 0
  reason : Nat := 0
  deadline : Option Int := none
  foot : Int := 0
  /-- Exposure time of the line (R118, R178), ns. -/
  expoNs : Nat := 0
deriving DecidableEq, Repr

/-- A packet of an inlet queue: a line with its cropped sensor codes, or a GAP record (no codes). -/
structure InPacket where
  tag : LineTag
  codes : List Nat := []
  /-- R147: read by its cursor; its storage waits for the older cursor of a gang. -/
  taken : Bool := false
deriving DecidableEq, Repr

/-- R125: one camera port. -/
structure Inlet where
  lock : BitVec 4 := 0
  laneStop : BitVec 4 := 0
  clkActive : Bool := false
  ulps : Bool := false
  physFault : Bool := false
  vcSeen : BitVec 16 := 0
  /-- CP_STATUS.DESKEW: 0 idle, 1 request pending, 2 sweeping, 3 stepping. -/
  deskew : Nat := 0
  /-- R103: a device request waits for the moment of its deskew write. -/
  deskewAsked : Bool := false
  /-- Tick at which the last sweep ended. -/
  sweepTo : Nat := 0
  taps : Vector Nat 4 := Vector.replicate 4 32
  targets : Vector Nat 4 := Vector.replicate 4 32
  eyes : Vector Nat 4 := Vector.replicate 4 0
  skew : Nat := 0
  hdrBad : Nat := 0
  eccCorr : Nat := 0
  wcBad : Nat := 0
  crcBad : Nat := 0
  vcUnmapped : Nat := 0
  dtBad : Nat := 0
  dropped : Nat := 0
  gaps : Nat := 0
  peak : Nat := 0
  lastFs : Word := 0
  /-- R108: lost lines (their GAP_REASON) not yet attributed to a context. -/
  lost : List Nat := []
  /-- Committed packets the reader has not begun, and how many of them it sees (R132). -/
  queue : List InPacket := []
  seen : Nat := 0
  /-- R157: GAP records that wait for space. -/
  waiting : List LineTag := []
deriving DecidableEq, Repr

/-- R135 to R141: one packet queue's service state and its writer's view of its storage, in bytes. -/
structure PQueue where
  /-- Q_STAT.STATE: 0 off, 1 sweeping, 2 in service, 3 flush pending, 4 recovery, 5 out of service. -/
  state : Nat := 0
  flushed : Nat := 0
  repairLeft : Nat := 4
  checkFail : Bool := false
  sweepCorr : Nat := 0
  serviceCorr : Nat := 0
  /-- Storage the writer counts as used: committed and not yet seen released. -/
  used : Nat := 0
  /-- Storage the reader released that has not crossed to the writer. -/
  freed : Nat := 0
  sweepRepair : Nat := 0
deriving DecidableEq, Repr

/-- R120, R224: the non-image buffer of a context. -/
structure NonImage where
  frame : Word := 0
  fn : Half := 0
  emb : List Byte := []
  gen : List Byte := []
deriving DecidableEq, Repr

/-- R110 to R119: the inlet's state of one context. -/
structure CtxState where
  streaming : Bool := false
  /-- R575: STREAM_STOP took effect at the next line or frame end. -/
  stopping : Bool := false
  /-- The context has stopped and committed lines of it are still to be corrected. -/
  draining : Bool := false
  line : Word := 0
  frame : Word := 0
  /-- A frame start was taken since STREAM_START; a frame is open. -/
  started : Bool := false
  frameOpen : Bool := false
  inFrame : Nat := 0
  firstMark : Bool := false
  stepMark : Bool := false
  sensorFn : Half := 0
  fsTime : Int := 0
  lastSol : Int := 0
  /-- R373: steps of device time since the reference instant of the window line. -/
  moved : Int := 0
  /-- R115: the line number of the last line start packet, of the last line or GAP record, and the records to insert
  before the line that arrives. -/
  pendingLn : Option Half := none
  lastLn : Option Half := none
  jump : Nat := 0
  /-- Tick of the last line, for NO_DATA; whether it was raised. -/
  lineAt : Nat := 0
  noData : Bool := false
  /-- Tick of STREAM_START (R574): packets in progress at it are discarded. -/
  startAt : Nat := 0
  /-- R575: the tick of STREAM_STOP; a line in progress at it is still taken. -/
  stopAt : Nat := 0
  /-- R146: the runnel the context runs on, and whether it waits for leave to move. -/
  runnel : Nat := 0
  moving : Bool := false
  /-- R147: strips ended on the even and on the odd runnel of a gang. -/
  stripsEven : Nat := 0
  stripsOdd : Nat := 0
  buffer : NonImage := {}
deriving DecidableEq, Repr

/-- R31: a sample: its four flags and VALUE, U22.10. -/
structure Sample where
  value : Nat := 0
  sat : Bool := false
  dfc : Bool := false
  nrh : Bool := false
  gap : Bool := false
deriving DecidableEq, Repr

/-- R34: a GAP sample. -/
def gapSample : Sample := { gap := true }

/-- R31: the 36-bit word of a sample. -/
def Sample.word (s : Sample) : Nat :=
  s.value + bit 32 s.gap + bit 33 s.nrh + bit 34 s.dfc + bit 35 s.sat

/-- R150, R175, R181: what the carry store keeps of one band: the two preceding lines after the temporal stage, each
sample with its mask, and the preceding line after stage 5 with its defect codes. -/
structure BandCarry where
  prev1 : Option (List (Sample × Bool)) := none
  prev2 : Option (List (Sample × Bool)) := none
  donor : Option (List (Sample × Nat)) := none
deriving DecidableEq, Repr

/-- R150, R182, R183: the carry of a context. -/
structure Carry where
  bands : List BandCarry := [{}, {}, {}, {}]
  /-- Index of the next line since the count began, and lines to mark NRH after CARRY_LOST (R177). -/
  index : Nat := 0
  lostLines : Nat := 0
  /-- Frame number of the last line that passed the stages. -/
  frame : Word := 0
  /-- Lines of incomplete exposure groups: the group, the band, the tag and the samples after stage 6. -/
  group : List (Nat × Nat × LineTag × List Sample) := []
  /-- Complete groups, newest first: the lines of each band. -/
  groups : List (List (Nat × List Sample)) := []
  histValid : Bool := false
  /-- R174: TNR_EN, HIST_BASE, CROP_WIDTH and HEIGHT of the last item. -/
  params : Option (Bool × Nat × Nat × Nat) := none
  /-- R147: for a gang, the lines that strips already corrected left for the strip after them. -/
  tails : List (Nat × List BandCarry) := []
deriving DecidableEq, Repr

/-- A line that left the runnel's stages: its tag and, for each band it carries, the samples; GAP when every sample
is. -/
structure OutLine where
  tag : LineTag
  bands : List (Nat × List Sample)
  gapItem : Bool
  /-- R219: index of the registered line in its frame; 0 for line-scan. -/
  y : Nat := 0
deriving DecidableEq, Repr

/-- R199, R214: the exposure state of a context. -/
structure ExpoCtx where
  nextId : Half := 1
  sets : List ExpoSet := []
  /-- From which frame or line each ID holds, newest first: line, ID, E. -/
  timeline : List (Word × Half × Nat) := []
  /-- The ID and E in force when the list above gives none. -/
  baseId : Half := 0
  baseE : Nat := 0
  /-- R225: the ID of the latest tagged line. -/
  inForce : Half := 0
  /-- R217: the width in force for TRIG_MODE 2 and its ID. -/
  pulseId : Half := 0
  pulseW : Option Nat := none
  /-- R216: index of the next pulse record of the output that the context takes. -/
  cursor : Nat := 0
deriving DecidableEq, Repr

/-- R199 to R226: exposure control. -/
structure Exposure where
  ctxs : Vector ExpoCtx 64 := Vector.replicate 64 {}
  pulses : Vector PulseQueue 32 := Vector.replicate 32 {}
  missed : Nat := 0
  lateAck : Nat := 0
  failed : Nat := 0
  unmatched : Nat := 0
deriving DecidableEq, Repr

/-- R222: a statistics record being built or published. -/
structure StatsRec where
  serial : Word := 0
  frame : Word := 0
  setId : Half := 0
  bands : Nat := 1
  lineScan : Bool := false
  early : Bool := false
  hasGap : Bool := false
  holdover : Bool := false
  timeStep : Bool := false
  lines : Nat := 0
  gapLines : Nat := 0
  firstSol : Word := 0
  lastSol : Word := 0
  zonesX : Nat := 1
  zonesY : Nat := 1
  histShift : Nat := 0
  histLo : Nat := 0
  width : Nat := 0
  /-- Lines of a line-scan record. -/
  limit : Nat := 0
  /-- Flag counters SAT, DEF, NRH, GAP of each band. -/
  flags : List (Nat × Nat × Nat × Nat) := []
  /-- Histogram counts that are not 0: band × 256 + bin, count. -/
  bins : List (Nat × Nat) := []
  /-- Zone sums and sample counts, by zone number. -/
  zones : List (Nat × Nat) := []
deriving DecidableEq, Repr

/-- R220 to R223: the statistics of a context: the record being built, the two published, and those awaiting
publishing are held with their runnel. -/
structure StatsCtx where
  next : Word := 0
  open_ : Option StatsRec := none
  latest : Option StatsRec := none
  previous : Option StatsRec := none
deriving DecidableEq, Repr

/-- R227, R240: one bus transaction: a write of data bytes from a register, or a read of a number of bytes. -/
structure Txn where
  reg : Half
  data : List Byte := []
  read : Nat := 0
deriving DecidableEq, Repr

/-- R231: what a piece of work on a bus is for. -/
inductive WorkKind where
  /-- R232: a non-posted SENS_WRITE of a port. -/
  | write (port : Port)
  /-- R242: a posted one, with what its log entry needs. -/
  | posted (port : Port) (seq : Word) (mirrored : Bool)
  /-- R233. -/
  | fetch (port : Port)
  /-- R236: with TAIL_ON_FAIL. -/
  | seq (port : Port) (tail : Bool)
  /-- R203: the sequence of an exposure set, and the index of its releasing write. -/
  | expo (ctx : Fin 64) (id : Half)
  /-- R103: the deskew write of a camera port. -/
  | deskew (camera : Fin 32)
deriving DecidableEq, Repr

/-- R231: one piece of work on a bus: its transactions in order, and how many have been acknowledged. -/
structure Work where
  kind : WorkKind
  sensor : Nat
  txns : List Txn
  done : Nat := 0
  /-- R231: it is booked; its start time once its reference instant is known. Other work of a mirrored command carries
  the device time it may start at (R247). -/
  booked : Bool := false
  at_ : Option Int := none
  /-- R231: its start was put off for a booking. -/
  deferred : Bool := false
  /-- The first failure: code and index of the write (R240). -/
  failed : Option (Nat × Nat) := none
deriving DecidableEq, Repr

/-- R227 to R249: one sensor control bus. -/
structure Bus where
  /-- The mode in force (R228). -/
  mode : Nat := 0
  queue : List Work := []
  cur : Option Work := none
  busy : Bool := false
  /-- R241: repeats of the transaction after an address NACK and after a lost arbitration; the tick at which NACK_GAP
  ends. -/
  repeats : Nat := 0
  arbLost : Bool := false
  retryAt : Option Nat := none
  /-- Tick at which the transaction started. -/
  since : Nat := 0
  /-- R237: the tick since which the work that is due waits for the semaphore, and whether SEM_WAIT_LONG was raised. -/
  semWait : Option Nat := none
  semLong : Bool := false
  stuck : Bool := false
  /-- R238: sensors whose group hold was left asserted. -/
  holdLeft : List Nat := []
  lastCode : Nat := 0
  /-- R230: addresses are to be assigned. -/
  daaDue : Bool := false
deriving DecidableEq, Repr

/-- R244: an entry of the posted-write error log. -/
structure PlogEntry where
  seq : Word
  time : Word
  reg : Half
  detail : Nat
  sensor : Nat
  origin : Nat
  serial : Half
deriving DecidableEq, Repr

/-- R227 to R249: the Sluice. -/
structure Sluice where
  buses : Vector Bus 32 := Vector.replicate 32 {}
  /-- R230: the dynamic address assigned to each routing entry. -/
  addrs : Vector (Option Nat) 128 := Vector.replicate 128 none
  plog : List PlogEntry := []
  plogNext : Half := 0
  plogLost : Nat := 0
  transfers : Nat := 0
  nacks : Nat := 0
  timeouts : Nat := 0
  /-- R248: the SCB pins are released in QUARANTINE. -/
  released : Bool := false
deriving DecidableEq, Repr

/-- R268: a view row on its way to Confluence: its tag, without the fields a reader can compute, and its samples by
band. -/
structure ViewRow where
  view : Fin 64
  row : Int
  flags : Nat
  setId : Half
  first : Nat
  count : Nat
  sol : Int
  /-- R29: the latest last-word instant of its tap lines, when it has any. -/
  foot : Option Int := none
  bands : List (List Sample)
  /-- The view's context is ganged and its odd runnel emitted the row (R290). -/
  odd : Bool := false
deriving DecidableEq, Repr

/-- R262, R264: a line held by a resampler: its tag, sequence (frame of an area context), reference positions (none where
it was dropped) and the parameter generation of each column from `first` upward, and its samples after the across
stage. -/
structure RsLine where
  tag : LineTag
  seq : Word
  first : Nat
  pos : List (Option Int)
  gens : List Nat
  bands : List (List Sample)
deriving DecidableEq, Repr

/-- R260, R265: one sequence of lines of a view, oldest first, and the frame whose last line has arrived. -/
structure RsSeq where
  lines : List RsLine := []
  ended : Option Word := none
deriving DecidableEq, Repr

/-- R261 to R270: the resampler's state of one view. -/
structure ViewState where
  active : Bool := false
  seqs : List RsSeq := []
  /-- R266: the frame rows are built from. -/
  cur : Word := 0
  next : Option Int := none
  last : Option Int := none
  /-- R253: lines before the first with TIME_STEP still use the old origin. -/
  oldOrigin : Bool := false
  /-- R270: the generation of row boundaries each column has reached, from column 0. -/
  gens : List Nat := []
  /-- R273: the row in progress is emitted as ALL_GAP. -/
  spoiled : Bool := false
  /-- R269: lines of a gang that wait for the strip before theirs, by strip. -/
  held : List (Nat × List OutLine) := []
  nextStrip : Nat := 0
deriving DecidableEq, Repr

/-- R148: the item of a runnel: one line or GAP record, or one strip. -/
structure Item where
  ctx : Fin 64
  area : Bool := false
  odd : Bool := false
  gap : Bool := false
  deadline : Int := 0
  startAt : Nat := 0
  /-- R161: the strip is replaced by GAP lines. -/
  replaced : Bool := false
deriving DecidableEq, Repr

/-- R142 to R166, R197, R275: one runnel. -/
structure Runnel where
  /-- RN_STATUS.STATE: 0 idle, 1 loading, 2 running, 3 waiting for a line, 4 waiting for a map block. -/
  state : Nat := 0
  cur : Option Item := none
  next : Option Item := none
  /-- Context of the item before, for the count of switches. -/
  lastCtx : Option (Fin 64) := none
  lastGap : Bool := false
  curDl : Word := 0
  minSlack : Int := 0x7FFFFFFF
  switches : Nat := 0
  misses : Nat := 0
  mapTimeouts : Nat := 0
  stallCycles : Nat := 0
  /-- Tick since which the runnel waits for a map block; a block that has arrived for the next due strip. -/
  stallAt : Nat := 0
  mapReady : Bool := false
  /-- Item intervals that ended within the last 1 ms, and the peak of RN_LOAD, in per mille. -/
  busy : List (Nat × Nat) := []
  peakBusy : Nat := 0
  watched : Bool := false
  nrh : Nat := 0
  sat : Nat := 0
  clipped : Nat := 0
  replaced : Nat := 0
  unrepaired : Nat := 0
  bandGap : Nat := 0
  cacheCorr : Nat := 0
  lutCorr : Nat := 0
  corrCtx : Nat := 0
  corrBit : Nat := 0
  colRange : Nat := 0
  rowRange : Nat := 0
  rows : Nat := 0
  lateRows : Nat := 0
  gapRows : Nat := 0
  /-- R221: records that await publishing, the first being published. -/
  publish : List (Fin 64 × StatsRec) := []
  /-- View rows on their way to Confluence, oldest first. -/
  path : List ViewRow := []
deriving DecidableEq, Repr

/-- R251 to R253, R276: the row clock. Rows are counts K since the origin. -/
structure Grid where
  valid : Bool := false
  /-- The origin O without its wrap, and the one before the last step (R253). -/
  origin : Int := 0
  oldOrigin : Int := 0
  /-- The current row K. -/
  row : Int := 0
  /-- R276: GRID_STATE.STEPPED, and what a read of GRID_ROW latched. -/
  stepped : Bool := false
  latchHi : Half := 0
  latchTref : Word := 0
deriving DecidableEq, Repr

/-- R289, R291: a view row that Confluence accepted, with its device time of arrival. -/
structure Arrival where
  vr : ViewRow
  at_ : Int
deriving DecidableEq, Repr

/-- R285: a row that is being collected. -/
structure CollectRow where
  row : Int
  arrivals : List Arrival := []
  lateTie : Bool := false
deriving DecidableEq, Repr

/-- R285: a sealed row: its masks, the header flags the seal fixed, its device time and tick. -/
structure SealedRow where
  row : Int
  arrivals : List Arrival
  missing : Nat
  idle : Nat
  byDeadline : Bool
  lateTie : Bool
  time : Int
  at_ : Nat
deriving DecidableEq, Repr

/-- R295, R296: a released row: its header and the samples of each enabled channel. -/
structure MergedRow where
  row : Int
  mask : Nat
  missing : Nat
  idle : Nat
  hflags : Nat
  tref : Word
  latestSol : Word
  sealTime : Word
  arrived : Wide
  ids : List Half
  /-- Channel number and samples, in ascending channel order. -/
  cells : List (Nat × List Sample)
  /-- Tick of the release; the latest last-word instant of its lines (R29, R491). -/
  at_ : Nat
  foot : Option Int
deriving DecidableEq, Repr

/-- R277 to R300: Confluence. -/
structure Confluence where
  /-- CF_STATUS.STATE: 0 idle, 1 running, 2 draining. -/
  state : Nat := 0
  first : Int := 0
  oldest : Int := 0
  collecting : List CollectRow := []
  sealed : List SealedRow := []
  /-- Released rows that wait for the Weir. -/
  out : List MergedRow := []
  /-- R293: blocks in the staging buffer, oldest first: view, row and size; the peak fill. -/
  staged : List (Fin 64 × Int × Nat) := []
  peakStaging : Nat := 0
  releasedAt : Nat := 0
  /-- Highest row any view contributed to in this run. -/
  top : Int := 0
  preStart : Bool := false
  missingRows : Nat := 0
  lateDiscard : Nat := 0
  ahead : Nat := 0
  lateTies : Nat := 0
  nearSeal : Nat := 0
  conflicts : Nat := 0
  uncorr : Nat := 0
  corr : Nat := 0
  chanMissing : Vector Nat 16 := Vector.replicate 16 0
  lastIdle : Nat := 0
  lastMask : Nat := 0
  viewLast : Vector Word 64 := Vector.replicate 64 0
  /-- The last row each view delivered in this run, and on the odd path of a gang. -/
  prev : Vector (Option Int) 64 := Vector.replicate 64 none
  prevOdd : Vector (Option Int) 64 := Vector.replicate 64 none
  firstRow : Vector (Option Int) 64 := Vector.replicate 64 none
  /-- Rows sealed since the last view row of an expected view. -/
  quiet : Vector Nat 64 := Vector.replicate 64 0
  /-- R419: rows that are NEAR on this unit, newest first. -/
  nearRows : List Int := []
  silent : BitVec 64 := 0
deriving DecidableEq, Repr

/-- R313, R321: a piece with its launch descriptor: its bytes (SEQ is filled in when it is written), its storage offset
and its launch time without the wrap. -/
structure Piece where
  stream : Nat
  row : Word
  seq : Word := 0
  bytes : List Byte
  timed : Bool := false
  launch : Int := 0
  lastOfRow : Bool := false
  empty : Bool := false
  offset : Nat := 0
  /-- Tick at which it was committed, and the latest last-word instant of the row's lines (R491). -/
  at_ : Nat := 0
  foot : Option Int := none
deriving DecidableEq, Repr

/-- R301 to R322: the Weir. -/
structure Weir where
  /-- WR_STATUS.STATE: 0 idle, 1 learning, 2 gating. -/
  state : Nat := 0
  learnLeft : Nat := 0
  blind : Bool := false
  /-- R304: per slot and column, B and VALID. -/
  bg : List (List (Nat × Bool)) := []
  hold : List Nat := []
  run : List Nat := []
  relearn : Bool := false
  /-- R310: channel and polarity of the slots in use for the last row. -/
  slots : List (Nat × Nat) := []
  lastRow : Option Word := none
  lastSpans : Nat := 0
  lastOcc : Nat := 0
  rows : Nat := 0
  occSum : Nat := 0
  capped : Nat := 0
  limited : Nat := 0
  blindRows : Nat := 0
  stuck : Nat := 0
  clamped : Nat := 0
  selSlot : Nat := 0
  selCol : Nat := 0
  seqs : Vector Word 8 := Vector.replicate 8 0
  bytes : Vector Nat 8 := Vector.replicate 8 0
  /-- R576: ROW of the last piece each stream wrote. -/
  lastRows : Vector Word 8 := Vector.replicate 8 0xFFFFFFFF
  /-- Pieces of the row in work that are not yet written, and the tick since which the first is refused. -/
  held : List Piece := []
  refusedAt : Option Nat := none
  stalled : Bool := false
deriving DecidableEq, Repr

/-- R320 to R395: a Spillway launch queue. -/
structure LaunchQueue where
  /-- Oldest first, and how many of them the reader sees (R132). -/
  pieces : List Piece := []
  seen : Nat := 0
  /-- Next byte of frame storage. -/
  next : Nat := 0
  /-- R356: the tick since which the head is eligible and unlaunched; the queue is blocked by DRAIN_LIMIT. -/
  eligibleAt : Option Nat := none
  drained : Bool := false
  /-- R356: the row whose later pieces are discarded. -/
  dropRow : Option Word := none
  /-- R396: the framer found its pieces out of order. -/
  orderBad : Bool := false
  maxSlip : Nat := 0
  late : Nat := 0
deriving DecidableEq, Repr

/-- R324, R333, R335: one SerDes lane. -/
structure SLane where
  bad : Bool := false
  /-- R337: the mark stems from an earlier attempt. -/
  old : Bool := false
  /-- It has locked in the stage that runs. -/
  ready : Bool := false
  los : Bool := false
  lol : Bool := false
  eyeMui : Nat := 0
  eyeMv : Nat := 0
  lockLosses : Nat := 0
  bipErr : Nat := 0
  prbs : Nat := 0
deriving DecidableEq, Repr

/-- R334 to R341, R405: the training state of the Uahorn or the Gelain link. -/
structure Trainer where
  /-- R335: 0 DISABLED, 1 IDLE_WAIT, 2 POWER_UP, 3 BIT_LOCK, 4 BLOCK_LOCK, 5 ALIGN, 6 HANDSHAKE, 7 ACTIVE, 8 EIDLE,
  9 TEST. -/
  state : Nat := 0
  failStage : Nat := 0
  lateTie : Bool := false
  /-- Ticks of the start of the stage and of the attempt. -/
  stageAt : Nat := 0
  attemptAt : Nat := 0
  pllLocked : Bool := false
  /-- R334: the attempt waits for leave. -/
  waitLeave : Bool := false
  lanes : Vector SLane 18 := Vector.replicate 18 {}
  common : BitVec 18 := 0
  width : Nat := 0
  /-- Physical lane of each logical lane; 255 when unused. -/
  map : List Nat := List.range 16
  /-- R338: the last good HELLO of the partner in this handshake. -/
  hello : Option Hello := none
  /-- R339: the session of the partner last seen. -/
  partner : Half := 0
  /-- The attempt is a retrain (R341). -/
  retrain : Bool := false
deriving DecidableEq, Repr

/-- R347, R353: a sequenced frame in the replay buffer. -/
structure TxFrame where
  lseq : Half
  type : Nat
  chan : Nat
  payload : List Byte
  /-- R411: the epoch and identity of its first transmission. -/
  epoch : Half
  ident : Nat
  /-- Tick at which its last block was sent. -/
  sentAt : Nat
deriving DecidableEq, Repr

/-- R343: a rotation in progress: the logical lane ℓ, the lane L it is carried on, the spare S and the step. -/
structure Rotation where
  logical : Nat
  phys : Nat
  spare : Nat
  /-- 1 mirroring and waiting for READY, 3 waiting for the marker, 4 recalibrating, 5 returning, 6 waiting for the last
  marker. -/
  step : Nat
  since : Nat
deriving DecidableEq, Repr

/-- R324 to R361: the Uahorn link. -/
structure Link where
  tr : Trainer := {}
  rate : Nat := 3
  session : Half := 0
  spares : BitVec 18 := 0
  skew : Nat := 0
  /-- R353: next LSEQ sent, next LSEQ expected, the replay buffer, oldest first, the frames still to be resent and how
  often the oldest frame was replayed. -/
  nextTx : Half := 0
  nextRx : Half := 0
  replay : List TxFrame := []
  resend : Nat := 0
  replayCount : Nat := 0
  /-- R352: a NAK was sent since the last accepted frame, and its tick. -/
  nakAt : Option Nat := none
  /-- R351: cumulative limit and consumption of each class. -/
  limits : Vector Word 9 := Vector.replicate 9 0
  used : Vector Word 9 := Vector.replicate 9 0
  /-- R362: the tick since which a class with a frame waiting lacks credit. -/
  starved : Vector (Option Nat) 9 := Vector.replicate 9 none
  /-- Frames that wait: MBOX_ACKs (slot and SEQ), echoes (BEACON_SEQ, fraction, capture), a due STATUS; MB3 slots whose
  REPLY has been sent. -/
  acks : List (Nat × Word) := []
  echoes : List (Half × Byte × Word) := []
  statusDue : Bool := false
  /-- Tick of the last STATUS period. -/
  statusAt : Nat := 0
  replySent : List Nat := []
  /-- R355: launch queue served last. -/
  rr : Nat := 7
  drops : Word := 0
  /-- R491: the last row counted as egressed late. -/
  lateRow : Option Word := none
  qdrops : Vector Nat 8 := Vector.replicate 8 0
  attempts : Nat := 0
  retrains : Nat := 0
  retrainsTotal : Nat := 0
  replays : Nat := 0
  replaysTotal : Nat := 0
  rxBad : Nat := 0
  /-- R343, R344: the rotation in progress, logical lanes of the round still to come, the tick of the last round, and
  lanes recalibrated in it. -/
  rot : Option Rotation := none
  round : List Nat := []
  roundAt : Nat := 0
  roundAsked : Bool := false
  /-- R524: the figures of the lanes of the round. -/
  roundElems : List CalElem := []
  /-- R346: each direction's electrical idle, and the tick of the last traffic. -/
  txIdle : Bool := false
  rxIdle : Bool := false
  trafficAt : Nat := 0
  exitAt : Option Nat := none
  /-- R358: the test in progress; the tick of the last injection. -/
  test : Option TestReq := none
  injectAt : Option Nat := none
deriving DecidableEq, Repr

/-- R399: the twin states, in the order of their codes. -/
inductive TwinState where
  | single | forming | lead | leadAlone | shadow | shadowDetached | quarantine | admitting
deriving DecidableEq, Repr

/-- R420: the digest entry of one row, with the tick at which this unit formed or received it. -/
structure Digest where
  row : Word
  near : Bool
  noStreams : Bool
  arrived : Wide
  digest : Wide
  at_ : Nat
deriving DecidableEq, Repr

/-- R424: a mirrored command sent to the shadow whose acceptance has not arrived, with the reply that waits for it. -/
structure MirrorWait where
  port : Port
  seq : Word
  packet : List Byte
  /-- The mirror word, and the outcome the lead decided. -/
  word : Word
  decided : Word
  /-- Its outcome is decided, or it is forwarded: it may be sent. -/
  ready : Bool
  /-- None while it waits for an MB6 slot. -/
  sentAt : Option Nat := none
  reply : Option (Nat × Nat × List Byte × Nat) := none
deriving DecidableEq, Repr

/-- R426, R427: a swap that was asked for. -/
structure Swap where
  row : Word
  confirmed : Bool := false
  handover : Bool := false
  port : Option Port := none
deriving DecidableEq, Repr

/-- R417: a capture of a shadow that waits for the lead's tag. -/
structure TagWait where
  kind : Nat
  index : Nat
  num : Nat
  time : Word
  width : Word
  at_ : Nat
deriving DecidableEq, Repr

/-- R406: a frame sent on the Gelain link. -/
inductive GFrame where
  | heart (state flags cause : Nat) (row echoTx echoRx : Word)
  | digest (e : Digest)
  | tag (e : TagEntry)
  | cmd (slot : Nat) (mirror decided : Word) (packet : List Byte)
  | reply (slot : Nat) (packet : List Byte)
  | mboxAck (channel slot : Nat)
  | control (op : Nat) (row arg : Word)
  /-- R429: CONTROL ADMIT_ROW with the admission row and F_c of each context with temporal filtering. -/
  | admitRow (row : Word) (frames : List (Fin 64 × Word))
  | state (chunk : StateChunk)
deriving DecidableEq, Repr

/-- R399 to R432: twin operation. -/
structure Twin where
  state : TwinState := .single
  epoch : Half := 0
  partnerState : Option Nat := none
  partnerEpoch : Half := 0
  partnerIdent : Half := 0
  partnerSession : Option Half := none
  aloneCfg : Bool := false
  gelainUp : Bool := false
  hbAlive : Bool := false
  /-- Tick of the last good Gelain frame, and of the start of a joint loss. -/
  frameAt : Nat := 0
  jointAt : Option Nat := none
  /-- The decision timer runs (R404). -/
  deciding : Bool := false
  split : Bool := false
  lateTie : Bool := false
  formAt : Nat := 0
  formBlocked : Bool := false
  formConflict : Bool := false
  demoted : Bool := false
  cmpRow : Word := 0
  diverged : Nat := 0
  sealEdge : Nat := 0
  uncompared : Nat := 0
  tagMiss : Nat := 0
  dropped : Nat := 0
  mirrored : Nat := 0
  divergedBoot : Nat := 0
  sealBoot : Nat := 0
  /-- Compared rows since the last divergence, up to 256. -/
  cleanRows : Nat := 256
  /-- Offsets measured, newest first, in ps (R414). -/
  offsets : List Int := []
  timeOfs : Int := 0
  timeWarn : Bool := false
  /-- TX_TIME and arrival of the last HEART received. -/
  echoTx : Word := 0
  echoRx : Word := 0
  /-- R422: the last row of a realignment and, on the shadow, the tick since which its Weir is held. -/
  realign : Option Word := none
  /-- First and last row of the latest realignment (Settle), and whether a further one follows. -/
  settle : Option (Word × Word) := none
  again : Bool := false
  /-- R421: the row of a seal edge whose realignment has not begun. -/
  sealRow : Option Word := none
  holdSince : Option Nat := none
  swap : Option Swap := none
  /-- R428, R429: the admission row once fixed. -/
  admitting : Bool := false
  admitRow : Option Word := none
  own : List Digest := []
  theirs : List Digest := []
  mirrors : List MirrorWait := []
  tags : List TagWait := []
  /-- R417: tags of the lead that came before this unit's own capture, newest first. -/
  leadTags : List TagEntry := []
  /-- R428: a chunk failed once in the admission. -/
  chunkFailed : Bool := false
  /-- R428, R429: contexts that the joining unit has still to start, and F_c of each context with temporal filtering. -/
  joining : List (Fin 64) := []
  joinFrames : List (Fin 64 × Word) := []
  /-- R499: the tick at which the joining unit's requests for leave end. -/
  joinLimit : Option Nat := none
  /-- R422: the lead's Weir state that came before this unit's own row m. -/
  early : Option StateItem := none
  /-- R429: the first row that the pair compares. -/
  compareFrom : Option Word := none
deriving DecidableEq, Repr


/-- R449: one memory controller. -/
structure MemCtl where
  /-- MC_STATUS.STATE: 0 off, 1 training, 2 ready, 3 retraining slice, 4 self-refresh, 5 failed. -/
  state : Nat := 0
  /-- The channel is in the interleave set (R437). -/
  inUse : Bool := false
  /-- The channel failed a training step once (R436). -/
  retried : Bool := false
  derated : Bool := false
  repairPending : Bool := false
  mr4 : Byte := 0
  corr : Nat := 0
  uncorr : Nat := 0
  eccUncorr : Bool := false
  eccWord : Nat := 0
  passes : Nat := 0
  /-- R443: the next 64-byte line the scrubber reads, the tick its pass began, and the words with a correctable error in
  this pass and in the last. -/
  line : Nat := 0
  passAt : Nat := 0
  errs : List Nat := []
  lastErrs : List Nat := []
  /-- R440: slices still to run of the retraining in progress, whether one of them was rejected, and the tick of the
  last one. -/
  slicesLeft : Nat := 0
  sliceBad : Bool := false
  sliceAt : Nat := 0
  slices : Nat := 0
  maxStall : Nat := 0
deriving DecidableEq, Repr

/-- R435 to R448: the LPDDR6 memory as a whole. -/
structure MemSys where
  ctls : Vector MemCtl 6 := Vector.replicate 6 {}
  /-- R434, R435: N, the capacity of a channel in MiB, its ranks and the rate code in force; N is 0 without memory. -/
  n : Nat := 0
  capMib : Nat := 0
  ranks : Nat := 0
  rate : Nat := 0
  /-- R448: the planned load, per mille. -/
  planned : Nat := 0
deriving DecidableEq, Repr

/-- R454: a register set of a DMA channel. -/
structure DmaSet where
  src : Word := 0
  dst : Word := 0
  hi : Word := 0
  count : Word := 0
  ctrl : Word := 0
deriving DecidableEq, Repr

/-- R468: one DMA channel. -/
structure DmaChan where
  act : DmaSet := {}
  shadow : DmaSet := {}
  /-- 0 idle, 1 waiting for leave, 2 loading, 3 waiting for a request, 4 transferring, 5 pre-empted, 6 halted. -/
  state : Nat := 0
  /-- 0 none, 1 DONE, 2 ABORTED, 3 BUS_ERR, 4 DESC_ERR. -/
  result : Nat := 0
  loads : Nat := 0
  reversed : Bool := false
  shadowDropped : Bool := false
  tailErr : Bool := false
  /-- Bytes not yet issued for writing. -/
  residue : Nat := 0
  errAddr : Nat := 0
  errWrite : Bool := false
  errKind : Nat := 0
  errCode : Nat := 0
  /-- Bytes of the burst that runs, the tick it started, and the tick since which it waits. -/
  burst : Option Nat := none
  burstAt : Nat := 0
  /-- R461, R462: the bytes its buffer holds of that burst when it was read ahead. -/
  buf : Option (List Byte) := none
  waitAt : Option Nat := none
  /-- R462: a burst that was read ahead. -/
  prefetch : Option (List Byte) := none
  /-- R464: an abort waits for the end of the burst, since the tick. -/
  abortAt : Option Nat := none
  /-- Tick since which the channel is halted. -/
  haltAt : Nat := 0
deriving DecidableEq, Repr

/-- R451 to R469: the DMA engine. -/
structure DmaEngine where
  chans : Vector DmaChan 32 := Vector.replicate 32 {}
  /-- R453: the pending count of each request line. -/
  lines : Vector Nat 96 := Vector.replicate 96 0
  /-- DMA_RESULT. -/
  results : Word := 0
  preempts : Nat := 0
  drops : Nat := 0
  /-- R461: the channel served last. -/
  last : Nat := 31
deriving DecidableEq, Repr
/-- What the device last drove on an interface: the bytes returned on I3C, whether the last CCC or transfer was
acknowledged, the register captured by the test port, the last frame sent on each link. -/
structure Out where
  i3c : List Byte := []
  i3cAck : Bool := false
  jtag : BitVec 36 := 0
  uahorn : List Byte := []
  gelain : List GFrame := []
  ibi : Option Byte := none
  /-- The value an acquiring read of a semaphore returned (R92). -/
  sem : Word := 0
deriving DecidableEq, Repr

/-- The state of the block. -/
structure State where
  /-- Timebase ticks since the model began; not a register of the spec (log entry 4). -/
  now : Nat := 0
  sys : Sys := {}
  clock : Clock := {}
  trig : Triggers := {}
  win : Window := {}
  jtag : Jtag := {}
  /-- P0 to P3, then the executors of decided commands (R424). -/
  ports : Vector PortState 20 := Vector.replicate 20 {}
  /-- R38: the port accepted last. -/
  lastPort : Nat := 3
  mb : Mailbox := {}
  audit : Audit := {}
  recs : Records := {}
  ev : Events := {}
  pwr : Power := {}
  wh : Wellhead := {}
  nvm : Nvm := {}
  inlets : Vector Inlet 32 := Vector.replicate 32 {}
  queues : Vector PQueue 43 := Vector.replicate 43 {}
  ctxs : Vector CtxState 64 := Vector.replicate 64 {}
  expo : Exposure := {}
  stats : Vector StatsCtx 64 := Vector.replicate 64 {}
  sluice : Sluice := {}
  runnels : Vector Runnel 8 := Vector.replicate 8 {}
  carries : Vector Carry 64 := Vector.replicate 64 {}
  views : Vector ViewState 64 := Vector.replicate 64 {}
  /-- LPDDR6 (R434): the bytes that were written; every other byte reads 0 (log entry 5). -/
  lpddr : List Host.Cell := []
  grid : Grid := {}
  cf : Confluence := {}
  weir : Weir := {}
  spill : Vector LaunchQueue 8 := Vector.replicate 8 {}
  launched : Nat := 0
  link : Link := {}
  gl : Trainer := {}
  twin : Twin := {}
  mem : MemSys := {}
  dma : DmaEngine := {}
  out : Out := {}
  /-- The counter that names free values; not a register of the spec (log entry 3). -/
  freeCtr : Nat := 0
  /-- Commands waiting, first in, first out. -/
  pending : List Instr := []
deriving DecidableEq, Repr

/-- The machine right after reset, at the release of power-on reset: every field at its default above. -/
def State.reset : State := {}

end Sys2Proof.Machine
end

