-- ==== Sys2Proof/Machine/Ops.lean ====
section
/-!
DEFINITION. The named operations over memories, vectors of like parts, time and power domains.
-/
namespace Sys2Proof.Machine

/-! ### Sparse memories in canonical form -/

/-- A memory is a list of cells with strictly rising addresses and no cell equal to what `d` gives for its address. -/
def Memory.wf (d : Nat → Byte) : List Host.Cell → Bool
  | [] => true
  | [c] => c.2 != d c.1
  | c :: c' :: m => (c.2 != d c.1) && decide (c.1 < c'.1) && Memory.wf d (c' :: m)

/-- The byte at an address: the listed one, else the default. -/
def Memory.read (d : Nat → Byte) : List Host.Cell → Nat → Byte
  | [], a => d a
  | c :: m, a => if c.1 = a then c.2 else Memory.read d m a

/-- A write keeps the canonical form: writing the default removes the cell. -/
def Memory.write (d : Nat → Byte) : List Host.Cell → Nat → Byte → List Host.Cell
  | [], a, v => if v = d a then [] else [(a, v)]
  | c :: m, a, v =>
    if a < c.1 then (if v = d a then c :: m else (a, v) :: c :: m)
    else if a = c.1 then (if v = d a then m else (a, v) :: m)
    else c :: Memory.write d m a v

/-- Bytes written upward from an address. -/
def Memory.writeList (d : Nat → Byte) : List Host.Cell → Nat → List Byte → List Host.Cell
  | m, _, [] => m
  | m, a, v :: vs => Memory.writeList d (Memory.write d m a v) (a + 1) vs

/-- `n` bytes read upward from an address. -/
def Memory.readList (d : Nat → Byte) (m : List Host.Cell) (a : Nat) : Nat → List Byte
  | 0 => []
  | n + 1 => Memory.read d m a :: Memory.readList d m (a + 1) n

/-- The cells of `dst` with those of the range `[lo, hi)` replaced by the cells of `src`. -/
def Memory.copyRange (src dst : List Host.Cell) (lo hi : Nat) : List Host.Cell :=
  dst.filter (fun c => decide (c.1 < lo)) ++ src.filter (fun c => decide (lo ≤ c.1 ∧ c.1 < hi)) ++
    dst.filter (fun c => decide (hi ≤ c.1))

/-- The default of a memory whose unwritten bytes read 0. -/
def zeroByte (_ : Nat) : Byte := 0

/-! ### Vectors of like parts -/

/-- One part replaced by a function of it. -/
def upd {α : Type} {n : Nat} (v : Vector α n) (i : Fin n) (f : α → α) : Vector α n := v.set i (f v[i])

/-- Every part replaced by a function of it. -/
def updAll {α : Type} {n : Nat} (v : Vector α n) (f : Fin n → α → α) : Vector α n :=
  Vector.ofFn fun i => f i v[i]

/-- The numbers below `n`, as indices. -/
def fins (n : Nat) : List (Fin n) := List.finRange n

/-- The entry at a place of a list replaced by a function of it. -/
def updAt {α : Type} : List α → Nat → (α → α) → List α
  | [], _, _ => []
  | x :: xs, 0, f => f x :: xs
  | x :: xs, i + 1, f => x :: updAt xs i f

/-! ### Ticks and device time -/

/-- R365: ticks of the 400 MHz timebase in a number of nanoseconds, rounded up. -/
def ticksOfNs (ns : Nat) : Nat := ceilDiv (ns * 2) 5

/-- R365: ticks in a number of microseconds. -/
def ticksOfUs (us : Nat) : Nat := us * 400

/-- R365: ticks in a number of milliseconds. -/
def ticksOfMs (ms : Nat) : Nat := ms * 400000

/-- R494: a power domain is ON. -/
def State.domOn (s : State) (d : Fin 22) : Bool := s.pwr.doms[d].state == .on

/-- R363: `dt` ticks pass. While PD02 is ON, INCR is added to TIME:FRAC on each. -/
def State.advance (s : State) (dt : Nat) : State :=
  if s.domOn 2 then
    let total : Int := s.clock.ext * 2 ^ 24 + s.clock.frac + dt * s.clock.incr.toNat
    { s with
      now := s.now + dt
      clock := { s.clock with ext := total / 2 ^ 24, frac := (total % 2 ^ 24).toNat } }
  else { s with now := s.now + dt }

/-- TIME: device time modulo 2^32 (R363). -/
def State.time (s : State) : Word := BitVec.ofInt 32 s.clock.ext

/-- The 32-bit pattern of a device time held without its wrap. -/
def time32 (t : Int) : Word := BitVec.ofInt 32 t

/-- R14: of the device times with this 32-bit pattern, the one nearest the present. -/
def State.extend (s : State) (t : Word) : Int := s.clock.ext + (t - s.time).toInt

/-- R14: `b` lies behind `a` by less than half of a `w`-bit counter's range. -/
def behind (w b a : Nat) : Bool := decide ((a + 2 ^ w - b % 2 ^ w) % 2 ^ w < 2 ^ (w - 1))

/-- R17, R207, R286: `t` fell in the tick that has just passed. -/
def State.inThisTick (s : State) (t : Int) : Bool :=
  decide (t ≤ s.clock.ext) &&
    decide (s.clock.ext * 2 ^ 24 + s.clock.frac - s.clock.incr.toNat < t * 2 ^ 24)

/-- The free-value counter moved on by one. -/
def State.nextFree (s : State) : State := { s with freeCtr := s.freeCtr + 1 }

/-- R9, R68: which audit `WRAP` a stamp takes. -/
def State.wrapNow (s : State) : Half := s.clock.wrap

end Sys2Proof.Machine
end

