-- ==== Sys2Proof/Machine/Operands.lean ====
section
/-!
DEFINITION. Operand forms: little-endian fields of packets (R5), the CRC-32C of R52, and the fields of records.
-/
namespace Sys2Proof.Machine

/-! ### Little-endian fields -/

/-- `n` bytes of a number, least significant first. -/
def leBytes : Nat → Nat → List Byte
  | 0, _ => []
  | n + 1, x => BitVec.ofNat 8 x :: leBytes n (x / 256)

/-- The number that a list of bytes spells, least significant first. -/
def leNat : List Byte → Nat
  | [] => 0
  | b :: bs => b.toNat + 256 * leNat bs

/-- The number in `n` bytes at an offset; bytes past the end read 0 (R50). -/
def field (bs : List Byte) (off n : Nat) : Nat := leNat ((bs.drop off).take n)

/-- The 32-bit field at an offset. -/
def word (bs : List Byte) (off : Nat) : Word := BitVec.ofNat 32 (field bs off 4)

/-- The 16-bit field at an offset. -/
def half (bs : List Byte) (off : Nat) : Half := BitVec.ofNat 16 (field bs off 2)

/-- The byte at an offset. -/
def byteAt (bs : List Byte) (off : Nat) : Byte := bs.getD off 0

/-- The four bytes of a word. -/
def leWord (w : Word) : List Byte := leBytes 4 w.toNat

/-- The two bytes of a half-word. -/
def leHalf (h : Half) : List Byte := leBytes 2 h.toNat

/-- A list cut or filled with zeros to a length. -/
def padTo (n : Nat) (bs : List Byte) : List Byte := (bs ++ List.replicate (n - bs.length) 0).take n

/-- A list filled with zeros to a multiple of 4. -/
def pad4 (bs : List Byte) : List Byte := bs ++ List.replicate ((4 - bs.length % 4) % 4) 0

/-- A byte written into a list at an index; bytes between its end and the index become 0. -/
def putByte : List Byte → Nat → Byte → List Byte
  | [], 0, v => [v]
  | [], i + 1, v => 0 :: putByte [] i v
  | _ :: bs, 0, v => v :: bs
  | b :: bs, i + 1, v => b :: putByte bs i v

/-! ### CRC-32C -/

/-- One bit of the reflected CRC with polynomial 0x1EDC_6F41 (R52). -/
def crcBit (c : BitVec 32) : BitVec 32 := if c.getLsbD 0 then (c >>> 1) ^^^ 0x82F63B78#32 else c >>> 1

/-- One byte of the CRC. -/
def crcByte (c : BitVec 32) (b : Byte) : BitVec 32 :=
  crcBit (crcBit (crcBit (crcBit (crcBit (crcBit (crcBit (crcBit (c ^^^ b.setWidth 32))))))))

/-- R52: the CRC-32C of a list of bytes. -/
def crc32c (bs : List Byte) : Word := (bs.foldl crcByte 0xFFFFFFFF#32) ^^^ 0xFFFFFFFF#32

/-! ### Record fields -/

/-- A field of a record: where it lies, how often it repeats, the ranges it accepts (R10) and its reset value. -/
structure Fld where
  off : Nat
  size : Nat
  ranges : List (Int × Int)
  reset : Int := 0
  signed : Bool := false
  /-- The value must be a multiple of this. -/
  step : Nat := 1
  count : Nat := 1
  stride : Nat := size
  /-- What the reset value grows by from one repetition to the next. -/
  ramp : Int := 0
deriving DecidableEq, Repr

/-- An unsigned field with one range. -/
def fu (off size : Nat) (lo hi : Nat) (reset : Nat := 0) : Fld := { off, size, ranges := [(lo, hi)], reset }

/-- A signed field with one range. -/
def fs (off size : Nat) (lo hi : Int) (reset : Int := 0) : Fld :=
  { off, size, ranges := [(lo, hi)], reset, signed := true }

/-- A field of any value. -/
def fany (off size : Nat) (reset : Nat := 0) : Fld := { off, size, ranges := [(0, 2 ^ (8 * size) - 1)], reset }

/-- The field repeated `count` times at a distance. -/
def Fld.rep (f : Fld) (count stride : Nat) (ramp : Int := 0) : Fld := { f with count, stride, ramp }

/-- A byte offset lies in the field; the place in its repetition when it does. -/
def Fld.covers (f : Fld) (a : Nat) : Bool :=
  decide (f.off ≤ a ∧ (a - f.off) / f.stride < f.count ∧ (a - f.off) % f.stride < f.size)

/-- The value of the field as the record's range table counts it. -/
def Fld.value (f : Fld) (raw : Nat) : Int := if f.signed then signedOf (8 * f.size) raw else raw

/-- R10: the value lies in one of the field's ranges. -/
def Fld.good (f : Fld) (raw : Nat) : Bool :=
  f.ranges.any (fun r => decide (r.1 ≤ f.value raw ∧ f.value raw ≤ r.2)) && decide (raw % f.step = 0)

/-- Address of a byte of a record in the pending and active stores. -/
def recAddr (id inst off : Nat) : Nat := (id * 65536 + inst) * 131072 + off

end Sys2Proof.Machine
end

