-- ==== Sys2Proof/Machine/RecordTable.lean ====
section
/-!
DEFINITION. The record table: for every record the spec gives, its size, its instances and its fields with their ranges
and reset values, and the reading and writing of the pending and active copies (R10 to R16, R62 to R64).
-/
namespace Sys2Proof.Machine

/-- R470, R126, R166, R198, R226, R250, R300, R323, R362, R396, R433, R450, R469, R491: the reset severities of a
block's defined sources, bit 0 first. -/
def resetSeverities (block : Nat) : List Nat :=
  if block < 32 then [2, 1, 0, 1, 0, 1, 1, 1, 2, 1, 1, 1, 2, 0, 2, 2, 0, 1, 3, 2]
  else if block < 40 then [1, 1, 1, 0, 2, 2, 2, 2, 0, 3, 1, 3, 0, 1, 1, 1, 0, 3, 3, 1, 1, 1, 1, 3]
  else if block < 46 then [2, 0, 0, 2, 1, 0, 1, 1, 3, 0, 1, 2, 2, 1, 1, 3]
  else match block with
    | 46 => [2, 1, 0, 0, 2, 0, 3, 3, 0, 0, 1, 1, 1, 2, 0, 2, 3, 2, 1, 0, 0, 0, 0, 0, 0, 0, 1, 1, 3, 3, 3, 3]
    | 47 => [2, 1, 0, 0, 2, 0, 1, 1, 0, 1, 3, 3, 3, 3, 0, 1, 1, 1, 0, 0, 1, 1, 0, 0, 0, 0, 1, 3, 3, 3, 3, 3]
    | 48 => [0, 2, 1, 1, 3, 1, 2, 1, 1, 1, 0, 1, 1, 1, 1, 0, 1, 2, 1, 2, 2, 0, 0, 1, 1, 0, 1, 0, 1, 0, 3, 3]
    | 49 => [0, 2, 2, 2, 2, 1, 2, 1, 2, 1, 2, 0, 2, 1, 0, 2, 1, 1, 2, 2, 1, 0, 1, 0, 0, 1, 2, 1, 1, 2, 1, 3]
    | 50 => [1, 1, 1, 2, 2, 0, 1, 1, 2, 0, 1, 2, 0, 0, 1, 1, 1, 1, 0, 1, 3, 2, 3, 0, 1, 1, 2, 1, 0, 0, 0, 1]
    | 51 => [1, 1, 2, 2, 1, 0, 0, 2, 2, 2, 0, 0, 2, 2, 2, 1, 1, 0, 1, 1, 0, 0, 0, 0, 1, 0, 3, 3, 3, 3, 3, 3]
    | 52 => [0, 2, 3, 1, 1, 0, 0, 1, 1, 1, 1, 1, 2, 3, 2, 2, 1, 1, 2, 1, 0, 1, 0, 2, 0, 3, 2, 0, 2, 1, 1, 3]
    | _ => []

/-- R471: the bits of a block that its source table defines. -/
def definedMask (block : Nat) : Word := BitVec.ofNat 32 (2 ^ (resetSeverities block).length - 1)

/-- R481: the severity record of a block: a byte for each defined bit. -/
def severityFields (block : Nat) : List Fld :=
  (resetSeverities block).mapIdx fun b sev => fu b 1 (if sev = 3 then 2 else 0) 3 sev

/-- R482: the event control record. -/
def eventControlFields : List Fld := [fu 0 1 1 3 2, fu 1 1 0 7 1]

/-- R506: the power record. -/
def powerFields : List Fld :=
  [fu 0 2 200 1240 1100, fu 2 2 1 65535 1000, fu 4 4 0 0x3FFFFF 0x3FFFFF, fu 8 1 0 7 3, fu 9 1 0 7 2]

/-- R511: the reset contents of a Wellhead rule: ENABLE, INPUT, CMP, ACTIONS, THRESH, THRESH2, HYST, EVENT, HOLD_US,
WAKE_DOMAINS. The windows of rules 3 to 9 are the nominal
voltages of R550 within 5 %, in whole mV. -/
def wellheadReset (rule : Nat) : List Int :=
  let rail (input low high : Int) : List Int := [1, input, 2, 1, low, high, 10, 3, 20, 0]
  match rule with
  | 0 => [1, 24, 0, 1, 920, 0, 40, 1, 0, 0]
  | 1 => [1, 24, 0, 3, 1000, 0, 40, 2, 0, 0]
  | 2 => [1, 25, 0, 9, 64, 0, 0, 4, 0, 0]
  | 3 => rail 32 713 787
  | 4 => rail 33 760 840
  | 5 => rail 34 713 787
  | 6 => rail 35 855 945
  | 7 => rail 36 475 525
  | 8 => rail 37 998 1052
  | 9 => rail 38 1710 1890
  | 10 => [1, 41, 3, 4, 0, 0, 0, 0, 0, 14]
  | _ => [0, 0, 0, 0, 0, 0, 0, 0, 0, 0]

/-- R509: a Wellhead rule record. -/
def wellheadFields (rule : Nat) : List Fld :=
  let r := (wellheadReset rule)
  let v (i : Nat) : Int := r.getD i 0
  [{ off := 0, size := 1, ranges := [(0, 1)], reset := v 0 },
   { off := 1, size := 1, ranges := [(0, 25), (32, 38), (40, 42)], reset := v 1 },
   { off := 2, size := 1, ranges := [(0, 3)], reset := v 2 },
   { off := 3, size := 1, ranges := [(0, 15)], reset := v 3 },
   { off := 4, size := 2, ranges := [(-32768, 32767)], reset := v 4, signed := true },
   { off := 6, size := 2, ranges := [(-32768, 32767)], reset := v 5, signed := true },
   { off := 8, size := 2, ranges := [(0, 2000)], reset := v 6 },
   { off := 10, size := 1, ranges := [(0, 4)], reset := v 7 },
   { off := 12, size := 4, ranges := [(0, 1000000)], reset := v 8 },
   { off := 16, size := 4, ranges := [(0, 0x3FFFFF)], reset := v 9 }]

/-- R368: the timebase record. -/
def timebaseFields : List Fld :=
  [fu 0 2 0 16383, fu 2 1 0 1, fu 4 4 100 1000000 10000, fu 8 4 100 1000000 1000]

/-- R379: an output record. -/
def outputFields : List Fld := [fu 0 1 0 1, fu 1 1 0 1 1, fu 2 1 0 1 1]

/-- R386: an EVIN record. -/
def evinFields : List Fld := [fu 0 1 0 1, fu 1 1 1 3 1, fu 2 1 0 255 4]

/-- R389: a Spillway queue record. -/
def spillwayFields : List Fld :=
  [fu 0 1 0 1, fu 1 1 50 100 90, fu 4 4 0 1000000000, fu 8 4 100 100000 1000]

/-- R401: the twin record. -/
def twinFields : List Fld :=
  [fu 0 2 50 1000 100, fu 2 1 0 1, fu 3 1 0 1 1, fu 4 2 4 4096 64, fu 6 2 500 20000 5000, fu 8 2 10 10000 1000,
   fu 10 1 5 40 20]

/-- R121: a port record. -/
def portFields : List Fld :=
  [fu 0 1 0 2, { off := 1, size := 1, ranges := [(1, 4)], reset := 4 }, fu 2 1 0 1, fu 3 1 0 1, fu 4 4 80 9000 1500,
   fu 8 4 0 0xFFF 0x688, fu 12 4 0 0x1FF, fu 16 2 50 95 75]

/-- R122: a sensor profile record. -/
def profileFields : List Fld :=
  [fu 0 1 0 2, fu 1 1 1 4 1, fu 2 1 0 3, fu 3 1 0 2, fu 4 2 0 127, fu 6 1 0 31, fu 8 4 0 10000000, fu 12 4 0 1000000,
   fu 16 4 0 1000000, fu 20 4 100 10000000 10000, fany 24 2, fany 26 1, fu 27 1 0 1]

/-- R123: a context record. -/
def contextFields : List Fld :=
  [fu 0 1 0 1, fu 1 1 0 31, fu 2 1 0 15,
   { off := 3, size := 1, ranges := [(0x27, 0x27), (0x2A, 0x2F)], reset := 0x2C }, fu 4 2 0 63,
   { off := 6, size := 2, ranges := [(0, 0), (32, 16384)], step := 32 },
   { off := 8, size := 2, ranges := [(16, 32768)], reset := 4096, step := 4 },
   { off := 10, size := 2, ranges := [(0, 32752)], step := 2 },
   { off := 12, size := 2, ranges := [(16, 16384)], reset := 4096, step := 2 }, fu 14 1 0 1, fu 15 1 0 3,
   { off := 16, size := 4, ranges := [(0, 0), (1000, 10000000)] }]

/-- R202: an exposure template record. -/
def templateFields : List Fld :=
  [fu 0 1 0 8, fu 1 1 0 1, fany 2 2, fany 4 1 1, fany 5 1, fu 8 4 1 100000000 1000000, fu 12 4 1 0xFFFFFFFF 0xFFFF,
   fany 16 4 0xFF, (fany 24 2).rep 8 8, (fu 26 1 1 4 1).rep 8 8, (fu 27 1 0 2).rep 8 8, (fu 28 1 0 31).rep 8 8,
   (fany 30 2).rep 8 8]

/-- R218: a statistics record. -/
def statsFields : List Fld :=
  [fu 0 1 0 1, fu 1 1 0 24 12, fu 2 1 1 16 8, fu 3 1 1 8 1, fany 4 4, fu 8 2 32 65535 1024]

/-- R229: a routing record. -/
def routingFields : List Fld :=
  [fu 0 1 0 1, fu 1 1 0 31, fu 2 1 0 2, fu 3 1 0x08 0x77 0x10, fu 4 1 0x08 0x3D 0x08, fu 5 1 1 2 2, fany 8 4, fany 12 2]

/-- R228: a bus record. -/
def busFields : List Fld :=
  [fu 0 1 0 2, fu 1 1 0 1, fu 2 1 0 3 2, fu 4 2 10 12500 400, fu 6 2 100 2500 1000, fu 8 2 200 20000 1750,
   fu 10 2 1 1000 10, fu 12 4 10 100000 1000, fu 16 4 10 1000000 25000]

/-- R144: a runnel binding record. -/
def bindingFields : List Fld :=
  [fu 0 1 0 7, fu 1 1 0 1, { off := 4, size := 4, ranges := [(0, 0), (100, 10000000)] }, fu 8 4 0 1000000 30000,
   fu 12 4 50 100000 1000]

/-- R164: a runnel record. -/
def runnelFields : List Fld := [fu 0 1 0 1 1, fu 1 1 50 100 90, fu 2 2 1 1000 20, fu 4 4 1 1000 20]

/-- R192: a correction record. -/
def correctionFields : List Fld :=
  [fu 0 1 0 31 0x1D, fu 1 1 0 128 128, fu 2 1 0 254 32, fu 3 1 1 255 48, fany 4 1 32, fu 5 1 1 255 64, fany 6 1 48,
   fu 7 1 1 4 2, fu 8 4 0 16777215, (fany 12 4).rep 4 4, fany 28 4, (fu 32 4 0 0x00FFFFFF 0x00010000).rep 4 4,
   fu 48 2 1 65535 0x1000, fany 50 2 0x0200, fany 52 4,
   { off := 56, size := 2, ranges := [(0, 127), (65535, 65535)], reset := 65535 }, fu 58 1 0 3,
   (fs 60 2 (-8192) 0).rep 4 2, { fany 68 4 with step := 4096 }, fu 72 1 0 11]

/-- R193: a LUT record. -/
def lutFields : List Fld := [fu 0 1 10 22 12, (fany 4 4).rep 1024 4 4096]

/-- R194: a map header record. -/
def mapFields : List Fld :=
  [fu 0 1 0 2, fu 1 1 0 1, fu 2 1 1 4 1, fu 4 2 16 16384 4096,
   { off := 6, size := 2, ranges := [(1, 1), (32, 16384)], reset := 1 }, fu 8 4 0 10000000,
   { fany 12 4 with step := 4096 }, fu 16 1 0 11, fany 20 4]

/-- R251: the grid record. -/
def gridFields : List Fld :=
  [fu 0 2 16 16384 4096, fu 4 4 62500 2000000 250000, fs 8 4 (-2000000000) 2000000000,
   fu 12 4 4266667 2560000000 18560000, fany 16 4, fu 20 4 0 2000000 150000]

/-- R254: the trajectory record. -/
def trajectoryFields : List Fld :=
  [fu 0 4 100000 20000000 3000000, fu 4 4 0 15000000 9500000, (fs 32 2 (-32768) 32767).rep 16384 2]

/-- R256: a view record. -/
def viewFields : List Fld :=
  [fu 0 1 0 1, fu 1 1 0 1, fu 2 1 0 3, fu 3 1 0 3, fu 4 2 0 16383, fu 6 2 1 16384 4096, fu 8 4 0 2000000 150000,
   fs 12 4 (-2560000) 0, (fs 16 2 (-32768) 32767).rep 4 2, (fs 24 2 (-8192) 8191).rep 4 2]

/-- R257: a geometry map record. -/
def geometryFields : List Fld := [(fany 0 4 0x000FFFFF).rep 16384 4]

/-- R259: a filter record of `p` phases. -/
def filterFields (p : Nat) : List Fld :=
  let c (k : Nat) (reset : Int) (ramp : Int) : Fld := (fs (2 * k) 2 (-32768) 32767 reset).rep p 8 ramp
  [c 0 0 0, c 1 16384 (-(16384 / p : Nat)), c 2 0 (16384 / p : Nat), c 3 0 0]

/-- R297: the Confluence record. -/
def confluenceFields : List Fld :=
  [fu 0 4 0 60000000 30000000, { fany 4 4 with step := 4096 }, fu 8 1 0 11,
   { off := 12, size := 4, ranges := [(0, 50331648)], step := 4 }, fu 16 4 0 1000000 2000]

/-- R277: a channel record. -/
def channelFields : List Fld :=
  [fu 0 1 0 1, fu 1 1 0 1, fu 2 1 0 1, fu 3 1 1 8 1, fu 4 2 1 512 64, fu 6 1 0 3, fany 7 1, (fu 8 1 0 63).rep 8 4,
   (fu 9 1 0 3).rep 8 4]

/-- R303: the Weir record. -/
def weirFields : List Fld :=
  [fu 0 1 0 4 1, fany 1 1 4, fany 2 1 8, fu 3 1 1 16 1, fu 4 2 16 16384 1024, fany 6 1,
   { off := 7, size := 1, ranges := [(0, 15), (255, 255)], reset := 8 }, fu 8 1 0 15 4, fu 9 1 0 1 1, fany 10 2 256,
   fu 12 4 0 1000000 60000, fu 16 1 1 100 50, (fu 20 1 0 15).rep 4 8, (fu 21 1 0 2).rep 4 8, (fany 24 4 0x10000).rep 4 8]

/-- R302: a stream record. -/
def streamFields : List Fld :=
  [fu 0 1 0 1, fu 1 1 0 3, fu 2 1 0 1 1, fu 3 1 0 1, fu 4 2 1 0xFFFF 1, fs 6 1 (-24) 16,
   { off := 8, size := 2, ranges := [(1024, 16384)], reset := 16384, step := 64 }]

/-- R327: the link record. -/
def linkFields : List Fld :=
  [fu 0 1 0 1, fu 1 1 0 3 3, { off := 2, size := 1, ranges := [(4, 4), (8, 8), (16, 16)], reset := 16 }, fu 3 1 0 1,
   fu 4 2 1 1000 10, fu 6 2 500 20000 2000, { off := 8, size := 4, ranges := [(0, 0), (10, 86400)], reset := 600 },
   fu 12 2 10 65535 100, { off := 14, size := 2, ranges := [(0, 0), (100, 60000)], reset := 1000 },
   fu 16 4 100 1000000 2000, fu 20 2 100 700 300, fu 22 2 10 200 30]

/-- R438: the memory record. -/
def memoryFields : List Fld :=
  [{ off := 0, size := 1, ranges := [(0x03, 0x03), (0x0F, 0x0F), (0x3F, 0x3F)], reset := 0x3F }, fu 1 1 0 4 4, fu 2 1 1 255 12,
   fu 3 1 30 90 70, fu 4 1 30 90 60, fu 5 1 0 1 1, fu 8 4 500 20000 2000]

/-- R447: a region record. -/
def regionFields : List Fld :=
  [fu 0 1 0 1, fu 1 1 0 3, { fany 4 4 with step := 4096 }, fu 8 1 0 11,
   { off := 12, size := 4, ranges := [(4, 50331648)], reset := 4, step := 4 }]

/-- The size in bytes and the number of instances of a record; 0 instances stand for the one instance 0xFFFF. None: no
such record. -/
def recShape (id : Nat) : Option (Nat × Nat) :=
  match id with
  | 0x0E01 => some (32, 53)
  | 0x0E02 => some (4, 0)
  | 0x0F01 => some (12, 0)
  | 0x0F02 => some (20, 32)
  | 0x0D01 => some (12, 0)
  | 0x0D02 => some (4, 48)
  | 0x0D03 => some (4, 8)
  | 0x0A01 => some (12, 8)
  | 0x0C01 => some (12, 0)
  | 0x0203 => some (20, 32)
  | 0x0202 => some (32, 64)
  | 0x0201 => some (20, 64)
  | 0x0401 => some (88, 64)
  | 0x0402 => some (12, 64)
  | 0x0301 => some (16, 64)
  | 0x0302 => some (12, 8)
  | 0x0303 => some (76, 64)
  | 0x0304 => some (4100, 64)
  | 0x0305 => some (24, 128)
  | 0x0701 => some (24, 0)
  | 0x0702 => some (32800, 0)
  | 0x0703 => some (36, 64)
  | 0x0704 => some (65536, 64)
  | 0x0705 => some (512, 4)
  | 0x0706 => some (256, 4)
  | 0x0801 => some (20, 0)
  | 0x0802 => some (40, 16)
  | 0x0501 => some (16, 128)
  | 0x0502 => some (20, 32)
  | 0x0901 => some (52, 0)
  | 0x0902 => some (12, 8)
  | 0x0B01 => some (24, 0)
  | 0x0110 => some (12, 0)
  | 0x0111 => some (16, 16)
  | _ => none

/-- The fields of a record. -/
def fieldsOf (id inst : Nat) : List Fld :=
  match id with
  | 0x0E01 => severityFields inst
  | 0x0E02 => eventControlFields
  | 0x0F01 => powerFields
  | 0x0F02 => wellheadFields inst
  | 0x0D01 => timebaseFields
  | 0x0D02 => outputFields
  | 0x0D03 => evinFields
  | 0x0A01 => spillwayFields
  | 0x0C01 => twinFields
  | 0x0203 => portFields
  | 0x0202 => profileFields
  | 0x0201 => contextFields
  | 0x0401 => templateFields
  | 0x0402 => statsFields
  | 0x0301 => bindingFields
  | 0x0302 => runnelFields
  | 0x0303 => correctionFields
  | 0x0304 => lutFields
  | 0x0305 => mapFields
  | 0x0701 => gridFields
  | 0x0702 => trajectoryFields
  | 0x0703 => viewFields
  | 0x0704 => geometryFields
  | 0x0705 => filterFields 64
  | 0x0706 => filterFields 32
  | 0x0801 => confluenceFields
  | 0x0802 => channelFields
  | 0x0501 => routingFields
  | 0x0502 => busFields
  | 0x0901 => weirFields
  | 0x0902 => streamFields
  | 0x0B01 => linkFields
  | 0x0110 => memoryFields
  | 0x0111 => regionFields
  | _ => []

/-- The record and instance exist (R62). -/
def recExists (id inst : Nat) : Bool :=
  match recShape id with
  | none => false
  | some (_, n) => if n = 0 then inst = 65535 else inst < n

/-- The size of a record. -/
def recSize (id : Nat) : Nat := match recShape id with | none => 0 | some (n, _) => n

/-- The byte at an offset of a record's reset image; a byte in no field is reserved and reads 0 (R6). -/
def resetByte (id inst off : Nat) : Byte :=
  match (fieldsOf id inst).find? (·.covers off) with
  | none => 0
  | some f => BitVec.ofNat 8 (wrapOf (8 * f.size) (f.reset + f.ramp * ((off - f.off) / f.stride : Nat)) / 256 ^ ((off - f.off) % f.stride))

/-- What an unlisted byte of the pending and active stores reads as: the reset image. -/
def recDefault (a : Nat) : Byte := resetByte (a / 131072 / 65536) (a / 131072 % 65536) (a % 131072)

/-- `n` bytes of a record copy. -/
def recBytes (m : List Host.Cell) (id inst off n : Nat) : List Byte := Memory.readList recDefault m (recAddr id inst off) n

/-- An unsigned field of a record copy. -/
def recU (m : List Host.Cell) (id inst off n : Nat) : Nat := leNat (recBytes m id inst off n)

/-- A signed field of a record copy. -/
def recS (m : List Host.Cell) (id inst off n : Nat) : Int := signedOf (8 * n) (recU m id inst off n)

/-- An unsigned field of the active copy. -/
def State.au (s : State) (id inst off n : Nat) : Nat := recU s.recs.active id inst off n

/-- A signed field of the active copy. -/
def State.as (s : State) (id inst off n : Nat) : Int := recS s.recs.active id inst off n

/-- R6, R62: the data of a REC_WRITE with its reserved bytes left out, as cells to write. -/
def recCells (id inst off : Nat) : List Byte → List (Nat × Byte)
  | [] => []
  | b :: bs =>
    if (fieldsOf id inst).any (·.covers off) then (recAddr id inst off, b) :: recCells id inst (off + 1) bs
    else recCells id inst (off + 1) bs

/-- Cells written in order. -/
def writeCells (d : Nat → Byte) (m : List Host.Cell) (cs : List (Nat × Byte)) : List Host.Cell :=
  cs.foldl (fun m c => Memory.write d m c.1 c.2) m

/-- R10: the offset of the first field in the written data whose value is out of its range. -/
def badField (fields : List Fld) (off : Nat) (data : List Byte) : Nat → Option Nat
  | 0 => none
  | n + 1 =>
    let k := data.length - (n + 1)
    let a := off + k
    match fields.find? (·.covers a) with
    | none => badField fields off data n
    | some f =>
      if (a - f.off) % f.stride = 0 ∧ f.good (leNat ((data.drop k).take f.size)) = false then some a
      else badField fields off data n

/-- The pending copy of a record with data written. -/
def State.writePending (s : State) (id inst off : Nat) (data : List Byte) : State :=
  { s with recs := { s.recs with pending := writeCells recDefault s.recs.pending (recCells id inst off data) } }

/-- R483, R505: a field written into both copies together. -/
def State.writeBoth (s : State) (id inst off : Nat) (data : List Byte) : State :=
  { s with recs := { s.recs with
      pending := Memory.writeList recDefault s.recs.pending (recAddr id inst off) data
      active := Memory.writeList recDefault s.recs.active (recAddr id inst off) data } }

/-- R13: the pending copy of a record taken over into the active store. -/
def activateRec (r : Records) (p : Nat × Nat) : List Host.Cell :=
  Memory.copyRange r.pending r.active (recAddr p.1 p.2 0) (recAddr p.1 p.2 (recSize p.1))

/-- The active store as it would be with the pending copies of all named records taken over. -/
def activated (r : Records) : List (Nat × Nat) → List Host.Cell
  | [] => r.active
  | p :: ps => activated { r with active := activateRec r p } ps

/-- The rows whose reference time has come still decide which copy is active (R13): a boundary that has passed. -/
def RowSwitch.passed (w : RowSwitch) (row : Int) : Bool := decide (w.boundary ≤ row)

/-- R11, R13: the contents of a record for grid row K. -/
def State.rowRec (s : State) (k : Int) (id inst : Nat) : List Host.Cell :=
  match s.recs.rows.find? fun w => decide (k < w.boundary) && w.pairs.contains (id, inst) with
  | some w => w.old
  | none => match s.recs.rows.reverse.find? fun w => w.pairs.contains (id, inst) && !w.passed s.grid.row with
    | some w => w.new
    | none => s.recs.active

/-- R270: the contents of a record for a column that has reached generation `g` of row boundaries. -/
def State.genRec (s : State) (g : Nat) (id inst : Nat) : List Host.Cell :=
  match s.recs.rows.find? fun w => decide (g < w.serial) && w.pairs.contains (id, inst) with
  | some w => w.old
  | none => match s.recs.rows.reverse.find? fun w => w.pairs.contains (id, inst) && !w.passed s.grid.row with
    | some w => w.new
    | none => s.recs.active

/-- R151: the contents of a record for the item of a context at frame or line `n`. -/
def State.itemRec (s : State) (c : Nat) (n : Word) (id inst : Nat) : List Host.Cell :=
  match s.recs.frames.find? fun w => w.ctx == c && w.pairs.contains (id, inst) && !behind 32 w.boundary.toNat n.toNat with
  | some w => w.old
  | none => s.recs.active

/-! ### Calibration values in use -/

/-- R517, R518: what a byte of the item data of a set holds as it comes from the factory: the LIMITS item of R519; the
DESKEW item with every starting tap in the middle and no spare segment in use; every other item is 0 (log entry 6).
Offsets are those of the exported set. -/
def calFactory (a : Nat) : Byte :=
  match a with
  | 9740 => 250 | 9742 => 16 | 9743 => 4 | 9744 => 24 | 9745 => 48 | 9746 => 250 | 9748 => 30 | 9750 => 50
  | 9752 => 20 | _ => if 304 ≤ a ∧ a < 560 then (if a % 2 = 0 then 32 else 255) else 0

/-- R518: the item at an offset is a factory item. -/
def factoryItem (off : Nat) : Bool :=
  decide (off < 296) || decide (5544 ≤ off ∧ off < 9704) || decide (9708 ≤ off)

/-- R516, R527: an unsigned field of the set in use: factory items as they were at boot, others from the working set. -/
def State.calU (s : State) (off n : Nat) : Nat :=
  leNat (Memory.readList calFactory (if factoryItem off then s.nvm.inForce else s.nvm.working.bytes) off n)

/-- R516: an unsigned field of the stored set. -/
def State.storedU (s : State) (off n : Nat) : Nat := leNat (Memory.readList calFactory s.nvm.stored.bytes off n)

/-- R507, R520: the EXCLUDE mask of the temperature sensors. -/
def State.tempExclude (s : State) : Nat := s.calU 9704 4

/-- R507: TEMP_MAX: the highest of the sensors that were sampled and are not excluded; 0 before the first sample. -/
def State.tmax (s : State) : Int :=
  let top := (List.range 24).foldl (fun (acc : Option Int) i =>
    if s.wh.sampled.getLsbD i && !s.tempExclude.testBit i then
      some (match acc with | none => s.wh.temps.toList.getD i 0 | some m => max m (s.wh.temps.toList.getD i 0))
    else acc) none
  top.getD 0

/-- R15: a REC_APPLY that has been accepted and has not passed its boundary names the record. -/
def State.locked (s : State) (id inst : Nat) : Bool :=
  s.recs.scheduled.any (fun a => a.pairs.contains (id, inst))

/-- R63: the record is open, for which port. -/
def State.openFor (s : State) (id inst : Nat) : Option Port :=
  (s.recs.opens.find? (fun o => o.id == id && o.inst == inst)).map (·.port)

end Sys2Proof.Machine
end

