-- ==== Sys2Proof/Machine/Flags.lean ====
section
/-!
DEFINITION. Every flag of the event logic (R470 to R493): the occurrence of a source, its severity, the summaries and the
levels of FAULT_N and IRQ_N; with the staging of audit entries (R68 to R72), which an occurrence writes.
-/
namespace Sys2Proof.Machine

/-! ### Who the device is -/

/-- R399: the role a twin state reports. -/
def TwinState.role : TwinState → Nat
  | .single | .lead | .leadAlone => 0
  | .shadow | .shadowDetached => 1
  | .forming | .quarantine | .admitting => 2

/-- R399: the code of a twin state. -/
def TwinState.code : TwinState → Nat
  | .single => 0 | .forming => 1 | .lead => 2 | .leadAlone => 3
  | .shadow => 4 | .shadowDetached => 5 | .quarantine => 6 | .admitting => 7

/-- R399: the unit drives its TRIG, STROBE and SCB pins. -/
def TwinState.drives : TwinState → Bool
  | .single | .lead | .leadAlone | .shadow => true
  | _ => false

/-- R368: the time-domain device ID. -/
def State.deviceId (s : State) : Nat := s.au 0x0D01 65535 0 2

/-- R51: IDENT: the device ID in [13:0], the role in [15:14]. -/
def State.ident (s : State) : Nat := s.deviceId + s.twin.state.role * 2 ^ 14

/-! ### Audit entries -/

/-- R69: an entry stamped now. -/
def State.entry (s : State) (origin kind code : Nat) (detail : Wide) : Entry :=
  { time := s.time, wrap := s.clock.wrap, origin := BitVec.ofNat 8 origin, kind := BitVec.ofNat 8 kind
    code := BitVec.ofNat 16 code, epoch := s.twin.epoch, detail := detail }

/-- R72: an internal entry is staged, or merged into the overflow entry when all 32 places are taken. -/
def State.stage (s : State) (e : Entry) : State :=
  if s.audit.staged.length < 32 then
    { s with audit := { s.audit with
        staged := s.audit.staged ++ [(s.audit.next, s.now, e)], next := s.audit.next + 1 } }
  else { s with audit := { s.audit with merged := s.audit.merged + 1, overflow := s.audit.overflow + 1 } }

/-- An entry whose CODE and DETAIL its chapter does not give: free values. -/
def State.stageOpen (s : State) (origin kind : Nat) : State :=
  { s.stage (s.entry origin kind (Config.freeWord s.freeCtr).toNat
      ((Config.freeWord (s.freeCtr + 1)).setWidth 64 ++ Config.freeWord (s.freeCtr + 2) |>.setWidth 64)) with
    freeCtr := s.freeCtr + 3 }

/-! ### Severity -/

/-- R471: the bit of the block is a defined source. -/
def Src.defined (c : Src) : Bool := decide (c.bit < (resetSeverities c.block).length)

/-- R481: the severity of a source, from the active severity record; a reserved bit has severity 0. -/
def State.severity (s : State) (c : Src) : Nat := if c.defined then s.au 0x0E01 c.block c.bit 1 else 0

/-- R482: the fault threshold in force. -/
def State.faultThresh (s : State) : Nat := s.au 0x0E02 65535 0 1

/-- A set source of the block has severity at or above `t`. -/
def State.blockAtLeast (s : State) (k : Fin 53) (t : Nat) : Bool :=
  let st := s.ev.blocks[k].status
  st != 0 && (List.range 32).any fun b => st.getLsbD b && decide (t ≤ s.severity ⟨k, b⟩)

/-- R487: one bit per block that holds a set source of severity at or above `t`. -/
def State.summaryAt (s : State) (t : Nat) : Nat :=
  (fins 53).foldl (fun acc k => acc + bit k.val (s.blockAtLeast k t)) 0

/-- R487: SYS_SUMMARY; R568: no severity takes effect before CMD_READY. -/
def State.summary (s : State) : Nat := if s.sys.cmdReady then s.summaryAt 1 else 0

/-- R487: SYS_FSUMMARY. -/
def State.fsummary (s : State) : Nat := if s.sys.cmdReady then s.summaryAt s.faultThresh else 0

/-- R475: a set source drives FAULT_N. -/
def State.faultByEvents (s : State) : Bool :=
  s.sys.cmdReady && (fins 53).any fun k => s.blockAtLeast k s.faultThresh

/-- R475, R510: an active rule with the FAULT_N action drives FAULT_N. -/
def State.faultByWellhead (s : State) : Bool :=
  s.wh.active != 0 && (List.range 32).any fun r => s.wh.active.getLsbD r && (s.au 0x0F02 r 3 1).testBit 1

/-- R485: a source of severity 3 is set. -/
def State.escalated (s : State) : Bool := (fins 53).any fun k => s.blockAtLeast k 3

/-- R475: the level of FAULT_N, true when it is driven low. -/
def State.faultLevel (s : State) : Bool := s.faultByEvents || s.faultByWellhead

/-- R48: RX_FULL, the full flag of the MB1 slot. -/
def State.rxFull (s : State) : Bool := (s.mb.chans[1].slots.getD 0 {}).full

/-- R42, R49: TX_FULL, the full flag of the MB0 slot. -/
def State.txFull (s : State) : Bool := (s.mb.chans[0].slots.getD 0 {}).full

/-- R476: the level of IRQ_N, true when it is low; R568 releases it before CMD_READY. -/
def State.irqLevel (s : State) : Bool :=
  let c := s.au 0x0E02 65535 1 1
  s.sys.cmdReady &&
    ((c.testBit 0 && (fins 53).any fun k => s.blockAtLeast k 1) || (c.testBit 1 && s.rxFull) ||
      (c.testBit 2 && s.faultLevel))

/-! ### Occurrences -/

/-- R472: the DETAIL of an event's audit entry. -/
def eventDetail (status : Word) (sev : Nat) (injected cause : Bool) : Wide :=
  BitVec.ofNat 64 (status.toNat + sev * 2 ^ 32 + (bit 0 injected + bit 1 cause) * 2 ^ 40)

/-- R472: one occurrence, without the report of a merged entry. -/
def State.occur (s : State) (c : Src) (cause injected : Bool) : State :=
  if h : c.block < 53 then
    let k : Fin 53 := ⟨c.block, h⟩
    let b := s.ev.blocks[k]
    let m : Word := 1#32 <<< c.bit
    let was := b.status.getLsbD c.bit
    let sev := s.severity c
    let b' : EvBlock := { b with
      status := b.status ||| m
      held := if cause && !injected then b.held ||| m else b.held
      injected := if cause && injected then b.injected ||| m else b.injected
      last := c.bit, lastInjected := injected, lastTime := s.time
      firstTime := if b.status = 0 then s.time else b.firstTime
      count := satInc 32 b.count }
    let s' := { s with ev := { s.ev with
      blocks := s.ev.blocks.set k b'
      notify := s.ev.notify || (!was && decide (1 ≤ sev))
      escalate := s.ev.escalate || (!was && decide (3 ≤ sev)) } }
    if was then s'
    else
      let active := cause || b.held.getLsbD c.bit || b.injected.getLsbD c.bit
      s'.stage { s.entry 0x12 3 (c.block * 32 + c.bit) (eventDetail b'.status sev injected active) with
        originId := BitVec.ofNat 16 c.block }
  else s

/-- R72, R491: a merged entry raises LOG_OVERFLOW. -/
def State.noteOverflow (s s' : State) : State :=
  if s.audit.overflow < s'.audit.overflow then s'.occur ⟨52, 4⟩ false false else s'

/-- An internal audit entry, with the report of an overflow. -/
def State.log (s : State) (e : Entry) : State := s.noteOverflow (s.stage e)

/-- R472: a source whose cause is gone at once occurs. -/
def State.raise (s : State) (block bit : Nat) : State := s.noteOverflow (s.occur ⟨block, bit⟩ false false)

/-- R472: a source occurs whose cause stays active until a step finds it gone. -/
def State.raiseHeld (s : State) (block bit : Nat) : State := s.noteOverflow (s.occur ⟨block, bit⟩ true false)

/-- A source occurs when the condition holds. -/
def State.raiseIf (s : State) (p : Bool) (block bit : Nat) : State := if p then s.raise block bit else s

/-- The cause of a source is gone (R479); its bit stays set until the next clear. -/
def State.causeGone (s : State) (block bit : Nat) : State :=
  if h : block < 53 then
    { s with ev := { s.ev with blocks := upd s.ev.blocks ⟨block, h⟩ fun b => { b with held := b.held &&& ~~~(1#32 <<< bit) } } }
  else s

/-- Sets or ends the cause of a source with a condition: an occurrence when the condition begins. -/
def State.raiseLevel (s : State) (p : Bool) (block bit : Nat) : State :=
  if h : block < 53 then
    if p then (if s.ev.blocks[block].held.getLsbD bit then s else s.raiseHeld block bit) else s.causeGone block bit
  else s

/-- R492: EV_CAUSE: the causes active now. -/
def EvBlock.cause (b : EvBlock) : Word := b.held ||| b.injected

/-- R479: a clear of the masked bits: a bit stays set while its cause is active. -/
def EvBlock.clear (b : EvBlock) (mask : Word) : EvBlock := { b with status := b.status &&& ~~~(mask &&& ~~~b.cause) }

/-! ### Power entries -/

/-- R581: the entry of a domain that changed state. -/
def State.logDomain (s : State) (d : Fin 22) (old new grant status : Nat) : State :=
  s.log { s.entry 0x13 5 (d.val * 256 + new) (BitVec.ofNat 64 (old + grant * 2 ^ 16)) with status := BitVec.ofNat 8 status }

/-- R503, R581: a leave request ended without a grant: LEAVE_DENIED, its counters and its entry. -/
def State.denyLeave (s : State) (r : LeaveReq) (cause status : Nat) : State :=
  let waited := (s.now - r.at_) / 40000
  let s := { s with pwr := { s.pwr with denied := satInc 16 s.pwr.denied, deniedBoot := s.pwr.deniedBoot + 1 } }
  (s.raise 52 16).log { s.entry 0x13 5 (2 ^ 15 + r.kind * 256 + r.prio)
    (BitVec.ofNat 64 (r.cost + waited % 2 ^ 16 * 2 ^ 16 + cause * 2 ^ 32)) with status := BitVec.ofNat 8 status }

end Sys2Proof.Machine
end

