-- ==== Sys2Proof/Machine/Reply.lean ====
section
/-!
DEFINITION. Mailbox slots (R74 to R88), the audit entry and the reply of a command (R51, R54, R56, R68, R69).
-/
namespace Sys2Proof

/-- R36, R74: the channel that carries a port's replies. -/
def Port.outChan : Port → Fin 10
  | .p0 => 1 | .p1 => 3 | .p2 | .lead _ => 5 | .p3 => 9

/-- R36, R74: the channel that carries a port's commands. -/
def Port.inChan : Port → Fin 10
  | .p0 => 0 | .p1 => 2 | .p2 | .lead _ => 4 | .p3 => 8

/-- Number of a port as an index. -/
def Port.idx : Port → Fin 20
  | .p0 => 0 | .p1 => 1 | .p2 => 2 | .p3 => 3 | .lead k => ⟨4 + k.val, by omega⟩

/-- R57: the opcode of a command. -/
def Body.opcode : Body → Half
  | .sysInfo => 0x0101 | .sysReset _ => 0x0102 | .regRead .. => 0x0110 | .regWrite .. => 0x0111
  | .recWrite .. => 0x0201 | .recRead .. => 0x0202 | .recApply .. => 0x0203
  | .streamStart _ => 0x0301 | .streamStop _ => 0x0302 | .streamStatus => 0x0303
  | .expoSet .. => 0x0401 | .statsRead .. => 0x0402
  | .sensWrite .. => 0x0501 | .sensRead .. => 0x0502 | .sensSeq .. => 0x0503 | .sensErrlog .. => 0x0504
  | .calRun .. => 0x0601 | .calCommit _ => 0x0602 | .calExport .. => 0x0603 | .calImport .. => 0x0604
  | .fwStage .. => 0x0701 | .fwActivate .. => 0x0702 | .fwStatus => 0x0703
  | .twinStatus => 0x0801 | .roleSwap _ => 0x0802 | .twinAdmit => 0x0803
  | .timeSet .. => 0x0901 | .timeIncr .. => 0x0902 | .trigSchedule _ => 0x0903 | .timeRead => 0x0904
  | .evinRead .. => 0x0905
  | .logRead .. => 0x0A01 | .logMark _ => 0x0A02 | .logStatus => 0x0A03
  | .evtStatus _ => 0x0B01 | .evtClear .. => 0x0B02 | .evtSeverity .. => 0x0B03 | .evtInject .. => 0x0B04
  | .pwrBudget _ => 0x0C01 | .pwrDomain .. => 0x0C02 | .pwrStatus => 0x0C03
  | .dmaStatus .. => 0x0D01 | .dmaAbort _ => 0x0D02
  | .linkStatus => 0x0E01 | .linkRetrain _ => 0x0E02 | .linkTest _ => 0x0E03
  | .testMode _ => 0x0F01 | .testBist _ => 0x0F02
  | .badLength o _ => o | .unknown o _ => o

/-- R55: the read-only opcodes. -/
def Body.readOnly : Body → Bool
  | .sysInfo | .regRead .. | .recRead .. | .streamStatus | .statsRead .. | .sensRead .. | .sensErrlog ..
  | .calExport .. | .fwStatus | .twinStatus | .timeRead | .evinRead .. | .logRead .. | .logStatus | .evtStatus _
  | .pwrStatus | .dmaStatus .. | .linkStatus => true
  | .badLength o _ => [0x0101, 0x0110, 0x0202, 0x0303, 0x0402, 0x0502, 0x0504, 0x0603, 0x0703, 0x0801, 0x0904, 0x0905,
      0x0A01, 0x0A03, 0x0B01, 0x0C03, 0x0D01, 0x0E01].contains o.toNat
  | _ => false

/-- R69: the DETAIL of a command's entry, for the opcodes whose chapter gives one. `used` is the boundary a REC_APPLY
used or named. -/
def Body.auditDetail (b : Body) (used : Word) : Wide :=
  match b with
  | .regWrite off ws =>
    BitVec.ofNat 64 (off.toNat % 2 ^ 28 + (ws.length - 1) % 16 * 2 ^ 28 + (ws.headD 0).toNat * 2 ^ 32)
  | .recWrite id inst off _ _ _ => BitVec.ofNat 64 (id.toNat + inst.toNat * 2 ^ 16 + off.toNat * 2 ^ 32)
  | .recApply _ _ _ pairs =>
    let p := pairs.headD (0, 0)
    BitVec.ofNat 64 (p.1.toNat + p.2.toNat * 2 ^ 16 + used.toNat * 2 ^ 32)
  | .logMark m => m
  | .evtClear block mask => BitVec.ofNat 64 (block.toNat + mask.toNat * 2 ^ 32)
  | .badLength o p =>
    if o = 0x0111 then BitVec.ofNat 64 (Machine.field p 0 4 % 2 ^ 28 + (p.length / 4 - 2) % 16 * 2 ^ 28 + Machine.field p 4 4 * 2 ^ 32)
    else if o = 0x0201 then BitVec.ofNat 64 (Machine.field p 0 8)
    else if o = 0x0203 then BitVec.ofNat 64 (Machine.field p 8 4 + Machine.field p 4 4 * 2 ^ 32)
    else if o = 0x0A02 then BitVec.ofNat 64 (Machine.field p 0 8)
    else 0
  | _ => 0

/-- R69: a refused REC_APPLY's entry carries the BOUNDARY named in the command. -/
def Body.boundaryOf (b : Body) (status : Nat) (used : Word) : Word :=
  match b with
  | .recApply _ _ boundary _ => if status = 0 then used else boundary
  | _ => used

end Sys2Proof

namespace Sys2Proof.Machine

/-! ### Slots -/

/-- R76: a cleared slot: every byte reads 0. -/
def emptySlot : Slot := {}

/-- A channel with one slot replaced. -/
def State.setSlot (s : State) (ch : Fin 10) (i : Nat) (f : Slot → Slot) : State :=
  { s with mb := { s.mb with chans := upd s.mb.chans ch fun c => { c with slots := updAt c.slots i f } } }

/-- A channel with its status changed. -/
def State.setChan (s : State) (ch : Fin 10) (f : Chan → Chan) : State :=
  { s with mb := { s.mb with chans := upd s.mb.chans ch f } }

/-- R75: the lowest-numbered empty slot of a channel. -/
def freeSlot (c : Chan) : Option Nat := (List.range c.slots.length).find? fun i => !(c.slots.getD i {}).full

/-- R75: the full slot that became full first. -/
def oldestSlot (c : Chan) : Option Nat :=
  (List.range c.slots.length).foldl (fun acc i =>
    let x := c.slots.getD i {}
    if !x.full then acc
    else match acc with
      | none => some i
      | some j => if x.order < (c.slots.getD j {}).order then some i else some j) none

/-- R75, R96, R84: a slot becomes full with a packet: LAST_SEQ takes SEQ[15:0], and a command of MB2 or MB4 is kept. -/
def State.fillSlot (s : State) (ch : Fin 10) (i : Nat) (bytes : List Byte) : State :=
  let k : List KeptCmd := if ch = 2 ∨ ch = 4 then [{ chan := ch, opcode := half bytes 0, seq := word bytes 4 }] else []
  let s := { s with mb := { s.mb with rings := s.mb.rings + 1, kept := s.mb.kept ++ k } }
  (s.setSlot ch i fun _ => { full := true, bytes, since := s.now, order := s.mb.rings }).setChan ch
    fun c => { c with lastSeq := half bytes 4 }

/-- R75: the doorbell was rung with every slot full, or a frame named a full slot. -/
def State.overrun (s : State) (ch : Fin 10) : State := s.setChan ch fun c => { c with overrun := true }

/-! ### Replies -/

/-- One port changed. -/
def State.setPort (s : State) (p : Port) (f : PortState → PortState) : State :=
  { s with ports := upd s.ports p.idx f }

/-- One port. -/
def State.port (s : State) (p : Port) : PortState := s.ports[p.idx]

/-- R51, R52: the bytes of a reply. -/
def replyBytes (opcode : Half) (seq : Word) (status rflags detail epoch ident : Nat) (payload : List Byte) : List Byte :=
  let b := leHalf opcode ++ leBytes 2 payload.length ++ leWord seq ++ leBytes 1 status ++ leBytes 1 rflags ++
    leBytes 2 detail ++ leBytes 2 epoch ++ leBytes 2 ident ++ payload
  b ++ leWord (crc32c b)

/-- R46, R48: the REPLY cause when a reply is written to WIN_RX. -/
def State.noteReply (s : State) (p : Port) : State :=
  match p with
  | .p0 => { s with win := { s.win with cause := s.win.cause ||| 1 } }
  | _ => s

/-- R77: a reply is written into the port's outbound channel, or waits for an empty slot. The twin's replies leave as
REPLY frames at once (R406). -/
def State.deliver (s : State) (p : Port) (bytes : List Byte) : State :=
  match freeSlot s.mb.chans[p.outChan] with
  | none => s.setPort p fun q => { q with outgoing := q.outgoing ++ [bytes] }
  | some i =>
    let s := (s.fillSlot p.outChan i bytes).noteReply p
    match p with
    | .p1 => { s with link := { s.link with replySent := s.link.replySent.filter (· != i) } }
    | .p2 => if s.twin.gelainUp then { s with out := { s.out with gelain := s.out.gelain ++ [.reply i bytes] } } else s
    | _ => s

/-- R81: the channels firmware sends into. -/
def outbound (ch : Fin 10) : Bool := [1, 3, 5, 6, 9].contains ch.val

/-- R81, R96: the timeout in ticks: values of LIMIT below 50 act as 50. -/
def State.mbTicks (s : State) : Nat := ticksOfUs (max 50 s.mb.limit.toNat)

/-- R82: a read that ends in the cycle of the timeout. -/
def State.readTie (s : State) (ch : Fin 10) (i : Nat) : State :=
  let x := s.mb.chans[ch].slots.getD i {}
  if outbound ch && x.full && !x.timedOut && s.now == x.since + s.mbTicks then s.setChan ch fun c => { c with lateTie := true } else s

/-- R76: a slot clears, and a reply that waited for it is written. -/
def State.clearSlot (s : State) (ch : Fin 10) (i : Nat) : State :=
  let s := (s.readTie ch i).setSlot ch i fun _ => emptySlot
  let p : Option Port := match ch.val with | 1 => some .p0 | 3 => some .p1 | 5 => some .p2 | 9 => some .p3 | _ => none
  match p with
  | none => s
  | some p => match (s.port p).outgoing with
    | [] => s
    | bytes :: rest => (s.setPort p fun q => { q with outgoing := rest }).deliver p bytes

/-- A command in execution: its header and opcode. -/
structure Cmd where
  h : Hdr
  body : Body
deriving DecidableEq, Repr

/-- R69: ORIGIN_ID of a command's entry. -/
def State.originId (s : State) (p : Port) : Half :=
  match p with
  | .p0 => match s.win.dynAddr with | some a => a.setWidth 16 | none => 0
  | .p2 | .lead _ => BitVec.ofNat 16 (s.twin.partnerIdent.toNat % 2 ^ 14)
  | _ => 0

/-- R68, R69: the entry a command writes with its reply. An accepted LOG_MARK writes a host mark (R578). -/
def State.cmdEntry (s : State) (c : Cmd) (status rflags : Nat) (used : Word) : Entry :=
  let kind := match c.body with | .logMark _ => if status = 0 then 9 else 1 | _ => 1
  { s.entry c.h.port.toNat kind c.body.opcode.toNat (c.body.auditDetail (c.body.boundaryOf status used)) with
    status := BitVec.ofNat 8 status, aflags := BitVec.ofNat 8 rflags, seq := c.h.seq, originId := s.originId c.h.port }

/-- R84: the kept list loses a command that was answered. -/
def State.unkeep (s : State) (c : Cmd) : State :=
  { s with mb := { s.mb with kept := s.mb.kept.filter fun k =>
      !(k.chan == c.h.port.inChan.val && k.seq == c.h.seq && k.opcode == c.body.opcode) } }

/-- R56: the reply goes out and is kept. -/
def State.send (s : State) (c : Cmd) (status : Nat) (bytes : List Byte) : State :=
  let s := (s.unkeep c).setPort c.h.port fun q => { q with
    running := none, entryWait := none, kept := some { seq := c.h.seq, check := c.h.check, status, bytes } }
  s.deliver c.h.port bytes

/-- R68, R72: the command's entry, then its reply; with all 32 places taken the reply waits and LOG_WAIT is raised. -/
def State.answer (s : State) (c : Cmd) (status rflags : Nat) (used : Word) (bytes : List Byte) : State :=
  if c.body.readOnly then s.send c status bytes
  else
    let e := s.cmdEntry c status rflags used
    if s.audit.staged.length < 32 then (s.stage e).send c status bytes
    else ((s.setPort c.h.port fun q => { q with running := none, entryWait := some (e, bytes)
                                                kept := some { seq := c.h.seq, check := c.h.check, status, bytes } }).unkeep c).raise 52 5

/-- R84: commands kept across the device's own reset are answered ABORTED on a link's first handshake. -/
def State.abortKept (s : State) (p : Port) : State :=
  let mine (k : KeptCmd) : Bool := k.chan == p.inChan.val
  let ks := s.mb.toAbort.filter mine
  let s := { s with mb := { s.mb with toAbort := s.mb.toAbort.filter fun k => !mine k } }
  ks.foldl (fun s k =>
    (s.log { s.entry p.toNat 1 k.opcode.toNat 0 with status := 2, seq := k.seq, originId := s.originId p }).deliver p
      (replyBytes k.opcode k.seq 2 0 0 s.twin.epoch.toNat s.ident [])) s

/-- R85: the channels of a party that was reset are cleared. -/
def State.peerReset (s : State) (chans : List (Fin 10)) : State :=
  let gone (k : KeptCmd) : Bool := chans.any fun ch => ch.val == k.chan && s.mb.chans[ch].slots.any fun x =>
    x.full && half x.bytes 0 == k.opcode && word x.bytes 4 == k.seq
  let s := { s with mb := { s.mb with kept := s.mb.kept.filter fun k => !gone k } }
  chans.foldl (fun s ch =>
    (s.setChan ch fun c => { c with slots := c.slots.map fun _ => emptySlot, peerReset := true })) s

/-- R424: a mirrored command of this port whose acceptance by the shadow is still awaited. -/
def State.mirrorOf (s : State) (c : Cmd) : Option MirrorWait :=
  s.twin.mirrors.find? fun m => m.word.getLsbD 2 && m.port == c.h.port && m.seq == c.h.seq && m.reply.isNone

/-- R18: an awaited grant or arrival of the command won a tie. -/
def State.wonTie (s : State) (c : Cmd) : Bool :=
  match (s.port c.h.port).running with
  | some r => r.lateTie && r.h.seq == c.h.seq
  | none => false

/-- R54, R424: a reply of a mirrored command with which the command altered nothing; the RETRY that starts a fetch is
none. -/
def Cmd.undone (c : Cmd) (status detail : Nat) : Bool :=
  status != 0 && status != 8 && !(c.body.opcode == 0x0502 && status == 1 && detail == 0x0501)

/-- R424: the shadow cannot carry out a command as decided: MIRROR_FAIL, and QUARANTINE as a source of severity 3 asks. -/
def State.mirrorFails (s : State) : State :=
  let s := s.raise 49 19
  { s with ev := { s.ev with escalate := true } }

/-- R424: a decided command that a shadow has accepted ends as decided: with OK, with what a sensor read gave, or with the
routing that the lead's records do not have either. -/
def Cmd.asDecided (c : Cmd) (status detail : Nat) : Bool :=
  status == 0 || (c.body.opcode == 0x0502 && (status == 1 || status == 8)) ||
    (c.body.opcode == 0x0401 && status == 8 && detail == 7)

/-- R424: a decided command that a shadow has accepted ends. -/
def State.endDecided (s : State) (c : Cmd) (status detail : Nat) : State :=
  let s := s.setPort c.h.port fun q => { q with
    running := none, kept := some { seq := c.h.seq, check := c.h.check, status, bytes := [] } }
  if c.asDecided status detail then { s with twin := { s.twin with mirrored := satInc 16 s.twin.mirrored } }
  else s.mirrorFails

/-- R424: the outcome that a reply tells of: the boundary used, or the applied line that fixes the window line. -/
def outcomeOf (b : Body) (payload : List Byte) (d : Word) : Word :=
  match b with
  | .recApply .. | .expoSet .. => word payload 4
  | _ => d

/-- R424: a mirrored command's reply waits for the shadow's acceptance, which is asked for once the outcome is known. -/
def MirrorWait.replied (m : MirrorWait) (b : Body) (status detail : Nat) (payload : List Byte) (rflags : Nat) : MirrorWait :=
  { m with ready := true, decided := if m.ready then m.decided else outcomeOf b payload m.decided
           reply := some (status, detail, payload, rflags) }

/-- The reply of a command: status, detail, payload and RFLAGS. It waits for the shadow's acceptance of a mirrored
command (R424). -/
def State.reply (s : State) (c : Cmd) (status detail : Nat) (payload : List Byte) (rflags : Nat := 0)
    (used : Word := 0) : State :=
  let decided : Bool := match c.h.port with | .lead _ => true | _ => false
  if decided then s.endDecided c status detail
  else
  let rflags := if s.wonTie c && rflags % 2 == 0 then rflags + 1 else rflags
  let bytes := replyBytes c.body.opcode c.h.seq status rflags detail s.twin.epoch.toNat s.ident payload
  match s.mirrorOf c with
  | some m =>
    if !m.ready && c.undone status detail then
      ({ s with twin := { s.twin with mirrors := s.twin.mirrors.filter fun x => x != m } }).answer c status rflags used bytes
    else
      let m' := m.replied c.body status detail payload rflags
      { s with twin := { s.twin with mirrors := s.twin.mirrors.map fun x => if x = m then m' else x } }
  | none => s.answer c status rflags used bytes

/-- OK with a payload. -/
def State.ok (s : State) (c : Cmd) (payload : List Byte) : State := s.reply c 0 0 payload

/-- A reply without payload and without effect. -/
def State.fail (s : State) (c : Cmd) (status detail : Nat) : State := s.reply c status detail []

/-- BAD_PARAM with its offset (R580). -/
def State.bad (s : State) (c : Cmd) (off : Nat) : State := s.fail c 5 off

/-- NOT_READY with its reason (R54). -/
def State.notReady (s : State) (c : Cmd) (why : Nat) : State := s.fail c 9 why

/-- RETRY with the owning chapter's reason. -/
def State.retry (s : State) (c : Cmd) (why : Nat) : State := s.fail c 1 why

/-- RETRY where the owning chapter names no reason code: DETAIL is a free value (log entry 22). -/
def State.retryOpen (s : State) (c : Cmd) : State :=
  s.nextFree.fail c 1 ((Config.freeWord s.freeCtr).toNat % 65536)

/-- The command stays in execution and waits. -/
def State.wait (s : State) (c : Cmd) (w : Waiting) : State :=
  s.setPort c.h.port fun q => { q with running := some { h := c.h, body := c.body, wait := w, since := s.now } }

/-- R499: the tick at which a command's leave request ends, from LEAVE_WAIT in units of 100 µs (0: DEFAULT_WAIT). -/
def State.leaveLimit (s : State) (h : Hdr) : Nat :=
  let w := if h.leaveWait.toNat = 0 then s.au 0x0F01 65535 2 2 else h.leaveWait.toNat
  s.now + w * 40000

/-- The command of a port that waits, when its wait satisfies a test. -/
def State.waitingFor (s : State) (p : Port) (f : Waiting → Bool) : Option Running :=
  match (s.port p).running with
  | some r => if f r.wait then some r else none
  | none => none

/-- R36: the ports of the device. -/
def realPorts : List Port := [.p0, .p1, .p2, .p3]

/-- The executors of decided commands. -/
def leadPorts : List Port := (fins 16).map fun k => .lead k

/-- The ports and the executors of decided commands. -/
def allPorts : List Port := realPorts ++ leadPorts

/-- Every port whose command waits as tested gets an answer. -/
def State.answerWaiting (s : State) (f : Waiting → Bool) (g : State → Cmd → State) : State :=
  allPorts.foldl (fun s p => match s.waitingFor p f with
    | some r => g s ⟨r.h, r.body⟩
    | none => s) s

end Sys2Proof.Machine
end

