-- ==== Sys2Proof/Machine/Steward.lean ====
section
/-!
DEFINITION. The power steward's leave queue and grants (R494 to R504), the row clock (R252) and the transitions of the
twin state machine that several families share (R408, R409, R423, R427).
-/
namespace Sys2Proof.Machine

/-! ### Rows -/

/-- R252: the reference time of row K, without its wrap. -/
def State.tref (s : State) (k : Int) : Int := s.grid.origin + (k * s.au 0x0701 65535 12 4 + 128) / 256

/-- R252: the largest K whose reference time is at or before a device time. -/
def State.rowAt (s : State) (t : Int) : Int := (256 * (t - s.grid.origin) + 127) / s.au 0x0701 65535 12 4

/-- R252: the number of the current row. -/
def State.rowNo (s : State) : Word := BitVec.ofInt 32 s.grid.row

/-- R14, R252: of the rows with this number, the one nearest the current row. -/
def State.extendRow (s : State) (n : Word) : Int := s.grid.row + (n - s.rowNo).toInt

/-! ### Domains -/

/-- R494: the leave a domain holds while ON. -/
def onCost (d : Nat) : Nat :=
  [4, 16, 40, 6, 24, 24, 24, 24, 16, 16, 16, 16, 40, 12, 12, 8, 6, 8, 14, 14, 14, 6].getD d 0

/-- R494: the leave a domain holds in RETAIN; none where it has no RETAIN state (R495). -/
def retainCost (d : Nat) : Option Nat :=
  [none, some 2, some 6, none, some 4, some 4, some 4, some 4, some 4, some 4, some 4, some 4, some 8, some 2, some 2,
   some 2, some 1, some 1, some 4, some 4, some 4, none].getD d none

/-- R494: the domain a domain depends on. -/
def dependsOn (d : Nat) : Option Nat := if d = 0 then none else if d = 2 then some 0 else if d = 14 then some 13 else some 2

/-- R494: the wake time of a domain in ticks; the memory domains' from OFF is their training. -/
def wakeTicks (d : Nat) (fromOff : Bool) : Nat :=
  let us := if fromOff then
      [0, 200, 50, 20, 100, 100, 100, 100, 40, 40, 40, 40, 60, 100, 100, 100, 20, 20, 5000, 5000, 5000, 20].getD d 0
    else [0, 20, 10, 0, 10, 10, 10, 10, 10, 10, 10, 10, 10, 10, 10, 10, 5, 5, 50, 50, 50, 0].getD d 0
  ticksOfUs us

/-- R505: the code of a domain state. -/
def DomState.code : DomState → Nat
  | .off => 0 | .retain => 1 | .on => 2 | .changing => 3

/-- A domain's state and the leave it holds, with the audit entry of the change (R581). -/
def State.setDomain (s : State) (d : Fin 22) (st : DomState) (grant status : Nat) : State :=
  let old := s.pwr.doms[d].state
  let s := { s with pwr := { s.pwr with doms := upd s.pwr.doms d fun x => { x with state := st, grant } } }
  if old = st then s else s.logDomain d old.code st.code grant status

/-! ### Leave -/

/-- R500: the standing grants in units: PD00 to PD03 as they stand, and the grants for audit flushes and Gelain. -/
def State.standingUnits (s : State) : Nat :=
  s.pwr.doms[0].grant + s.pwr.doms[1].grant + s.pwr.doms[2].grant + s.pwr.doms[3].grant + s.pwr.standing

/-- R502: all grants in units, standing grants included. -/
def State.grantedUnits (s : State) : Nat :=
  s.pwr.doms.toList.foldl (fun n d => n + d.grant) 0 + s.pwr.standing + s.pwr.grants.foldl (fun n g => n + g.cost) 0

/-- R506: the budget in force. -/
def State.budget (s : State) : Nat := s.au 0x0F01 65535 0 2

/-- R502: a request behind every waiting request of its own or a higher priority. -/
def insertReq (r : LeaveReq) : List LeaveReq → List LeaveReq
  | [] => [r]
  | q :: qs => if q.prio < r.prio then r :: q :: qs else q :: insertReq r qs

/-- R503: why a request is refused at once: 1 over budget, 2 queue full. -/
def State.refuseLeave (s : State) (cost : Nat) : Option Nat :=
  if s.budget < cost + s.standingUnits then some 1 else if 64 ≤ s.pwr.queue.length then some 2 else none

/-- R502: a request joins the queue. -/
def State.enqueue (s : State) (r : LeaveReq) : State :=
  { s with pwr := { s.pwr with queue := insertReq r s.pwr.queue } }

/-- R503: a command's request: queued, or refused with its reply. -/
def State.askFor (s : State) (c : Cmd) (who : Requester) (kind cost prio : Nat) (w : Waiting) : State :=
  let r : LeaveReq := { who, kind, cost, prio, at_ := s.now, limit := some (s.leaveLimit c.h) }
  match s.refuseLeave cost with
  | some 1 => (s.denyLeave r 1 7).fail c 7 0
  | some _ => (s.denyLeave r 2 1).retry c 0x0C01
  | none => (s.enqueue r).wait c w

/-- R503: an internal request without a wait limit: queued, or refused (the Bool tells). -/
def State.askSelf (s : State) (who : Requester) (kind cost prio : Nat) : State × Bool :=
  let r : LeaveReq := { who, kind, cost, prio, at_ := s.now }
  match s.refuseLeave cost with
  | some k => (s.denyLeave r k 0, false)
  | none => (s.enqueue r, true)

/-- R499: the grants of a requester are returned, and its requests withdrawn (R504). -/
def State.release (s : State) (f : Requester → Bool) : State :=
  { s with pwr := { s.pwr with grants := s.pwr.grants.filter (fun g => !f g.who)
                               queue := s.pwr.queue.filter (fun g => !f g.who) } }

/-- A grant of this requester is held. -/
def State.holds (s : State) (f : Requester → Bool) : Bool := s.pwr.grants.any fun g => f g.who

/-- A request of this requester waits. -/
def State.asked (s : State) (f : Requester → Bool) : Bool := s.pwr.queue.any fun g => f g.who

/-! ### Twin transitions -/

/-- A Gelain frame leaves while the link is present. -/
def State.sendG (s : State) (f : GFrame) : State :=
  if s.twin.gelainUp then { s with out := { s.out with gelain := s.out.gelain ++ [f] } } else s

/-- R409: a new epoch, to be written to MRAM. -/
def State.setEpoch (s : State) (e : Half) : State :=
  if s.twin.epoch = e then s
  else { s with twin := { s.twin with epoch := e }, audit := { s.audit with epochWrite := some e } }

/-- R408: the unit enters a state, with the epoch it takes: the audit entry, FORMED, PARTNER_LOST and QUARANTINED. -/
def State.enter (s : State) (t : TwinState) (e : Half) : State :=
  let old := s.twin.state
  let oldEpoch := s.twin.epoch
  let s := { (s.setEpoch e) with twin := { (s.setEpoch e).twin with state := t } }
  let s := s.log { s.entry 0x14 4 (old.code * 256 + t.code) (BitVec.ofNat 64 (oldEpoch.toNat + e.toNat * 2 ^ 16)) with
    originId := BitVec.ofNat 16 s.deviceId }
  let s := s.raiseIf (old == .forming && t != .forming) 49 0
  let s := if old = .lead ∧ t = .leadAlone then s.raiseHeld 49 10 else s
  let s := if t = .quarantine then s.raiseHeld 49 30 else s
  let s := if t = .admitting then s.raise 49 23 else s
  let s := if t = .quarantine && !s.sluice.released then
      ({ s with sluice := { s.sluice with released := true } }).raise 50 23
    else if t.drives then ({ s with sluice := { s.sluice with released := false } }) else s
  let leaves := t == .quarantine || t == .forming
  { s with twin := { s.twin with
      formBlocked := s.twin.formBlocked && t == .forming, formConflict := s.twin.formConflict && t == .forming
      deciding := s.twin.deciding && (t == .shadow || t == .shadowDetached)
      demoted := s.twin.demoted && t != .shadow
      swap := if leaves then none else s.twin.swap
      realign := if leaves then none else s.twin.realign
      holdSince := if leaves then none else s.twin.holdSince
      early := if leaves then none else s.twin.early
      joining := if t = .admitting then s.twin.joining else []
      tags := if t = .shadow then s.twin.tags else [] } }

/-- R423: a shadow enters QUARANTINE. -/
def State.fence (s : State) : State :=
  match s.twin.state with
  | .shadow | .shadowDetached => s.enter .quarantine s.twin.epoch
  | _ => s

/-- R426: a swap at row S is set up and announced. -/
def State.startSwap (s : State) (row : Word) (handover : Bool) (port : Option Port) : State :=
  ({ s with twin := { s.twin with swap := some { row, handover, port } } }).sendG (.control 1 row 0)

/-- R485, R427: the twin action of a source of severity 3 that became set. -/
def State.escalateNow (s : State) : State :=
  match s.twin.state with
  | .lead =>
    if s.au 0x0C01 65535 3 1 = 1 ∧ s.twin.swap.isNone then s.startSwap (BitVec.ofInt 32 (s.grid.row + 4)) true none else s
  | .shadow | .shadowDetached => s.fence
  | _ => s

/-- R410: epoch `a` is newer than epoch `b`. -/
def newer (a b : Half) : Bool := decide (1 ≤ (a - b).toNat ∧ (a - b).toNat ≤ 32767)

end Sys2Proof.Machine
end

