-- ==== Sys2Proof/Machine/Mail.lean ====
section
/-!
DEFINITION. The replies that mailbox hardware writes while firmware accepts no command (R49, R88, R89), and the
acknowledgement of inbound slots (R76, R357, R406).
-/
namespace Sys2Proof.Machine

/-- R49, R88: firmware accepts commands. -/
def State.accepting (s : State) : Bool := s.sys.mgmtOn && s.sys.cmdReady && !s.sys.restarting

/-- R49: the reply of the hardware: DOMAIN_OFF with the number of PD01, or NOT_READY. -/
def State.hwReply (s : State) (packet : List Byte) : List Byte :=
  replyBytes (half packet 0) (word packet 4) (if s.sys.mgmtOn then 9 else 10) 0 (if s.sys.mgmtOn then 2 else 1)
    s.twin.epoch.toNat s.ident []

/-- R76, R357, R406: the sender learns that an inbound slot was read; on Gelain the frame names the sender's channel. -/
def State.ackRead (s : State) (ch : Fin 10) (i : Nat) (seq : Word) : State :=
  match ch.val with
  | 2 => { s with link := { s.link with acks := s.link.acks ++ [(i, seq)] } }
  | 4 => s.sendG (.mboxAck 6 i)
  | 7 => s.sendG (.mboxAck 5 i)
  | _ => s

/-- The bytes of a slot. -/
def State.mbBytes (s : State) (ch : Fin 10) (i : Nat) : List Byte := (s.mb.chans[ch].slots.getD i {}).bytes

/-- R76, R78: an inbound slot is read to its end: it clears, and its sender learns so. -/
def State.readSlot (s : State) (ch : Fin 10) (i : Nat) : State :=
  (s.clearSlot ch i).ackRead ch i (word (s.mbBytes ch i) 4)

/-- R424: the mirrored and forwarded commands that are ready go out as MB6 slots are free. -/
def State.sendMirrors (s : State) : State :=
  match s.twin.mirrors.find? (fun m => m.ready && m.sentAt.isNone), freeSlot s.mb.chans[6] with
  | some m, some i =>
    if s.twin.gelainUp then
      let m' : MirrorWait := { m with sentAt := some s.now }
      let s := { s with twin := { s.twin with mirrors := s.twin.mirrors.map fun x => if x = m then m' else x } }
      (s.fillSlot 6 i m.packet).sendG (.cmd i m.word m.decided m.packet)
    else s
  | _, _ => s

/-- R84: a command of MB2 or MB4 was answered. -/
def State.unkeepPacket (s : State) (ch : Fin 10) (packet : List Byte) : State :=
  { s with mb := { s.mb with kept := s.mb.kept.filter fun k =>
      !(k.chan == ch.val && k.seq == word packet 4 && k.opcode == half packet 0) } }

/-- R88, R89: a packet rung into MB2, MB4 or MB8 is answered by the hardware while firmware accepts none. -/
def State.hwAnswer (s : State) (ch : Fin 10) (i : Nat) : State :=
  let p : Option Port := match ch.val with | 2 => some .p1 | 4 => some .p2 | 8 => some .p3 | _ => none
  match p with
  | none => s
  | some p =>
    if s.accepting then s
    else
      let b := s.mbBytes ch i
      ((s.readSlot ch i).unkeepPacket ch b).deliver p (s.hwReply b)

end Sys2Proof.Machine
end

