-- ==== Sys2Proof/Machine/Settle.lean ====
section
/-!
DEFINITION. What every command ends with: causes that a step finds gone (R479), the twin's answer to an escalation (R485),
the levels of FAULT_N and IRQ_N (R475, R476) and the in-band interrupt (R46); and the frame in which every meaning runs.
-/
namespace Sys2Proof.Machine

/-- The sources whose cause lasts while a condition of the state holds: block, bit, condition. A cause that a step set is
gone once the condition is (the column "Cause gone when" of the source tables). -/
def causeConditions (s : State) : List (Nat × Nat × (Unit → Bool)) :=
  [(52, 3, fun (_ : Unit) => s.mb.chans.toList.any fun c => c.slots.any (·.timedOut)),
   (52, 7, fun (_ : Unit) => s.clock.holdover),
   (52, 15, fun (_ : Unit) => s.pwr.pfActive),
   (52, 17, fun (_ : Unit) => decide (s.budget * 9 < s.grantedUnits * 10)),
   (52, 18, fun (_ : Unit) => s.pwr.doms.toList.any fun d => d.state == .changing),
   (52, 30, fun (_ : Unit) => s.sys.factoryTest),
   (49, 1, fun (_ : Unit) => s.twin.formBlocked), (49, 2, fun (_ : Unit) => s.twin.formConflict),
   (49, 4, fun (_ : Unit) => s.twin.demoted), (49, 6, fun (_ : Unit) => !s.twin.gelainUp), (49, 8, fun (_ : Unit) => !s.twin.hbAlive), (49, 9, fun (_ : Unit) => s.twin.deciding),
   (49, 10, fun (_ : Unit) => s.twin.state != .lead), (49, 17, fun (_ : Unit) => s.twin.timeWarn), (49, 20, fun (_ : Unit) => s.twin.aloneCfg), (49, 29, fun (_ : Unit) => s.twin.split),
   (49, 30, fun (_ : Unit) => s.twin.state == .quarantine || s.twin.state == .admitting)] ++
  ((List.range 32).flatMap fun p =>
    let x := s.inlets[Fin.ofNat 32 p]
    let rec_ (off n : Nat) : Nat := s.au 0x0203 p off n
    [(p, 0, fun (_ : Unit) => x.lock != BitVec.ofNat 4 (2 ^ rec_ 1 1 - 1)),
     (p, 11, fun (_ : Unit) => decide (rec_ 16 2 * 262144 ≤ s.queues[Fin.ofNat 43 p].used * 100)),
     (p, 15, fun (_ : Unit) => (List.range 64).any fun c => s.ctxs[Fin.ofNat 64 c].noData && s.au 0x0201 c 1 1 == p),
     (p, 17, fun (_ : Unit) => x.ulps), (p, 18, fun (_ : Unit) => s.queues[Fin.ofNat 43 p].state != 2), (p, 19, fun (_ : Unit) => x.physFault)]) ++
  ((List.range 8).map fun r => (32 + r, 6, fun (_ : Unit) => s.inlets.toList.any fun x =>
    x.waiting.any fun t => s.ctxs[Fin.ofNat 64 t.ctx].runnel == r)) ++
  ((fins 8).flatMap fun r =>
    let x := s.runnels[r]
    [(32 + r.val, 5, fun (_ : Unit) => [2 * r.val, 2 * r.val + 1].any fun i => let d := s.dma.chans[Fin.ofNat 32 i]; d.state == 6 && d.result == 3),
     (32 + r.val, 11, fun (_ : Unit) => x.watched),
     (32 + r.val, 23, fun (_ : Unit) => (fins 64).any fun v => s.views[v].spoiled && s.au 0x0301 v 0 1 == r.val)]) ++
  [(50, 4, fun (_ : Unit) => s.sluice.buses.toList.any (·.stuck)),
   (50, 10, fun (_ : Unit) => !s.sluice.plog.isEmpty), (50, 11, fun (_ : Unit) => decide (16 ≤ s.sluice.plog.length)),
   (50, 15, fun (_ : Unit) => s.sluice.buses.toList.any fun b => !b.holdLeft.isEmpty),
   (50, 8, fun (_ : Unit) => (List.range 128).any fun i =>
      s.au 0x0501 i 0 1 == 1 && s.au 0x0501 i 2 1 != 0 && s.sluice.addrs[Fin.ofNat 128 i].isNone &&
        s.sluice.buses[Fin.ofNat 32 (s.au 0x0501 i 1 1)].mode == 2),
   (50, 26, fun (_ : Unit) => s.expo.ctxs.toList.any fun x => x.inForce == 0xFFFF)] ++
  [(46, 17, fun (_ : Unit) => s.cf.silent != 0),
   (47, 10, fun (_ : Unit) => s.weir.state != 1), (47, 29, fun (_ : Unit) => (List.range 8).any fun q => s.queues[Fin.ofNat 43 (32 + q)].state == 3),
   (47, 30, fun (_ : Unit) => s.spill.toList.any (·.orderBad)),
   (51, 29, fun (_ : Unit) => s.dma.lines.toList.any (· != 0))] ++
  [(47, 24, fun (_ : Unit) => s.clock.holdover),
   (47, 27, fun (_ : Unit) => (List.range 8).any fun q => s.queues[Fin.ofNat 43 (32 + q)].state == 5),
   (47, 28, fun (_ : Unit) => (List.range 8).any fun q => s.queues[Fin.ofNat 43 (32 + q)].state != 2)] ++
  [(48, 1, fun (_ : Unit) => s.link.tr.state != 7), (48, 2, fun (_ : Unit) => s.link.tr.lanes.toList.all (·.los)), (48, 4, fun (_ : Unit) => !s.link.tr.pllLocked),
   (48, 5, fun (_ : Unit) => s.link.tr.lanes.toList.any (·.bad)),
   (48, 6, fun (_ : Unit) => decide (s.link.tr.width < s.au 0x0B01 65535 2 1)), (48, 7, fun (_ : Unit) => s.link.spares == 0),
   (48, 18, fun (_ : Unit) => s.link.starved.toList.any (·.isSome)),
   (48, 19, fun (_ : Unit) => !(s.link.tr.state == 7 || s.link.tr.state == 8) || s.spill.toList.any (·.drained)),
   (48, 29, fun (_ : Unit) => s.link.tr.state == 9), (48, 30, fun (_ : Unit) => s.queues[40].state != 2)] ++
  ((fins 6).flatMap fun m =>
    let x := s.mem.ctls[m]
    [(40 + m.val, 0, fun (_ : Unit) => x.state == 5), (40 + m.val, 7, fun (_ : Unit) => x.derated), (40 + m.val, 10, fun (_ : Unit) => x.slicesLeft != 0),
     (40 + m.val, 13, fun (_ : Unit) => decide (s.au 0x0110 65535 4 1 * 10 < s.mem.planned)), (40 + m.val, 14, fun (_ : Unit) => x.repairPending)]) ++
  ((List.range 3).flatMap fun g =>
    let halted (r : Nat) (tail : Bool) : Bool := (fins 32).any fun c =>
      let x := s.dma.chans[c]
      (if g = 0 then decide (24 ≤ c.val) else if g = 1 then decide (16 ≤ c.val ∧ c.val < 24) else decide (c.val < 16)) &&
        x.state == 6 && x.result == r && (r == 4 || x.tailErr == tail)
    [(51, 5 * g + 2, fun (_ : Unit) => halted 3 false), (51, 5 * g + 3, fun (_ : Unit) => halted 3 true), (51, 5 * g + 4, fun (_ : Unit) => halted 4 false)]) ++
  [(51, 18, fun (_ : Unit) => s.dma.chans.toList.any fun x => match x.waitAt with | some t => decide (t + 40000 < s.now) | none => false),
   (51, 24, fun (_ : Unit) => s.dma.chans.toList.any fun x => x.state == 6 && decide (x.haltAt + 4000000 ≤ s.now)),
   (51, 31, fun (_ : Unit) => s.dma.chans.toList.any fun x => x.burst.isSome && decide (x.burstAt + 400000 ≤ s.now))] ++
  (let active (e : Nat) : Bool := s.wh.active != 0 && (List.range 32).any fun r => s.wh.active.getLsbD r && s.au 0x0F02 r 10 1 == e
   let tmax := s.tmax
   let warm := (List.range 32).any fun r =>
     s.au 0x0F02 r 0 1 == 1 && s.au 0x0F02 r 10 1 == 1 && s.au 0x0F02 r 2 1 == 0 && decide (s.as 0x0F02 r 4 2 ≤ tmax)
   [(52, 12, fun (_ : Unit) => active 1), (52, 13, fun (_ : Unit) => active 2 || warm), (52, 14, fun (_ : Unit) => active 3), (52, 22, fun (_ : Unit) => active 4)]) ++
  []

/-- The cause of a source was set by a step and has not gone. -/
def State.causeHeld (s : State) (block bit : Nat) : Bool :=
  if h : block < 53 then s.ev.blocks[block].held.getLsbD bit else false

/-- R479: held causes whose condition no longer holds are gone. -/
def State.refreshCauses (s : State) : State :=
  ((causeConditions s).filter fun c => s.causeHeld c.1 c.2.1 && !c.2.2 ()).foldl (fun s c => s.causeGone c.1 c.2.1) s

/-- R46: an enabled cause is set and target interrupts are enabled: an in-band interrupt is raised. -/
def State.ibiLevel (s : State) : Bool :=
  (s.win.cause &&& s.win.ctrl) != 0 && s.win.irqEnabled && s.win.dynAddr.isSome

/-- R475, R477, R568: the interrupt causes of this step: EVENT when a source became set, FAULT when FAULT_N goes low. -/
def State.noteCauses (s : State) : State :=
  let c := bit 1 (s.ev.notify && s.sys.cmdReady) + bit 2 (s.faultLevel && !s.sys.faultLow)
  { s with win := { s.win with cause := s.win.cause ||| BitVec.ofNat 4 c }
           ev := { s.ev with notify := false, escalate := false } }

/-- The pins take the levels the event state gives them. -/
def State.drivePins (s : State) : State :=
  { s with sys := { s.sys with faultLow := s.faultLevel, irqLow := s.irqLevel }
           win := { s.win with ibiPending := s.ibiLevel } }

/-- What follows every command in the same step; the queue is what remained of it. -/
def State.settle (s : State) (queue : List Instr) : State :=
  let s := (if s.ev.escalate then s.escalateNow else s).sendMirrors
  { s.refreshCauses.noteCauses.drivePins with pending := queue }

/-- A meaning: `dt` ticks pass, the effect takes place, and the step settles. -/
def commit (dt : Nat) (f : State → State) (s : State) : Host.Outcome State Fault Refusal :=
  .next ((f ({ s with out := {} }.advance dt)).settle s.pending)

end Sys2Proof.Machine
end

