-- ==== Sys2Proof/Machine/Exposure.lean ====
section
/-!
DEFINITION. Exposure attribution (R199 to R217): which exposure set a line carries and when it was exposed.
-/
namespace Sys2Proof.Machine

/-! ### Records of a context -/

/-- R123: the profile of a context. -/
def State.profileOf (s : State) (c : Nat) : Nat := s.au 0x0201 c 4 2

/-- A field of the profile of a context (R122). -/
def State.prof (s : State) (c off n : Nat) : Nat := s.au 0x0202 (s.profileOf c) off n

/-- R122: the context's profile is a line-scan one (KIND 0). -/
def State.lineScan (s : State) (c : Nat) : Bool := s.prof c 0 1 == 0

/-- R122: TRIG_MODE of the context's profile. -/
def State.trigMode (s : State) (c : Nat) : Nat := s.prof c 3 1

/-- R123: the port of a context. -/
def State.portOf (s : State) (c : Nat) : Nat := s.au 0x0201 c 1 1

/-- R98: bits per pixel of an image data type. -/
def bitsPerPixel (dt : Nat) : Nat :=
  match dt with
  | 0x2A => 8 | 0x2B => 10 | 0x2C => 12 | 0x2D => 14 | 0x2E => 16 | 0x2F => 20 | 0x27 => 24 | _ => 0

/-- R107: the enabled context on a port and virtual channel. -/
def State.ctxAt (s : State) (port vc : Nat) : Option (Fin 64) :=
  (fins 64).find? fun c => s.au 0x0201 c 0 1 == 1 && s.au 0x0201 c 1 1 == port && s.au 0x0201 c 2 1 == vc

/-- A context is streaming. -/
def State.streams (s : State) (c : Fin 64) : Bool := s.ctxs[c].streaming

/-- Some context streams. -/
def State.anyStreams (s : State) : Bool := s.ctxs.toList.any (·.streaming)

/-- One context's inlet state changed. -/
def State.setCtx (s : State) (c : Fin 64) (f : CtxState → CtxState) : State := { s with ctxs := upd s.ctxs c f }

/-- One context's exposure state changed. -/
def State.setExpo (s : State) (c : Fin 64) (f : ExpoCtx → ExpoCtx) : State :=
  { s with expo := { s.expo with ctxs := upd s.expo.ctxs c f } }

/-! ### Exposure sets -/

/-- R203: the exposure count: the requested time in ps divided by EXP_UNIT, rounded half up. -/
def exposureCount (unitPs ns : Nat) : Nat := (2 * ns * 1000 + unitPs) / (2 * unitPs)

/-- R201: the quantised exposure time of a set in whole ns. -/
def quantisedE (unitPs count : Nat) : Nat := (2 * count * unitPs + 1000) / 2000

/-- R199: the ID that follows: after 0xFFFE the counter continues at 1. -/
def nextSetId (id : Half) : Half := if id = 0xFFFE then 1 else id + 1

/-- R206, R214: the ID and E in force for a frame or line. -/
def ExpoCtx.at_ (x : ExpoCtx) (n : Word) : Half × Nat :=
  match x.timeline.find? fun t => behind 32 t.1.toNat n.toNat with
  | some t => t.2
  | none => (x.baseId, x.baseE)

/-- A change of the ID in force from a frame or line onward; the oldest of more than 16 entries become the base. -/
def ExpoCtx.change (x : ExpoCtx) (n : Word) (id : Half) (e : Nat) : ExpoCtx :=
  let t := (n, id, e) :: x.timeline
  if t.length ≤ 16 then { x with timeline := t }
  else match t.getLast? with
    | some b => { x with timeline := t.dropLast, baseId := b.2.1, baseE := b.2.2 }
    | none => x

/-- R216: the TRIG output that drives the context's sensor. -/
def State.trigOut (s : State) (c : Nat) : Fin 32 := Fin.ofNat 32 (s.prof c 6 1)

/-- R216: the streaming contexts that take their exposure from an output. -/
def State.expoUsers (s : State) (out : Nat) : List (Fin 64) :=
  (fins 64).filter fun c => s.streams c && s.trigMode c == 2 && s.prof c 6 1 == out

/-- R216: the record at a context's cursor. -/
def State.pulseFor (s : State) (c : Fin 64) : Option PulseRec :=
  let q := s.expo.pulses[s.trigOut c]
  let x := s.expo.ctxs[c]
  q.recs[max x.cursor q.base - q.base]?

/-- R216: the cursor moves past the record it consumed, and records every streaming context consumed are released. -/
def State.takePulse (s : State) (c : Fin 64) : State :=
  let o := s.trigOut c
  let q := s.expo.pulses[o]
  let s := s.setExpo c fun x => { x with cursor := max x.cursor q.base + 1 }
  let low := (s.expoUsers o.val).foldl (fun m d => min m (max s.expo.ctxs[d].cursor q.base)) (q.base + q.recs.length)
  { s with expo := { s.expo with pulses := upd s.expo.pulses o fun q =>
      { base := low, recs := q.recs.drop (low - q.base) } } }

/-- R118, R200: the exposure time of a set; free where no set says it. -/
def exposureOf (c : Fin 64) (id : Half) (e : Nat) : Nat :=
  if id = 0 ∨ id = 0xFFFF then Config.unsetExposure c.val id.toNat else e

/-- What a tag takes from exposure control: the set ID, MID_TIME, TRIG_WIDTH and the exposure time. -/
structure Attributed where
  id : Half
  mid : Int
  trigWidth : Bool
  e : Nat
deriving DecidableEq, Repr

/-- R118, R214, R216: the attribution of a line of a context, and the state after a pulse record was consumed. `n` is the
line, `f` the frame. -/
def State.attribute (s : State) (c : Fin 64) (n f : Word) (sol : Int) : State × Attributed :=
  let (id, e) := s.expo.ctxs[c].at_ (if s.lineScan c then n else f)
  let from_ : Int := if s.prof c 0 1 = 2 then s.ctxs[c].fsTime else sol
  let plain (id : Half) (e : Nat) : Attributed :=
    let e := exposureOf c id e
    { id, e, trigWidth := false, mid := from_ - (s.prof c 8 4 : Nat) - roundDiv e 2 }
  if s.trigMode c = 2 then
    match s.pulseFor c with
    | some r =>
      let id := match r.ids.find? fun p => p.1 == c.val with | some p => p.2 | none => 0xFFFF
      (s.takePulse c, { id, e := r.width, trigWidth := true, mid := r.edge + roundDiv r.width 2 })
    | none =>
      let s := { s with expo := { s.expo with unmatched := satInc 16 s.expo.unmatched } }
      (s.raise 50 27, plain 0xFFFF e)
  else (s, plain id e)

end Sys2Proof.Machine
end

