-- ==== Sys2Proof/Machine/Pixels.lean ====
section
/-!
DEFINITION. The eight correction stages of a runnel (R167 to R186), as functions on the samples of a line.
-/
namespace Sys2Proof.Machine

/-- R32: a result saturated into the range of VALUE; SAT when it lies above. -/
def clampValue (x : Int) : Nat × Bool :=
  if x < 0 then (0, false) else if 2 ^ 32 ≤ x then (2 ^ 32 - 1, true) else (x.toNat, false)

/-- The parameters of stages 1 to 7 for one line: correction record, LUT, map and exposure. -/
structure Corr where
  unit : Nat            -- VALUE units of one code (R169)
  satCode : Nat
  nrEn : Bool
  tnrEn : Bool
  lutEn : Bool
  defEn : Bool
  bandregEn : Bool
  strength : Nat
  t1 : Nat
  t2 : Nat
  minSupport : Nat
  alpha : Nat
  guard : Nat
  reach : Nat
  black : Nat
  pedestal : Nat
  chGain : Nat          -- U16.16
  nmK : Nat             -- U4.12
  nmRn : Nat            -- U8.8
  nmBlack : Nat
  eNs : Nat
  eRef : Nat
  seg : Nat
  lut : List Nat
deriving DecidableEq, Repr

/-- R187: one map entry: DARK in VALUE units, GAIN U4.12 and the defect code. -/
structure MapEntry where
  dark : Nat := 0
  gain : Nat := 4096
  defect : Nat := 0
deriving DecidableEq, Repr

/-- R170: stage 1. -/
def unpackCode (p : Corr) (code : Nat) : Sample := { value := code * p.unit, sat := decide (p.satCode ≤ code) }

/-- The largest integer whose square does not exceed `n`, from `k` bits of root. -/
def isqrtBits (n : Nat) : Nat → Nat → Nat
  | 0, r => r
  | k + 1, r => isqrtBits n k (if (r + 2 ^ k) * (r + 2 ^ k) ≤ n then r + 2 ^ k else r)

/-- R171: isqrt. -/
def isqrt (n : Nat) : Nat := isqrtBits n 40 0

/-- R171: σ of a sample in sixteenths of a code. -/
def noiseSig (p : Corr) (value : Nat) : Nat :=
  isqrt ((256 * p.nmK * (value - p.nmBlack) * 65536 + 256 * p.nmRn * p.nmRn * 4096 * p.unit) / (4096 * 65536 * p.unit))

/-- R172: masked samples: a defect code of 1, 2 or 3, or SAT. -/
def isMasked (x : Sample) (m : MapEntry) : Bool := m.defect != 0 || x.sat

/-- R173: the temporal stage: the output and the new history. -/
def temporalStep (p : Corr) (x : Sample) (masked : Bool) (h : Option Nat) : Sample × Nat :=
  match h with
  | none => (x, x.value)
  | some h =>
    if masked then (x, x.value)
    else
      let d : Int := (x.value : Int) - h
      if p.guard * noiseSig p x.value * p.unit < d.natAbs * 256 then ({ x with nrh := true }, x.value)
      else
        let y := (clampValue (h + roundDiv (p.alpha * d) 256)).1
        ({ x with value := y }, y)

/-- R175: the spatial weight of a window position: line 0 current, 1 previous, 2 second previous; column offset from -2. -/
def spatialWeight (line col : Nat) : Nat :=
  ([[1, 2, 4, 2, 1], [1, 2, 2, 2, 1], [0, 1, 1, 1, 0]].getD line []).getD col 0

/-- R176: the range weight of a neighbour at distance `d` in VALUE units, in sixteenths. -/
def rangeWeight (p : Corr) (sig d : Nat) : Nat :=
  let a := p.t1 * sig * p.unit
  let b := p.t2 * sig * p.unit
  if d * 256 ≤ a then 16 else if b ≤ d * 256 then 0 else 16 * (b - d * 256) / (b - a)

/-- R175, R176: the neighbours of a sample that take part: their weight and value. -/
def neighbours (p : Corr) (sig : Nat) (x : Sample) (lines : List (Option (List (Sample × Bool)))) (c : Nat) :
    List (Nat × Sample) :=
  (List.range 3).flatMap fun l =>
    match lines.getD l none with
    | none => []
    | some row => (List.range 5).filterMap fun j =>
      if (l = 0 ∧ j = 2) ∨ c + j < 2 then none
      else match row[c + j - 2]? with
        | none => none
        | some (q, masked) =>
          let w := spatialWeight l j * rangeWeight p sig ((q.value : Int) - x.value).natAbs
          if w = 0 ∨ q.gap = true ∨ masked = true then none else some (w, q)

/-- R176: the spatial stage of one sample. -/
def spatialStep (p : Corr) (sig : Nat) (x : Sample) (masked : Bool) (lines : List (Option (List (Sample × Bool))))
    (c : Nat) : Sample :=
  if !p.nrEn || masked then x
  else
    let ns := neighbours p sig x lines c
    let support := ns.foldl (fun n q => n + q.1) 0
    if support < p.minSupport then { x with nrh := true }
    else
      let vsum := ns.foldl (fun n q => n + q.1 * q.2.value) (64 * x.value)
      let m : Int := roundDiv vsum (64 + support)
      let v : Int := x.value + roundDiv (p.strength * (m - x.value)) 128
      { value := (clampValue v).1, gap := false
        sat := x.sat || ns.any (fun q => q.2.sat) || (clampValue v).2
        dfc := x.dfc || ns.any (fun q => q.2.dfc), nrh := x.nrh || ns.any (fun q => q.2.nrh) }

/-- R178: stage 3: the sample and whether it was clamped to 0. -/
def darkStep (p : Corr) (x : Sample) (m : MapEntry) : Sample × Bool :=
  let eff : Int := if p.eRef = 0 then m.dark else roundDiv (m.dark * p.eNs : Nat) p.eRef
  let v : Int := x.value - p.black - eff + p.pedestal
  ({ x with value := (clampValue v).1, sat := x.sat || (clampValue v).2 }, decide (v < 0))

/-- R179: stage 4: the sample and whether it saturated. -/
def gainStep (p : Corr) (x : Sample) (m : MapEntry) : Sample × Bool :=
  let v := clampValue (roundDiv (x.value * m.gain * p.chGain : Nat) (2 ^ 28))
  ({ x with value := v.1, sat := x.sat || v.2 }, v.2)

/-- R180: stage 5: the sample and whether it saturated. -/
def lutStep (p : Corr) (x : Sample) : Sample × Bool :=
  if !p.lutEn then (x, false)
  else
    let i := x.value / 2 ^ p.seg
    let e (k : Nat) : Int := p.lut.getD k 0
    let y : Int := if i < 1023 then e i + roundDiv ((e (i + 1) - e i) * (x.value % 2 ^ p.seg : Nat)) (2 ^ p.seg)
      else e 1023 + roundDiv ((e 1023 - e 1022) * ((x.value : Int) - 1023 * 2 ^ p.seg)) (2 ^ p.seg)
    ({ x with value := (clampValue y).1, sat := x.sat || (clampValue y).2 }, (clampValue y).2)

/-- R33: the OR of the flags of donors or inputs in a sample of a given value. -/
def orFlags (v : Nat) (xs : List Sample) : Sample :=
  { value := v, sat := xs.any (·.sat), dfc := xs.any (·.dfc), nrh := xs.any (·.nrh) }

/-- R181: the nearest donor on one side, up to `reach` columns away. -/
def donorSide (row : List (Sample × Nat)) (c : Nat) (left : Bool) : Nat → Nat → Option Sample
  | 0, _ => none
  | n + 1, k =>
    let found : Option (Sample × Nat) := if left then (if c < k then none else row[c - k]?) else row[c + k]?
    match found with
    | some (x, 0) => if x.gap then donorSide row c left n (k + 1) else some x
    | _ => donorSide row c left n (k + 1)

/-- R181: the horizontal replacement. -/
def horizontal (p : Corr) (row : List (Sample × Nat)) (c : Nat) : Option Sample :=
  match donorSide row c true p.reach 1, donorSide row c false p.reach 1 with
  | some a, some b => some { orFlags ((a.value + b.value + 1) / 2) [a, b] with dfc := true }
  | some a, none => some { a with dfc := true }
  | none, some b => some { b with dfc := true }
  | none, none => none

/-- R181: the vertical replacement. -/
def vertical (prev : Option (List (Sample × Nat))) (c : Nat) : Option Sample :=
  match prev with
  | none => none
  | some row => match row[c]? with
    | some (x, 0) => if x.gap then none else some { x with dfc := true }
    | _ => none

/-- R181: stage 6 at one column. -/
def defectStep (p : Corr) (row : List (Sample × Nat)) (prev : Option (List (Sample × Nat))) (c : Nat)
    (x : Sample × Nat) : Sample :=
  if !p.defEn || x.2 == 0 then x.1
  else
    let r := match x.2 with
      | 1 => (horizontal p row c).or (vertical prev c)
      | 2 => (vertical prev c).or (horizontal p row c)
      | _ => none
    r.getD gapSample

/-- What stages 1 to 6 give for one line: the samples, the carry of its band, the new history and the counts of NRH,
SAT, clipped, replaced and unrepaired samples. -/
structure StageOut where
  samples : List Sample
  carry : BandCarry
  history : List Nat
  nrh : Nat
  sat : Nat
  clipped : Nat
  replaced : Nat
  unrepaired : Nat
  gainSat : Bool
deriving DecidableEq, Repr

/-- R170 to R173: a line after the temporal stage: the samples with their masks, and the new history. -/
def temporalRow (p : Corr) (codes : List Nat) (map : List MapEntry) (hist : Option (List Nat)) :
    List (Sample × Bool) × List Nat :=
  let at_ (c : Nat) : MapEntry := map.getD c {}
  let rows := (codes.map (unpackCode p)).mapIdx fun c x => temporalStep p x (isMasked x (at_ c))
    (if p.tnrEn then (match hist with | some h => h[c]? | none => none) else none)
  (rows.mapIdx fun c x => (x.1, isMasked x.1 (at_ c)), rows.map (·.2))

/-- R168: what a GAP item leaves in the carry of its band. -/
def BandCarry.gapLine (k : BandCarry) (width : Nat) : BandCarry :=
  { prev1 := some (List.replicate width (gapSample, false)), prev2 := k.prev1
    donor := some (List.replicate width (gapSample, 0)) }

/-- R167 to R181: stages 1 to 6 of a line of one band. `hist` is the temporal history when the context has it, `forceNrh`
marks the first lines after CARRY_LOST (R177). -/
def stageLine (p : Corr) (codes : List Nat) (map : List MapEntry) (hist : Option (List Nat)) (carry : BandCarry)
    (forceNrh : Bool) : StageOut :=
  let at_ (c : Nat) : MapEntry := map.getD c {}
  let raw := codes.map (unpackCode p)
  let temporal := temporalRow p codes map hist
  let cur := temporal.1
  let lines : List (Option (List (Sample × Bool))) := [some cur, carry.prev1, carry.prev2]
  let spatial := cur.mapIdx fun c x =>
    let y := spatialStep p (noiseSig p ((raw.getD c {}).value)) x.1 x.2 lines c
    if forceNrh then { y with nrh := true } else y
  let dark := spatial.mapIdx fun c x => darkStep p x (at_ c)
  let gain := dark.mapIdx fun c x => gainStep p x.1 (at_ c)
  let lut := gain.map fun x => (lutStep p x.1).1
  let lutSat := gain.map fun x => (lutStep p x.1).2
  let row := lut.mapIdx fun c x => (x, (at_ c).defect)
  let out := row.mapIdx fun c x => defectStep p row carry.donor c x
  let count (l : List Bool) : Nat := (l.filter id).length
  let bad := row.map fun x => p.defEn && x.2 != 0
  { samples := out
    carry := { prev1 := some cur, prev2 := carry.prev1, donor := some row }
    history := temporal.2
    nrh := count (spatial.map (·.nrh))
    sat := count (raw.map (·.sat)) + count (gain.map (·.2)) + count lutSat
    clipped := count (dark.map (·.2))
    replaced := count (List.zipWith (fun b (x : Sample) => b && !x.gap) bad out)
    unrepaired := count (List.zipWith (fun b (x : Sample) => b && x.gap) bad out)
    gainSat := gain.any (·.2) || lutSat.any id }

/-! ### Band registration -/

/-- R34, R183: a sample interpolated between two inputs with weights `256 - f` and `f`. -/
def mixSamples (a b : Sample) (f : Nat) : Sample :=
  let ins := ([(256 - f, a), (f, b)]).filter fun q => q.1 != 0
  let good := ins.filter fun q => !q.2.gap
  match good with
  | [] => gapSample
  | _ =>
    let w : Nat := good.foldl (fun n q => n + q.1) 0
    let v : Nat := good.foldl (fun n q => n + q.1 * q.2.value) 0
    orFlags (roundDiv v w).toNat (good.map (·.2))

/-- R183: the line of a band in the group `back` groups before the newest; none when it is not available. -/
def bandBack (groups : List (List (Nat × List Sample))) (band back : Nat) : Option (List Sample) :=
  match groups[back]? with
  | none => none
  | some g => (g.find? fun q => q.1 == band).map (·.2)

/-- R183: one band of the registered line of the newest group; `off` is BAND_OFFSET in 1/256 line. -/
def registerBand (groups : List (List (Nat × List Sample))) (width band : Nat) (off : Int) : List Sample :=
  let lo := off / 256
  let f := (off % 256).toNat
  let line (k : Int) : List Sample := if 0 < k then List.replicate width gapSample else
    (bandBack groups band k.natAbs).getD (List.replicate width gapSample)
  List.zipWith (fun a b => mixSamples a b f) (line lo) (if f = 0 then line lo else line (lo + 1))

end Sys2Proof.Machine
end

