-- ==== Sys2Proof/Machine/Contexts.lean ====
section
/-!
DEFINITION. Contexts and their runnels (R142 to R147, R162): binding, planned load, the moments that boundaries of records
take effect, and the capture times of packets (R117).
-/
namespace Sys2Proof.Machine

/-! ### Records of an item -/

/-- An unsigned field of a record, as it holds for the item of a context at frame or line `n` (R151). -/
def State.iu (s : State) (c : Nat) (n : Word) (id inst off len : Nat) : Nat := recU (s.itemRec c n id inst) id inst off len

/-- A signed field of a record for an item. -/
def State.is (s : State) (c : Nat) (n : Word) (id inst off len : Nat) : Int := recS (s.itemRec c n id inst) id inst off len

/-- A field of the profile of an item's context. -/
def State.iprof (s : State) (c : Nat) (n : Word) (off len : Nat) : Nat :=
  let p := s.iu c n 0x0201 c 4 2
  s.iu c n 0x0202 p off len

/-! ### Binding -/

/-- R123: the context's record has ENABLE 1. -/
def State.ctxEnabled (s : State) (c : Nat) : Bool := s.au 0x0201 c 0 1 == 1

/-- R144: the context is ganged. -/
def State.ganged (s : State) (c : Nat) : Bool := s.au 0x0301 c 1 1 == 1

/-- R144, R146: the runnel a context runs on: while it streams, the one it started on or moved to. -/
def State.runnelOf (s : State) (c : Fin 64) : Nat :=
  if s.streams c || s.ctxs[c].draining then s.ctxs[c].runnel else s.au 0x0301 c 0 1

/-- R144, R147: the context is bound to the runnel. -/
def State.boundTo (s : State) (c : Fin 64) (r : Nat) : Bool :=
  s.ctxEnabled c && (s.runnelOf c == r || (s.ganged c && s.runnelOf c + 1 == r))

/-- R145, R165: the contexts bound to a runnel, in ascending number: its slots. -/
def State.slotsOf (s : State) (r : Nat) : List (Fin 64) := (fins 64).filter fun c => s.boundTo c r

/-- The runnels a context occupies. -/
def State.runnelsOf (s : State) (c : Fin 64) : List Nat :=
  if s.ganged c then [s.runnelOf c, s.runnelOf c + 1] else [s.runnelOf c]

/-- One runnel changed. -/
def State.setRunnel (s : State) (r : Fin 8) (f : Runnel → Runnel) : State :=
  { s with runnels := upd s.runnels r f }

/-- One runnel, by number. -/
def State.runnel (s : State) (r : Nat) : Runnel := s.runnels[Fin.ofNat 8 r]

/-! ### Planned load -/

/-- A fraction, numerator and denominator. -/
abbrev Ratio := Nat × Nat

/-- The sum of two fractions. -/
def Ratio.add (a b : Ratio) : Ratio := (a.1 * b.2 + b.1 * a.2, a.2 * b.2)

/-- R162: the load a context puts on a runnel, from the records of a store. -/
def ctxLoad (m : List Host.Cell) (c r : Nat) : Ratio :=
  let w := recU m 0x0201 c 12 2
  let h := recU m 0x0201 c 6 2
  let p := recU m 0x0201 c 4 2
  let mlp := recU m 0x0202 p 20 4
  if recU m 0x0202 p 0 1 = 0 then ((w / 2 + 24) * 10, 12 * mlp)
  else
    let cycles10 := 31 * max (5 * w) (12 * mlp) + 5 * w + 240
    let strips := h / 32
    let n := if recU m 0x0301 c 1 1 = 1 then
        (if r = recU m 0x0301 c 0 1 then ceilDiv h 64 else strips - ceilDiv h 64) else strips
    (n * cycles10, 12000 * recU m 0x0301 c 4 4)

/-- The context is bound to the runnel by the records of a store. -/
def recBound (m : List Host.Cell) (c r : Nat) : Bool :=
  recU m 0x0201 c 0 1 == 1 &&
    (recU m 0x0301 c 0 1 == r || (recU m 0x0301 c 1 1 == 1 && recU m 0x0301 c 0 1 + 1 == r))

/-- R162: the planned load of a runnel. -/
def plannedLoad (m : List Host.Cell) (r : Nat) : Ratio :=
  ((List.range 64).filter fun c => recBound m c r).foldl (fun a c => Ratio.add a (ctxLoad m c r)) (0, 1)

/-- R162: the planned load exceeds LOAD_WARN. -/
def State.loadHigh (s : State) (r : Nat) : Bool :=
  let l := plannedLoad s.recs.active r
  decide (s.au 0x0302 r 1 1 * l.2 < l.1 * 100)

/-- R162: LOAD_HIGH follows the planned loads after a REC_APPLY. -/
def State.refreshLoad (s : State) : State :=
  (fins 8).foldl (fun s (r : Fin 8) => s.raiseLevel (s.loadHigh r) (32 + r.val) 0) s

/-- R499: the leave of a context start: for each of its runnels, its share of the runnel's capacity in units. -/
def State.contextCost (s : State) (c : Fin 64) : Nat :=
  let m := s.recs.active
  let rs := if s.ganged c then [s.au 0x0301 c 0 1, s.au 0x0301 c 0 1 + 1] else [s.au 0x0301 c 0 1]
  rs.foldl (fun n r => let l := ctxLoad m c r; n + max 1 (ceilDiv (l.1 * 48) l.2)) 0

/-! ### Capture times -/

/-- R2: twin-pair configuration. -/
def State.twinPair (s : State) : Bool := s.sys.twinSel

/-- R117: the capture time of a header recognised `ago` ticks before now on a port: corrected by the port's capture offset
in ps, and in twin-pair configuration rounded down to 40 ns. -/
def State.captureTime (s : State) (port ago : Nat) : Int :=
  let total : Int := s.clock.ext * 2 ^ 24 + s.clock.frac - ago * s.clock.incr.toNat
  let off : Int := signedOf 32 (s.calU (72 + 4 * port) 4)
  let t : Int := (total * 1000 - off * 2 ^ 24) / (1000 * 2 ^ 24)
  if s.twinPair then t / 40 * 40 else t

/-! ### Boundaries -/

/-- R68, R69: the entry of a boundary that has passed. -/
def State.logBoundary (s : State) (a : Scheduled) : State :=
  let p := a.pairs.headD (0, 0)
  s.log { s.entry a.port.toNat 2 0x0203 (BitVec.ofNat 64 (p.1 + p.2 * 2 ^ 16 + wrapOf 32 a.boundary * 2 ^ 32)) with
    seq := a.seq, originId := a.originId, aflags := BitVec.ofNat 8 (bit 1 a.moved) }

/-- R146, R499: a streaming context whose RUNNEL has changed asks for leave to start on the new runnel. -/
def State.askMove (s : State) (p : Nat × Nat) : State :=
  let c := Fin.ofNat 64 p.2
  if p.1 = 0x0301 ∧ s.streams c ∧ s.au 0x0301 c 0 1 ≠ s.ctxs[c].runnel ∧ ¬ s.ctxs[c].moving then
    let (s, ok) := s.askSelf (.move c) 4 (s.contextCost c) 4
    s.setCtx c fun x => { x with moving := ok }
  else s

/-- R13: the records of a REC_APPLY become active together. -/
def State.activate (s : State) (a : Scheduled) : State :=
  let s := { s with recs := { s.recs with
    active := activated s.recs a.pairs, scheduled := s.recs.scheduled.filter (· != a) } }
  a.pairs.foldl State.askMove (s.logBoundary a).refreshLoad

/-- R112: the frame or line boundaries of a context that fall at frame or line `n`. -/
def State.frameBoundaries (s : State) (c : Nat) (n : Word) : State :=
  let due := s.recs.scheduled.filter fun a => a.kind == 2 && a.ctx == c && a.boundary == (n.toNat : Int)
  due.foldl (fun s a =>
    let old := s.recs.active
    let s := s.activate a
    { s with recs := { s.recs with frames := s.recs.frames ++ [{ ctx := c, boundary := n, pairs := a.pairs, old }] } }) s

/-- Earlier contents are dropped once an item of frame or line `n` of the context has ended. -/
def State.pruneFrames (s : State) (c : Nat) (n : Word) : State :=
  { s with recs := { s.recs with
      frames := s.recs.frames.filter fun w => !(w.ctx == c && behind 32 w.boundary.toNat n.toNat) } }

end Sys2Proof.Machine
end

