-- ==== Sys2Proof/Machine/Inlet.lean ====
section
/-!
DEFINITION. Camera inlets (R97 to R126) and what happens when an inlet queue fills (R156, R157): the checks of a packet, the
tags of lines and GAP records, frames and line numbers.
-/
namespace Sys2Proof.Machine

/-! ### The port -/

/-- R127: the inlet queue of a port. -/
def inletQueue (p : Fin 32) : Fin 43 := ⟨p.val, by omega⟩

/-- One inlet changed. -/
def State.setInlet (s : State) (p : Fin 32) (f : Inlet → Inlet) : State := { s with inlets := upd s.inlets p f }

/-- One queue changed. -/
def State.setQueue (s : State) (q : Fin 43) (f : PQueue → PQueue) : State := { s with queues := upd s.queues q f }

/-- R494: the power domain of a port. -/
def portDomain (p : Fin 32) : Fin 22 := ⟨4 + p.val / 8, by omega⟩

/-- R97, R494: the port receives: its domain is ON and its mode is not off. -/
def State.inletOn (s : State) (p : Fin 32) : Bool := s.domOn (portDomain p) && s.au 0x0203 p 0 1 != 0

/-- R121: the active lanes of a port, as a mask. -/
def State.laneMask (s : State) (p : Fin 32) : BitVec 4 := BitVec.ofNat 4 (2 ^ s.au 0x0203 p 1 1 - 1)

/-- A context on the port streams. -/
def State.portStreams (s : State) (p : Fin 32) : Bool :=
  (fins 64).any fun c => s.streams c && s.portOf c == p.val

/-- R98: a supported image data type. -/
def imageType (dt : Nat) : Bool := bitsPerPixel dt != 0

/-- R98, R120: a supported non-image long packet. -/
def nonImageType (dt : Nat) : Bool := decide (0x10 ≤ dt ∧ dt ≤ 0x17)

/-- R107: a packet passed check 2 on a virtual channel. -/
def State.seeVc (s : State) (p : Fin 32) (vc : Nat) : State :=
  s.setInlet p fun x => { x with vcSeen := x.vcSeen ||| BitVec.ofNat 16 (if vc < 16 then 2 ^ vc else 0) }

/-- R99, R107 check 3: a packet of an unmapped virtual channel. -/
def State.vcUnmapped (s : State) (p : Fin 32) : State :=
  (s.setInlet p fun x => { x with vcUnmapped := satInc 16 x.vcUnmapped }).raise p 4

/-- R107: the line a packet would have formed is dropped whole. -/
def State.lineDrop (s : State) (p : Fin 32) : State :=
  (s.setInlet p fun x => { x with dropped := satInc 16 x.dropped }).raise p 8

/-- R107 checks 1 and 2, R108: a lost long packet. -/
def State.lostLine (s : State) (p : Fin 32) : State :=
  if s.portStreams p then (s.lineDrop p).setInlet p fun x => { x with lost := x.lost ++ [2] } else s

/-! ### Tags -/

/-- R113: HEIGHT of a context. -/
def State.height (s : State) (c : Nat) : Nat := s.au 0x0201 c 6 2

/-- R116 to R119: the tag of the next line or GAP record of a context, with its times; the counters move on. -/
def State.makeTag (s : State) (p : Fin 32) (c : Fin 64) (sol foot : Int) (gap : Bool) (reason : Nat) (ln : Option Half) :
    State × LineTag :=
  let x := s.ctxs[c]
  let ls := s.lineScan c
  let s := if ls then s.frameBoundaries c x.line else s
  let (s, a) := s.attribute c x.line x.frame sol
  let y := x.inFrame
  let tag : LineTag := {
    port := p, vc := s.au 0x0201 c 2 1, ctx := c, gap, reason, sol, foot, mid := a.mid, expoNs := a.e, setId := a.id
    trigWidth := a.trigWidth, holdover := s.clock.holdover, timeStep := x.stepMark
    first := if ls then x.firstMark else y = 0
    last := !ls && y + 1 == s.height c
    stripEnd := !ls && y % 32 == 31
    line := x.line, frame := x.frame, strip := if ls then 0xFFFF else BitVec.ofNat 16 (y / 32)
    width := s.au 0x0201 c 12 2
    sensorLine := if s.au 0x0201 c 14 1 = 1 then ln.getD (BitVec.ofNat 16 y) else BitVec.ofNat 16 y
    sensorFn := x.sensorFn }
  let s := s.setCtx c fun x => { x with
    line := x.line + 1, inFrame := x.inFrame + 1, firstMark := false, stepMark := false, lastSol := sol, moved := if ls then 0 else x.moved
    lastLn := if ln.isSome then ln else x.lastLn.map (· + 1) }
  let s := s.setExpo c fun e => { e with inForce := a.id }
  (s.raiseIf tag.timeStep p 16, tag)

/-! ### The queue -/

/-- R128: the storage of a packet: the tag, and the pixels of a line, in whole words. -/
def packetBytes (width bpp : Nat) (gap : Bool) : Nat :=
  if gap then 32 else ceilDiv (32 + ceilDiv (width * bpp) 8) 16 * 16

/-- R128: the storage of a tagged packet. -/
def State.storageOf (s : State) (t : LineTag) : Nat := packetBytes t.width (bitsPerPixel (s.au 0x0201 t.ctx 3 1)) t.gap

/-- R129, R156: a reservation is accepted: lines may use 260,096 bytes, GAP records all 262,144. -/
def State.fits (s : State) (p : Fin 32) (bytes : Nat) (gap : Bool) : Bool :=
  let q := s.queues[inletQueue p]
  q.state == 2 && decide (q.used + bytes ≤ if gap then 262144 else 260096)

/-- R121: the fill reaches PORT.QUEUE_HIGH. -/
def State.queueHigh (s : State) (p : Fin 32) : Bool :=
  decide (s.au 0x0203 p 16 2 * 262144 ≤ s.queues[inletQueue p].used * 100)

/-- R130: a packet is committed behind those before it. -/
def State.commitPacket (s : State) (p : Fin 32) (k : InPacket) : State :=
  let bytes := s.storageOf k.tag
  let s := s.setQueue (inletQueue p) fun q => { q with used := q.used + bytes }
  let fill := s.queues[inletQueue p].used
  let s := s.setInlet p fun x => { x with
    queue := x.queue ++ [k], peak := max x.peak fill, gaps := if k.tag.gap then satInc 16 x.gaps else x.gaps }
  s.raiseLevel (s.queueHigh p) p 11

/-- R157: a GAP record waits for space, or is lost when 65,535 of its context wait. -/
def State.deferGap (s : State) (p : Fin 32) (t : LineTag) : State :=
  let r := 32 + s.ctxs[Fin.ofNat 64 t.ctx].runnel
  if (s.inlets[p].waiting.filter fun w => w.ctx == t.ctx).length < 65535 then
    (s.setInlet p fun x => { x with waiting := x.waiting ++ [{ t with reason := 4 }] }).raiseLevel true r 6
  else s.raise r 7

/-- A GAP record of the context already waits. -/
def State.gapWaits (s : State) (p : Fin 32) (c : Nat) : Bool := s.inlets[p].waiting.any fun w => w.ctx == c

/-- R108, R109, R156: a GAP record enters the queue, or waits. -/
def State.putGap (s : State) (p : Fin 32) (c : Fin 64) (sol : Int) (reason : Nat) (ln : Option Half) : State :=
  let (s, t) := s.makeTag p c sol sol true reason ln
  if s.fits p 32 true && !s.gapWaits p c then s.commitPacket p { tag := t } else s.deferGap p t

/-- R115: `k` GAP records with times spaced evenly between two lines; the lost lines of the port come first (R108). -/
def State.putGaps (s : State) (p : Fin 32) (c : Fin 64) (from_ till : Int) (reason : Nat) : (k i n : Nat) → State
  | 0, _, _ => s
  | k + 1, i, n =>
    let sol := from_ + roundDiv ((till - from_) * i) n
    let r := match s.inlets[p].lost with | x :: _ => x | [] => reason
    let s := s.setInlet p fun x => { x with lost := x.lost.drop 1 }
    let ln := s.ctxs[c].lastLn.map (· + 1)
    (s.putGap p c sol r ln).putGaps p c from_ till reason k (i + 1) n

/-- R119, R134: one pending GAP record is written, its time spaced evenly between the first and the last kept (R157). -/
def State.writePendingGap (s : State) (p : Fin 32) (t : LineTag) : State :=
  let rest := s.inlets[p].waiting.drop 1
  let mine := rest.filter fun w => w.ctx == t.ctx
  let adjust (w : LineTag) (sol : Int) : LineTag :=
    let fixedMid := w.trigWidth || s.prof w.ctx 0 1 == 2
    { w with sol, mid := if fixedMid then w.mid else w.mid + (sol - w.sol) }
  let sol := match mine.getLast? with
    | some l => t.sol + roundDiv (l.sol - t.sol) mine.length
    | none => t.sol
  let rest := match rest.findIdx? fun w => w.ctx == t.ctx with
    | some i => updAt rest i fun w => if mine.length = 1 then w else adjust w sol
    | none => rest
  (s.setInlet p fun x => { x with waiting := rest }).commitPacket p { tag := t }

/-- R157: pending GAP records are written in order while there is space. -/
def State.writePendingGaps (s : State) (p : Fin 32) : Nat → State
  | 0 => s
  | n + 1 => match s.inlets[p].waiting with
    | [] => s
    | t :: _ => if s.fits p 32 true then (s.writePendingGap p t).writePendingGaps p n else s

/-! ### Lines -/

/-- R102: the taps of a port move one step toward their new values with each line. -/
def State.stepTaps (s : State) (p : Fin 32) : State :=
  let x := s.inlets[p]
  if x.deskew = 3 then
    let taps := updAll x.taps fun i t => let g := x.targets[i]; if t < g then t + 1 else if g < t then t - 1 else t
    s.setInlet p fun x => { x with taps, deskew := if taps = x.targets then 0 else 3 }
  else s

/-- R107, R108: a line of a context is dropped and a GAP record takes its place. -/
def State.dropWithGap (s : State) (p : Fin 32) (c : Fin 64) (sol : Int) (reason : Nat) : State :=
  (s.lineDrop p).putGap p c sol reason s.ctxs[c].pendingLn

/-- R115: the GAP records of a jump in the line numbers, before the arriving line. -/
def State.putJump (s : State) (p : Fin 32) (c : Fin 64) (sol : Int) : State :=
  let x := s.ctxs[c]
  let room := if s.lineScan c then x.jump else min x.jump (s.height c - x.inFrame)
  (s.setCtx c fun x => { x with jump := 0 }).putGaps p c x.lastSol sol 6 room 1 (x.jump + 1)

/-- R129, R156: a good line enters the queue, or is dropped for want of space. -/
def State.putLine (s : State) (p : Fin 32) (c : Fin 64) (sol foot : Int) (codes : List Nat) : State :=
  let s := s.writePendingGaps p s.inlets[p].waiting.length
  let bytes := packetBytes (s.au 0x0201 c 12 2) (bitsPerPixel (s.au 0x0201 c 3 1)) false
  if s.fits p bytes false && !s.gapWaits p c then
    let (s, t) := s.makeTag p c sol foot false 0 s.ctxs[c].pendingLn
    s.commitPacket p { tag := t, codes := (codes.drop (s.au 0x0201 c 10 2)).take (s.au 0x0201 c 12 2) }
  else (s.raise p 12).dropWithGap p c sol 4

/-- R104: the packet overlaps a deskew sweep. -/
def State.inSweep (s : State) (p : Fin 32) (ago : Nat) : Bool :=
  s.inlets[p].deskew == 2 || decide (s.now < s.inlets[p].sweepTo + ago)

/-- R107, checks 4 to 6, and R104, for a packet of a streaming context: what becomes of its line. -/
def State.takeLine (s : State) (p : Fin 32) (c : Fin 64) (k : LinePacket) : State :=
  let sol := s.captureTime p k.footTicks
  let s := s.setCtx c fun x => { x with lineAt := s.now, noData := false }
  let x := s.ctxs[c]
  let area := !s.lineScan c
  let bpp := bitsPerPixel (s.au 0x0201 c 3 1)
  let s := if k.dataType.val = s.au 0x0201 c 3 1 then s
    else (s.setInlet p fun x => { x with dtBad := satInc 16 x.dtBad }).raise p 5
  if area && (!x.frameOpen || decide (s.height c ≤ x.inFrame)) then s.raise p 9
  else
    let s := s.putJump p c sol
    let s :=
      if s.inSweep p k.footTicks then s.dropWithGap p c sol 5
      else if k.dataType.val ≠ s.au 0x0201 c 3 1 then s.dropWithGap p c sol 3
      else if k.wordCount * 8 ≠ s.au 0x0201 c 8 2 * bpp then
        ((s.setInlet p fun x => { x with wcBad := satInc 16 x.wcBad }).raise p 6).dropWithGap p c sol 3
      else if !k.crcGood then
        ((s.setInlet p fun x => { x with crcBad := satInc 16 x.crcBad }).raise p 7).dropWithGap p c sol 1
      else s.putLine p c sol (s.captureTime p 0) k.codes
    s.setCtx c fun x => { x with pendingLn := none }

/-- R574, R575: a line whose header came `ago` ticks before now is taken: the context streamed then. -/
def State.takesLines (s : State) (c : Fin 64) (ago : Nat) : Bool :=
  let x := s.ctxs[c]
  decide (x.startAt + ago < s.now) &&
    (x.streaming || (x.draining && s.lineScan c && decide (s.now ≤ x.stopAt + ago)))

/-- R107, checks 4 to 6, for a packet of an enabled context that does not stream: it is counted, and drops no line. -/
def State.checkLong (s : State) (p : Fin 32) (c : Fin 64) (k : LinePacket) : State :=
  if k.dataType.val ≠ s.au 0x0201 c 3 1 then (s.setInlet p fun x => { x with dtBad := satInc 16 x.dtBad }).raise p 5
  else if k.wordCount * 8 ≠ s.au 0x0201 c 8 2 * bitsPerPixel (s.au 0x0201 c 3 1) then
    (s.setInlet p fun x => { x with wcBad := satInc 16 x.wcBad }).raise p 6
  else if !k.crcGood then (s.setInlet p fun x => { x with crcBad := satInc 16 x.crcBad }).raise p 7
  else s

/-- R107: the checks of a long packet in their order, and R574: a packet in progress at the start is discarded. -/
def State.longPacket (s : State) (p : Fin 32) (k : LinePacket) : State :=
  if !k.sotGood then
    ((s.setInlet p fun x => { x with hdrBad := satInc 16 x.hdrBad }).raise p 1).lostLine p
  else
    let s := s.setInlet p fun x => { x with lock := s.laneMask p, laneStop := 0, clkActive := s.au 0x0203 p 0 1 == 1 }
    if k.header.val = 2 then
      ((s.setInlet p fun x => { x with hdrBad := satInc 16 x.hdrBad }).raise p 3).lostLine p
    else
      let s := if k.header.val = 1 then
        (s.setInlet p fun x => { x with eccCorr := satInc 16 x.eccCorr }).raise p 2 else s
      let s := s.seeVc p k.vc
      match if k.vc.val < 16 then s.ctxAt p k.vc else none with
      | none => s.vcUnmapped p
      | some c =>
        if nonImageType k.dataType then s
        else if s.takesLines c k.footTicks then (s.takeLine p c k).stepTaps p
        else if s.streams c then s
        else s.checkLong p c k

/-! ### Frames -/

/-- R113: the frame of an area context closes: GAP records for the missing lines. -/
def State.closeFrame (s : State) (p : Fin 32) (c : Fin 64) : State :=
  let x := s.ctxs[c]
  let s :=
    if s.lineScan c then s
    else
      let missing := s.height c - x.inFrame
      if missing = 0 then s
      else
        let from_ := if x.inFrame = 0 then x.fsTime else x.lastSol
        let mlp : Nat := s.prof c 20 4
        (s.raise p 9).putGaps p c from_ (from_ + (mlp * (missing + 1) : Nat)) 6 missing 1 (missing + 1)
  s.setCtx c fun x => { x with frameOpen := false, jump := 0, pendingLn := none }

/-- R110 to R112: a frame start of a streaming context. Line numbers run on through the frame starts of a line-scan context;
in an area context they begin anew (log entry 33). -/
def State.openFrame (s : State) (p : Fin 32) (c : Fin 64) (fn : Half) : State :=
  let s := if s.ctxs[c].frameOpen then (s.raise p 9).closeFrame p c else s
  let s := s.setInlet p fun x => { x with lost := [] }
  let t := s.captureTime p 0
  let s := s.setCtx c fun x => { x with
    frame := if x.started then x.frame + 1 else x.frame
    started := true, frameOpen := true, inFrame := 0, firstMark := true, sensorFn := fn, fsTime := t, moved := 0
    pendingLn := none, lastLn := if s.lineScan c then x.lastLn else none, jump := 0 }
  if s.lineScan c then s else s.frameBoundaries c s.ctxs[c].frame

/-- R115: the number carried by a line start packet is compared with the last. -/
def State.checkLine (s : State) (p : Fin 32) (c : Fin 64) (ln : Half) : State :=
  if s.au 0x0201 c 14 1 = 1 then
    match s.ctxs[c].lastLn with
    | none => s.setCtx c fun x => { x with pendingLn := some ln, jump := 0 }
    | some l =>
      let k := (ln - l - 1).toNat
      let s := s.setCtx c fun x => { x with pendingLn := some ln, jump := if k ≤ 256 then k else 0 }
      s.raiseIf (k != 0) p 10
  else s

/-- The context a short packet of a port belongs to (checks 2 and 3). -/
def State.shortPacket (s : State) (p vc : Fin 32) (f : State → Fin 64 → State) : State :=
  if s.inletOn p then
    let s := s.seeVc p vc
    match if vc.val < 16 then s.ctxAt p vc else none with
    | none => s.vcUnmapped p
    | some c => if s.streams c then f s c else s
  else s

end Sys2Proof.Machine
end

