-- ==== Sys2Proof/Machine/Resample.lean ====
section
/-!
DEFINITION. The fall-grid resampler (R251 to R273): reference positions, the across stage, and the rows of a view.
-/
namespace Sys2Proof.Machine

/-! ### Trajectory and position -/

/-- R255: the fall time to height `z` in ns, for an exit velocity and an acceleration. -/
def fallNs (v0c a z : Nat) : Nat :=
  let v := isqrt (v0c * v0c + 2 * a * z)
  (2 * z * 1000000000 + (v0c + v) / 2) / (v0c + v)

/-- The parameters a view uses, as one generation of row boundaries gives them (R270). -/
structure ViewCfg where
  view : Nat
  store : Nat → Nat → List Host.Cell

/-- An unsigned field of the view record. -/
def ViewCfg.u (k : ViewCfg) (off n : Nat) : Nat := recU (k.store 0x0703 k.view) 0x0703 k.view off n

/-- A signed field of the view record. -/
def ViewCfg.i (k : ViewCfg) (off n : Nat) : Int := recS (k.store 0x0703 k.view) 0x0703 k.view off n

/-- R256: the first covered column and their number. -/
def ViewCfg.cols (k : ViewCfg) : Nat × Nat := (k.u 4 2, k.u 6 2)

/-- The view covers the column. -/
def ViewCfg.covers (k : ViewCfg) (c : Nat) : Bool := decide (k.cols.1 ≤ c ∧ c < k.cols.1 + k.cols.2)

/-- R257: the geometry entry of a covered column. -/
def ViewCfg.geo (k : ViewCfg) (c : Nat) : Nat := recU (k.store 0x0704 k.view) 0x0704 k.view (4 * (c - k.cols.1)) 4

/-- R254: the exit velocity of a column in µm/s. -/
def ViewCfg.v0c (k : ViewCfg) (c : Nat) : Int :=
  recU (k.store 0x0702 65535) 0x0702 65535 0 4 + 250 * recS (k.store 0x0702 65535) 0x0702 65535 (32 + 2 * c) 2

/-- R257: the height at which line `y` of band `b` sees a column, rounded half up to whole µm. `reg` is BANDREG_EN. -/
def ViewCfg.z (k : ViewCfg) (c y b : Nat) (reg : Bool) : Int :=
  roundDiv (256 * (k.u 8 4 : Nat) + 16000 * signedOf 12 (k.geo c / 2 ^ 20) + y * k.i 12 4 +
    (if reg then 0 else 256 * k.i (16 + 2 * b) 2)) 256

/-- R255: the fall delay of height `z` at a column, relative to the reference height `zref`. -/
def ViewCfg.dlyAt (k : ViewCfg) (c : Nat) (zref : Nat) (z : Int) : Int :=
  let v := (k.v0c c).toNat
  let a := recU (k.store 0x0702 65535) 0x0702 65535 4 4
  (fallNs v a z.toNat : Int) - fallNs v a zref

/-- R255: dly of a line at a column. -/
def ViewCfg.dly (k : ViewCfg) (c y b zref : Nat) (reg : Bool) : Int := k.dlyAt c zref (k.z c y b reg)

/-- R262: a reference position, in rows with 16 fraction bits. -/
def refPos (tr origin : Int) (tRow : Nat) : Int := ((tr - origin) * 2 ^ 25 + tRow) / (2 * tRow : Nat)

/-- The parameters of a view at a generation. -/
def State.viewCfg (s : State) (v g : Nat) : ViewCfg := { view := v, store := s.genRec g }

/-- The parameters of a view for grid row K. -/
def State.viewCfgRow (s : State) (v : Nat) (k : Int) : ViewCfg := { view := v, store := s.rowRec k }

/-- R251: T_ROW. -/
def State.tRow (s : State) : Nat := s.au 0x0701 65535 12 4

/-- R251: Z_REF_UM. -/
def State.zRef (s : State) : Nat := s.au 0x0701 65535 20 4

/-- R270: a row boundary that names a record the view uses. -/
def RowSwitch.affects (w : RowSwitch) (k : ViewCfg) : Bool :=
  w.pairs.any fun p => p.1 == 0x0702 || (p.1 == 0x0703 && p.2 == k.view) || (p.1 == 0x0704 && p.2 == k.view) ||
    (p.1 == 0x0705 && p.2 == k.u 2 1) || (p.1 == 0x0706 && p.2 == k.u 3 1)

/-! ### The filters -/

/-- R260: a quotient by a signed divisor, rounded half up. -/
def roundDivS (a d : Int) : Int := if d < 0 then roundDiv (-a) d.natAbs else roundDiv a d.natAbs

/-- R260: a filter output over taps with their coefficients; absent taps are excluded. -/
def filterOut (taps : List (Int × Option Sample)) : Sample :=
  let inc := taps.filterMap fun t => match t.2 with
    | some x => if t.1 = 0 ∨ x.gap then none else some (t.1, x)
    | none => none
  match inc with
  | [] => gapSample
  | _ =>
    let sum := inc.foldl (fun n t => n + t.1) 0
    let v := clampValue (roundDivS (inc.foldl (fun n t => n + t.1 * t.2.value) 0) sum)
    let o := orFlags v.1 (inc.map (·.2))
    { o with sat := o.sat || v.2 }

/-- R259: the four coefficients of a phase of a filter record. -/
def coefs (m : List Host.Cell) (id set phase : Nat) : List Int :=
  (List.range 4).map fun k => recS m id set (8 * phase + 2 * k) 2

/-- R261: the across stage at one column of a cropped line; the Bool tells a position outside the line. -/
def acrossAt (k : ViewCfg) (c b : Nat) (line : List Sample) (width : Nat) : Sample × Bool :=
  let pos : Nat := k.geo c % 2 ^ 20
  if pos = 2 ^ 20 - 1 then (gapSample, false)
  else
    let u : Int := pos + k.i (24 + 2 * b) 2
    if u < 0 ∨ ((width - 1) * 64 : Nat) < u then (gapSample, true)
    else
      let i := u.toNat / 64
      let cs := coefs (k.store 0x0705 (k.u 2 1)) 0x0705 (k.u 2 1) (u.toNat % 64)
      (filterOut (cs.mapIdx fun j x =>
        (x, if i + j < 1 ∨ width ≤ i + j - 1 then none else (line)[i + j - 1]?)), false)

/-! ### Lines of a view -/

/-- A held line's position at a column. -/
def RsLine.at_ (l : RsLine) (c : Nat) : Option Int := if c < l.first then none else l.pos.getD (c - l.first) none

/-- A held line's generation at a column. -/
def RsLine.gen (l : RsLine) (c : Nat) : Nat := l.gens.getD (c - l.first) 0

/-- A held line's sample at a column. -/
def RsLine.sample (l : RsLine) (b c : Nat) : Sample := (l.bands.getD b []).getD (c - l.first) gapSample

/-- R263, R264: the lines of the current sequence that take part at a column, with their positions. -/
def RsSeq.column (q : RsSeq) (cur : Word) (c : Nat) : List (Int × RsLine) :=
  q.lines.filterMap fun l => if l.seq = cur then (l.at_ c).map fun p => (p, l) else none

/-- R270: the generation a column has reached after a line, and the line's position there. -/
def settleGen (pos : Nat → Int) (ws : List RowSwitch) (g : Nat) : Nat :=
  match ws with
  | [] => g
  | w :: ws => if w.serial ≤ g then settleGen pos ws g
    else if w.boundary * 65536 ≤ pos g then settleGen pos ws w.serial else g

/-- One view changed. -/
def State.setView (s : State) (v : Fin 64) (f : ViewState → ViewState) : State := { s with views := upd s.views v f }

/-- R192: BANDREG_EN of a context's correction record for an item. -/
def State.bandReg (s : State) (c : Nat) (n : Word) : Bool := (s.iu c n 0x0303 c 0 1).testBit 4

/-- R197: the latest occurrence of a correction-stage source. -/
def State.raiseCorr (s : State) (r : Fin 8) (c bit : Nat) : State :=
  (s.setRunnel r fun x => { x with corrCtx := c, corrBit := bit }).raise (32 + r.val) bit

/-- What the across stage and R262, R263 give for a line: position, generation and samples of each column. -/
structure Placed where
  pos : Option Int
  gen : Nat
  samples : List Sample
  outside : Bool
deriving DecidableEq, Repr

/-- R261 to R263, R270: one column of a line. `prev` is the position of the line before it in its sequence. -/
def State.placeColumn (s : State) (v : Fin 64) (o : OutLine) (b0 : Nat) (reg : Bool) (tr0 origin present : Int)
    (prev : Option Int) (c : Nat) : Placed :=
  let x := s.views[v]
  let pos (g : Nat) : Int :=
    let k := s.viewCfg v g
    refPos (tr0 - k.dly c o.y b0 s.zRef reg) origin s.tRow
  let g0 := x.gens.getD c 0
  let g := settleGen pos (s.recs.rows.filter fun w => w.affects (s.viewCfg v g0)) g0
  let k := s.viewCfg v g
  let p := pos g
  let late := decide (tr0 - k.dly c o.y b0 s.zRef reg < present - 50000000)
  let drop := late || (match prev with | some q => decide (p ≤ q) | none => false) || !k.covers c
  let out := o.bands.map fun q => if o.gapItem || !k.covers c then (gapSample, false) else acrossAt k c q.1 q.2 o.tag.width
  { pos := if drop then none else some p, gen := g, samples := out.map (·.1), outside := out.any (·.2) }

/-- R261 to R263: a line of a view joins its sequence. -/
def State.placeLine (s : State) (r : Fin 8) (v : Fin 64) (o : OutLine) : State :=
  let n := if o.tag.strip = 0xFFFF then o.tag.line else o.tag.frame
  let reg := s.bandReg v n
  let b0 := if reg then 0 else (o.bands.map (·.1)).headD 0
  let q := if reg then 0 else b0
  let s := if o.tag.timeStep then s.setView v fun x => { x with oldOrigin := false } else s
  let x := s.views[v]
  let origin := if x.oldOrigin then s.grid.oldOrigin else s.grid.origin
  let present := s.clock.ext - (if x.oldOrigin then s.grid.origin - s.grid.oldOrigin else 0)
  let seq : Word := if o.tag.strip = 0xFFFF then 0 else o.tag.frame
  let spans := (List.range (s.recs.rowSerial + 1)).map fun g => (s.viewCfg v g).cols
  let first := spans.foldl (fun m c => min m c.1) 16384
  let last := spans.foldl (fun m c => max m (c.1 + c.2)) 0
  let lines := (x.seqs.getD q {}).lines
  let cols := (List.range (last - first)).map fun i =>
    let prev := (({ lines } : RsSeq).column seq (first + i)).getLast?.map (·.1)
    s.placeColumn v o b0 reg o.tag.mid origin present prev (first + i)
  let l : RsLine := { tag := o.tag, seq, first, pos := cols.map (·.pos), gens := cols.map (·.gen)
                      bands := (List.range o.bands.length).map fun b => cols.map fun c => c.samples.getD b gapSample }
  let outside := cols.any (·.outside)
  let covered := cols.mapIdx fun i c => (s.viewCfg v c.gen).covers (first + i) && c.pos.isNone
  let s := s.setView v fun x => { x with
    gens := List.replicate first 0 ++ cols.map (·.gen)
    cur := if x.next.isNone && x.seqs.all (·.lines.isEmpty) then seq else x.cur
    seqs := (List.range (max x.seqs.length (q + 1))).map fun i =>
      let y := x.seqs.getD i {}
      let y := if i = q then { y with lines := y.lines ++ [l] } else y
      if o.tag.last then { y with ended := some seq } else y }
  let s := if outside then (s.setRunnel r fun x => { x with colRange := satInc 16 x.colRange }).raiseCorr r v 20 else s
  if covered.any id then (s.setRunnel r fun x => { x with rowRange := satInc 16 x.rowRange }).raiseCorr r v 21 else s

/-! ### Rows of a view -/

/-- R264, R265: the taps of a column for a row at position `n`, each with its coefficient. None: the row is not complete
there. No taps: the sample is GAP. `ended`: the sequence has ended. `stop`: missing later taps are excluded (R267). -/
def columnTaps (ls : List (Int × RsLine)) (ended stop : Bool) (n : Int) (cs : RsLine → Nat → List Int) :
    Option (List (Int × Option RsLine)) :=
  let before := ls.filter fun p => decide (p.1 ≤ n)
  let after := ls.filter fun p => decide (n < p.1)
  match before.getLast?, after with
  | none, [] => if ended then some [] else none
  | none, _ => some []
  | some _, [] => if ended then some [] else none
  | some p, a :: _ =>
    let d := a.1 - p.1
    let phi := ((64 * (n - p.1) + d) / (2 * d)).toNat
    let i := if phi = 32 then before.length else before.length - 1
    let c := cs a.2 (phi % 32)
    let taps := c.mapIdx fun j x => (x, if i + j < 1 then none else (ls[i + j - 1]?).map (·.2))
    let short := (c.mapIdx fun j x => x != 0 && decide (ls.length < i + j)).any id
    if short && !ended && !stop then none else some taps

/-- R266: the frame has ended and no column of any band holds a line above the row. -/
def ViewState.beyond (x : ViewState) (cols : List Nat) (n : Int) : Bool :=
  x.seqs.all fun q => cols.all fun c => (q.column x.cur c).all fun p => decide (p.1 ≤ n)

/-- The frame being built from has ended. -/
def ViewState.frameEnded (x : ViewState) : Bool :=
  x.seqs.any fun q => q.ended == some x.cur || q.lines.any fun l => l.seq == x.cur + 1

/-- R264 to R268: the row of a view, when it is complete. The Bool tells that some column has taps. -/
def State.buildRow (s : State) (v : Fin 64) (k : Int) (stop : Bool) : Option (ViewRow × Bool) :=
  let x := s.views[v]
  let cfg := s.viewCfgRow v k
  let reg := s.bandReg v x.cur
  let bands := s.prof v 1 1
  let (c0, n) := cfg.cols
  let cols := (List.range n).map (c0 + ·)
  let area := !s.lineScan v
  let cs (l : RsLine) (c phi : Nat) : List Int :=
    let g := s.viewCfg v (l.gen c)
    coefs (g.store 0x0706 (g.u 3 1)) 0x0706 (g.u 3 1) phi
  let taps (b c : Nat) : Option (List (Int × Option RsLine)) :=
    columnTaps ((x.seqs.getD (if reg then 0 else b) {}).column x.cur c) (area && x.frameEnded) stop (k * 65536)
      (fun l phi => cs l c phi)
  let all := (List.range bands).map fun b => cols.map fun c => taps b c
  if all.any fun row => row.any (·.isNone) then none
  else
    let rows := all.map fun row => row.map (·.getD [])
    let samples := rows.mapIdx fun b row => row.mapIdx fun i t =>
      filterOut (t.map fun q => (q.1, q.2.map fun l => l.sample (if reg then b else 0) (c0 + i)))
    let used (t : List (Int × Option RsLine)) : List RsLine := t.filterMap fun q => if q.1 = 0 then none else q.2
    let lines := rows.flatMap fun row => row.flatMap used
    let mid := rows.flatMap fun row => used (row.getD (n / 2) [])
    let top := mid.foldl (fun (m : Option RsLine) l => match m with
      | none => some l
      | some a => if a.tag.sol < l.tag.sol then some l else some a) none
    let set : Half := match top with | some l => l.tag.setId | none => (Config.freeWord s.freeCtr).setWidth 16
    let sol : Int := match lines with
      | [] => (Config.freeWord (s.freeCtr + 1)).toNat
      | l :: ls => ls.foldl (fun m l => max m l.tag.sol) l.tag.sol
    let mixedGen := rows.any fun row => (row.mapIdx fun i t =>
      match (used t).map fun l => l.gen (c0 + i) with | [] => false | g :: gs => gs.any (· != g)).any id
    let allGap := samples.all fun row => row.all (·.gap)
    let flags := bit 0 allGap + bit 1 (lines.any fun l => l.tag.setId != set) + bit 2 (lines.any fun l => l.tag.holdover) +
      bit 3 (lines.any fun l => l.tag.timeStep) + bit 4 mixedGen
    some ({ view := v, row := k, flags, setId := set, first := c0, count := n, sol, bands := samples
            foot := lines.foldl (fun m l => match m with | none => some l.tag.foot | some f => some (max f l.tag.foot)) none }, !lines.isEmpty)

/-- R264: lines that no later row can use are let go. -/
def pruneSeq (cur : Word) (cols : List Nat) (n : Int) (q : RsSeq) : RsSeq :=
  let keep (i : Nat) (l : RsLine) : Bool :=
    if l.seq = cur then
      cols.any fun c => decide ((((q.lines.drop (i + 1)).filter fun m => m.seq == cur).filter fun m =>
        match m.at_ c with | some p => decide (p ≤ n) | none => false).length < 2)
    else l.seq == cur + 1
  { q with lines := (q.lines.mapIdx fun i l => (i, l)).filterMap fun p => if keep p.1 p.2 then some p.2 else none }

/-- R265, R273: a complete row leaves for Confluence; a spoiled one as ALL_GAP. -/
def State.emitRow (s : State) (r : Fin 8) (v : Fin 64) (row : ViewRow) (bracketed : Bool) : State :=
  let x := s.views[v]
  let spoiled := x.spoiled
  let row := if spoiled then
    { row with flags := row.flags ||| 1, bands := row.bands.map fun b => b.map fun _ => gapSample } else row
  let gapRow := spoiled || (!bracketed && !s.lineScan v)
  let odd := s.ganged v && r.val % 2 == 1
  let s := s.setRunnel r fun y => { y with
    rows := satInc 32 y.rows, gapRows := if gapRow then satInc 16 y.gapRows else y.gapRows
    path := y.path ++ [{ row with odd }] }
  { s.setView v fun x => { x with
      spoiled := false, next := some (row.row + 1), last := some row.row
      seqs := x.seqs.map (pruneSeq x.cur ((List.range row.count).map (row.first + ·)) ((row.row + 1) * 65536)) } with
    freeCtr := s.freeCtr + 2 }

/-- R267: the first row of a view: the lowest at or above the largest position of its first line. -/
def ViewState.firstRow (x : ViewState) : Option Int :=
  match (x.seqs.flatMap (·.lines)).flatMap fun l => l.pos.filterMap id with
  | [] => none
  | p :: ps => some (-((-(ps.foldl max p)) / 65536))

/-- R265: the rows that are complete are emitted in order; at a stop those that held lines bracket (R267). -/
def State.emitRows (s : State) (r : Fin 8) (v : Fin 64) (stop : Bool) : Nat → State
  | 0 => s
  | f + 1 =>
    let x := s.views[v]
    match x.next with
    | none => s
    | some k =>
      let (c0, n) := (s.viewCfgRow v k).cols
      if !s.lineScan v && x.frameEnded && x.beyond ((List.range n).map (c0 + ·)) (k * 65536) then
        if x.seqs.any fun q => q.lines.any fun l => l.seq == x.cur + 1 then
          (s.setView v fun x => { x with cur := x.cur + 1 }).emitRows r v stop f
        else s
      else match s.buildRow v k stop with
        | none => s
        | some (row, b) => (s.emitRow r v row b).emitRows r v stop f

/-- The rows that a line's positions may complete. -/
def ViewState.reach (x : ViewState) : Nat :=
  match x.next with
  | none => 0
  | some k =>
    let top := (x.seqs.flatMap (·.lines)).foldl (fun m l => l.pos.foldl (fun m p => match p with
      | some q => max m (q / 65536) | none => m) m) k
    (top - k).toNat + 4

/-- A line of a view passes its resampler. -/
def State.feedLine (s : State) (r : Fin 8) (v : Fin 64) (o : OutLine) : State :=
  let s := s.placeLine r v o
  let s := s.setView v fun x => { x with next := x.next.or x.firstRow }
  s.emitRows r v false s.views[v].reach

/-- R269: lines of a gang pass in the order of their strips (log entry 9). -/
def State.feedHeld (s : State) (r : Fin 8) (v : Fin 64) : Nat → State
  | 0 => s
  | f + 1 =>
    let x := s.views[v]
    match x.held.find? fun h => h.1 == x.nextStrip with
    | none => s
    | some h =>
      let s := s.setView v fun x => { x with held := x.held.filter (· != h), nextStrip := x.nextStrip + 1 }
      (h.2.foldl (fun s o => s.feedLine r v o) s).feedHeld r v f

/-- R186: the lines of an item leave for the view of their context, when it takes part in the grid. -/
def State.feedView (s : State) (r : Fin 8) (v : Fin 64) (strip : Nat) (os : List OutLine) : State :=
  if s.views[v].active && s.grid.valid then
    if s.ganged v then
      let s := s.setView v fun x => { x with held := x.held ++ [(strip, os)] }
      s.feedHeld r v s.views[v].held.length
    else os.foldl (fun s o => s.feedLine r v o) s
  else s

/-- R267: a view starts with its context. -/
def State.startView (s : State) (v : Fin 64) : State :=
  if s.au 0x0703 v 0 1 = 1 then s.setView v fun _ => { active := true, gens := [] } else s

/-- R267: a view stops: it emits the rows its lines bracket and nothing further. -/
def State.stopView (s : State) (v : Fin 64) : State :=
  if s.views[v].active then
    let r := Fin.ofNat 8 (s.runnelOf v)
    let s := s.emitRows r v true s.views[v].reach
    s.setView v fun x => { x with active := false, seqs := [], held := [] }
  else s

end Sys2Proof.Machine
end

