-- ==== Sys2Proof/Machine/Statistics.lean ====
section
/-!
DEFINITION. The statistics tap (R186, R218 to R222): what a line adds to the record being built, and when records close.
-/
namespace Sys2Proof.Machine

/-- R219: the histogram bin of a value. -/
def histBin (lo shift v : Nat) : Nat := if v < lo then 0 else min ((v - lo) / 2 ^ shift) 255

/-- One more count in a list of counts by key. -/
def countAt (k : Nat) : List (Nat × Nat) → List (Nat × Nat)
  | [] => [(k, 1)]
  | x :: xs => if x.1 = k then (k, x.2 + 1) :: xs else x :: countAt k xs

/-- R219: what one sample adds, at a column of band `b` in zone row `zy`. -/
def StatsRec.addSample (r : StatsRec) (b zy c : Nat) (x : Sample) : StatsRec :=
  let n (p : Bool) : Nat := bit 0 p
  let r := { r with flags := updAt r.flags b fun f =>
    (f.1 + n x.sat, f.2.1 + n x.dfc, f.2.2.1 + n x.nrh, f.2.2.2 + n x.gap) }
  let r := if x.gap then r else { r with bins := countAt (b * 256 + histBin r.histLo r.histShift x.value) r.bins }
  if x.sat || x.gap then r
  else
    let zx := c * r.zonesX / r.width
    { r with zones := updAt r.zones (b * r.zonesX * r.zonesY + zy * r.zonesX + zx) fun z => (z.1 + x.value, z.2 + 1) }

/-- R219, R222: what a line adds: `y` of `n` lines of the frame. -/
def StatsRec.addLine (r : StatsRec) (o : OutLine) (n : Nat) : StatsRec :=
  let zy := if r.lineScan then 0 else o.y * r.zonesY / n
  let r := { r with
    lines := r.lines + 1, gapLines := r.gapLines + bit 0 o.gapItem, hasGap := r.hasGap || o.gapItem
    holdover := r.holdover || o.tag.holdover, timeStep := r.timeStep || o.tag.timeStep
    firstSol := if r.lines = 0 then time32 o.tag.sol else r.firstSol, lastSol := time32 o.tag.sol }
  o.bands.foldl (fun r q => (q.2.mapIdx fun c x => (c, x)).foldl (fun r p => r.addSample q.1 zy p.1 p.2) r) r

/-- R218, R222: a record opens with the line `o`. -/
def State.newRecord (s : State) (c : Fin 64) (o : OutLine) : StatsRec :=
  let n := if o.tag.strip = 0xFFFF then o.tag.line else o.tag.frame
  let ls := o.tag.strip = 0xFFFF
  let bands := s.iprof c n 1 1
  let f (off k : Nat) : Nat := s.iu c n 0x0402 c off k
  let zx := f 2 1
  let zy := f 3 1
  { serial := s.stats[c].next, frame := n, setId := o.tag.setId, bands, lineScan := ls, histShift := f 1 1, zonesX := zx
    zonesY := zy, histLo := f 4 4, limit := f 8 2, width := o.tag.width
    flags := List.replicate bands (0, 0, 0, 0), zones := List.replicate (bands * zx * zy) (0, 0) }

/-- One context's statistics changed. -/
def State.setStats (s : State) (c : Fin 64) (f : StatsCtx → StatsCtx) : State := { s with stats := upd s.stats c f }

/-- R220, R221: the record being built closes and waits to be published, or is lost when two wait already. -/
def State.closeRecord (s : State) (r : Fin 8) (c : Fin 64) (early : Bool) : State :=
  match s.stats[c].open_ with
  | none => s
  | some k =>
    let s := s.setStats c fun x => { x with open_ := none, next := x.next + 1 }
    if s.runnels[r].publish.length < 3 then
      s.setRunnel r fun x => { x with publish := x.publish ++ [(c, { k with early })] }
    else s.raiseCorr r c 19

/-- R220: the record of a line-scan context ends because this line carries another set ID. -/
def State.setChanges (s : State) (c : Fin 64) (o : OutLine) : Bool :=
  match s.stats[c].open_ with
  | some k => k.lineScan && k.setId != o.tag.setId
  | none => false

/-- R186, R219, R220: a line passes the statistics tap. -/
def State.tapLine (s : State) (r : Fin 8) (c : Fin 64) (o : OutLine) : State :=
  let n := if o.tag.strip = 0xFFFF then o.tag.line else o.tag.frame
  let s := if s.setChanges c o then (s.closeRecord r c true).raise 50 30 else s
  let k := s.stats[c].open_.or (if s.iu c n 0x0402 c 0 1 = 1 then some (s.newRecord c o) else none)
  match k with
  | none => s
  | some k =>
    let total := s.iu c n 0x0201 c 6 2 / (if s.bandReg c n then k.bands else 1)
    let k := k.addLine o total
    let s := s.setStats c fun x => { x with open_ := some k }
    if (k.lineScan && decide (k.limit ≤ k.lines)) || (!k.lineScan && o.y + 1 == total) then s.closeRecord r c false else s

/-- R221, R222: the bytes of a record. -/
def StatsRec.bytes (k : StatsRec) : List Byte :=
  let flags := bit 0 k.lineScan + bit 1 k.early + bit 2 k.hasGap + bit 3 k.holdover + bit 4 k.timeStep
  leWord k.serial ++ leWord k.frame ++ leHalf k.setId ++ leBytes 1 k.bands ++ leBytes 1 flags ++ leBytes 4 k.lines ++
    leBytes 4 k.gapLines ++ leWord k.firstSol ++ leWord k.lastSol ++ leBytes 1 k.zonesX ++ leBytes 1 k.zonesY ++
    leBytes 1 k.histShift ++ leBytes 1 0 ++ leBytes 4 k.histLo ++ leBytes 4 k.width ++ leBytes 8 0 ++
    (List.range 4).flatMap (fun b => let f := k.flags.getD b (0, 0, 0, 0)
      leBytes 4 f.1 ++ leBytes 4 f.2.1 ++ leBytes 4 f.2.2.1 ++ leBytes 4 f.2.2.2) ++
    (List.range (256 * k.bands)).flatMap (fun i =>
      leBytes 4 (match k.bins.find? fun q => q.1 == i with | some q => q.2 | none => 0)) ++
    k.zones.flatMap fun z => leBytes 8 z.1 ++ leBytes 4 z.2

end Sys2Proof.Machine
end

