-- ==== Sys2Proof/Machine/Runnel.lean ====
section
/-!
DEFINITION. Runnels (R142 to R166): which item a runnel takes next, and what it makes of the lines of an item.
-/
namespace Sys2Proof.Machine

/-! ### Corrections of a line -/

/-- R187, R188: an entry of a map of a format. -/
def mapEntry (format unit : Nat) (bs : List Byte) : MapEntry :=
  match format with
  | 0 => { dark := field bs 0 4, gain := field bs 4 2, defect := field bs 6 1 % 4 }
  | 1 => { dark := field bs 2 2 % 2 ^ 14 * unit / 16, gain := field bs 0 2, defect := field bs 3 1 / 64 }
  | _ => { dark := 0, gain := field bs 0 2 % 2 ^ 14, defect := field bs 1 1 / 64 }

/-- R187: the size of a map entry. -/
def mapSize (format : Nat) : Nat := match format with | 0 => 8 | 1 => 4 | _ => 2

/-- R194: a field of a map header. -/
def State.mapU (s : State) (m off n : Nat) : Nat := s.au 0x0305 m off n

/-- R194: the base address of a map. -/
def State.mapBase (s : State) (m : Nat) : Nat := s.mapU m 12 4 + s.mapU m 16 1 * 2 ^ 32

/-- R195: the bytes of a map's storage, from the active header. -/
def State.mapLength (s : State) (m : Nat) : Nat :=
  s.mapU m 4 2 * (if s.mapU m 1 1 = 0 then s.mapU m 2 1 else s.mapU m 6 2) * mapSize (s.mapU m 0 1)

/-- Bytes of LPDDR6. -/
def State.lpBytes (s : State) (a n : Nat) : List Byte := Memory.readList zeroByte s.lpddr a n

/-- R188: the entries of a row of a map. -/
def State.mapRow (s : State) (m row width unit : Nat) : List MapEntry :=
  let f := s.mapU m 0 1
  (List.range width).map fun c =>
    mapEntry f unit (s.lpBytes (s.mapBase m + (row * s.mapU m 4 2 + c) * mapSize f) (mapSize f))

/-- R174: the base address of a context's history. -/
def State.histBase (s : State) (c : Nat) (n : Word) : Nat := s.iu c n 0x0303 c 68 4 + s.iu c n 0x0303 c 72 1 * 2 ^ 32

/-- R406: bytes at an address cut into STATE chunks of at most 16,256 bytes. -/
def chunksOf (a : Nat) (bs : List Byte) : List (Nat × List Byte) :=
  (List.range (ceilDiv bs.length 16256)).map fun i => (a + 16256 * i, (bs.drop (16256 * i)).take 16256)

/-- R174: a row of the history. -/
def State.histRow (s : State) (base row width : Nat) : List Nat :=
  (List.range width).map fun c => leNat (s.lpBytes (base + (row * width + c) * 4) 4)

/-- The frame or line number by which the records of a line are chosen. -/
def LineTag.num (t : LineTag) : Word := if t.strip = 0xFFFF then t.line else t.frame

/-- R169 to R181: the parameters of stages 1 to 6 for a line of band `b`. -/
def State.corrOf (s : State) (c : Nat) (t : LineTag) (b : Nat) : Corr :=
  let n := t.num
  let f (off k : Nat) : Nat := s.iu c n 0x0303 c off k
  let en := f 0 1
  let bpp := bitsPerPixel (s.iu c n 0x0201 c 3 1)
  let unit := if bpp = 24 then 256 else 1024
  let m := f 56 2
  { unit, satCode := if f 8 4 = 0 then 2 ^ bpp - 1 else f 8 4
    nrEn := en.testBit 0, tnrEn := en.testBit 1, lutEn := en.testBit 2, defEn := en.testBit 3, bandregEn := en.testBit 4
    strength := f 1 1, t1 := f 2 1, t2 := f 3 1, minSupport := f 4 1, alpha := f 5 1, guard := f 6 1, reach := f 7 1
    black := f (12 + 4 * b) 4, pedestal := f 28 4, chGain := f (32 + 4 * b) 4
    nmK := f 48 2, nmRn := f 50 2, nmBlack := f 52 4, eNs := t.expoNs
    eRef := if m = 65535 then 0 else s.mapU m 8 4
    seg := s.iu c n 0x0304 c 0 1
    lut := if en.testBit 2 then (List.range 1024).map fun i => s.iu c n 0x0304 c (4 + 4 * i) 4 else [] }

/-- The map row of a line. -/
def State.mapOf (s : State) (c : Nat) (t : LineTag) (row unit : Nat) : List MapEntry :=
  let m := s.iu c t.num 0x0303 c 56 2
  if m = 65535 then [] else s.mapRow m row t.width unit

/-- One context's carry changed. -/
def State.setCarry (s : State) (c : Fin 64) (f : Carry → Carry) : State := { s with carries := upd s.carries c f }

/-- R174: HIST_VALID is cleared at an item that finds TNR_EN, HIST_BASE, CROP_WIDTH or HEIGHT changed. -/
def State.checkHistory (s : State) (r : Fin 8) (c : Fin 64) (t : LineTag) : State :=
  let n := t.num
  let now := ((s.iu c n 0x0303 c 0 1).testBit 1, s.histBase c n, t.width, s.iu c n 0x0201 c 6 2)
  let k := s.carries[c]
  let s := s.setCarry c fun k => { k with params := some now }
  if k.histValid && k.params != some now then
    (s.setCarry c fun k => { k with histValid := false }).raiseCorr r c 12
  else s

/-- R428, R429: the lead of an admission sends the history of frame F_c as it writes it. -/
def State.sendHistory (s : State) (c : Fin 64) (frame : Word) (a : Nat) (bs : List Byte) : State :=
  if s.twin.admitting && s.twin.joinFrames.contains (c, frame) then (chunksOf a bs).foldl (fun s x => s.sendG (.state {
    item := .memory x.1 x.2, good := true, last := false })) s
  else s

/-- R171 to R181: stages 1 to 6 of a line with index `y` in its frame (line-scan: in its count). -/
def State.correctLine (s : State) (r : Fin 8) (c : Fin 64) (p : InPacket) (y : Nat) (gap : Bool) : State × List Sample :=
  let t := p.tag
  let ls := t.strip = 0xFFFF
  let bands := s.iprof c t.num 1 1
  let b := y % bands
  let k := s.carries[c]
  let bc := k.bands.getD b {}
  let setBand (s : State) (x : BandCarry) : State := s.setCarry c fun k => { k with
    bands := updAt k.bands b fun _ => x, lostLines := k.lostLines - 1 }
  if gap then (setBand s (bc.gapLine t.width), List.replicate t.width gapSample)
  else
    let cp := s.corrOf c t b
    let map := s.mapOf c t (if ls then b else y) cp.unit
    let base := s.histBase c t.num
    let tnr := cp.tnrEn && !ls
    let hist := if tnr && k.histValid then some (s.histRow base y t.width) else none
    let bc := if ls then { bc with donor := none } else bc
    let o := stageLine cp p.codes map hist bc (decide (0 < k.lostLines))
    let s := setBand s o.carry
    let hist' := o.history.flatMap fun v => leBytes 4 v
    let s := if tnr then ({ s with
      lpddr := Memory.writeList zeroByte s.lpddr (base + y * t.width * 4) hist' }).sendHistory c t.frame (base + y * t.width * 4) hist'
      else s
    let s := s.setRunnel r fun x => { x with
      nrh := satAdd 32 x.nrh o.nrh, sat := satAdd 32 x.sat o.sat, clipped := satAdd 32 x.clipped o.clipped
      replaced := satAdd 32 x.replaced o.replaced, unrepaired := satAdd 16 x.unrepaired o.unrepaired }
    let s := if o.samples.length < 4 * o.nrh then s.raiseCorr r c 13 else s
    let s := if o.gainSat then s.raiseCorr r c 14 else s
    let s := if 0 < o.unrepaired then s.raiseCorr r c 15 else s
    (s, o.samples)

/-! ### Band registration -/

/-- R183: the registered line of the newest group; `g` is its index in the frame. -/
def State.registered (s : State) (r : Fin 8) (c : Fin 64) (t : LineTag) (gapItem : Bool) (g : Nat) : State × OutLine :=
  let n := t.num
  let bands := s.iprof c n 1 1
  let groups := s.carries[c].groups
  let out := (List.range bands).map fun b => (b, registerBand groups t.width b (s.is c n 0x0303 c (60 + 2 * b) 2))
  let gaps := (out.filter fun q => q.2.all (·.gap)).length
  let s := if gaps = 0 then s else (s.setRunnel r fun x => { x with bandGap := satAdd 16 x.bandGap gaps }).raiseCorr r c 16
  (s, { tag := t, bands := out, gapItem, y := if t.strip = 0xFFFF then 0 else g })

/-- R182, R183: an exposure group becomes complete, or is closed with the lines it has: its registered line leaves. -/
def State.closeGroup (s : State) (r : Fin 8) (c : Fin 64) (g : Nat) : State × List OutLine :=
  let k := s.carries[c]
  let mine := k.group.filter fun q => q.1 == g
  match mine.getLast? with
  | none => (s, [])
  | some l =>
    let ref := s.iu c l.2.2.1.num 0x0303 c 58 1
    let t := match mine.find? fun q => q.2.1 == ref with | some q => q.2.2.1 | none => l.2.2.1
    let s := s.setCarry c fun k => { k with
      group := k.group.filter fun q => q.1 != g
      groups := (mine.map (fun q => (q.2.1, q.2.2.2)) :: k.groups).take 34 }
    let (s, o) := s.registered r c t (mine.all fun q => q.2.2.1.gap) g
    (s, [o])

/-- R182, R183: a corrected line goes to its exposure group, or leaves as its own line. -/
def State.groupLine (s : State) (r : Fin 8) (c : Fin 64) (t : LineTag) (y : Nat) (xs : List Sample) :
    State × List OutLine :=
  let n := t.num
  let bands := s.iprof c n 1 1
  if s.bandReg c n then
    let s := s.setCarry c fun k => { k with group := k.group ++ [(y / bands, y % bands, t, xs)] }
    if (s.carries[c].group.filter fun q => q.1 == y / bands).length = bands then s.closeGroup r c (y / bands) else (s, [])
  else (s, [{ tag := t, bands := [(y % bands, xs)], gapItem := t.gap, y := if t.strip = 0xFFFF then 0 else y }])

/-! ### Lines of an item -/

/-- R182: a frame starts: the count of lines begins again; an area frame has no lines before it. -/
def State.frameCarry (s : State) (r : Fin 8) (c : Fin 64) (t : LineTag) : State × List OutLine :=
  if t.strip = 0xFFFF then
    let k := s.carries[c]
    let (s, os) := match k.group.getLast? with
      | some q => s.closeGroup r c q.1
      | none => (s, [])
    (s.setCarry c fun k => { k with index := 0 }, os)
  else (s.setCarry c fun k => { k with index := 0, bands := [{}, {}, {}, {}], group := [], groups := [] }, [])

/-- One packet of an item passes stages 1 to 7; `gap` when it is emitted as a GAP line. -/
def State.runLine (s : State) (r : Fin 8) (c : Fin 64) (p : InPacket) (gap : Bool) : State × List OutLine :=
  let t := { p.tag with gap }
  let (s, os) := if t.first then s.frameCarry r c t else (s, [])
  let s := s.checkHistory r c t
  let y := s.carries[c].index
  let (s, xs) := s.correctLine r c p y gap
  let s := s.setCarry c fun k => { k with index := y + 1, frame := t.frame }
  let (s, os') := s.groupLine r c t y xs
  let s := if t.last && (s.iu c t.num 0x0303 c 0 1).testBit 1 then s.setCarry c fun k => { k with histValid := true } else s
  (s, os ++ os')

/-- R147, R175: the two lines a strip finds before it: those the strip before it left, computed from its waiting lines
when that strip has not been corrected yet. -/
def State.gangTail (s : State) (c : Fin 64) (strip : Nat) (before : List InPacket) : List BandCarry :=
  let k := s.carries[c]
  match k.tails.find? fun q => q.1 == strip with
  | some q => q.2
  | none => before.foldl (fun bs p =>
      let t := p.tag
      let y := t.sensorLine.toNat
      let bands := s.iprof c t.num 1 1
      updAt bs (y % bands) fun bc =>
        if t.gap then bc.gapLine t.width
        else
          let cp := s.corrOf c t (y % bands)
          let tnr := cp.tnrEn && k.histValid
          let row := temporalRow cp p.codes (s.mapOf c t y cp.unit)
            (if tnr then some (s.histRow (s.histBase c t.num) y t.width) else none)
          { bc with prev2 := bc.prev1, prev1 := some row.1 }) [{}, {}, {}, {}]

/-- R186: the lines that leave stage 7 pass the statistics tap and go to the view. -/
def State.deliverLines (s : State) (r : Fin 8) (c : Fin 64) (strip : Nat) (os : List OutLine) : State :=
  (os.foldl (fun s o => s.tapLine r c o) s).feedView r c strip os

/-- All lines of an item, in order. -/
def State.runLines (s : State) (r : Fin 8) (c : Fin 64) (gap : Bool) : List InPacket → State × List OutLine
  | [] => (s, [])
  | p :: ps =>
    let (s, os) := s.runLine r c p (gap || p.tag.gap)
    let (s, os') := s.runLines r c gap ps
    (s, os ++ os')

/-! ### Items -/

/-- The committed packets a runnel sees at a port, past its cursor (R147, R148). -/
def State.readable (s : State) (p : Fin 32) (r : Nat) : List InPacket :=
  let x := s.inlets[p]
  (x.queue.take x.seen).filter fun k => !k.taken &&
    (!s.ganged k.tag.ctx || k.tag.strip.toNat % 2 == r % 2)

/-- R148: the packets of the item that a packet begins. -/
def itemOf : List InPacket → List InPacket
  | [] => []
  | k :: ks =>
    if k.tag.strip = 0xFFFF then [k]
    else k :: ks.takeWhile fun q => q.tag.ctx == k.tag.ctx && q.tag.frame == k.tag.frame && q.tag.strip == k.tag.strip

/-- R149: every line of an item has come. -/
def itemComplete (ks : List InPacket) : Bool :=
  match ks with
  | [] => false
  | k :: _ => k.tag.strip == 0xFFFF || ks.any fun q => q.tag.last || q.tag.stripEnd

/-- The port of an item. -/
def State.itemPort (s : State) (c : Fin 64) : Fin 32 := Fin.ofNat 32 (s.portOf c)

/-- R417: the line waits for the lead's tag. -/
def State.tagPending (s : State) (t : LineTag) : Bool :=
  !t.gap && s.twin.tags.any fun w => w.kind == 1 && w.index == t.ctx && w.num == t.line.toNat % 65536

/-- R146: the line belongs to another runnel than the one its context runs on: it waits for the move. -/
def State.movesBy (s : State) (c : Fin 64) (t : LineTag) : Bool :=
  s.streams c && s.iu c.val t.num 0x0301 c.val 0 1 != s.ctxs[c].runnel

/-- R153: the packets of the candidate item of a context on a runnel: the head of its queue behind the item that runs. -/
def State.candidate (s : State) (r : Nat) (c : Fin 64) : List InPacket :=
  let p := s.itemPort c
  let ks := s.readable p r
  let running := match (s.runnel r).cur with
    | some i => s.itemPort i.ctx == p
    | none => false
  let ks := if running then (if itemComplete (itemOf ks) then ks.drop (itemOf ks).length else []) else ks
  match ks with
  | [] => []
  | k :: _ => if k.tag.ctx = c.val ∧ s.boundTo c r ∧ ¬ s.movesBy c k.tag ∧ ¬ s.tagPending k.tag then itemOf ks else []

/-- R152: k of the deadline rule: forward taps of the view's along-fall filter set. -/
def forwardTaps (m : List Host.Cell) (set : Nat) : Nat :=
  let any (k : Nat) : Bool := (List.range 32).any fun phi => recS m 0x0706 set (8 * phi + 2 * k) 2 != 0
  if any 3 then 2 else if any 2 then 1 else 0

/-- R285: the deadline of a row. -/
def State.rowDeadline (s : State) (k : Int) : Int := s.tref k + recU (s.rowRec k 0x0801 65535) 0x0801 65535 0 4

/-- R152: the deadline of an item with this first tag. -/
def State.itemDeadline (s : State) (t : LineTag) : Int :=
  let c := t.ctx
  let n := t.num
  let mlp := s.iprof c n 20 4
  if s.views[Fin.ofNat 64 c].active && s.grid.valid then
    let x := s.views[Fin.ofNat 64 c]
    let reg := s.bandReg c n
    let bands := s.iprof c n 1 1
    let cfg := s.viewCfg c (x.gens.getD (s.viewCfg c 0).cols.1 0)
    let (c0, m) := cfg.cols
    let origin := if x.oldOrigin then s.grid.oldOrigin else s.grid.origin
    let y := if t.strip = 0xFFFF then 0 else t.strip.toNat * 32 / (if reg then bands else 1)
    let ps := (List.range m).flatMap fun i => (List.range bands).map fun b =>
      refPos (t.mid - cfg.dly (c0 + i) y b s.zRef reg) origin s.tRow
    match ps with
    | [] => t.sol
    | p :: ps =>
      let low := ps.foldl min p
      let k := forwardTaps (cfg.store 0x0706 (cfg.u 3 1)) (cfg.u 3 1)
      let num : Int := low * s.tRow - (k * mlp * 256 * 65536 : Nat)
      let row := -((-num) / (65536 * s.tRow : Nat))
      s.rowDeadline row - s.iu c n 0x0301 c 8 4
  else t.sol + (if t.strip = 0xFFFF then mlp else 32 * mlp : Nat) + (s.iu c n 0x0301 c 12 4 * 1000 : Nat)

/-- R148, R152: items that have become eligible take their deadline. -/
def State.markHeads (s : State) : State :=
  (fins 64).foldl (fun s (c : Fin 64) =>
    (s.runnelsOf c).foldl (fun s r =>
      match s.candidate r c with
      | [] => s
      | k :: _ =>
        if k.tag.deadline.isSome then s
        else
          let p := s.itemPort c
          let d := s.itemDeadline k.tag
          match s.inlets[p].queue.findIdx? fun q => q == k with
          | some i => s.setInlet p fun x => { x with
              queue := updAt x.queue i fun q => { q with tag := { q.tag with deadline := some d } } }
          | none => s) s) s

/-- R153: the slack of a deadline in ns. -/
def State.slack (s : State) (d : Int) : Int := signedOf 32 (wrapOf 32 (d - s.clock.ext))

/-- R153: the item a runnel chooses among the candidates. -/
def State.decide_ (s : State) (r : Nat) : Option Item :=
  let x := s.runnel r
  let cur := match x.cur with | some i => some i.ctx | none => x.lastCtx
  (fins 64).foldl (fun (best : Option Item) c =>
    match s.candidate r c with
    | [] => best
    | k :: ks =>
      let i : Item := { ctx := c, area := k.tag.strip != 0xFFFF, odd := k.tag.strip.toNat % 2 == 1
                        gap := (k :: ks).all (·.tag.gap), deadline := k.tag.deadline.getD (s.itemDeadline k.tag) }
      match best with
      | none => some i
      | some b =>
        if s.slack i.deadline < s.slack b.deadline ∨
            (s.slack i.deadline = s.slack b.deadline ∧ cur = some c ∧ cur ≠ some b.ctx) then some i else best) none

/-- The packets of the item that a runnel runs. -/
def State.curPackets (s : State) (r : Nat) : List InPacket :=
  match (s.runnel r).cur with
  | none => []
  | some i => itemOf (s.readable (s.itemPort i.ctx) r)

/-- R160, R189: an item of the context needs a map block: it has a map or a history. -/
def State.needsBlock (s : State) (i : Item) (ks : List InPacket) : Bool :=
  match ks with
  | [] => false
  | k :: _ =>
    let c := i.ctx.val
    i.area && (s.iu c k.tag.num 0x0303 c 56 2 != 65535 || (s.iu c k.tag.num 0x0303 c 0 1).testBit 1)

/-- R130, R147: the packets of an item are released; storage follows the older cursor. -/
def State.releaseItem (s : State) (p : Fin 32) (ks : List InPacket) : State :=
  let q := s.inlets[p].queue.map fun k => if ks.contains k then { k with taken := true } else k
  let gone := q.takeWhile (·.taken)
  let bytes := gone.foldl (fun n k => n + s.storageOf k.tag) 0
  let s := s.setInlet p fun x => { x with queue := q.drop gone.length, seen := x.seen - gone.length }
  s.setQueue (inletQueue p) fun x => { x with freed := x.freed + bytes }

/-! ### The end of a context -/

/-- R137: every committed packet the reader has not begun is discarded. -/
def State.flushInlet (s : State) (p : Fin 32) : State :=
  let n := s.inlets[p].queue.length
  let s := s.setInlet p fun x => { x with queue := [], seen := 0 }
  s.setQueue (inletQueue p) fun q => { q with flushed := satAdd 16 q.flushed n, used := 0, freed := 0 }

/-- A committed line or a GAP record of the context is still to be corrected. -/
def State.hasLines (s : State) (c : Fin 64) : Bool :=
  let x := s.inlets[s.itemPort c]
  x.queue.any (fun k => k.tag.ctx == c.val && !k.taken) || x.waiting.any fun t => t.ctx == c.val

/-- R575: the highest row the views of the contexts emitted. -/
def State.lastRowOf (s : State) (mask : Wide) : Word :=
  let rows := (fins 64).filterMap fun (c : Fin 64) => if mask.getLsbD c.val then s.views[c].last else none
  match rows with
  | [] => 0xFFFFFFFF
  | r :: rs => BitVec.ofInt 32 (rs.foldl max r)

/-- R575: a STREAM_STOP is answered when the last of its contexts has ended. -/
def State.answerStops (s : State) : State :=
  allPorts.foldl (fun s p => match (s.port p).running with
    | some r => match r.wait with
      | .streamStop mask =>
        if (fins 64).any fun c => mask.getLsbD c && (s.streams c || s.ctxs[c].draining) then s
        else s.ok ⟨r.h, r.body⟩ (leBytes 8 mask.toNat ++ leWord (s.lastRowOf mask))
      | _ => s
    | none => s) s

/-- R575: the last of what STREAM_STOP does to a context: its record, its view, its leave and its queue. -/
def State.finishStop (s : State) (c : Fin 64) : State :=
  let r := Fin.ofNat 8 s.ctxs[c].runnel
  let s := (s.closeRecord r c true).stopView c
  let s := s.setCtx c fun x => { x with draining := false, moving := false }
  let s := s.release fun w => match w with | .context d _ => d == c | .move d => d == c | _ => false
  let p := s.itemPort c
  let s := if (fins 64).any fun d => s.portOf d == p.val && (s.streams d || s.ctxs[d].draining) then s else s.flushInlet p
  s.answerStops

/-- R575: a context whose lines have all been corrected ends. -/
def State.drain (s : State) (c : Fin 64) : State :=
  if s.ctxs[c].draining && !s.hasLines c then s.finishStop c else s

end Sys2Proof.Machine
end

