-- ==== Sys2Proof/Machine/Sluice.lean ====
section
/-!
DEFINITION. The Sluice (R227 to R248) and the exposure sequences it carries (R199 to R217): routing, duration estimates,
the order of work on a bus, and what follows when a transaction or a sequence ends.
-/
namespace Sys2Proof.Machine

/-! ### Routing and estimates -/

/-- An unsigned field of a routing entry. -/
def State.route (s : State) (id off n : Nat) : Nat := s.au 0x0501 id off n

/-- An unsigned field of a bus record. -/
def State.busU (s : State) (b off n : Nat) : Nat := s.au 0x0502 b off n

/-- R229: the routing entry of a sensor is valid. -/
def State.routed (s : State) (id : Nat) : Bool := decide (id < 128) && s.route id 0 1 == 1

/-- R229: the bus of a sensor. -/
def State.busOf (s : State) (id : Nat) : Fin 32 := Fin.ofNat 32 (s.route id 1 1)

/-- One bus changed. -/
def State.setBus (s : State) (b : Fin 32) (f : Bus → Bus) : State :=
  { s with sluice := { s.sluice with buses := upd s.sluice.buses b f } }

/-- R239: the estimate of one transaction, ns: 9 bit periods a byte, and T_TXN. -/
def State.txnNs (s : State) (b : Fin 32) (sensor : Nat) (t : Txn) : Nat :=
  let rest := s.route sensor 5 1 + t.data.length + t.read
  let rate := s.busU b 4 2
  let addr := if s.busU b 0 1 = 2 then ceilDiv 9000000 (s.busU b 6 2) + ceilDiv (9 * rest * 1000000) rate
    else ceilDiv (9 * (rest + 1) * 1000000) rate
  addr + s.busU b 8 2

/-- R239: the estimate of transactions. -/
def State.estimate (s : State) (b : Fin 32) (sensor : Nat) (ts : List Txn) : Nat :=
  ts.foldl (fun n t => n + s.txnNs b sensor t) 0

/-- The estimate of what is left of a piece of work. -/
def State.workNs (s : State) (b : Fin 32) (w : Work) : Nat := s.estimate b w.sensor (w.txns.drop w.done)

/-- R231: the estimate of all work accepted on a bus. -/
def State.busyNs (s : State) (b : Fin 32) : Nat :=
  let x := s.sluice.buses[b]
  (match x.cur with | some w => s.workNs b w | none => 0) + x.queue.foldl (fun n w => n + s.workNs b w) 0

/-- R237: the semaphore that guards a bus. -/
def busSem (b : Fin 32) : Fin 64 := ⟨48 + b.val % 16, by omega⟩

/-- R237: the other bus of the pair. -/
def otherBus (b : Fin 32) : Fin 32 := Fin.ofNat 32 (b.val + 16)

/-- R91: the owner code of the Sluice. -/
def sluiceOwner : Byte := 0x40

/-- R249: the Sluice holds the semaphore of a bus. -/
def State.semHeld (s : State) (b : Fin 32) : Bool := s.mb.sems[busSem b] == sluiceOwner

/-- R237: the work needs the semaphore. -/
def WorkKind.guarded : WorkKind → Bool
  | .seq .. | .expo .. | .deskew _ => true
  | _ => false

/-- R248, R399: the Sluice may start work: its pins are not released, the unit drives them, and its domain is ON. -/
def State.sluiceRuns (s : State) : Bool := !s.sluice.released && s.twin.state.drives && s.domOn 16

/-! ### Exposure sequences -/

/-- A field of the template of a context's profile (R202). -/
def State.tmpl (s : State) (c off n : Nat) : Nat := s.au 0x0401 (s.profileOf c) off n

/-- R203: the writes of an exposure sequence. -/
def State.expoTxns (s : State) (c count gain : Nat) : List Txn :=
  let hold (v : Nat) : List Txn :=
    if s.tmpl c 1 1 = 1 then [{ reg := BitVec.ofNat 16 (s.tmpl c 2 2), data := [BitVec.ofNat 8 (s.tmpl c v 1)] }] else []
  hold 4 ++ (List.range (s.tmpl c 0 1)).map (fun i =>
    let v := match s.tmpl c (27 + 8 * i) 1 with | 1 => count | 2 => gain | _ => s.tmpl c (30 + 8 * i) 2
    { reg := BitVec.ofNat 16 (s.tmpl c (24 + 8 * i) 2)
      data := (leBytes (s.tmpl c (26 + 8 * i) 1) (v / 2 ^ s.tmpl c (28 + 8 * i) 1)).reverse }) ++ hold 5

/-- SAFE_START and SAFE_END of a context, ns. -/
def State.safeNs (s : State) (c : Nat) : Nat × Nat := (s.prof c 12 4 * 1000, s.prof c 16 4 * 1000)

/-- R206: EXPO_LATENCY. -/
def State.latency (s : State) (c : Nat) : Nat := s.prof c 2 1

/-- R205: the reference instant of a window line, when it has come. -/
def State.windowRef (s : State) (c : Fin 64) (n : Word) : Option Int :=
  let x := s.ctxs[c]
  if s.lineScan c then (if x.line ≠ 0 ∧ n = x.line - 1 then some (x.lastSol + x.moved) else none)
  else if x.started ∧ n = x.frame then some (x.fsTime + x.moved) else none

/-- R205: the next window line whose reference instant is still to come. -/
def State.nextWindow (s : State) (c : Fin 64) : Word :=
  let x := s.ctxs[c]
  if s.lineScan c then x.line else if x.started then x.frame + 1 else x.frame

/-- R205: the part of the sequence that must lie in the window: all of it for an area context, the releasing write of a
line-scan one; and what comes before that part. -/
def State.windowParts (s : State) (c : Fin 64) (ts : List Txn) : List Txn × List Txn :=
  if s.lineScan c then (ts.dropLast, ts.drop (ts.length - 1)) else ([], ts)

/-- R205, R210: the window of a line whose reference instant has come can still hold the sequence, behind the work
already accepted. -/
def State.windowHolds (s : State) (c : Fin 64) (b : Fin 32) (sensor : Nat) (ts : List Txn) (n : Word) : Bool :=
  let part := (s.windowParts c ts).2
  let start : Int := s.clock.ext + s.busyNs b + s.estimate b sensor (s.windowParts c ts).1
  match s.windowRef c n with
  | some t => decide (max start (t + (s.safeNs c).1) + s.estimate b sensor part ≤ t + (s.safeNs c).2)
  | none => false

/-- R210: the earliest window line that can hold the sequence. -/
def State.earliestWindow (s : State) (c : Fin 64) (b : Fin 32) (sensor : Nat) (ts : List Txn) : Word :=
  let next := s.nextWindow c
  let n : Word := if s.windowHolds c b sensor ts (next - 1) then next - 1 else next
  match s.expo.ctxs[c].sets.getLast? with
  | some q => if q.windowed && behind 32 n.toNat q.window.toNat then q.window + 1 else n
  | none => n

/-- What an exposure sequence may do now. -/
inductive Gate where
  | go | wait | missed
deriving DecidableEq, Repr

/-- The set of a context with an ID. -/
def State.findSet (s : State) (c : Fin 64) (id : Half) : Option ExpoSet :=
  s.expo.ctxs[c].sets.find? fun q => q.id == id

/-- One set of a context changed. -/
def State.setSet (s : State) (c : Fin 64) (id : Half) (f : ExpoSet → ExpoSet) : State :=
  s.setExpo c fun x => { x with sets := x.sets.map fun q => if q.id = id then f q else q }

/-- R205: the next write of the sequence may start now, must wait for its window, or has missed it. -/
def State.expoGate (s : State) (b : Fin 32) (w : Work) (c : Fin 64) (id : Half) : Gate :=
  match s.findSet c id with
  | none => .go
  | some q =>
    let area := !s.lineScan c
    if !q.windowed || !s.streams c then .go
    else if !area && decide (w.done + 1 < w.txns.length) then .go
    else if area && decide (0 < w.done) then .go
    else
      let (from_, till) := s.safeNs c
      match s.windowRef c q.window with
      | some t =>
        if t + till < s.clock.ext + s.workNs b w then .missed else if t + from_ ≤ s.clock.ext then .go else .wait
      | none => if behind 32 (s.nextWindow c).toNat q.window.toNat then .wait else .missed

/-- R210: a sequence that missed its window takes the next one. -/
def State.replace (s : State) (c : Fin 64) (id : Half) : State :=
  let n := s.nextWindow c
  s.setSet c id fun q => { q with
    window := n, applied := n + 1 + BitVec.ofNat 32 (s.latency c), moved := q.moved || q.target.isSome }

/-- R231: when a piece of work may start: device time of a booking or of a mirrored command. -/
def State.bookingOf (s : State) (w : Work) : Option Int :=
  match w.kind with
  | .expo c id => match s.findSet c id with
    | some q => if q.windowed then (s.windowRef c q.window).map fun t => t + (s.safeNs c).1 else none
    | none => none
  | _ => w.at_

/-- The work may start now. -/
def State.workGate (s : State) (b : Fin 32) (w : Work) : Gate :=
  match w.kind with
  | .expo c id => s.expoGate b w c id
  | _ => match w.at_ with
    | some t => if t ≤ s.clock.ext then .go else .wait
    | none => .go

/-! ### Attribution -/

/-- R206: the ID in force changes from a frame or line on; before a stream starts it is what the stream begins with. -/
def State.changeId (s : State) (c : Fin 64) (n : Word) (id : Half) (e : Nat) : State :=
  s.setExpo c fun x => if s.streams c then x.change n id e else { x with baseId := id, baseE := e, timeline := [] }

/-- The set leaves its context's queue, with the sets that share its pulse (R216). -/
def State.dropSet (s : State) (c : Fin 64) (id : Half) : State :=
  { s with expo := { s.expo with ctxs := updAll s.expo.ctxs fun d x => { x with
      sets := x.sets.filter fun q => !((d == c && q.id == id) || q.leader == some (c.val, id)) } } }

/-- The command that waits for a set, when one does. -/
def State.expoCmd (s : State) (c : Fin 64) (id : Half) : Option Running :=
  (allPorts.filterMap fun p => s.waitingFor p fun w => w == .expo c id).head?

/-- R209: the reply of an EXPO_SET. -/
def State.expoReply (s : State) (c : Fin 64) (q : ExpoSet) : State :=
  match s.expoCmd c q.id with
  | none => s
  | some r => s.reply ⟨r.h, r.body⟩ 0 0 (leHalf q.id ++ [0, 0] ++ leWord q.applied ++ leWord s.time)
      (bit 0 q.lateTie + bit 1 q.moved)

/-- R210: a set that came into force later than named is counted. -/
def State.noteMissed (s : State) (q : ExpoSet) : State :=
  if q.moved then ({ s with expo := { s.expo with missed := satInc 16 s.expo.missed } }).raise 50 24 else s

/-- R207: a late acknowledgement. -/
def State.noteLateAck (s : State) : State :=
  ({ s with expo := { s.expo with lateAck := satInc 16 s.expo.lateAck } }).raise 50 25

/-- R206, R207, R212, R217: the releasing write of a set was acknowledged. -/
def State.expoAcked (s : State) (c : Fin 64) (q : ExpoSet) : State :=
  if s.trigMode c = 2 ∧ s.streams c = true then
    s.setSet c q.id fun q => { q with phase := 2, edgeFrom := s.clock.ext + 1000, target := some q.applied }
  else if !q.windowed then
    let s := if s.streams c then s.changeId c (s.nextWindow c) q.id q.e else s.changeId c 0 q.id q.e
    (s.expoReply c q).dropSet c q.id
  else
    let close : Int := match s.windowRef c q.window with
      | some t => t + (s.safeNs c).2
      | none => if behind 32 (s.nextWindow c).toNat q.window.toNat then s.clock.ext + 1 else s.clock.ext - 1
    let tie := s.inThisTick close
    let late := !tie && decide (close < s.clock.ext)
    let s := if late then ((s.changeId c q.applied 0xFFFF 0).changeId c (q.applied + 1) q.id q.e).noteLateAck
      else s.changeId c q.applied q.id q.e
    let q := { q with lateTie := tie, applied := if late then q.applied + 1 else q.applied }
    ((s.noteMissed q).expoReply c q).dropSet c q.id

/-- R213: the sequence of a set failed at write `index`; `released` when the releasing write was issued. -/
def State.expoFailed (s : State) (c : Fin 64) (q : ExpoSet) (code index : Nat) (released : Bool) : State :=
  let s := if released || s.tmpl c 1 1 = 0 then s.changeId c q.applied 0xFFFF 0 else s
  let s := ({ s with expo := { s.expo with failed := satInc 16 s.expo.failed } }).raiseHeld 50 26
  let s := match s.expoCmd c q.id with
    | some r => s.fail ⟨r.h, r.body⟩ 8 (code + 256 * index)
    | none => s
  s.dropSet c q.id

/-- R212: STREAM_STOP discards the sets whose writes have not begun; what is in force then stays. -/
def State.stopExpo (s : State) (c : Fin 64) : State :=
  let begun (id : Half) : Bool := s.sluice.buses.toList.any fun b => match b.cur with
    | some w => w.kind == .expo c id
    | none => false
  let gone := s.expo.ctxs[c].sets.filter fun q => !begun q.id
  let s := gone.foldl (fun s q =>
    let s := match s.expoCmd c q.id with
      | some r => s.fail ⟨r.h, r.body⟩ 2 0
      | none => s
    (fins 32).foldl (fun s (b : Fin 32) => s.setBus b fun x => { x with
      queue := x.queue.filter fun w => w.kind != .expo c q.id }) (s.dropSet c q.id)) s
  let n := if s.lineScan c then s.ctxs[c].line - 1 else s.ctxs[c].frame
  s.setExpo c fun x =>
    let (id, e) := x.at_ n
    { x with baseId := id, baseE := e, timeline := [], sets := x.sets.map fun q => { q with windowed := false, applied := 0 } }

/-! ### Work on a bus -/

/-- R242: posted writes waiting on a bus. -/
def Bus.posted (x : Bus) : Nat := (x.queue.filter fun w => match w.kind with | .posted .. => true | _ => false).length

/-- Work joins the queue of its sensor's bus. -/
def State.enqueueWork (s : State) (w : Work) : State :=
  s.setBus (s.busOf w.sensor) fun x => { x with queue := x.queue ++ [w] }

/-- R228: an idle bus takes its record's mode; enabling an I3C bus asks for addresses (R230). -/
def State.refreshBus (s : State) (b : Fin 32) : State :=
  let x := s.sluice.buses[b]
  let m := s.busU b 0 1
  if x.cur.isNone && !x.busy && x.mode != m then s.setBus b fun x => { x with mode := m, daaDue := x.daaDue || m == 2 } else s

/-- R237: the semaphore is released when no guarded work runs on the pair. -/
def State.releaseSem (s : State) (b : Fin 32) : State :=
  let runs (x : Fin 32) : Bool := match s.sluice.buses[x].cur with | some w => w.kind.guarded | none => false
  if s.semHeld b && !runs b && !runs (otherBus b) then
    { s with mb := { s.mb with sems := s.mb.sems.set (busSem b) 0 } }
  else s

/-- R244, R245: a failed posted write is logged, or lost when 16 entries are held. -/
def State.logPosted (s : State) (w : Work) (port : Port) (seq : Word) (mirrored : Bool) (detail : Nat) : State :=
  let reg := match w.txns with | t :: _ => t.reg | [] => 0
  let s := if s.sluice.plog.length < 16 then
      let e : PlogEntry := { seq, time := s.time, reg, detail, sensor := w.sensor, origin := port.toNat + bit 7 mirrored
                             serial := s.sluice.plogNext }
      { s with sluice := { s.sluice with plog := s.sluice.plog ++ [e], plogNext := s.sluice.plogNext + 1 } }
    else ({ s with sluice := { s.sluice with plogLost := satInc 8 s.sluice.plogLost, plogNext := s.sluice.plogNext + 1 } }).raiseHeld 50 11
  s.raiseHeld 50 10

/-- The command of a port that waits for a bus. -/
def State.sluiceCmd (s : State) (p : Port) (b : Fin 32) : Option Cmd :=
  (s.waitingFor p fun w => w == .sluice b).map fun r => ⟨r.h, r.body⟩

/-- R233: the fetch of a port ends. -/
def State.endFetch (s : State) (p : Port) (r : Nat × List Byte) : State :=
  s.setPort p fun q => { q with fetch := q.fetch.map fun f => { f with result := some r, doneAt := s.now } }

/-- What follows when a piece of work has ended, well or not. -/
def State.endWork (s : State) (b : Fin 32) (w : Work) (data : List Byte) : State :=
  let s := (s.setBus b fun x => { x with cur := none, busy := false, retryAt := none }).releaseSem b
  let s := s.refreshBus b
  match w.kind, w.failed with
  | .write p, none => match s.sluiceCmd p b with | some c => s.ok c [] | none => s
  | .write p, some f => match s.sluiceCmd p b with | some c => s.fail c 8 (f.1 + 256 * f.2) | none => s
  | .posted .., none => s
  | .posted p seq m, some f => s.logPosted w p seq m (f.1 + 256 * f.2)
  | .fetch p, none => s.endFetch p (0, data)
  | .fetch p, some f => s.endFetch p (f.1, [])
  | .seq p _, none => match s.sluiceCmd p b with | some c => s.ok c (leBytes 4 w.done) | none => s
  | .seq p _, some f =>
    let s := s.raise 50 14
    match s.sluiceCmd p b with | some c => s.reply c 8 (f.1 + 256 * f.2) (leBytes 4 w.done) | none => s
  | .expo c id, none =>
    let s := s.setBus b fun x => { x with holdLeft := x.holdLeft.filter (· != w.sensor) }
    match s.findSet c id with | some q => s.expoAcked c q | none => s
  | .expo c id, some f =>
    let s := s.raise 50 14
    let released := decide (w.txns.length ≤ f.2 + 1)
    let s := if s.tmpl c 1 1 = 1 ∧ 0 < w.done ∧ released = false then
        (s.setBus b fun x => { x with holdLeft := w.sensor :: x.holdLeft.filter (· != w.sensor) }).raiseHeld 50 15
      else s
    match s.findSet c id with | some q => s.expoFailed c q f.1 f.2 released | none => s
  | .deskew _, none => s
  | .deskew p, some _ => ({ s with inlets := upd s.inlets p fun x => { x with deskew := if x.deskew = 1 then 0 else x.deskew } }).raise 50 19

/-- The event of a far-side code (R240, R250). -/
def State.raiseCode (s : State) (code : Nat) : State :=
  match code with
  | 1 => s.raise 50 0
  | 2 => s.raise 50 1
  | 3 => if s.twinPair then s else s.raise 50 2
  | 4 => ({ s with sluice := { s.sluice with timeouts := satInc 16 s.sluice.timeouts } }).raise 50 3
  | 6 => s.raise 50 6
  | _ => s

/-- R236, R238, R240: the transaction on a bus fails: the rest of its work is not issued, but for TAIL_ON_FAIL. The Bool
tells that the last write is still to start. -/
def State.failTxn (s : State) (b : Fin 32) (code : Nat) : State × Bool :=
  let s := (s.raiseCode code).setBus b fun x => { x with lastCode := code, busy := false, retryAt := none }
  match s.sluice.buses[b].cur with
  | none => (s, false)
  | some w =>
    let w' := { w with failed := w.failed.or (some (code, w.done)) }
    let last := w.txns.length - 1
    match w.kind with
    | .seq _ true =>
      if w.failed.isNone && decide (w.done < last) then
        (s.setBus b fun x => { x with cur := some { w' with txns := w.txns.take w.done ++ w.txns.drop last } }, true)
      else (s.endWork b w' [], false)
    | _ => (s.endWork b w' [], false)

/-- R231: the next transaction of the current work starts, or fails at once on a stuck bus or without an address. -/
def State.startTxn (s : State) (b : Fin 32) : Nat → State
  | 0 => s
  | f + 1 =>
    let x := s.sluice.buses[b]
    match x.cur with
    | none => s
    | some w =>
      let s := s.setBus b fun x => { x with repeats := 0, arbLost := false, since := s.now, retryAt := none }
      if x.stuck then (let r := s.failTxn b 5; if r.2 then r.1.startTxn b f else r.1)
      else if x.mode = 2 ∧ s.sluice.addrs[Fin.ofNat 128 w.sensor] = none then
        (let r := s.failTxn b 7; if r.2 then r.1.startTxn b f else r.1)
      else s.setBus b fun x => { x with busy := true }

/-- R237: the semaphore of a bus is free for the Sluice, or held by it. -/
def State.semFree (s : State) (b : Fin 32) : Bool :=
  let o := s.mb.sems[busSem b]
  o == 0 || o == sluiceOwner

/-- R231, R237: a piece of work starts on an idle bus; guarded work takes the semaphore or begins to wait for it. -/
def State.startWork (s : State) (b : Fin 32) (w : Work) : State :=
  if w.kind.guarded && !s.semFree b then
    s.setBus b fun x => { x with semWait := x.semWait.or (some s.now) }
  else
    let s := if w.kind.guarded then { s with mb := { s.mb with sems := s.mb.sems.set (busSem b) sluiceOwner } } else s
    let s := s.setBus b fun x => { x with queue := x.queue.erase w, cur := some w, semWait := none, semLong := false }
    match w.kind with
    | .expo c id => (s.setSet c id fun q => { q with phase := 1 }).startTxn b 2
    | _ => s.startTxn b 2

/-- R233, R236: after an acknowledged transaction: the next one of the same work, or the end of the work. -/
def State.nextTxn (s : State) (b : Fin 32) (data : List Byte) : State :=
  match s.sluice.buses[b].cur with
  | none => s
  | some w =>
    let ok := w.failed.isNone
    let w := { w with done := w.done + 1 }
    let left := (w.txns.drop (w.done + bit 0 (!ok))).length
    let s := s.setBus b fun x => { x with cur := some w, busy := false }
    if left = 0 || !ok then s.endWork b w data
    else match s.workGate b w with
      | .go => s.startTxn b 2
      | .wait => s
      | .missed => match w.kind with
        | .expo c id => s.replace c id
        | _ => s

/-- R215: registers of a write that a template of a streaming context of the sensor names. -/
def State.overrides (s : State) (sensor : Nat) (ts : List Txn) : Bool :=
  (fins 64).any fun c => s.streams c && s.prof c 4 2 == sensor &&
    ts.any fun t =>
      let hits (r n : Nat) : Bool := decide (t.reg.toNat < r + n ∧ r < t.reg.toNat + t.data.length)
      (s.tmpl c 1 1 == 1 && hits (s.tmpl c 2 2) 1) ||
        (List.range (s.tmpl c 0 1)).any fun i => hits (s.tmpl c (24 + 8 * i) 2) (s.tmpl c (26 + 8 * i) 1)

/-! ### Routing changes -/

/-- R229, R230: the entries of an I3C bus that need an address and have none. -/
def State.unaddressed (s : State) : Bool :=
  (fins 128).any fun i => s.routed i && s.route i 2 1 != 0 && s.sluice.buses[s.busOf i].mode == 2 && s.sluice.addrs[i].isNone

end Sys2Proof.Machine
end

