-- ==== Sys2Proof/Machine/SluiceCmds.lean ====
section
/-!
DEFINITION. The commands that reach a sensor (R209 to R217, R232 to R244): SENS_WRITE, SENS_READ, SENS_SEQ, SENS_ERRLOG and
EXPO_SET, once accepted and past the checks 1 to 8 of R53.
-/
namespace Sys2Proof.Machine

/-- R247: in twin-pair configuration, the whole microsecond a sensor command is booked for: what the lead decided, or the
first at least 50 µs after acceptance. -/
def State.bookAt (s : State) (h : Hdr) : Option Int :=
  if s.twinPair then
    match h.mirror.bind (·.decided) with
    | some t => some (s.extend t)
    | none => some ((s.clock.ext + 50999) / 1000 * 1000)
  else none

/-- R247: the port whose fetch slot a SENS_READ uses. -/
def fetchPort (h : Hdr) : Port := match h.mirror with | some m => m.origin | none => h.port

/-- R232, R248: what every sensor command checks first: a valid entry, a configured bus. None when it may run. -/
def State.sensorCheck (s : State) (c : Cmd) (sensor : Half) : Option State :=
  if s.routed sensor.toNat = false then some (s.bad c 16)
  else if s.sluice.released || s.busU (s.busOf sensor.toNat) 0 1 == 0 then some (s.notReady c 3)
  else none

/-- R234: the port's fetch is discarded when it carries another command to the Sluice. -/
def State.discardFetch (s : State) (p : Port) : State :=
  match (s.port p).fetch with
  | some f => if f.result.isSome then (s.setPort p fun q => { q with fetch := none }).raise 50 13
    else s.setPort p fun q => { q with fetch := none }
  | none => s

/-- R232, R242: SENS_WRITE. -/
def State.runSensWrite (s : State) (c : Cmd) (sensor reg : Half) (data : List Byte) : State :=
  let s := s.discardFetch (fetchPort c.h)
  match s.sensorCheck c sensor with
  | some t => t
  | none =>
    if data.length = 0 ∨ 64 < data.length then s.bad c 20
    else
      let b := s.busOf sensor.toNat
      let ts : List Txn := [{ reg, data }]
      let s := s.raiseIf (s.overrides sensor.toNat ts) 50 31
      let w (k : WorkKind) : Work := { kind := k, sensor := sensor.toNat, txns := ts, at_ := s.bookAt c.h }
      if s.busU b 1 1 = 1 then
        if 16 ≤ s.sluice.buses[b].posted then (s.raise 50 12).retry c 0x0503
        else (s.enqueueWork (w (.posted (fetchPort c.h) c.h.seq c.h.mirror.isSome))).ok c []
      else (s.enqueueWork (w (.write c.h.port))).wait c (.sluice b)

/-- R233: SENS_READ. -/
def State.runSensRead (s : State) (c : Cmd) (sensor reg : Half) (count : Byte) : State :=
  match s.sensorCheck c sensor with
  | some t => t
  | none =>
    if count.toNat = 0 ∨ 64 < count.toNat then s.bad c 20
    else
      let p := fetchPort c.h
      let start (s : State) : State :=
        let s := s.discardFetch p
        let s := s.enqueueWork { kind := .fetch p, sensor := sensor.toNat, txns := [{ reg, read := count.toNat }]
                                 at_ := s.bookAt c.h }
        (s.setPort p fun q => { q with fetch := some { seq := c.h.seq, sensor := sensor.toNat, reg := reg.toNat
                                                       count := count.toNat } }).retry c 0x0501
      match (s.port p).fetch with
      | none => start s
      | some f =>
        if f.seq = c.h.seq ∧ f.sensor = sensor.toNat ∧ f.reg = reg.toNat ∧ f.count = count.toNat then
          match f.result with
          | none => s.retry c 0x0502
          | some (code, bytes) =>
            let hold := f.doneAt + ticksOfMs 10
            if hold < s.now then start s
            else
              let s := s.setPort p fun q => { q with fetch := none }
              let tie := bit 0 (s.now == hold)
              if code = 0 then s.reply c 0 0 (pad4 (padTo f.count bytes)) tie else s.reply c 8 code [] tie
        else start s

/-- R236: SENS_SEQ. -/
def State.runSensSeq (s : State) (c : Cmd) (sensor : Half) (sflags : Byte) (writes : List SeqWrite) : State :=
  let s := s.discardFetch (fetchPort c.h)
  match s.sensorCheck c sensor with
  | some t => t
  | none =>
    if writes.length = 0 ∨ 16 < writes.length then s.bad c 18
    else if 1 < sflags.toNat then s.bad c 19
    else match writes.findIdx? fun w => decide (w.size.toNat = 0 ∨ 4 < w.size.toNat) with
      | some i => s.bad c (22 + 8 * i)
      | none =>
        let ts : List Txn := writes.map fun w => { reg := w.reg, data := (leWord w.data).take w.size.toNat }
        let s := s.raiseIf (s.overrides sensor.toNat ts) 50 31
        (s.enqueueWork { kind := .seq c.h.port (sflags == 1), sensor := sensor.toNat, txns := ts, at_ := s.bookAt c.h }).wait c
          (.sluice (s.busOf sensor.toNat))

/-- R244: the bytes of a log entry. -/
def PlogEntry.bytes (e : PlogEntry) : List Byte :=
  leWord e.seq ++ leWord e.time ++ leHalf e.reg ++ leBytes 2 e.detail ++ leBytes 1 e.sensor ++ leBytes 1 e.origin ++ leHalf e.serial

/-- R244: SENS_ERRLOG. -/
def State.runSensErrlog (s : State) (c : Cmd) (start count : Word) : State :=
  if count.toNat = 0 ∨ 13 < count.toNat then s.bad c 20
  else
    let all := s.sluice.plog
    let from_ : Half := start.setWidth 16
    let held := if start = 0xFFFFFFFF then all else all.filter fun e => behind 16 from_.toNat e.serial.toNat
    let out := held.take count.toNat
    let oldest := match all with | e :: _ => e.serial | [] => s.sluice.plogNext
    s.ok c (leHalf oldest ++ leBytes 1 all.length ++ leBytes 1 s.sluice.plogLost ++ leHalf s.sluice.plogNext ++
      leBytes 1 out.length ++ leBytes 1 0 ++ out.flatMap PlogEntry.bytes)

/-- R245: a write of SL_PLOG_ACK. -/
def State.ackPlog (s : State) (serial : Half) : State :=
  { s with sluice := { s.sluice with plog := s.sluice.plog.filter fun e => !behind 16 e.serial.toNat serial.toNat } }

/-! ### EXPO_SET -/

/-- R210, R211: the wanted line of a named target may not lie too far ahead, nor at or before the last set queued. -/
def State.badTarget (s : State) (ctx : Fin 64) (target : Word) : Bool :=
  let x := s.ctxs[ctx]
  let n := if s.lineScan ctx then x.line else x.frame
  let far := if s.lineScan ctx then 65536 else 1024
  let ahead := (target - n).toNat
  (decide (ahead < 2 ^ 31) && decide (far < ahead)) ||
    match s.expo.ctxs[ctx].sets.getLast? with
    | some q => behind 32 target.toNat q.applied.toNat
    | none => false

/-- R211, R216: a new set joins a context's queue; the context's ID counter moves on. -/
def State.addSet (s : State) (ctx : Fin 64) (q : ExpoSet) : State :=
  s.setExpo ctx fun x => { x with sets := x.sets ++ [{ q with id := x.nextId }], nextId := nextSetId x.nextId }

/-- R216: the other streaming contexts on the output get sets with the same width. -/
def State.addFollowers (s : State) (ctx : Fin 64) (id : Half) (q : ExpoSet) : State :=
  (s.expoUsers (s.prof ctx 6 1)).foldl (fun s d =>
    if d = ctx then s else s.addSet d { q with leader := some (ctx.val, id) }) s

/-- R210: the window line of a new set, its applied line, and whether it comes into force later than named. -/
def State.placeSet (s : State) (ctx : Fin 64) (b : Fin 32) (sensor : Nat) (ts : List Txn) (target : Option Word) :
    Word × Word × Bool :=
  let lat : Word := BitVec.ofNat 32 (s.latency ctx)
  let first := s.earliestWindow ctx b sensor ts
  match target with
  | none => (first, first + 1 + lat, false)
  | some t =>
    let wanted := t - 1 - lat
    if behind 32 first.toNat wanted.toNat then (wanted, t, false) else (first, first + 1 + lat, true)

/-- R209 to R212, R217: EXPO_SET with its parameters checked. -/
def State.placeExpo (s : State) (c : Cmd) (ctx : Fin 64) (target : Option Word) (ns gain : Nat) : State :=
  let unit := s.tmpl ctx 8 4
  let count := exposureCount unit ns
  let ts := s.expoTxns ctx count gain
  let sensor := s.prof ctx 4 2
  let b := s.busOf sensor
  let id := s.expo.ctxs[ctx].nextId
  let width := s.trigMode ctx == 2
  let e := if width then ns else quantisedE unit count
  let live := s.streams ctx
  let q : ExpoSet := { id, requested := ns, e, count, gain, port := some c.h.port, target, windowed := live }
  if ts = [] then
    if live && width then
      let q := { q with phase := 2, edgeFrom := s.clock.ext + 1000 }
      ((s.addSet ctx q).addFollowers ctx id q).wait c (.expo ctx id)
    else
      let (w, applied, moved) := s.placeSet ctx b sensor ts target
      let q := { q with window := w, applied := if live then applied else 0, moved }
      ((s.addSet ctx q).wait c (.expo ctx id)).expoAcked ctx q
  else if s.routed sensor = false then
    ((s.setExpo ctx fun x => { x with nextId := nextSetId x.nextId }).raise 50 17).fail c 8 7
  else
    let (w, applied, moved) := s.placeSet ctx b sensor ts target
    let q := { q with window := w, applied := if live then applied else 0, moved }
    let s := s.addSet ctx q
    let s := if live && width then s.addFollowers ctx id { q with windowed := false } else s
    (s.enqueueWork { kind := .expo ctx id, sensor, txns := ts, booked := true }).wait c (.expo ctx id)

/-- R208 to R212: EXPO_SET. -/
def State.runExpoSet (s : State) (c : Cmd) (ctx : Half) (targetKind : Byte) (target exposureNs gain : Word) : State :=
  if h : ctx.toNat < 64 then
    let x : Fin 64 := ⟨ctx.toNat, h⟩
    let ns := exposureNs.toNat
    let sensor := s.prof x 4 2
    let b := s.busOf sensor
    let ts := s.expoTxns x (exposureCount (s.tmpl x 8 4) ns) gain.toNat
    let (from_, till) := s.safeNs x
    if till = 0 ∨ till - from_ < s.estimate b sensor (s.windowParts x ts).2 then s.bad c 16
    else if 1 < targetKind.toNat ∨ (targetKind = 1 ∧ s.streams x = false) then s.bad c 18
    else if targetKind = 1 ∧ s.badTarget x target = true then s.bad c 20
    else if ns < 100 ∨ 100000000 < ns ∨ s.tmpl x 12 4 < exposureCount (s.tmpl x 8 4) ns then s.bad c 24
    else if s.tmpl x 16 4 < gain.toNat then s.bad c 28
    else if s.sluice.released || (s.routed sensor && s.busU b 0 1 == 0) then s.notReady c 3
    else if 4 ≤ s.expo.ctxs[x].sets.length then (s.raise 50 28).retry c 0x0401
    else s.placeExpo c x (if targetKind = 1 then some target else none) ns gain.toNat
  else s.bad c 16

end Sys2Proof.Machine
end

