-- ==== Sys2Proof/Machine/InletRows.lean ====
section
/-!
DEFINITION. The meanings of what arrives at a camera port (R97 to R126) and of the deferred GAP records (R157).
-/
namespace Sys2Proof.Machine

/-! ### Stopping -/

/-- R575, R212: a context stops here: lines already committed are still corrected. -/
def State.stopHere (s : State) (c : Fin 64) : State :=
  let s := s.setCtx c fun x => { x with streaming := false, stopping := false, draining := true, stopAt := s.now }
  (s.stopExpo c).drain c

/-- R575: an area context that is to stop has had the last line of its frame, or has no frame open. -/
def State.stopAtEnd (s : State) (c : Fin 64) : State :=
  let x := s.ctxs[c]
  if x.stopping && (!x.frameOpen || decide (s.height c ≤ x.inFrame)) then s.stopHere c else s

/-- R575: one context stops: at once, or after the frame in progress. -/
def State.stopContext (s : State) (c : Fin 64) : State :=
  if !s.streams c then s
  else if !s.lineScan c && s.ctxs[c].frameOpen then (s.setCtx c fun x => { x with stopping := true }).stopAtEnd c
  else s.stopHere c

/-! ### Deskew requests -/

/-- R103: the context whose sensor is the port's: the first enabled one. -/
def State.portContext (s : State) (p : Fin 32) : Option (Fin 64) :=
  (fins 64).find? fun c => s.ctxEnabled c && s.portOf c == p.val

/-- R103: the deskew write is issued when the port's context is between frames or lines. -/
def State.issueDeskew (s : State) (p : Fin 32) (c : Fin 64) : State :=
  if s.inlets[p].deskewAsked then
    let s := s.setInlet p fun x => { x with deskewAsked := false }
    let sensor := s.prof c 4 2
    if s.twin.state.role != 0 then s
    else if s.routed sensor then
      s.enqueueWork { kind := .deskew p, sensor, booked := true, at_ := some s.clock.ext
                      txns := [{ reg := BitVec.ofNat 16 (s.prof c 24 2), data := [BitVec.ofNat 8 (s.prof c 26 1)] }] }
    else (s.setInlet p fun x => { x with deskew := 0 }).raise 50 17
  else s

/-- R103, R106: a device-initiated deskew is requested. -/
def State.requestDeskew (s : State) (p : Fin 32) : State :=
  if s.inlets[p].deskew = 2 then s
  else match s.portContext p with
    | none => s.setInlet p fun x => { x with deskew := 0 }
    | some c =>
      if s.au 0x0203 p 3 1 = 0 ∨ s.prof c 27 1 = 0 then s.setInlet p fun x => { x with deskew := 0 }
      else
        let s := s.setInlet p fun x => { x with deskew := 1, deskewAsked := true }
        if s.streams c && (s.lineScan c || s.ctxs[c].frameOpen) then s else s.issueDeskew p c

/-! ### Packets -/

/-- R110, R575: a frame start short packet. -/
def State.frameStart (s : State) (port vc : Fin 32) (fn : Half) : State :=
  let s := if s.inletOn port then s.setInlet port fun x => { x with lastFs := time32 (s.captureTime port 0) } else s
  s.shortPacket port vc fun s c =>
    let s := if s.ctxs[c].stopping then (s.closeFrame port c).stopAtEnd c else s
    if s.streams c && decide (s.ctxs[c].startAt < s.now) then s.openFrame port c fn else s

/-- R111, R113, R575: a frame end. -/
def State.endFrame (s : State) (p : Fin 32) (c : Fin 64) : State :=
  if s.ctxs[c].frameOpen then
    let s := (s.closeFrame p c).stopAtEnd c
    if s.lineScan c then s else s.issueDeskew p c
  else s.raise p 9

/-- R111: FRAME_END. -/
def execFrameEnd (dt : Nat) (port vc : Fin 32) (_fn : Half) (s : State) : Host.Outcome State Fault Refusal :=
  commit dt (fun s => s.shortPacket port vc fun s c => s.endFrame port c) s

/-- R115: LINE_START_PACKET. -/
def execLineStartPacket (dt : Nat) (port vc : Fin 32) (ln : Half) (s : State) : Host.Outcome State Fault Refusal :=
  commit dt (fun s => s.shortPacket port vc fun s c => s.checkLine port c ln) s

/-- R107, R103, R575: a long packet, and what a line end brings. -/
def State.endLine (s : State) (p : Fin 32) (k : LinePacket) : State :=
  if s.inletOn p then
    let s := s.longPacket p k
    match if k.vc.val < 16 then s.ctxAt p k.vc else none with
    | none => s
    | some c => if s.lineScan c then s.issueDeskew p c else s.stopAtEnd c
  else s

/-- R157: PENDING_GAP_WRITE. -/
def execPendingGapWrite (dt : Nat) (port : Fin 32) (s : State) : Host.Outcome State Fault Refusal :=
  commit dt (fun s => s.writePendingGaps port s.inlets[port].waiting.length) s

/-- R120, R224: a non-image packet of a streaming context is kept in its buffer. -/
def State.keepNonImage (s : State) (c : Fin 64) (dataType : Nat) (bytes : List Byte) : State :=
  let x := s.ctxs[c]
  let keep := s.au 0x0201 c 15 1
  let b : NonImage := if x.buffer.frame = x.frame ∧ x.buffer.fn = x.sensorFn then x.buffer
    else { frame := x.frame, fn := x.sensorFn }
  if dataType = 0x12 then
    if keep.testBit 0 then
      (s.setCtx c fun x => { x with buffer := { b with emb := (b.emb ++ bytes).take 256 } }).raiseIf
        (decide (256 < bytes.length)) 50 29
    else s
  else if 0x13 ≤ dataType ∧ dataType ≤ 0x17 ∧ keep.testBit 1 = true then
    s.setCtx c fun x => { x with buffer := { b with gen := (b.gen ++ bytes).take 256 } }
  else s

/-- R99, R107, R120: a non-image packet: null and blanking packets are ignored; the rest are checked, cost no line, and are
kept for a streaming context. -/
def State.nonImage (s : State) (port vc : Fin 32) (dataType : Nat) (bytes : List Byte) (good : Bool) : State :=
  let s := s.seeVc port vc
  if vc.val < 16 ∧ (dataType = 0x10 ∨ dataType = 0x11) then s
  else match if vc.val < 16 then s.ctxAt port vc else none with
    | none => s.vcUnmapped port
    | some c =>
      if !good then (s.setInlet port fun x => { x with crcBad := satInc 16 x.crcBad }).raise port 7
      else if s.streams c then s.keepNonImage c dataType bytes
      else s

/-- R120: NONIMAGE_PACKET. -/
def execNonimagePacket (dt : Nat) (port vc : Fin 32) (dataType : Fin 64) (bytes : List Byte) (good : Bool) (s : State) :
    Host.Outcome State Fault Refusal :=
  commit dt (fun s => if s.inletOn port then s.nonImage port vc dataType bytes good else s) s

/-- R99: GENERIC_SHORT_PACKET: only CP_VC_SEEN takes note of it; virtual channels from 16 on are counted as unmapped. -/
def execGenericShortPacket (dt : Nat) (port vc : Fin 32) (_dataType : Fin 64) (_value : Half) (s : State) :
    Host.Outcome State Fault Refusal :=
  commit dt (fun s => if s.inletOn port then (if vc.val < 16 then s.seeVc port vc else s.vcUnmapped port) else s) s

/-- R102, R106: SKEW_SEQUENCE: a D-PHY port sweeps its delay lines across the sequence; one sweep serves a pending request. -/
def execSkewSequence (dt : Nat) (port : Fin 32) (_initial : Bool) (s : State) : Host.Outcome State Fault Refusal :=
  commit dt (fun s =>
    if s.inletOn port && s.au 0x0203 port 0 1 == 1 then
      s.setInlet port fun x => { x with deskew := 2, deskewAsked := false }
    else s) s

/-- R103: DESKEW_REQ. -/
def execDeskewReq (dt : Nat) (port : Fin 32) (s : State) : Host.Outcome State Fault Refusal :=
  commit dt (fun s => s.requestDeskew port) s

/-- R125: the counters of a port's block return to 0. -/
def State.clearCounters (s : State) (p : Fin 32) : State :=
  s.setInlet p fun x => { x with
    hdrBad := 0, eccCorr := 0, wcBad := 0, crcBad := 0, vcUnmapped := 0, dtBad := 0, dropped := 0, gaps := 0 }

/-- R125: CNT_CLEAR. -/
def execCntClear (dt : Nat) (port : Fin 32) (s : State) : Host.Outcome State Fault Refusal :=
  commit dt (fun s => s.clearCounters port) s

/-- R126: LOCK_LOST. -/
def execLockLost (dt : Nat) (port : Fin 32) (lanes : BitVec 4) (s : State) : Host.Outcome State Fault Refusal :=
  commit dt (fun s =>
    let lost := lanes &&& s.laneMask port
    if s.inletOn port && lost != 0 then
      (s.setInlet port fun x => { x with lock := x.lock &&& ~~~lost }).raiseHeld port 0
    else s) s

/-- R98, R126: ULPS_ENTRY. -/
def execUlpsEntry (dt : Nat) (port : Fin 32) (s : State) : Host.Outcome State Fault Refusal :=
  commit dt (fun s =>
    if s.inletOn port then
      let s := s.setInlet port fun x => { x with ulps := true, lock := 0, laneStop := 0, clkActive := false }
      if s.portStreams port then s.raiseHeld port 17 else s
    else s) s

/-- R98: ULPS_EXIT: the lanes return to the stop state. -/
def execUlpsExit (dt : Nat) (port : Fin 32) (s : State) : Host.Outcome State Fault Refusal :=
  commit dt (fun s =>
    if s.inlets[port].ulps then s.setInlet port fun x => { x with ulps := false, laneStop := s.laneMask port } else s) s

/-- R126: PHY_FAULT: the monitor trips, or reads normal again. -/
def execPhyFault (dt : Nat) (port : Fin 32) (tripped : Bool) (s : State) : Host.Outcome State Fault Refusal :=
  commit dt (fun s => (s.setInlet port fun x => { x with physFault := tripped }).raiseLevel tripped port 19) s

/-- R123, R126: a streaming context whose STALL_TIMEOUT has elapsed without a line. -/
def State.stalled (s : State) (c : Fin 64) : State :=
  let x := s.ctxs[c]
  let limit := s.au 0x0201 c 16 4
  if x.streaming && !x.noData && limit != 0 && decide (x.lineAt + ticksOfUs limit ≤ s.now) then
    (s.setCtx c fun x => { x with noData := true }).raiseHeld (s.portOf c) 15
  else s

/-- R126: NO_DATA. -/
def execNoData (dt : Nat) (ctx : Fin 64) (s : State) : Host.Outcome State Fault Refusal :=
  commit dt (fun s => s.stalled ctx) s

end Sys2Proof.Machine
end

