-- ==== Sys2Proof/Machine/Confluence.lean ====
section
/-!
DEFINITION. Confluence (R277 to R296): which views a row expects, when it is sealed, and the merge of its channels.
-/
namespace Sys2Proof.Machine

/-- Confluence changed. -/
def State.setCf (s : State) (f : Confluence → Confluence) : State := { s with cf := f s.cf }

/-! ### Channels of a row -/

/-- R277: an unsigned field of a channel record for row K. -/
def State.chanU (s : State) (k : Int) (ch off n : Nat) : Nat := recU (s.rowRec k 0x0802 ch) 0x0802 ch off n

/-- R277: the channels enabled for row K. -/
def State.channels (s : State) (k : Int) : List Nat := (List.range 16).filter fun ch => s.chanU k ch 0 1 == 1

/-- R277: the sources of a channel: view and band. -/
def State.sources (s : State) (k : Int) (ch : Nat) : List (Fin 64 × Nat) :=
  (List.range (s.chanU k ch 3 1)).map fun i => (Fin.ofNat 64 (s.chanU k ch (8 + 4 * i) 1), s.chanU k ch (9 + 4 * i) 1)

/-- R284, R291: the view is enabled and feeds an enabled channel for row K. -/
def State.feeds (s : State) (k : Int) (v : Fin 64) : Bool :=
  (s.viewCfgRow v k).u 0 1 == 1 && (s.channels k).any fun ch => (s.sources k ch).any fun q => q.1 == v

/-- R291: the bands of a view that enabled channels use. -/
def State.usedBands (s : State) (k : Int) (v : Fin 64) : List Nat :=
  (List.range 4).filter fun b => (s.channels k).any fun ch => (s.sources k ch).contains (v, b)

/-- R291: the size of a block of `count` columns and `u` bands. -/
def blockBytes (count u : Nat) : Nat := 64 + ceilDiv (count * u * 36) 512 * 64

/-- R291: the bytes of the blocks of the stored views below `v`, for row K. -/
def State.blocksBelow (s : State) (k : Int) (v : Nat) : Nat :=
  (fins 64).foldl (fun (n : Nat) (w : Fin 64) =>
    if w.val < v ∧ s.feeds k w = true then n + blockBytes (s.viewCfgRow w k).cols.2 (s.usedBands k w).length else n) 0

/-- R291: the size of a slot. -/
def State.slotBytes (s : State) (k : Int) : Nat := ceilDiv (s.blocksBelow k 64) 4096 * 4096

/-! ### Delays and the ring -/

/-- The view parameters of a store. -/
def storeCfg (m : List Host.Cell) (v : Nat) : ViewCfg := { view := v, store := fun _ _ => m }

/-- R258: the heights a view sees at a column: at the ends of the range of lines, for each band. -/
def viewHeights (m : List Host.Cell) (v c : Nat) : List Int :=
  let p := recU m 0x0201 v 4 2
  let bands := recU m 0x0202 p 1 1
  let reg := (recU m 0x0303 v 0 1).testBit 4
  let h := recU m 0x0201 v 6 2
  let last := if recU m 0x0202 p 0 1 = 0 then 0 else (if reg then h / bands else h) - 1
  (List.range bands).flatMap fun b => [(storeCfg m v).z c 0 b reg, (storeCfg m v).z c last b reg]

/-- R256: the enabled views of a store. -/
def enabledViews (m : List Host.Cell) : List Nat := (List.range 64).filter fun v => recU m 0x0703 v 0 1 == 1

/-- R258, R292, R298: the smallest and the largest dly over the enabled views of a store; none without a view. -/
def dlyRange (m : List Host.Cell) : Option (Int × Int) :=
  let zref := recU m 0x0701 65535 20 4
  let all := (enabledViews m).flatMap fun v =>
    let k := storeCfg m v
    (List.range k.cols.2).flatMap fun i => (viewHeights m v (k.cols.1 + i)).map fun z => k.dlyAt (k.cols.1 + i) zref z
  match all with
  | [] => none
  | d :: ds => some (ds.foldl min d, ds.foldl max d)

/-- R292: BASIN_ROWS. -/
def basinRows (m : List Host.Cell) : Nat :=
  let low := match dlyRange m with | some r => r.1 | none => 0
  let t := recU m 0x0701 65535 12 4
  let d : Int := recU m 0x0801 65535 0 4 - low
  (-((-(d * 256)) / t)).toNat + 8

/-! ### Expected views and seals -/

/-- R284: the view has not yet emitted its last row, or rows of it are on their way. -/
def State.emitting (s : State) (v : Fin 64) : Bool :=
  s.streams v || s.ctxs[v].draining || s.views[v].active || s.runnels.toList.any fun r => r.path.any fun q => q.view == v

/-- R284: the view is expected for row K. -/
def State.expected (s : State) (k : Int) (v : Fin 64) : Bool :=
  s.feeds k v && s.emitting v &&
    match s.cf.firstRow[v] with
    | none => true
    | some f => decide (f ≤ k) && (s.views[v].active || match s.views[v].last with
      | some l => decide (k ≤ l)
      | none => false)

/-- The arrivals of a row that is not sealed. -/
def State.collected (s : State) (k : Int) : CollectRow :=
  (s.cf.collecting.find? fun q => q.row == k).getD { row := k }

/-- The row is sealed or released. -/
def State.isSealed (s : State) (k : Int) : Bool := decide (k < s.cf.oldest) || s.cf.sealed.any fun q => q.row == k

/-- The view's row has arrived. -/
def CollectRow.has (q : CollectRow) (v : Fin 64) : Bool := q.arrivals.any fun a => a.vr.view == v

/-- R285, R295: the channels with a source view that satisfies a test, as a mask. -/
def State.chanMask (s : State) (k : Int) (f : Fin 64 → Bool) : Nat :=
  (s.channels k).foldl (fun n ch => n + bit ch ((s.sources k ch).any fun q => f q.1)) 0

/-- R285: row K is sealed with what has arrived. -/
def State.sealRow (s : State) (k : Int) (byDeadline : Bool) : State :=
  let q := s.collected k
  let missing := s.chanMask k fun v => s.expected k v && !q.has v
  let idle := s.chanMask k fun v => !s.expected k v && !q.has v
  let row : SealedRow := { row := k, arrivals := q.arrivals, missing, idle, byDeadline, lateTie := q.lateTie
                           time := s.clock.ext, at_ := s.now }
  let quiet := updAll s.cf.quiet fun v n => if s.expected k v && !q.has v then n + 1 else n
  let s := s.setCf fun f => { f with
    collecting := f.collecting.filter (fun c => c.row != k), sealed := f.sealed ++ [row], quiet
    missingRows := if missing = 0 then f.missingRows else satInc 32 f.missingRows
    chanMissing := updAll f.chanMissing fun ch n => if missing.testBit ch then satInc 16 n else n }
  if missing = 0 then s else s.raiseHeld 46 0

/-- R285: every view expected for row K has delivered; a row with no expected view is complete at its reference time. -/
def State.rowComplete (s : State) (k : Int) : Bool :=
  let q := s.collected k
  let vs := (fins 64).filter fun v => s.expected k v
  if vs.isEmpty then !q.arrivals.isEmpty || decide (s.tref k ≤ s.clock.ext) else vs.all fun v => q.has v

/-- The highest row that may be sealed now. -/
def State.sealTop (s : State) : Int :=
  if s.cf.state = 2 then s.cf.top else max s.cf.top s.grid.row

/-- R285: the complete rows from K upward are sealed. -/
def State.sealFrom (s : State) (k : Int) : Nat → State
  | 0 => s
  | n + 1 =>
    let s := if !s.isSealed k && s.rowComplete k then s.sealRow k false else s
    s.sealFrom (k + 1) n

/-- R283: Confluence drains once every view has stopped, and is idle when it has released the last row; the Weir is idle with
it (DEDUCED). -/
def State.cfStop (s : State) : State :=
  if s.cf.state = 0 then s
  else if (fins 64).any fun v => s.feeds s.cf.oldest v && s.emitting v then s
  else if s.cf.top < s.cf.oldest then
    let s := s.setCf fun f => { f with state := 0, collecting := [], sealed := [] }
    ({ s with weir := { s.weir with state := 0 } }).raise 46 24
  else s.setCf fun f => { f with state := 2 }

/-- R285: after an arrival, a new row or a stop: complete rows are sealed. -/
def State.sealComplete (s : State) : State :=
  let s := s.cfStop
  if s.cf.state = 0 then s else s.sealFrom s.cf.oldest (s.sealTop - s.cf.oldest + 1).toNat

/-- R285: the rows from K upward whose deadline has come are sealed. -/
def State.sealDue (s : State) (k : Int) : Nat → State
  | 0 => s
  | n + 1 =>
    if s.isSealed k then s.sealDue (k + 1) n
    else if s.rowDeadline k ≤ s.clock.ext then ((s.sealRow k true).sealDue (k + 1) n) else s

/-! ### The start -/

/-- R283: the lowest row whose deadline is later than now, over the spans of rows that share a ROW_DEADLINE. -/
def State.firstDue (s : State) (from_ : Option Int) : List RowSwitch → Int
  | [] => let d : Nat := s.au 0x0801 65535 0 4
    let last := match s.recs.rows.reverse.find? fun w => w.pairs.contains (0x0801, 65535) with
      | some w => recU w.new 0x0801 65535 0 4 | none => d
    let k := s.rowAt (s.clock.ext - last) + 1
    match from_ with | some f => max f k | none => k
  | w :: ws =>
    let k0 := s.rowAt (s.clock.ext - recU w.old 0x0801 65535 0 4) + 1
    let k := match from_ with | some f => max f k0 | none => k0
    if k < w.boundary then k else s.firstDue (some w.boundary) ws

/-- R283: Confluence starts: its first row F. -/
def State.cfStart (s : State) : State :=
  let f := s.firstDue none (s.recs.rows.filter fun w => w.pairs.contains (0x0801, 65535))
  (((s.setCf fun c => { c with
    state := 1, first := f, oldest := f, collecting := [], sealed := [], top := f - 1, preStart := false
    prev := Vector.replicate 64 none, prevOdd := Vector.replicate 64 none, firstRow := Vector.replicate 64 none
    quiet := Vector.replicate 64 0, releasedAt := s.now }).causeGone 46 16).causeGone 46 31).raise 46 23

/-! ### Arrivals -/

/-- R293: bytes in the staging buffer. -/
def State.stagingFill (s : State) : Nat := s.cf.staged.foldl (fun n q => n + q.2.2) 0

/-- R289 to R293: an accepted view row is staged; near the deadline it is counted, in its tick it is a tie. -/
def State.stageRow (s : State) (q : ViewRow) : State :=
  let block := blockBytes q.count (s.usedBands q.row q.view).length
  if 4194304 < s.stagingFill + block then s.raise 46 13
  else
    let d := s.rowDeadline q.row
    let tie := s.inThisTick d
    let near := !tie && decide (d - s.clock.ext ≤ (s.au 0x0801 65535 16 4 : Nat))
    let c := s.collected q.row
    let c := { c with arrivals := c.arrivals ++ [{ vr := q, at_ := s.clock.ext }], lateTie := c.lateTie || tie }
    let s := s.setCf fun f =>
      let staged := f.staged ++ [(q.view, q.row, block)]
      { f with
        collecting := f.collecting.filter (fun x => x.row != q.row) ++ [c], staged
        peakStaging := max f.peakStaging (ceilDiv (s.stagingFill + block) 1024)
        viewLast := f.viewLast.set q.view (BitVec.ofInt 32 q.row)
        prev := if q.odd then f.prev else f.prev.set q.view (some q.row)
        prevOdd := if q.odd then f.prevOdd.set q.view (some q.row) else f.prevOdd
        firstRow := f.firstRow.set q.view (f.firstRow[q.view].or (some q.row))
        quiet := f.quiet.set q.view 0, silent := f.silent &&& ~~~(1#64 <<< q.view.val)
        top := max f.top q.row
        nearRows := if near || tie then (q.row :: f.nearRows).take 256 else f.nearRows
        lateTies := if tie then satInc 16 f.lateTies else f.lateTies
        nearSeal := if near then satInc 16 f.nearSeal else f.nearSeal }
    let s := (s.raiseIf tie 46 2).raiseIf near 46 3
    s.raiseLevel (decide ((basinRows s.recs.active : Int) < 2 * (s.cf.top - s.cf.oldest))) 46 27

/-- R288, R289: the checks of a view row. -/
def State.checkRow (s : State) (q : ViewRow) : State :=
  let d := s.rowDeadline q.row
  let before := if q.odd then s.cf.prevOdd[q.view] else s.cf.prev[q.view]
  if q.row < s.cf.first then
    if s.cf.preStart then s else (s.setCf fun f => { f with preStart := true }).raise 46 5
  else if s.cf.oldest + basinRows s.recs.active ≤ q.row then
    (s.setCf fun f => { f with ahead := satInc 16 f.ahead }).raise 46 4
  else if (match before with | some p => decide (q.row ≤ p) | none => false) then (s.raise 46 6).raise 46 7
  else if (s.collected q.row).has q.view then s.raise 46 6
  else if s.isSealed q.row || (decide (d ≤ s.clock.ext) && !s.inThisTick d) then
    let near := decide (s.clock.ext - d ≤ (s.au 0x0801 65535 16 4 : Nat))
    (s.setCf fun f => { f with
      lateDiscard := satInc 16 f.lateDiscard
      nearRows := if near then (q.row :: f.nearRows).take 256 else f.nearRows }).raise 46 1
  else s.stageRow q

/-- R283, R289: a view row arrives. -/
def State.acceptRow (s : State) (q : ViewRow) : State :=
  if s.feeds q.row q.view then
    let s := if s.cf.state = 0 then s.cfStart else s
    (s.checkRow q).sealComplete
  else s

/-! ### The merge -/

/-- R280: the feather weight of a source that covers columns `first` to `first + count - 1`. -/
def featherWeight (first count feather c : Nat) : Nat :=
  if first ≤ c ∧ c < first + count then min (min (c - first + 1) (first + count - c)) feather else 0

/-- R281: the flags a channel avoids. -/
def avoided (avoid : Nat) (x : Sample) : Bool := (avoid.testBit 0 && x.sat) || (avoid.testBit 1 && x.dfc)

/-- What the merge of one sample gives: the sample, whether an input was removed, whether its inputs conflict. -/
structure MergeOut where
  sample : Sample
  removed : Bool
  conflict : Bool
deriving DecidableEq, Repr

/-- R281, R282: the sample of a channel at a column from its sources' samples and weights, in source order. -/
def mergeSample (mode avoid conflictT : Nat) (es : List (Nat × Sample)) : MergeOut :=
  let es := es.filter fun e => !e.2.gap
  let clean := avoid != 0 && es.any fun e => !avoided avoid e.2
  let kept := if clean then es.filter fun e => !avoided avoid e.2 else es
  let removed := decide (kept.length < es.length)
  match kept with
  | [] => ⟨gapSample, removed, false⟩
  | e :: rest =>
    if mode = 1 then ⟨e.2, removed, false⟩
    else
      let w := (e :: rest).foldl (fun n q => n + q.1) 0
      let v := (e :: rest).foldl (fun n q => n + q.1 * q.2.value) 0
      let conflict := match rest with
        | [] => false
        | f :: _ => conflictT != 0 &&
          decide (conflictT * max e.2.value f.2.value < ((e.2.value : Int) - f.2.value).natAbs * 256)
      ⟨orFlags ((v + w / 2) / w) ((e :: rest).map (·.2)), removed, conflict⟩

/-- R281: the samples of a channel of row K. -/
def State.mergeChannel (s : State) (k : Int) (ch : Nat) (arr : List Arrival) : List MergeOut :=
  let srcs := s.sources k ch
  let mode := s.chanU k ch 2 1
  let feather := s.chanU k ch 4 2
  let avoid := s.chanU k ch 6 1
  let conflictT := s.chanU k ch 7 1
  (List.range (s.au 0x0701 65535 0 2)).map fun c =>
    mergeSample mode avoid conflictT (srcs.filterMap fun q =>
      match arr.find? fun a => a.vr.view == q.1 with
      | none => none
      | some a =>
        let w := featherWeight a.vr.first a.vr.count feather c
        if w = 0 then none else some (w, (a.vr.bands.getD q.2 []).getD (c - a.vr.first) gapSample))

/-- R294: the samples of a 64-byte part of a block become GAP; part 0 is the header. -/
def spoilPart (s : State) (k : Int) (v part : Nat) (a : Arrival) : Arrival :=
  let used := s.usedBands k (Fin.ofNat 64 v)
  let u := used.length
  let bad (b c : Nat) : Bool := match used.findIdx? (· == b) with
    | some i => let j := c * u + i
      decide (36 * j < 512 * part ∧ 512 * (part - 1) < 36 * (j + 1))
    | none => false
  if a.vr.view.val = v then { a with vr := { a.vr with bands := a.vr.bands.mapIdx fun b xs => xs.mapIdx fun c x => if bad b c then gapSample else x } }
  else a

/-- R294: the arrivals of a row as its slot reads back. -/
def State.readBack (s : State) (k : Int) (ecc : List (Nat × Nat)) (arr : List Arrival) : List Arrival :=
  ecc.foldl (fun arr e =>
    if e.2 = 0 then arr.filter fun a => a.vr.view.val != e.1 else arr.map (spoilPart s k e.1 e.2)) arr

/-- R295: the released row of a sealed one. -/
def State.mergeRow (s : State) (q : SealedRow) (ecc : List (Nat × Nat)) : MergedRow × List MergeOut :=
  let arr := s.readBack q.row ecc q.arrivals
  let chans := (s.channels q.row).map fun ch => (ch, s.mergeChannel q.row ch arr)
  let outs := chans.flatMap (·.2)
  let vflag (i : Nat) : Bool := arr.any fun a => a.vr.flags.testBit i
  let lost := s.chanMask q.row fun v => (q.arrivals.any fun a => a.vr.view == v) && !(arr.any fun a => a.vr.view == v)
  let hflags := bit 0 q.byDeadline + bit 1 q.lateTie + bit 2 (vflag 4) + bit 3 (vflag 1) + bit 4 (vflag 2) +
    bit 5 (vflag 3) + bit 6 (outs.any (·.conflict)) + bit 7 (!ecc.isEmpty)
  let sols := arr.map (·.vr.sol)
  ({ row := q.row, mask := (s.channels q.row).foldl (fun n ch => n + 2 ^ ch) 0, missing := q.missing ||| lost, idle := q.idle
     hflags, tref := time32 (s.tref q.row)
     latestSol := match sols with | [] => Config.freeWord s.freeCtr | x :: xs => time32 (xs.foldl max x)
     sealTime := time32 q.time
     arrived := BitVec.ofNat 64 (arr.foldl (fun n a => n ||| 2 ^ a.vr.view.val) 0)
     ids := (List.range 16).map fun ch =>
       if (s.channels q.row).contains ch then
         match (s.sources q.row ch).findSome? fun w => arr.find? fun a => a.vr.view == w.1 with
         | some a => a.vr.setId
         | none => 0
       else 0
     cells := chans.map fun c => (c.1, c.2.map (·.sample))
     at_ := s.now
     foot := arr.foldl (fun m a => match m, a.vr.foot with
       | some x, some y => some (max x y) | none, y => y | x, none => x) none }, outs)

/-- R287, R295, R300: the oldest row is released, when it is sealed. -/
def State.releaseRow (s : State) (ecc : List (Nat × Nat)) (corrected : Nat) : State :=
  match s.cf.sealed.find? fun q => q.row == s.cf.oldest with
  | none => s
  | some q =>
    let ecc := ecc.filter fun e => q.arrivals.any fun a => a.vr.view.val == e.1
    let (m, outs) := s.mergeRow q ecc
    let late := decide (max q.at_ s.cf.releasedAt + ticksOfUs 25 < s.now)
    let conflicts := (outs.filter (·.conflict)).length
    let s := s.setCf fun f => { f with
      oldest := f.oldest + 1, sealed := f.sealed.filter (fun x => x.row != q.row), out := f.out ++ [m], releasedAt := s.now
      conflicts := satAdd 32 f.conflicts conflicts, uncorr := satAdd 16 f.uncorr ecc.length
      corr := satAdd 16 f.corr corrected, lastIdle := m.idle, lastMask := m.mask }
    let s := (s.raiseIf late 46 11).raiseIf (conflicts != 0) 46 8
    let s := (s.raiseIf (outs.any (·.removed)) 46 9).raiseIf (corrected != 0) 46 14
    let s := s.raiseIf (!ecc.isEmpty) 46 15
    let s := if m.missing = 0 then s.causeGone 46 0 else s
    let s := (s.raiseLevel (m.idle != 0) 46 18).raiseIf (m.hflags.testBit 2) 46 19
    let s := (s.raiseIf (m.hflags.testBit 3) 46 20).raiseLevel (m.hflags.testBit 4) 46 21
    ((s.raiseIf (m.hflags.testBit 5) 46 22).cfStop).nextFree

/-! ### The Basin in LPDDR6 -/

/-- R297: the address of the Basin. -/
def State.basinBase (s : State) : Nat := s.au 0x0801 65535 4 4 + s.au 0x0801 65535 8 1 * 2 ^ 32

/-- R268: the 16 bytes of a view row's tag. -/
def ViewRow.tag (q : ViewRow) : List Byte :=
  leBytes 4 (wrapOf 32 q.row) ++ leBytes 1 q.view ++ leBytes 1 q.flags ++ leHalf q.setId ++ leBytes 2 q.first ++
    leBytes 2 q.count ++ leWord (time32 q.sol)

/-- R291: the bytes of a block: header and packed samples. -/
def State.blockOf (s : State) (a : Arrival) : List Byte :=
  let used := s.usedBands a.vr.row a.vr.view
  let samples := (List.range a.vr.count).flatMap fun c => used.map fun b => ((a.vr.bands.getD b []).getD c gapSample).word
  let packed := samples.foldr (fun w n => w + 2 ^ 36 * n) 0
  padTo 64 (a.vr.tag ++ leWord (time32 a.at_)) ++ leBytes (blockBytes a.vr.count used.length - 64) packed

/-- R291, R293: one staged block drains into its slot. -/
def State.drainBlock (s : State) (e : Fin 64 × Int × Nat) : State :=
  let arrs := s.cf.collecting.flatMap (·.arrivals) ++ s.cf.sealed.flatMap (·.arrivals)
  match arrs.find? fun a => a.vr.view == e.1 && a.vr.row == e.2.1 with
  | none => s
  | some a =>
    let n := basinRows s.recs.active
    let at_ := s.basinBase + (wrapOf 32 e.2.1 % n) * s.slotBytes e.2.1 + s.blocksBelow e.2.1 e.1.val
    { s with lpddr := Memory.writeList zeroByte s.lpddr at_ (s.blockOf a) }

end Sys2Proof.Machine
end

