-- ==== Sys2Proof/Machine/Memctl.lean ====
section
/-!
DEFINITION. The memory controllers (R434 to R448): installed memory, address interleaving, regions, planning, training
and the maintenance of the channels.
-/
namespace Sys2Proof.Machine

/-- One memory controller changed. -/
def State.setMc (s : State) (m : Fin 6) (f : MemCtl → MemCtl) : State :=
  { s with mem := { s.mem with ctls := upd s.mem.ctls m f } }

/-- R435: the size of installed LPDDR6. -/
def State.installed (s : State) : Nat := s.mem.n * s.mem.capMib * 2 ^ 20

/-- R435: the LPDDR6 window. -/
def lpWindow : Nat := 0xC00000000

/-- R444: the channel of a physical address and its channel address. -/
def State.channelOf (s : State) (a : Nat) : Nat × Nat := (a / 256 % s.mem.n, a / 256 / s.mem.n * 256 + a % 256)

/-- R445: an attribute: 0 PLAIN, 1 SIDE_EFFECT, 2 BASIN, 3 FIRMWARE. -/
abbrev Attr := Nat

/-- R446: the fixed regions outside LPDDR6: first address, end, attribute. -/
def fixedRegions : List (Nat × Nat × Attr) :=
  [(0xF00000000, 0xF02800000, 3), (0xF02800000, 0xF03800000, 1), (0xF03800000, 0xF03C00000, 3),
   (0xF03C00000, 0xF03C40000, 1), (0xF03C40000, 0xF04000000, 3), (0xFE0000000, 0xFE0800000, 1),
   (0xFF0000000, 0x1000000000, 1)]

/-- R447: the base and end of a region entry of a store. -/
def regionRange (m : List Host.Cell) (i : Nat) : Nat × Nat :=
  let b := recU m 0x0111 i 4 4 + recU m 0x0111 i 8 1 * 2 ^ 32
  (b, b + recU m 0x0111 i 12 4 * 1024)

/-- R447: the valid region entries of a store: range and attribute. -/
def validRegions (m : List Host.Cell) : List (Nat × Nat × Attr) :=
  ((List.range 16).filter fun i => recU m 0x0111 i 0 1 == 1).map fun i =>
    let r := regionRange m i
    (r.1, r.2, recU m 0x0111 i 1 1)

/-- Two ranges `[a, b)` and `[c, d)` overlap. -/
def rangesMeet (a b c d : Nat) : Bool := decide (a < d ∧ c < b)

/-- R445, R447: the attributes met by a range. -/
def State.attrsOf (s : State) (a b : Nat) : List Attr :=
  ((validRegions s.recs.active ++ fixedRegions).filter fun r => rangesMeet a b r.1 r.2.1).map fun r => r.2.2

/-- R447, R462: a range is wholly PLAIN: installed LPDDR6 that no other attribute covers. -/
def State.plainRange (s : State) (a b : Nat) : Bool := decide (b ≤ s.installed) && (s.attrsOf a b).all (· == 0)

/-- R437: LPDDR6 is available. -/
def State.memReady (s : State) : Bool := s.mem.n != 0

/-- R437: the largest set of R435 whose channels all trained. -/
def trainedSet (ready : Nat → Bool) : Nat :=
  if (List.range 6).all ready then 6 else if (List.range 4).all ready then 4 else if (List.range 2).all ready then 2 else 0

/-- R435: the channels named by CH_ENABLE. -/
def State.chEnabled (s : State) (m : Nat) : Bool := (s.au 0x0110 65535 0 1).testBit m

/-- R443: rows listed and not yet repaired, of a channel in the working set. -/
def State.repairEntry (s : State) (m i : Nat) : Nat := s.calU (4008 + 256 * m + 4 * i) 4

/-- R443, R528: the rows of a channel's repair list are marked repaired. -/
def State.repairRows (s : State) (m : Fin 6) : State :=
  if s.au 0x0110 65535 5 1 = 1 then
    let bytes := (List.range 64).foldl (fun b i =>
      let e := s.repairEntry m i
      if e.testBit 31 then Memory.writeList calFactory b (4008 + 256 * m.val + 4 * i) (leBytes 4 (e % 2 ^ 30 + 3 * 2 ^ 30)) else b)
      s.nvm.working.bytes
    (({ s with nvm := { s.nvm with working := { s.nvm.working with bytes } } }).setMc m fun x =>
      { x with repairPending := false }).causeGone (40 + m.val) 4
  else s

/-- R436, R437: the training of one channel ends; a first failure is retried once. -/
def State.trainEnd (s : State) (m : Fin 6) (ok : Bool) : State :=
  if ok then
    let s := s.setMc m fun x => { x with state := 2, retried := false, slicesLeft := 0, passAt := s.now, line := 0 }
    ((s.repairRows m).causeGone (40 + m.val) 15).raise (40 + m.val) 1
  else if s.mem.ctls[m].retried then (s.setMc m fun x => { x with state := 5, inUse := false }).raiseHeld (40 + m.val) 0
  else s.setMc m fun x => { x with retried := true }

/-- R437: the interleave set is chosen once every channel's training has ended; the others go to self-refresh. -/
def State.chooseSet (s : State) : State :=
  let ready (m : Nat) : Bool := m < 6 && s.chEnabled m && s.mem.ctls[Fin.ofNat 6 m].state == 2
  let n := trainedSet ready
  let ctls := updAll s.mem.ctls fun i x =>
    if i.val < n then { x with inUse := true } else { x with inUse := false, state := if x.state = 2 then 4 else x.state }
  { s with mem := { s.mem with n, ctls, rate := s.au 0x0110 65535 1 1 } }

/-- R436: a channel still trains. -/
def State.anyTraining (s : State) : Bool := s.mem.ctls.toList.any fun x => x.state == 1

/-! ### Planning (R448) -/

/-- R434: the data rate of a code, MT/s. -/
def rateOf (code : Nat) : Nat := [6400, 9600, 10667, 12800, 14400].getD code 14400

/-- R448: the data bandwidth in bytes per second, times 9. -/
def State.bandwidth9 (s : State) : Nat := s.mem.n * rateOf s.mem.rate * 1000000 * 3 * 8

/-- R293: the unrounded bytes of one row's blocks, for the records of a store. -/
def basinBytes (m : List Host.Cell) : Nat :=
  let chans := (List.range 16).filter fun ch => recU m 0x0802 ch 0 1 == 1
  (enabledViews m).foldl (fun n v =>
    let bands := (List.range 4).filter fun b => chans.any fun ch =>
      (List.range (recU m 0x0802 ch 3 1)).any fun i => recU m 0x0802 ch (8 + 4 * i) 1 == v && recU m 0x0802 ch (9 + 4 * i) 1 == b
    if bands.isEmpty then n else n + blockBytes (recU m 0x0703 v 6 2) bands.length) 0

/-- R448: the planned load of a store with the contexts that stream, in per mille, rounded down. -/
def State.plannedOf (s : State) (m : List Host.Cell) : Nat :=
  let basin := 2 * basinBytes m * 256000000000 / recU m 0x0701 65535 12 4
  let ctx := ((fins 64).filter fun (c : Fin 64) => s.ctxs[c].streaming).foldl (fun (n : Nat) (cx : Fin 64) =>
    let c := cx.val
    let p := recU m 0x0201 c 4 2
    if recU m 0x0202 p 0 1 = 0 then n
    else
      let map := recU m 0x0303 c 56 2
      let entry := if map = 65535 then 0 else match recU m 0x0305 map 0 1 with | 0 => 8 | 1 => 4 | _ => 2
      let tnr := if (recU m 0x0303 c 0 1).testBit 1 then 8 else 0
      let period := recU m 0x0301 c 4 4
      if period = 0 then n
      else n + (entry + tnr) * recU m 0x0201 c 12 2 * recU m 0x0201 c 6 2 * 1000000 / period) 0
  if s.mem.n = 0 then 0
  else (basin + ctx + recU m 0x0110 65535 8 4 * 1000000) * 9 * 1000 / s.bandwidth9

/-- R448: PLANNED takes the load, and PLAN_HIGH follows it on every channel in use. -/
def State.refreshPlan (s : State) : State :=
  let s := { s with mem := { s.mem with planned := s.plannedOf s.recs.active } }
  (fins 6).foldl (fun s m => s.raiseLevel (s.mem.ctls[m].inUse && decide (s.au 0x0110 65535 4 1 * 10 < s.mem.planned)) (40 + m.val) 13) s

/-! ### Errors and maintenance -/

/-- R442: an error of a read is counted and its word recorded. -/
def State.noteEcc (s : State) (m : Fin 6) (word : Nat) (uncorr : Bool) : State :=
  let s := s.setMc m fun x => { x with
    corr := if uncorr then x.corr else satInc 16 x.corr, uncorr := if uncorr then satInc 16 x.uncorr else x.uncorr
    eccUncorr := uncorr, eccWord := word % 2 ^ 30 }
  s.raise (40 + m.val) (if uncorr then 3 else 2)

/-- R435: an access past installed memory raises ADDR_RANGE; the channel is that of the address (log entry 20). -/
def State.addrRange (s : State) (a : Nat) : State := s.raise (40 + (if s.mem.n = 0 then 0 else a / 256 % s.mem.n)) 11

/-- R445: a forbidden access in LPDDR6 raises REGION_VIOLATION on the target channel. -/
def State.regionViolation (s : State) (a : Nat) : State :=
  if a < s.installed then s.raise (40 + (s.channelOf a).1) 12 else s

/-- R439: a stall of a channel, whose length the spec only bounds: a free value up to the bound. -/
def State.stall (s : State) (m : Fin 6) (bound : Nat) : State :=
  let d := Config.freeMeasure s.freeCtr % (bound + 1)
  (s.nextFree).setMc m fun x => { x with maxStall := max x.maxStall d }

/-- R440: a retraining of a channel is called for: eight slices, four of each sub-channel. -/
def State.callRetrain (s : State) (m : Fin 6) : State :=
  if s.mem.ctls[m].slicesLeft = 0 then s.setMc m fun x => { x with slicesLeft := 8, sliceBad := false } else s

/-- R443: the number of 64-byte lines of a channel. -/
def State.mcLines (s : State) : Nat := s.mem.capMib * 16384

/-- R443: the row of a word of a channel; its place in a channel's address is the device's (log entry 21). -/
def rowOfWord (word : Nat) : Nat := word / 256 % 2 ^ 30

/-- R443, R528: a row joins the repair list of the working set, to be appended to the stored set within 10 ms. -/
def State.listRow (s : State) (m : Fin 6) (word : Nat) : State :=
  let e := rowOfWord word + 2 ^ 31
  let s := (s.setMc m fun x => { x with repairPending := true }).raiseHeld (40 + m.val) 14
  match (List.range 64).find? fun i => !(s.repairEntry m i).testBit 31 with
  | none => s
  | some i =>
    let off := 4008 + 256 * m.val + 4 * i
    let bytes := Memory.writeList calFactory s.nvm.working.bytes off (leBytes 4 e)
    { s with nvm := { s.nvm with working := { s.nvm.working with bytes }, changes := s.nvm.changes + 1
                                 append := s.nvm.append ++ [(off, BitVec.ofNat 32 e)] } }

/-- R443: a correctable error of the scrubber; one that was there in the last pass is listed for repair. -/
def State.scrubCorr (s : State) (m : Fin 6) (word : Nat) : State :=
  let x := s.mem.ctls[m]
  let s := (s.noteEcc m word false).setMc m fun y => { y with errs := word :: y.errs }
  if x.lastErrs.contains word then (s.raiseHeld (40 + m.val) 4).listRow m word else s

/-- R443: SCRUB_HOURS in ticks. -/
def State.scrubTicks (s : State) : Nat := s.au 0x0110 65535 2 1 * 3600 * 400000000

end Sys2Proof.Machine
end

