-- ==== Sys2Proof/Machine/Calib.lean ====
section
/-!
DEFINITION. Calibration runs and drift rounds (R520 to R524) and the writes of the MRAM store (R525 to R532).
-/
namespace Sys2Proof.Machine

/-- The store changed. -/
def State.setNvm (s : State) (f : Nvm → Nvm) : State := { s with nvm := f s.nvm }

/-! ### Runs -/

/-- R525, R527, R540: a commit or an import is open or writing. -/
def State.calWriting (s : State) : Bool :=
  s.nvm.imports.any (fun o => o.stage.isNone) ||
    s.nvm.jobs.any fun j => match j with | .commit _ | .import_ _ | .append => true | _ => false

/-- A byte list written into the working set; CHANGES counts it (R540). -/
def State.writeWorking (s : State) (off : Nat) (bs : List Byte) : State :=
  s.setNvm fun n => { n with working := { n.working with bytes := Memory.writeList calFactory n.working.bytes off bs }
                             changes := n.changes + 1 }

/-- R521: the scheduler's rule is active: an active Wellhead rule with the calibration action. -/
def State.calRuleActive (s : State) : Bool :=
  (List.range 32).any fun r => s.wh.active.getLsbD r && (s.au 0x0F02 r 3 1).testBit 3

/-- R524: the reply of a CAL_RUN. -/
def State.calReply (s : State) (x : CalSession) : List Byte :=
  let es := if x.type = 4 ∨ x.type = 255 then [] else x.elements.take 28
  leBytes 1 x.type ++ leBytes 1 x.target ++ leBytes 1 x.result ++ leBytes 1 es.length ++ leBytes 2 (wrapOf 16 s.tmax) ++
    leBytes 2 x.rejected ++ es.flatMap fun e =>
      leBytes 1 e.element ++ leBytes 1 e.flags ++ leBytes 2 e.eyeMui ++ leBytes 2 e.eyeMv ++ leBytes 2 e.skew

/-- R499, R521, R524: a run ends: its leave returns, its results take effect, its command is answered. -/
def State.endRun (s : State) (x : CalSession) : State :=
  let s := s.release fun r => r == .calibration x.port
  let s := s.setNvm fun n => { n with runs_ := n.runs_.filter (· != x) }
  let s := if x.type = 255 ∧ x.result = 0 then { s with wh := { s.wh with tref := s.tmax } } else s
  let s := s.raiseIf (x.result == 0) 52 20
  let s := if x.type = 255 ∧ x.result = 1 ∧ s.calRuleActive = true then
      s.setNvm fun n => { n with repeatAt := some (s.now + ticksOfMs 60000) } else s
  match x.port with
  | none => s
  | some p => match s.waitingFor p (fun w => w == .calRun) with
    | some r => s.ok ⟨r.h, r.body⟩ (s.calReply x)
    | none => s

/-- R522: the audit entry of a part: result, elements rejected, smallest eye width and height (log entry 23). -/
def State.logPart (s : State) (p : CalPart) (result rejected : Nat) (es : List CalElem) : State :=
  let least (f : CalElem → Nat) : Nat := match es with | [] => 0 | e :: es => es.foldl (fun n x => min n (f x)) (f e)
  s.log (s.entry 0x15 6 (p.type * 256 + p.target)
    (BitVec.ofNat 64 (result + rejected * 2 ^ 8 + least (·.eyeMui) * 2 ^ 16 + least (·.eyeMv) * 2 ^ 32)))

/-- R521, R522: the result of a run with two parts: a rejection stands above a part without a measurement. -/
def joinResults (a b : Nat) : Nat := if a = 1 ∨ b = 1 then 1 else max a b

/-- R522, R523, R540: a part ends; every run that waits for it takes its results, and runs without a part left end. -/
def State.partEnded (s : State) (p : CalPart) (result : Nat) (es : List CalElem) : State :=
  let rejected := (es.filter fun e => e.flags % 2 = 1).length
  let s := s.setNvm fun n => { n with
    last := (p.type, p.target, result, rejected), lastTime := s.time, runs := satInc 16 n.runs
    rejects := if result = 1 then satInc 16 n.rejects else n.rejects
    runs_ := n.runs_.map fun x => if x.todo.contains p then
      { x with todo := x.todo.filter (· != p), result := joinResults x.result result, rejected := x.rejected + rejected
               elements := x.elements ++ es } else x }
  let s := (s.raiseIf (result == 1) 52 21).logPart p result rejected es
  (s.nvm.runs_.filter fun x => x.began && x.todo.isEmpty && x.type != 255).foldl (fun s x => s.endRun x) s

/-- A part is in progress. -/
def State.partRuns (s : State) (p : CalPart) : Bool := s.nvm.runs_.any fun x => x.began && x.todo.contains p

/-- R523: a run is in progress: a round, the run of a command, a rotation round of RECAL_PERIOD, or a retraining that drift
called for. -/
def State.calBusy (s : State) : Bool :=
  s.nvm.runs_.any (·.began) || s.link.rot.isSome || s.mem.ctls.toList.any fun m => m.slicesLeft != 0

/-- R520: the trimmed reading of a sensor; the Wellhead's averages are trimmed already. -/
def State.checkTemps (s : State) : State :=
  let sampled := (List.range 24).filter fun i => s.wh.sampled.getLsbD i
  let used := sampled.filter fun i => !s.tempExclude.testBit i
  let sorted := (used.map fun i => s.wh.temps.toList.getD i 0).mergeSort
  let n := sorted.length
  let med2 : Int := sorted.getD ((n - 1) / 2) 0 + sorted.getD (n / 2) 0
  let spread : Int := s.calU 9745 1
  let mask := sampled.foldl (fun m i =>
    let d2 : Nat := (2 * s.wh.temps.toList.getD i 0 - med2).natAbs
    let out := if s.tempExclude.testBit i then decide (spread < d2) else decide (2 * spread < d2)
    m + bit i out) (s.tempExclude - (sampled.foldl (fun m i => m + bit i (s.tempExclude.testBit i)) 0))
  let excluded := ((List.range 24).filter fun i => mask.testBit i).length
  if 8 < excluded then s.partEnded ⟨4, 255⟩ 1 []
  else
    let s := if mask = s.tempExclude then s else s.writeWorking 9704 (leBytes 4 mask)
    s.partEnded ⟨4, 255⟩ 0 []

/-- R520: a part starts, unless it runs already (R523). -/
def State.startPart (s : State) (running : Bool) (p : CalPart) : State :=
  if running then s
  else match p.type with
  | 1 => s.requestDeskew (Fin.ofNat 32 p.target)
  | 2 => if s.link.rot.isSome then s else { s with link := { s.link with roundAsked := true, roundElems := [] } }
  | 3 => s.callRetrain (Fin.ofNat 6 p.target)
  | _ => s.checkTemps

/-- R520, R521: the parts of a run. -/
def State.partsOf (s : State) (type target : Nat) : List CalPart :=
  let mems := ((fins 6).filter fun m => s.mem.ctls[m].inUse).map fun m => (⟨3, m.val⟩ : CalPart)
  match type with
  | 1 => [⟨1, target⟩]
  | 2 => [⟨2, 255⟩]
  | 3 => if target = 255 then mems else [⟨3, target⟩]
  | 4 => [⟨4, 255⟩]
  | _ =>
    let ports := ((List.range 32).filter fun p => s.au 0x0203 p 3 1 == 1 &&
      (fins 64).any fun c => s.streams c && s.portOf c == p && s.prof c 27 1 == 1).map fun p => (⟨1, p⟩ : CalPart)
    mems ++ ports ++ (if s.link.tr.state == 7 && s.link.spares != 0 then [⟨2, 255⟩] else []) ++ [⟨4, 255⟩]

/-- R521, R523: the granted runs that no commit or import holds back begin. -/
def State.beginRuns (s : State) : State :=
  if s.calWriting then s
  else
    (s.nvm.runs_.filter fun x => x.granted && !x.began).foldl (fun s x =>
      let parts := s.partsOf x.type x.target
      let fresh := parts.filter fun p => !s.partRuns p
      let s := s.setNvm fun n => { n with runs_ := n.runs_.map fun y =>
        if y = x then { x with began := true, todo := parts, since := s.now } else y }
      if parts.isEmpty then s.endRun { x with began := true, since := s.now }
      else fresh.foldl (fun s p => s.startPart false p) s) s

/-- R521, R523: the scheduler asks for a drift round, unless one runs or is asked for. -/
def State.askRound (s : State) : State :=
  if s.nvm.runs_.any fun x => x.type == 255 then s
  else
    let r := s.askSelf (.calibration none) 5 20 2
    if r.2 then r.1.setNvm fun n => { n with calWait := false, runs_ := n.runs_ ++ [{ port := none, type := 255, target := 255 }] }
    else r.1.setNvm fun n => { n with calWait := true }

/-- R503: the scheduler tries again. -/
def State.retryRound (s : State) : State := if s.nvm.calWait && s.calRuleActive then s.askRound else s

/-- R524: the run of a CAL_RUN may not start. -/
def State.calNotReady (s : State) (type target : Nat) : Bool :=
  match type with
  | 1 => s.au 0x0203 target 3 1 == 0 || !(s.portStreams (Fin.ofNat 32 target))
  | 2 => !(s.link.tr.state == 7 && s.link.spares != 0)
  | 3 => if target = 255 then s.mem.n == 0 else !s.mem.ctls[Fin.ofNat 6 target].inUse
  | _ => false

/-- R524: CAL_RUN. -/
def State.runCalRun (s : State) (c : Cmd) (type target : Byte) : State :=
  let t := type.toNat
  let g := target.toNat
  if !([1, 2, 3, 4, 255].contains t) then s.bad c 16
  else if (t = 1 ∧ 31 < g) ∨ (t = 3 ∧ 5 < g ∧ g != 255) ∨ (t != 1 ∧ t != 3 ∧ g != 255) then s.bad c 17
  else if s.calNotReady t g then s.notReady c 3
  else
    let s := s.askFor c (.calibration (some c.h.port)) 5 20 2 .calRun
    if s.asked (fun r => r == .calibration (some c.h.port)) then
      s.setNvm fun n => { n with runs_ := n.runs_ ++ [{ port := some c.h.port, type := t, target := g }] }
    else s

/-- R524: the grant of a run's leave. -/
def State.grantRun (s : State) (p : Option Port) : State :=
  (s.setNvm fun n => { n with runs_ := n.runs_.map fun x => if x.port = p then { x with granted := true } else x }).beginRuns

/-- R502, R503: the request of a run ended without a grant. -/
def State.dropRun (s : State) (p : Option Port) : State :=
  s.setNvm fun n => { n with runs_ := n.runs_.filter fun x => x.port != p || x.granted }

/-- R522: a rotation round ended: every lane accepted, some rejected, or no round could run. -/
def State.rotationEnded (s : State) (result : Nat) : State :=
  let es := s.link.roundElems
  let s := { s with link := { s.link with roundElems := [], roundAsked := false } }
  s.partEnded ⟨2, 255⟩ (if result = 0 ∧ es.any (fun e => e.flags % 2 = 1) then 1 else result) es

/-- R440, R522: one retraining slice ends; the last one ends the retraining. -/
def State.slice (s : State) (m : Fin 6) (ok : Bool) : State :=
  let x := s.mem.ctls[m]
  if x.slicesLeft = 0 ∨ !(x.state == 2 || x.state == 3) then s
  else if x.slices != 0 ∧ s.now < x.sliceAt + ticksOfUs 100 then s
  else
    let s := s.stall m 2000
    let s := s.setMc m fun y => { y with slicesLeft := y.slicesLeft - 1, slices := satInc 16 y.slices, sliceAt := s.now
                                         sliceBad := y.sliceBad || !ok, state := if y.slicesLeft = 1 then 2 else 3 }
    if x.slicesLeft != 1 then s
    else
      let s := (s.causeGone (40 + m.val) 10).raise (40 + m.val) 9
      let bad := x.sliceBad || !ok
      let free (i : Nat) : Nat := Config.freeMeasure (s.freeCtr + i) % 65536
      let es : List CalElem := [⟨0, bit 0 bad, free 0, free 1, free 2⟩, ⟨1, bit 0 bad, free 3, free 4, free 5⟩]
      let s := { s with freeCtr := s.freeCtr + 6 }
      let s := if bad then s else s.setNvm fun n => { n with changes := n.changes + 1 }
      s.partEnded ⟨3, m.val⟩ (if bad then 1 else 0) es

/-- R105, R522: the residual skew and the moves of the taps stay within the limits. -/
def State.sweepGood (s : State) (p : Fin 32) (taps eyes : List Nat) (skew : Nat) : Bool :=
  let lanes := s.au 0x0203 p 1 1
  (eyes.take lanes).all (fun e => decide (300 ≤ e)) && decide (skew ≤ s.calU 9740 2) &&
    (List.range lanes).all fun i =>
      let start := s.storedU (304 + 8 * p.val + 2 * i) 1
      decide (taps.getD i 0 ≤ start + s.calU 9742 1 ∧ start ≤ taps.getD i 0 + s.calU 9742 1)

/-- R102, R105, R522: a sweep ends. -/
def State.sweepEnd (s : State) (p : Fin 32) (taps eyes : List Nat) : State :=
  if s.inlets[p].deskew != 2 then s
  else
    let lanes := s.au 0x0203 p 1 1
    let skew := Config.freeMeasure s.freeCtr % 1024
    let narrow := (eyes.take lanes).any fun e => decide (e < 300)
    let good := s.sweepGood p taps eyes skew
    let s := s.nextFree.setInlet p fun x => { x with
      sweepTo := s.now, skew := skew, eyes := Vector.ofFn fun i => if i.val < lanes then min (eyes.getD i.val 0) 1023 else x.eyes[i]
      targets := if good then Vector.ofFn fun i => if i.val < lanes then taps.getD i.val 0 % 64 else x.targets[i] else x.targets
      deskew := if good then 3 else 0 }
    let s := if good then (s.causeGone p 14).raise p 13 else s.raiseHeld p 14
    let s := if good then s.writeWorking (304 + 8 * p.val)
        ((List.range 4).flatMap fun i => [BitVec.ofNat 8 s.inlets[p].targets[Fin.ofNat 4 i], BitVec.ofNat 8 (s.calU (305 + 8 * p.val + 2 * i) 1)])
      else s
    let es := (List.range lanes).map fun i =>
      ({ element := i, flags := bit 0 (!good), eyeMui := eyes.getD i 0, skew } : CalElem)
    if s.partRuns ⟨1, p.val⟩ then s.partEnded ⟨1, p.val⟩ (if good && !narrow then 0 else 1) es else s

/-- R524: type 1 parts without a skew sequence for 1 s end without a measurement. -/
def State.deskewTimeouts (s : State) : State :=
  (fins 32).foldl (fun s p =>
    if s.inlets[p].deskew != 2 && s.nvm.runs_.any fun x => x.began && x.todo.contains ⟨1, p.val⟩ && decide (x.since + ticksOfMs 1000 ≤ s.now)
    then (s.setInlet p fun x => { x with deskew := if x.deskew = 1 then 0 else x.deskew, deskewAsked := false }).partEnded ⟨1, p.val⟩ 2 []
    else s) s

/-- R521: a drift round without parts left ends. -/
def State.roundEnds (s : State) : State :=
  (s.nvm.runs_.filter fun x => x.type == 255 && x.began && x.todo.isEmpty).foldl (fun s x => s.endRun x) s

/-- R521: a round with a rejected part is repeated while its rule stays active. -/
def State.repeatRound (s : State) : State :=
  match s.nvm.repeatAt with
  | some t =>
    if t ≤ s.now then
      let s := s.setNvm fun n => { n with repeatAt := none }
      if s.calRuleActive then s.askRound else s
    else s
  | none => s

/-! ### MRAM writes -/

/-- R530: a job joins the writes in order. -/
def State.addJob (s : State) (j : NvmJob) : State := s.setNvm fun n => { n with jobs := n.jobs ++ [j] }

/-- R512: commands that write MRAM answer NOT_READY while PWRFAIL_N is asserted; else they ask for leave of kind 6. -/
def State.askWrite (s : State) (c : Cmd) : State :=
  if s.pwr.pfActive then s.notReady c 3 else s.askFor c (.nvm (some c.h.port)) 6 8 3 .nvm

/-- R517, R530: the set that a commit writes. -/
def State.commitSet (s : State) (bytes : List Host.Cell) (origin : Nat) : CalSet :=
  { bytes, origin, serial := s.nvm.stored.serial + 1, session := s.nvm.session, time := s.time }

/-- R528: the rows that wait are appended to the stored set. -/
def State.appendRows (s : State) : State :=
  s.setNvm fun n => { n with
    stored := { n.stored with
      serial := n.stored.serial + 1
      bytes := n.append.foldl (fun b e => Memory.writeList calFactory b e.1 (leWord e.2)) n.stored.bytes }
    append := [] }

/-- R537: an audit entry of kind 0x07, for an event of a firmware slot. -/
def State.logFirmware (s : State) : State := s.noteOverflow (s.stageOpen 0x10 7)

/-- The command of a port that waits for the MRAM. -/
def State.nvmCmd (s : State) (p : Port) : Option Cmd := (s.waitingFor p fun w => w == .nvm).map fun r => ⟨r.h, r.body⟩

/-- R65: a reset that follows a reply. -/
def State.resetAfter (s : State) (cause : Nat) (p : Port) : State :=
  { s with sys := { s.sys with resetDue := some (cause, p, s.now + ticksOfMs 10) } }

/-- What a write that was committed changes. -/
def State.jobEffect (s : State) (j : NvmJob) : State :=
  match j with
  | .commit _ => s.setNvm fun n => { n with stored := s.commitSet n.working.bytes 1 }
  | .import_ p =>
    match s.nvm.imports.find? (fun o => o.stage.isNone && o.port == p) with
    | some o => s.setNvm fun n => { n with
        stored := s.commitSet o.cells 2, working := { n.working with bytes := o.cells }
        changes := n.changes + 1, imports := n.imports.filter (· != o) }
    | none => s
  | .append => s.appendRows
  | .activate _ i b => s.setNvm fun n => { n with
      sets := upd n.sets (Fin.ofNat 5 i) fun x => { x with state := 3 }
      committed := upd n.committed (Fin.ofNat 5 i) fun _ => n.sets[Fin.ofNat 5 i].bytes
      bootSet := if b ∧ i < 4 then i else n.bootSet }
  | .activateFw p slot scope =>
    let s := s.setNvm fun n => { n with
      activeSlot := slot, trial := true, slots := upd n.slots (Fin.ofNat 2 slot) fun x => { x with state := 3 } }
    let s := (s.logFirmware).causeGone 52 26
    if scope = 2 then s else s.resetAfter (if scope = 1 then 0 else 7) p

/-- The command of a write is answered. -/
def State.answerJob (s : State) (j : NvmJob) (ok : Bool) : State :=
  let p : Option Port := match j with | .commit p | .import_ p | .activate p _ _ | .activateFw p _ _ => some p | .append => none
  match p with
  | none => s
  | some p => match s.nvmCmd p with
    | some c => if ok then s.ok c [] else s.retryOpen c
    | none => s

/-- R540: the pages of a write: content and both writings of the trailer. -/
def jobPages (j : NvmJob) : Nat :=
  match j with
  | .commit _ | .append => 155
  | .import_ _ => 2
  | .activate _ _ b => if b then 5 else 2
  | .activateFw _ _ _ => 3

/-- R530: the first write ends: committed, or abandoned with NVM_COMMIT_FAIL. Its leave returns. -/
def State.jobDone (s : State) (ok : Bool) : State :=
  match s.nvm.jobs with
  | [] => s
  | j :: rest =>
    if s.pwr.pfHold then s
    else
      let s := s.setNvm fun n => { n with pages := satAdd 32 n.pages (jobPages j) }
      let s := if ok then s.jobEffect j else s.raise 52 23
      let mine (o : OpenImport) : Bool := match j with | .import_ p => o.stage.isNone && o.port == p | _ => false
      let s := s.setNvm fun n => { n with jobs := rest, imports := n.imports.filter fun o => !mine o }
      let who : Option Port := match j with | .commit p | .import_ p | .activate p _ _ | .activateFw p _ _ => some p | .append => none
      let s := s.release fun r => r == .nvm who
      (s.answerJob j ok).beginRuns

/-- R528, R532: an append asks for leave of its own once rows wait. -/
def State.askAppend (s : State) : State :=
  if s.nvm.append.isEmpty || s.asked (fun r => r == .nvm none) || s.holds (fun r => r == .nvm none) then s
  else (s.askSelf (.nvm none) 6 8 3).1

end Sys2Proof.Machine
end

