-- ==== Sys2Proof/Machine/Dma.lean ====
section
/-!
DEFINITION. The DMA engine (R451 to R469): register sets, descriptor checks, request lines, and the starts, aborts and
halts of channels. The moving of data is in DmaRows.
-/
namespace Sys2Proof.Machine

/-- One channel changed. -/
def State.setDma (s : State) (c : Fin 32) (f : DmaChan → DmaChan) : State :=
  { s with dma := { s.dma with chans := upd s.dma.chans c f } }

/-- R454: the source address of a set. -/
def DmaSet.source (d : DmaSet) : Nat := d.src.toNat + d.hi.toNat % 16 * 2 ^ 32

/-- R454: the destination address of a set. -/
def DmaSet.dest (d : DmaSet) : Nat := d.dst.toNat + d.hi.toNat / 256 % 16 * 2 ^ 32

/-- R454: the fields of CTRL. -/
def DmaSet.valid (d : DmaSet) : Bool := d.ctrl.getLsbD 0
/-- R454: one burst per request. -/
def DmaSet.paced (d : DmaSet) : Bool := d.ctrl.getLsbD 1
/-- R454: every burst restarts at SRC. -/
def DmaSet.srcHold (d : DmaSet) : Bool := d.ctrl.getLsbD 2
/-- R454: every burst restarts at DST. -/
def DmaSet.dstHold (d : DmaSet) : Bool := d.ctrl.getLsbD 3
/-- R454: the shadow set is loaded at completion. -/
def DmaSet.chain (d : DmaSet) : Bool := d.ctrl.getLsbD 4
/-- R454: completion raises DONE. -/
def DmaSet.irqDone (d : DmaSet) : Bool := d.ctrl.getLsbD 5
/-- R454: the channel asks for leave. -/
def DmaSet.heavy (d : DmaSet) : Bool := d.ctrl.getLsbD 6
/-- R454: the priority. -/
def DmaSet.prio (d : DmaSet) : Nat := bitsOf d.ctrl.toNat 10 8
/-- R454: the code of the burst size. -/
def DmaSet.burstCode (d : DmaSet) : Nat := bitsOf d.ctrl.toNat 14 12
/-- R454: the burst size in bytes. -/
def DmaSet.burstSize (d : DmaSet) : Nat := 64 * 2 ^ d.burstCode
/-- R454: the request line. -/
def DmaSet.req (d : DmaSet) : Nat := bitsOf d.ctrl.toNat 22 16

/-- R455: the bytes of the source range. -/
def DmaSet.srcLen (d : DmaSet) : Nat := if d.srcHold then min d.burstSize d.count.toNat else d.count.toNat
/-- R455: the bytes of the destination range. -/
def DmaSet.dstLen (d : DmaSet) : Nat := if d.dstHold then min d.burstSize d.count.toNat else d.count.toNat

/-- R446, R456: the on-chip ranges. -/
def onChip : List (Nat × Nat) := [(0xF00000000, 0xF04000000), (0xFE0000000, 0xFE0800000), (0xFF0000000, 0x1000000000)]

/-- R456 code 2: a range lies in installed LPDDR6 or in one on-chip range. -/
def State.rangeExists (s : State) (a n : Nat) : Bool :=
  decide (a + n ≤ s.installed) || onChip.any fun r => decide (r.1 ≤ a ∧ a + n ≤ r.2)

/-- R195: a correction record of an enabled context, active or locked, names a map or a history: their address ranges. -/
def State.usedBuffers (s : State) : List (Nat × Nat) :=
  (List.range 64).flatMap fun c =>
    if s.au 0x0201 c 0 1 != 1 || s.au 0x0202 (s.profileOf c) 0 1 == 0 then []
    else
      ([s.recs.active] ++ (if s.locked 0x0303 c then [s.recs.pending] else [])).flatMap fun m =>
        let px := recU m 0x0201 c 12 2 * recU m 0x0201 c 6 2
        let map := recU m 0x0303 c 56 2
        let mapR : List (Nat × Nat) := if map = 65535 then [] else
          let b := s.mapBase map
          [(b, b + px * mapSize (s.mapU map 0 1))]
        let h := recU m 0x0303 c 68 4 + recU m 0x0303 c 72 1 * 2 ^ 32
        mapR ++ (if (recU m 0x0303 c 0 1).testBit 1 then [(h, h + px * 4)] else [])

/-- R297: the range of the Basin. -/
def State.basinRange (s : State) : Nat × Nat := (s.basinBase, s.basinBase + s.au 0x0801 65535 12 4 * 1024)

/-- R456 code 3: a host channel may touch only LPDDR6 outside regions BASIN and FIRMWARE, buffers in use and the Basin. -/
def State.hostMay (s : State) (a n : Nat) : Bool :=
  decide (a + n ≤ s.installed) && (s.attrsOf a (a + n)).all (fun x => decide (x < 2)) &&
    !(s.usedBuffers.any fun r => rangesMeet a (a + n) r.1 r.2) &&
    !(rangesMeet a (a + n) s.basinRange.1 s.basinRange.2)

/-- R452: a channel may name a request line. -/
def lineAllowed (ch line : Nat) : Bool :=
  decide (line < 96) && (decide (ch < 24) || decide (24 ≤ line ∧ line ≤ 31) || decide (80 ≤ line))

/-- R453: a channel's active descriptor runs and names the line. -/
def DmaChan.bound (x : DmaChan) (line : Nat) : Bool :=
  !(x.state == 0 || x.state == 6) && x.act.paced && x.act.req == line

/-- R453: the channel a line is bound to. -/
def State.lineOwner (s : State) (line : Nat) : Option (Fin 32) := (fins 32).find? fun c => s.dma.chans[c].bound line

/-- R455, R456: the first failing check of a descriptor, 0 when it passes. -/
def State.descCode (s : State) (c : Fin 32) (d : DmaSet) : Nat :=
  let n := d.count.toNat
  let host := decide (24 ≤ c.val)
  if n = 0 ∨ n % 4 != 0 ∨ d.source % 4 != 0 ∨ d.dest % 4 != 0 then 1
  else if !(s.rangeExists d.source d.srcLen && s.rangeExists d.dest d.dstLen) then 2
  else if host && !(s.hostMay d.source d.srcLen && s.hostMay d.dest d.dstLen) then 3
  else if d.paced && (!lineAllowed c.val d.req || (fins 32).any fun k => k != c && s.dma.chans[k].bound d.req) then 4
  else if d.paced && rangesMeet d.source (d.source + d.srcLen) d.dest (d.dest + d.dstLen) then 5
  else if (d.srcHold || d.dstHold) && !d.paced then 6
  else if d.burstCode > 6 || (host && decide (3 < d.prio)) then 7
  else 0

/-- R469: the first event bit of a channel's group: DONE, ABORTED, BUS_ERR, TAIL_ERR, DESC_ERR. -/
def dmaGroup (c : Fin 32) : Nat := if 24 ≤ c.val then 0 else if 16 ≤ c.val then 5 else 10

/-- A result is written. -/
def State.dmaResult (s : State) (c : Fin 32) (r : Nat) : State :=
  let s := { s with dma := { s.dma with results := s.dma.results ||| (1#32 <<< c.val) } }
  s.setDma c fun x => { x with result := r }

/-- R453: a pending count is zeroed. -/
def State.zeroLine (s : State) (line : Nat) : State :=
  if h : line < 96 then { s with dma := { s.dma with lines := s.dma.lines.set line 0 } } else s

/-- R453: the pending count of the line of a channel's paced descriptor is zeroed. -/
def State.unbind (s : State) (c : Fin 32) : State :=
  let d := s.dma.chans[c].act
  if d.paced then s.zeroLine d.req else s

/-- R462: a prefetched burst is discarded. -/
def State.dropPrefetch (s : State) (c : Fin 32) : State :=
  if s.dma.chans[c].prefetch.isSome then
    ({ s with dma := { s.dma with drops := satInc 16 s.dma.drops, chans := upd s.dma.chans c fun x => { x with prefetch := none } } }).raise 51 22
  else s

/-- R458: the leave of a channel ends with its run. -/
def State.dmaRelease (s : State) (c : Fin 32) : State := s.release fun r => r == .dma c

/-- R461: with no burst in a beat slot, the pre-empted channel of the highest priority resumes. -/
def State.resumeDma (s : State) : State :=
  if s.dma.chans.toList.any fun x => x.state == 4 && x.burst.isSome then s
  else
    let p := s.dma.chans.toList.foldl (fun n x => if x.state = 5 then max n (x.act.prio + 1) else n) 0
    match (fins 32).find? fun c => s.dma.chans[c].state == 5 && s.dma.chans[c].act.prio + 1 == p with
    | some c => s.setDma c fun x => { x with state := 4, waitAt := none }
    | none => s

/-- The channel leaves its run for a state: its binding, its leave and the beat slots it held end. -/
def State.dmaStop (s : State) (c : Fin 32) (state : Nat) : State :=
  let s := ((s.unbind c).dropPrefetch c).dmaRelease c
  (s.setDma c fun x => { x with state, burst := none, waitAt := none, abortAt := none, haltAt := s.now }).resumeDma

/-- R462: a paced channel that waits for a request may hold its next burst already: whether it does is free. -/
def State.maybePrefetch (s : State) (c : Fin 32) : State :=
  let x := s.dma.chans[c]
  let len := min x.act.burstSize x.residue
  let a := if x.act.srcHold then x.act.source else x.act.source + (x.act.count.toNat - x.residue)
  let s := s.nextFree
  if x.residue != 0 && s.plainRange a (a + len) && Config.freeBool (s.freeCtr - 1) then
    s.setDma c fun y => { y with prefetch := some (s.lpBytes a len) }
  else s

/-- R455 to R458: the active set loads: it runs, or the channel halts with DESC_ERR. -/
def State.dmaLoad (s : State) (c : Fin 32) : State :=
  let d := s.dma.chans[c].act
  let code := s.descCode c d
  if code != 0 then
    let s := (s.dmaResult c 4).setDma c fun x => { x with errCode := code }
    ((s.setDma c fun x => { x with state := 6, haltAt := s.now }).dmaRelease c).raiseHeld 51 (dmaGroup c + 4)
  else
    let rev := !d.paced && decide (d.source < d.dest) && rangesMeet d.source (d.source + d.srcLen) d.dest (d.dest + d.dstLen)
    let s := s.setDma c fun x => { x with
      residue := d.count.toNat, reversed := rev, errCode := 0, burst := none, state := if d.paced then 3 else 4 }
    let s := s.raiseIf rev 51 17
    if d.paced then s.maybePrefetch c else s

/-- R458: CMD.START. -/
def State.dmaStart (s : State) (c : Fin 32) : State :=
  let x := s.dma.chans[c]
  if x.state != 0 then s.raise 51 16
  else
    let s := s.setDma c fun x => { x with
      result := 0, loads := 0, reversed := false, shadowDropped := false, tailErr := false, errAddr := 0, errWrite := false
      errKind := 0, errCode := 0, abortAt := none }
    if x.act.heavy then
      let r := s.askSelf (.dma c) 7 10 1
      if r.2 then (r.1.setDma c fun x => { x with state := 1, residue := x.act.count.toNat }).raise 51 21
      else (r.1.dmaResult c 2).setDma c fun x => { x with residue := x.act.count.toNat }
    else s.dmaLoad c

/-- R467: the status entry of a channel. -/
def DmaChan.statusWord (x : DmaChan) : Nat :=
  x.loads % 65536 * 65536 + bit 14 x.prefetch.isSome + bit 13 x.reversed + bit 12 x.shadowDropped + bit 11 x.shadow.valid +
    bit 10 x.tailErr + x.result * 32 + x.state

/-- R468: ERR_INFO. -/
def DmaChan.errInfo (x : DmaChan) : Nat := x.errCode * 256 + x.errKind * 32 + bit 4 x.errWrite + x.errAddr / 2 ^ 32 % 16

/-- R467: the 16 bytes of a channel's status entry. -/
def DmaChan.entry (x : DmaChan) : List Byte :=
  leBytes 4 x.statusWord ++ leBytes 4 x.residue ++ leBytes 4 x.errAddr ++ leBytes 4 x.errInfo

/-- R464: a DMA_ABORT is answered when the abort has taken effect. -/
def State.answerAbort (s : State) (c : Fin 32) : State :=
  s.answerWaiting (fun w => w == .dmaAbort c) fun s k => s.ok k s.dma.chans[c].entry

/-- R464: an abort takes effect. -/
def State.dmaAborted (s : State) (c : Fin 32) : State :=
  let s := (s.dmaResult c 2).dmaStop c 0
  let s := s.setDma c fun x => { x with shadow := {}, shadowDropped := true }
  (s.raise 51 (dmaGroup c + 1)).answerAbort c

/-- R464: CMD.ABORT. -/
def State.dmaAbort (s : State) (c : Fin 32) : State :=
  match s.dma.chans[c].state with
  | 1 => (s.setDma c fun x => { x with residue := x.act.count.toNat }).dmaAborted c
  | 2 | 3 => s.dmaAborted c
  | 4 | 5 =>
    if s.dma.chans[c].burst.isNone then s.dmaAborted c
    else s.setDma c fun x => { x with abortAt := some (x.abortAt.getD s.now) }
  | _ => s.answerAbort c

/-- R467: CMD.CLEAR. -/
def State.dmaClear (s : State) (c : Fin 32) : State :=
  if s.dma.chans[c].state = 6 then ((s.unbind c).dropPrefetch c).setDma c fun x => { x with state := 0 } else s

/-- One word of a register set. -/
def DmaSet.setWord (d : DmaSet) (reg : Nat) (v : Word) : DmaSet :=
  match reg with
  | 0 => { d with src := v }
  | 1 => { d with dst := v }
  | 2 => { d with hi := v &&& 0xF0F }
  | 3 => { d with count := v }
  | _ => { d with ctrl := v &&& 0x007F777F }

/-- One word of a register set, read. -/
def DmaSet.getWord (d : DmaSet) (reg : Nat) : Word :=
  match reg with
  | 0 => d.src | 1 => d.dst | 2 => d.hi | 3 => d.count | _ => d.ctrl

/-- R458, R460: a write to a register set. -/
def State.dmaWriteSet (s : State) (c : Fin 32) (shadow : Bool) (reg : Nat) (v : Word) : State :=
  let x := s.dma.chans[c]
  if shadow then
    if x.shadow.valid then s.raise 51 16 else s.setDma c fun x => { x with shadow := x.shadow.setWord reg v }
  else if x.state = 0 ∨ x.state = 6 then s.setDma c fun x => { x with act := x.act.setWord reg v }
  else s.raise 51 16

/-- R453: requests on a line. -/
def State.dmaRequest (s : State) (line : Nat) (n : Nat) : State :=
  if h : line < 96 then
    match s.lineOwner line with
    | none => s.raise 51 20
    | some _ =>
      let total := s.dma.lines[line] + n
      let s := { s with dma := { s.dma with lines := s.dma.lines.set line (min total 255) } }
      s.raiseIf (decide (255 < total)) 51 19
  else s

/-- R161: a DMA channel of the runnel is halted with a bus error. -/
def State.mapDmaBad (s : State) (r : Nat) : Bool :=
  [2 * r, 2 * r + 1].any fun i => let x := s.dma.chans[Fin.ofNat 32 i]; x.state == 6 && x.result == 3

/-- R160: a runnel posts requests at the swap of its map buffer: bursts of the block on its inbound line, and of the
history on its outbound line. -/
def State.postBlocks (s : State) (r inbound outbound : Nat) : State :=
  let burst (line : Nat) : Nat := match s.lineOwner line with | some c => s.dma.chans[c].act.burstSize | none => 4096
  let s := if inbound = 0 then s else s.dmaRequest (2 * r) (ceilDiv inbound (burst (2 * r)))
  if outbound = 0 then s else s.dmaRequest (2 * r + 1) (ceilDiv outbound (burst (2 * r + 1)))

/-- R467: DMA_STATUS. -/
def State.runDmaStatus (s : State) (c : Cmd) (first count : Byte) : State :=
  if 31 < first.toNat then s.bad c 16
  else if count.toNat = 0 ∨ 8 < count.toNat ∨ 32 < first.toNat + count.toNat then s.bad c 17
  else s.ok c ((List.range count.toNat).flatMap fun i => (s.dma.chans[Fin.ofNat 32 (first.toNat + i)]).entry)

/-- R464: DMA_ABORT. -/
def State.runDmaAbort (s : State) (c : Cmd) (ch : Byte) : State :=
  if 31 < ch.toNat then s.bad c 16
  else
    let k : Fin 32 := Fin.ofNat 32 ch.toNat
    if c.h.port = .p0 && decide (ch.toNat < 24) then s.fail c 3 0
    else (s.wait c (.dmaAbort k)).dmaAbort k

end Sys2Proof.Machine
end

