-- ==== Sys2Proof/Machine/Checks.lean ====
section
/-!
DEFINITION. The consistency checks of a REC_APPLY (R12), on the values that would become active, and the boundaries that
each record accepts (R11).
-/
namespace Sys2Proof.Machine

/-- R12, R580: a check: it fails, and a record takes part in it. -/
structure Check where
  fails : Bool
  part : Nat × Nat → Bool

/-- What a REC_APPLY would change: the active store, the store that would become active, and the records it names. -/
structure Change where
  old : List Host.Cell
  new : List Host.Cell
  pairs : List (Nat × Nat)

/-- The change names a record of one of these kinds. -/
def Change.names (k : Change) (ids : List Nat) : Bool := k.pairs.any fun p => ids.contains p.1

/-- A field that would become active. -/
def Change.u (k : Change) (id inst off n : Nat) : Nat := recU k.new id inst off n

/-- A field would change. -/
def Change.alters (k : Change) (id inst off n : Nat) : Bool := recU k.new id inst off n != recU k.old id inst off n

/-- The enabled contexts of the new store. -/
def Change.ctxs (k : Change) : List Nat := (List.range 64).filter fun c => k.u 0x0201 c 0 1 == 1

/-- The profile of a context. -/
def Change.prof (k : Change) (c off n : Nat) : Nat := k.u 0x0202 (k.u 0x0201 c 4 2) off n

/-- The context is a line-scan one. -/
def Change.lineScan (k : Change) (c : Nat) : Bool := k.prof c 0 1 == 0

/-- A record of one of these kinds takes part. -/
def ofKinds (ids : List Nat) (p : Nat × Nat) : Bool := ids.contains p.1

/-- A context streams. -/
def State.streamsN (s : State) (c : Nat) : Bool := s.ctxs[Fin.ofNat 64 c].streaming

/-- Two entries of a list agree. -/
def anyTwice : List Nat → Bool
  | [] => false
  | x :: xs => xs.contains x || anyTwice xs

/-! ### Inlets and contexts (R10, R121 to R124, R216, R218) -/

/-- R10, R100, R101, R121: the fields of a port record agree. -/
def portBad (m : List Host.Cell) (p : Nat) : Bool :=
  let mode := recU m 0x0203 p 0 1
  let lanes := recU m 0x0203 p 1 1
  let pol := recU m 0x0203 p 12 4
  let map := (List.range lanes).map fun i => recU m 0x0203 p 8 4 / 8 ^ i % 8
  match mode with
  | 1 => lanes == 3 || decide (31 < pol) || anyTwice map || map.any fun x => decide (4 ≤ x)
  | 2 => decide (3 < lanes) || decide (6000 < recU m 0x0203 p 4 4) || anyTwice map || (map.any fun x => decide (3 ≤ x)) ||
    (List.range 3).any fun t => decide (5 < pol / 8 ^ t % 8)
  | _ => false

/-- The checks of the inlet's records. -/
def State.inletChecks (s : State) (k : Change) : List Check :=
  let named (id : Nat) : List Nat := (k.pairs.filter fun p => p.1 == id).map (·.2)
  let bound (p : Nat) : List Nat := (List.range 64).filter fun c => k.u 0x0201 c 0 1 == 1 && k.u 0x0201 c 1 1 == p
  (named 0x0203).flatMap (fun p =>
    [⟨portBad k.new p, fun r => r == (0x0203, p)⟩,
     ⟨(List.range 64).any (fun c => s.streamsN c && s.portOf c == p) &&
        (k.alters 0x0203 p 0 3 || k.alters 0x0203 p 4 12), fun r => r == (0x0203, p)⟩]) ++
  (named 0x0202).flatMap (fun p =>
    [⟨decide (k.u 0x0202 p 16 4 < k.u 0x0202 p 12 4), fun r => r == (0x0202, p)⟩,
     ⟨k.alters 0x0202 p 0 1 && (List.range 64).any fun c => s.streamsN c && s.profileOf c == p, fun r => r == (0x0202, p)⟩]) ++
  (named 0x0301).map (fun c => ⟨s.streamsN c && k.alters 0x0301 c 1 1, fun r => r == (0x0301, c)⟩) ++
  (named 0x0201).flatMap (fun c =>
    [⟨decide (k.u 0x0201 c 8 2 < k.u 0x0201 c 10 2 + k.u 0x0201 c 12 2), fun r => r == (0x0201, c)⟩,
     ⟨s.streamsN c && (k.alters 0x0201 c 0 4 || k.alters 0x0201 c 6 4 ||
        recU k.old 0x0202 (recU k.old 0x0201 c 4 2) 0 1 != k.prof c 0 1), fun r => r == (0x0201, c)⟩]) ++
  (if k.names [0x0201, 0x0202, 0x0203] then
    k.ctxs.flatMap (fun c =>
      let port := k.u 0x0201 c 1 1
      let shape := fun (r : Nat × Nat) => r == (0x0201, c) || r == (0x0202, k.u 0x0201 c 4 2)
      [⟨k.lineScan c != (k.u 0x0201 c 6 2 == 0), shape⟩,
       ⟨(bound port).any fun d => d != c && k.u 0x0201 d 2 1 == k.u 0x0201 c 2 1, fun r => r.1 == 0x0201 && k.u 0x0201 r.2 1 1 == port⟩,
       ⟨k.u 0x0203 port 0 1 == 0, fun r => r == (0x0201, c) || r == (0x0203, port)⟩,
       ⟨!k.lineScan c && k.u 0x0201 c 6 2 % (max 1 (k.prof c 1 1)) != 0, shape⟩,
       ⟨k.prof c 3 1 == 2 && decide (4 < (k.ctxs.filter fun d => k.prof d 3 1 == 2 && k.prof d 6 1 == k.prof c 6 1).length),
        ofKinds [0x0201, 0x0202]⟩])
   else []) ++
  (if k.names [0x0201, 0x0202, 0x0402] then
    k.ctxs.map fun c => ⟨k.lineScan c && k.u 0x0402 c 3 1 != 1,
      fun r => r == (0x0402, c) || r == (0x0201, c) || r == (0x0202, k.u 0x0201 c 4 2)⟩
   else [])

/-! ### Exposure and the Sluice (R202, R208, R228, R229) -/

/-- The checks of templates, buses and routes. -/
def State.controlChecks (s : State) (k : Change) : List Check :=
  let named (id : Nat) : List Nat := (k.pairs.filter fun p => p.1 == id).map (·.2)
  let queued (p : Nat) : Bool := (fins 64).any fun c => s.profileOf c == p && !s.expo.ctxs[c].sets.isEmpty
  let valid := (List.range 128).filter fun i => k.u 0x0501 i 0 1 == 1
  (named 0x0401).map (fun p => ⟨queued p, fun r => r == (0x0401, p)⟩) ++
  (named 0x0202).map (fun p => ⟨queued p && (k.alters 0x0202 p 2 1 || k.alters 0x0202 p 12 8), fun r => r == (0x0202, p)⟩) ++
  (named 0x0401 ++ named 0x0202).map (fun p =>
    ⟨k.u 0x0202 p 0 1 == 0 && decide (k.u 0x0202 p 3 1 < 2) && decide (1 < k.u 0x0401 p 0 1) && k.u 0x0401 p 1 1 == 0,
     fun r => r == (0x0401, p) || r == (0x0202, p)⟩) ++
  (named 0x0502).map (fun b => ⟨k.u 0x0502 b 0 1 == 0 && k.alters 0x0502 b 0 1 &&
      (List.range 64).any fun c => s.streamsN c && recU k.old 0x0501 (s.prof c 4 2) 0 1 == 1 && recU k.old 0x0501 (s.prof c 4 2) 1 1 == b,
    fun r => r == (0x0502, b)⟩) ++
  (if k.names [0x0501, 0x0502] then
    valid.flatMap fun i =>
      let bus := k.u 0x0501 i 1 1
      let kind := k.u 0x0501 i 2 1
      let addr (j : Nat) : Nat := if k.u 0x0501 j 2 1 = 0 then k.u 0x0501 j 3 1 else 128 + k.u 0x0501 j 4 1
      [⟨valid.any fun j => j != i && k.u 0x0501 j 1 1 == bus && addr j == addr i, ofKinds [0x0501]⟩,
       ⟨(kind != 0) != (k.u 0x0502 bus 0 1 == 2), fun r => r == (0x0501, i) || r == (0x0502, bus)⟩]
   else [])

/-! ### Runnels and corrections (R145, R164, R173, R184, R185, R196) -/

/-- The runnels a context occupies in a store. -/
def Change.runnels (k : Change) (c : Nat) : List Nat :=
  let r := k.u 0x0301 c 0 1
  if k.u 0x0301 c 1 1 = 1 then [r, r + 1] else [r]

/-- R194: the base address of a map. -/
def Change.mapBase (k : Change) (m : Nat) : Nat := k.u 0x0305 m 12 4 + k.u 0x0305 m 16 1 * 2 ^ 32

/-- R194: the bytes of a map's data. -/
def Change.mapBytes (k : Change) (m : Nat) : Nat :=
  k.u 0x0305 m 4 2 * (if k.u 0x0305 m 1 1 = 0 then k.u 0x0305 m 2 1 else k.u 0x0305 m 6 2) * mapSize (k.u 0x0305 m 0 1)

/-- R189: the strip block of a context. -/
def Change.stripBlock (k : Change) (c : Nat) : Nat :=
  let map := k.u 0x0303 c 56 2
  k.u 0x0201 c 12 2 * 32 *
    ((if map = 65535 then 0 else mapSize (k.u 0x0305 map 0 1)) + (if (k.u 0x0303 c 0 1).testBit 1 then 4 else 0))

/-- R185: the carry of a context. -/
def Change.carry (k : Change) (c : Nat) : Nat :=
  let bands := k.prof c 1 1
  let extra := if (k.u 0x0303 c 0 1).testBit 4 then
      (List.range bands).foldl (fun n b => n + ceilDiv (recS k.new 0x0303 c (60 + 2 * b) 2).natAbs 256) 0 else 0
  5 * k.u 0x0201 c 12 2 * (3 * bands + extra)

/-- The buffers in LPDDR6 that enabled contexts use: number of the context, first address, end. -/
def Change.buffers (k : Change) : List (Nat × Nat × Nat) :=
  k.ctxs.flatMap fun c =>
    let map := k.u 0x0303 c 56 2
    let h := k.u 0x0303 c 68 4 + k.u 0x0303 c 72 1 * 2 ^ 32
    (if map = 65535 then [] else [(1000 + map, k.mapBase map, k.mapBase map + k.mapBytes map)]) ++
      (if !k.lineScan c && (k.u 0x0303 c 0 1).testBit 1 then
        [(c, h, h + 4 * k.u 0x0201 c 12 2 * k.u 0x0201 c 6 2)] else [])

/-- The buffers that differ and overlap. -/
def buffersMeet : List (Nat × Nat × Nat) → Bool
  | [] => false
  | b :: bs => bs.any (fun x => x.1 != b.1 && rangesMeet b.2.1 b.2.2 x.2.1 x.2.2) || buffersMeet bs

/-- R195: a map is named by the active or locked correction record of an enabled context. -/
def State.mapInUse (s : State) (m : Nat) : Bool :=
  (List.range 64).any fun c => s.ctxEnabled c && (s.au 0x0303 c 56 2 == m ||
    (s.locked 0x0303 c && recU s.recs.pending 0x0303 c 56 2 == m))

/-- R10, R192, R194, R195: the fields of a correction record or map header whose range another field states, and the header
of a map in use. -/
def State.correctionChecks (s : State) (k : Change) : List Check :=
  let named (id : Nat) : List Nat := (k.pairs.filter fun p => p.1 == id).map (·.2)
  (named 0x0303 ++ named 0x0201).flatMap (fun c =>
    [⟨decide (k.u 0x0303 c 3 1 ≤ k.u 0x0303 c 2 1), fun r => r == (0x0303, c)⟩,
     ⟨decide (2 ^ bitsPerPixel (k.u 0x0201 c 3 1) ≤ k.u 0x0303 c 8 4), fun r => r == (0x0303, c) || r == (0x0201, c)⟩]) ++
  (named 0x0305).flatMap fun m =>
    [⟨if k.u 0x0305 m 1 1 = 0 then k.u 0x0305 m 6 2 != 1 else decide (k.u 0x0305 m 6 2 < 32), fun r => r == (0x0305, m)⟩,
     ⟨s.mapInUse m, fun r => r == (0x0305, m)⟩]

/-- R145: the checks of runnels, bindings, contexts and profiles. -/
def State.runnelChecks (s : State) (k : Change) : List Check :=
  if !k.names [0x0301, 0x0302, 0x0201, 0x0202, 0x0303, 0x0305] then []
  else
    let kinds := ofKinds [0x0301, 0x0302, 0x0201, 0x0202]
    let on (r : Nat) : List Nat := k.ctxs.filter fun c => (k.runnels c).contains r
    (List.range 8).flatMap (fun r =>
      let load := plannedLoad k.new r
      [⟨decide (16 < (on r).length), kinds⟩,
       ⟨!(on r).isEmpty && k.u 0x0302 r 0 1 == 0, kinds⟩,
       ⟨decide (1 < ((on r).filter fun c => !k.lineScan c).length), kinds⟩,
       ⟨decide (load.2 < load.1), kinds⟩,
       ⟨decide (2097152 < ((on r).filter fun c => k.lineScan c && k.u 0x0303 c 56 2 != 65535).foldl (fun n c =>
          let m := k.u 0x0303 c 56 2
          let before := recU k.old 0x0303 c 56 2
          n + k.mapBytes m + (if k.pairs.contains (0x0303, c) && before != 65535 && before != m then k.mapBytes before else 0)) 0),
        ofKinds [0x0301, 0x0201, 0x0202, 0x0303, 0x0305]⟩,
       ⟨decide (786432 < (on r).foldl (fun n c => n + k.carry c) 0), ofKinds [0x0301, 0x0201, 0x0202, 0x0303]⟩]) ++
    k.ctxs.flatMap (fun c =>
      let gang := k.u 0x0301 c 1 1 == 1
      let port := k.u 0x0201 c 1 1
      let map := k.u 0x0303 c 56 2
      let bands := k.prof c 1 1
      let mine := fun (r : Nat × Nat) => r == (0x0303, c) || r == (0x0305, map) || r == (0x0201, c) || r == (0x0301, c) ||
        r == (0x0202, k.u 0x0201 c 4 2)
      [⟨k.ctxs.any fun d => k.u 0x0201 d 1 1 == port && k.u 0x0301 d 0 1 != k.u 0x0301 c 0 1, kinds⟩,
       ⟨gang && (k.u 0x0301 c 0 1 % 2 == 1 || k.lineScan c), kinds⟩,
       ⟨gang && k.ctxs.any fun d => d != c && k.u 0x0201 d 1 1 == port, kinds⟩,
       ⟨!k.lineScan c && decide (524288 < k.stripBlock c), mine⟩,
       ⟨k.lineScan c && (k.u 0x0303 c 0 1).testBit 1, mine⟩,
       ⟨gang && (List.range 4).any fun b => recS k.new 0x0303 c (60 + 2 * b) 2 != 0, mine⟩,
       ⟨decide (bands ≤ k.u 0x0303 c 58 1) || recS k.new 0x0303 c (60 + 2 * k.u 0x0303 c 58 1) 2 != 0, mine⟩,
       ⟨map != 65535 && ((k.u 0x0305 map 1 1 == 0) != k.lineScan c || k.u 0x0305 map 4 2 != k.u 0x0201 c 12 2 ||
          k.u 0x0305 map 2 1 != bands || (!k.lineScan c && k.u 0x0305 map 6 2 != k.u 0x0201 c 6 2)), mine⟩,
       ⟨map != 65535 && k.names [0x0303, 0x0305] &&
          (crc32c (s.lpBytes (k.mapBase map) (k.mapBytes map))).toNat != k.u 0x0305 map 20 4, mine⟩]) ++
    [⟨buffersMeet k.buffers || k.buffers.any fun b => decide (s.installed < b.2.2), ofKinds [0x0303, 0x0305, 0x0201]⟩]

/-! ### The grid (R251, R258, R259, R271, R272) -/

/-- R259: the sums of all subsets of a list. -/
def subsetSums : List Int → List Int
  | [] => [0]
  | x :: xs => (subsetSums xs).flatMap fun y => [y, x + y]

/-- R259: the coefficients of a phase are not usable. -/
def phaseBad (cs : List Int) : Bool :=
  let nz := cs.filter (· != 0)
  cs.foldl (· + ·) 0 != 16384 || ((subsetSums nz).filter fun x => x.natAbs < 16).length != 1

/-- R271: the resampler store that a view of a context uses. -/
def Change.rsStore (k : Change) (m : List Host.Cell) (v : Nat) : Nat := recU m 0x0703 v 6 2 * (4 + 36 * k.prof v 1 1)

/-- R272: lines per second of a context, as a fraction. -/
def lineRate (m : List Host.Cell) (c : Nat) : Nat × Nat :=
  let p := recU m 0x0201 c 4 2
  if recU m 0x0202 p 0 1 = 0 then (1000000000, max 1 (recU m 0x0202 p 20 4))
  else if recU m 0x0301 c 4 4 = 0 then (0, 1) else (recU m 0x0201 c 6 2 * 1000000, recU m 0x0301 c 4 4)

/-- R272: samples per second of the two stages of a runnel's resampler, as fractions. -/
def rsRates (m : List Host.Cell) (r : Nat) : (Nat × Nat) × (Nat × Nat) :=
  let views := (enabledViews m).filter fun v => recBound m v r
  (views.foldl (fun n v =>
      let l := lineRate m v
      (n.1 * l.2 + l.1 * recU m 0x0703 v 6 2 * n.2, n.2 * l.2)) (0, 1),
   (views.foldl (fun n v => n + recU m 0x0703 v 6 2 * recU m 0x0202 (recU m 0x0201 v 4 2) 1 1) 0 * 256000000000,
    recU m 0x0701 65535 12 4))

/-- R272: the loads of the two stages, per mille, rounded down. -/
def rsLoads (m : List Host.Cell) (r : Nat) : Nat × Nat :=
  let x := rsRates m r
  (x.1.1 * 1000 / (x.1.2 * 2400000000), x.2.1 * 1000 / (x.2.2 * 2400000000))

/-- R271: what the accepted changes that wait for their boundaries bring into a runnel's resampler store. -/
def State.rsIncoming (s : State) (r : Nat) : Nat :=
  s.recs.scheduled.foldl (fun n a =>
    let new := activated s.recs a.pairs
    ((enabledViews new).filter fun v => recBound new v r).foldl (fun n v =>
      if recU new 0x0703 v 6 2 != recU s.recs.active 0x0703 v 6 2 || a.pairs.contains (0x0704, v) then
        n + recU new 0x0703 v 6 2 * (4 + 36 * recU new 0x0202 (recU new 0x0201 v 4 2) 1 1) else n) n) 0

/-- The checks of the grid's records. -/
def State.gridChecks (s : State) (k : Change) : List Check :=
  let g := [0x0701, 0x0702, 0x0703, 0x0704, 0x0705, 0x0706]
  let anyStream := s.ctxs.toList.any (·.streaming)
  (if k.names [0x0701] then [⟨anyStream, fun r => r.1 == 0x0701⟩] else []) ++
  (k.pairs.filter fun p => p.1 == 0x0703).map (fun p =>
    ⟨s.streamsN p.2 && (k.alters 0x0703 p.2 0 2), fun r => r == p⟩) ++
  (k.pairs.filter fun p => p.1 == 0x0705 || p.1 == 0x0706).map (fun p =>
    ⟨(List.range (if p.1 = 0x0705 then 64 else 32)).any fun ph =>
      phaseBad ((List.range 4).map fun t => recS k.new p.1 p.2 (8 * ph + 2 * t) 2), fun r => r == p⟩) ++
  (if k.names (g ++ [0x0201, 0x0202, 0x0303, 0x0301]) then
    let views := enabledViews k.new
    let part := ofKinds (g ++ [0x0201, 0x0202, 0x0303])
    let zref := k.u 0x0701 65535 20 4
    let cols (v : Nat) : List Nat := (List.range (k.u 0x0703 v 6 2)).map (· + k.u 0x0703 v 4 2)
    views.flatMap (fun v =>
      let cfg := storeCfg k.new v
      let scan := k.lineScan v
      let dz := recS k.new 0x0703 v 12 4
      [⟨(cols v).any fun c => decide (cfg.v0c c < 100000), part⟩,
       ⟨(cols v).any fun c => (viewHeights k.new v c).any fun z => decide (z < 0 ∨ 2000000 < z), part⟩,
       ⟨(scan && dz != 0) || (!scan && dz == 0), part⟩,
       ⟨(k.u 0x0303 v 0 1).testBit 4 && (List.range (k.prof v 1 1)).any fun b => recS k.new 0x0703 v (16 + 2 * b) 2 != 0, part⟩,
       ⟨decide (k.u 0x0701 65535 0 2 < k.u 0x0703 v 4 2 + k.u 0x0703 v 6 2), part⟩,
       ⟨s.streamsN v && (cols v).any fun c =>
          ((viewHeights k.old v c).zip (viewHeights k.new v c)).any fun z =>
            let d := (storeCfg k.old v).dlyAt c (recU k.old 0x0701 65535 20 4) z.1 - cfg.dlyAt c zref z.2
            decide (8 * k.u 0x0701 65535 12 4 < d.natAbs * 256), part⟩]) ++
    [⟨match dlyRange k.new with | some r => decide (50000000 < r.2 - r.1) | none => false, part⟩] ++
    (List.range 8).map fun r =>
      let vs := views.filter fun v => recBound k.new v r
      let total := vs.foldl (fun n v => n + k.rsStore k.new v +
        (if k.alters 0x0703 v 6 2 || k.pairs.contains (0x0704, v) then (if recU k.old 0x0703 v 0 1 = 1 then k.rsStore k.old v else 0) else 0)) (s.rsIncoming r)
      let l := rsRates k.new r
      ⟨decide (1048576 < total) || decide (l.1.2 * 2400000000 < l.1.1) || decide (l.2.2 * 2400000000 < l.2.1), part⟩
   else [])

/-! ### Confluence, Weir and Spillway (R27, R278, R292, R298, R302, R303, R389) -/

/-- R278: the sources of a channel. -/
def Change.srcs (k : Change) (ch : Nat) : List (Nat × Nat) :=
  (List.range (k.u 0x0802 ch 3 1)).map fun i => (k.u 0x0802 ch (8 + 4 * i) 1, k.u 0x0802 ch (9 + 4 * i) 1)

/-- The enabled channels. -/
def Change.chans (k : Change) : List Nat := (List.range 16).filter fun ch => k.u 0x0802 ch 0 1 == 1

/-- R291: the rounded bytes of a slot of a store. -/
def slotOf (m : List Host.Cell) : Nat := ceilDiv (basinBytes m) 4096 * 4096

/-- R278: a column with no source in a channel. -/
def Change.hole (k : Change) (ch : Nat) : Bool :=
  (List.range (k.u 0x0701 65535 0 2)).any fun c => (k.srcs ch).all fun v => !(storeCfg k.new v.1).covers c

/-- R278: the columns two views share. -/
def Change.shared (k : Change) (v w : Nat) : Nat :=
  let a := (storeCfg k.new v).cols
  let b := (storeCfg k.new w).cols
  min (a.1 + a.2) (b.1 + b.2) - max a.1 b.1

/-- The checks of channels and the Basin. -/
def State.mergeChecks (s : State) (k : Change) : List Check :=
  let cv := ofKinds [0x0802, 0x0703, 0x0201, 0x0202, 0x0704]
  let basin := [0x0801, 0x0802, 0x0703, 0x0201, 0x0202, 0x0303, 0x0701, 0x0702, 0x0704, 0x0111]
  (if k.names [0x0802, 0x0703, 0x0201, 0x0202, 0x0704] then
    k.chans.flatMap (fun ch =>
      let ss := k.srcs ch
      [⟨ss.any fun v => k.u 0x0703 v.1 0 1 == 0 || k.u 0x0703 v.1 1 1 != k.u 0x0802 ch 1 1, cv⟩,
       ⟨ss.any fun v => decide (k.prof v.1 1 1 ≤ v.2), cv⟩,
       ⟨(List.range (k.u 0x0701 65535 0 2)).any fun c => decide (2 < (ss.filter fun v => (storeCfg k.new v.1).covers c).length), cv⟩,
       ⟨(List.range ss.length).any fun i => (List.range i).any fun j =>
          decide (512 < k.shared (ss.getD i (0, 0)).1 (ss.getD j (0, 0)).1), cv⟩]) ++
    [⟨anyTwice ((k.chans.flatMap k.srcs).map fun v => v.1 * 4 + v.2), cv⟩]
   else []) ++
  (if k.names basin then
    let base := k.u 0x0801 65535 4 4 + k.u 0x0801 65535 8 1 * 2 ^ 32
    let size := k.u 0x0801 65535 12 4 * 1024
    let used := basinRows k.new * slotOf k.new
    let d := k.u 0x0801 65535 0 4
    let part := ofKinds basin
    let inBasin := (validRegions k.new).any fun r => r.2.2 == 2 && decide (r.1 ≤ base ∧ base + size ≤ r.2.1)
    [⟨decide (size < used), part⟩,
     ⟨size != 0 && decide (s.installed < base + size), part⟩,
     ⟨size != 0 && k.buffers.any fun b => rangesMeet base (base + size) b.2.1 b.2.2, part⟩,
     ⟨size != 0 && !inBasin, part⟩,
     ⟨s.cf.state != 0 && (basinRows k.old != basinRows k.new || basinBytes k.old != basinBytes k.new), part⟩] ++
    (match dlyRange k.new with
     | some r => [⟨decide ((d : Int) < r.2 ∨ 55000000 < (d : Int) - r.1), part⟩]
     | none => [])
   else [])

/-- R302: the range of SCALE for a FORMAT. -/
def scaleBad (format : Nat) (scale : Int) : Bool :=
  match format with
  | 0 => scale != 0
  | 1 => decide (scale < -24 ∨ 8 < scale)
  | _ => decide (scale < 0 ∨ 16 < scale)

/-- The checks of streams, the Weir and the launch queues. -/
def State.outputChecks (_s : State) (k : Change) : List Check :=
  (if k.names [0x0902, 0x0802, 0x0901] then
    let part := ofKinds [0x0902, 0x0802, 0x0901]
    let slots := (List.range (k.u 0x0901 65535 0 1)).map fun j => k.u 0x0901 65535 (20 + 8 * j) 1
    ((List.range 8).filter fun q => k.u 0x0902 q 0 1 == 1).flatMap (fun q =>
      [⟨(List.range 16).any fun ch => (k.u 0x0902 q 4 2).testBit ch && !k.chans.contains ch, part⟩,
       ⟨k.u 0x0902 q 2 1 == 1 && slots.isEmpty, part⟩]) ++
    (k.pairs.filter fun p => p.1 == 0x0902).map (fun p =>
      ⟨scaleBad (k.u 0x0902 p.2 1 1) (recS k.new 0x0902 p.2 6 1), fun r => r == p⟩) ++
    (if k.names [0x0901] || ((List.range 8).any fun q => k.u 0x0902 q 0 1 == 1) then
      [⟨slots.any fun ch => !k.chans.contains ch, part⟩, ⟨anyTwice slots, part⟩] else [])
   else []) ++
  (if k.names [0x0A01, 0x0801] then
    (List.range 8).map fun q => ⟨k.u 0x0A01 q 0 1 == 1 && decide (k.u 0x0A01 q 4 4 < k.u 0x0801 65535 0 4 + 40000),
      fun r => r == (0x0A01, q) || r.1 == 0x0801⟩
   else [])

/-! ### The rest (R368, R379, R438, R447, R448) -/

/-- R438: a DMA channel holds a descriptor that addresses LPDDR6. -/
def State.dmaUsesMem (s : State) : Bool :=
  s.dma.chans.toList.any fun x => (!(x.state == 0 || x.state == 6) && (decide (x.act.source < lpWindow ∨ x.act.dest < lpWindow))) ||
    (x.shadow.valid && decide (x.shadow.source < lpWindow ∨ x.shadow.dest < lpWindow))

/-- R447: an active or shadow descriptor addresses the range. -/
def State.dmaTouches (s : State) (a b : Nat) : Bool :=
  let hits (d : DmaSet) : Bool := rangesMeet a b d.source (d.source + d.srcLen) || rangesMeet a b d.dest (d.dest + d.dstLen)
  s.dma.chans.toList.any fun x => (!(x.state == 0 || x.state == 6) && hits x.act) || (x.shadow.valid && hits x.shadow)

/-- The valid regions of a store overlap. -/
def regionsMeet : List (Nat × Nat × Attr) → Bool
  | [] => false
  | b :: bs => bs.any (fun x => rangesMeet b.1 b.2.1 x.1 x.2.1) || regionsMeet bs

/-- The checks of the other records. -/
def State.otherChecks (s : State) (k : Change) : List Check :=
  let anyStream := s.ctxs.toList.any (·.streaming)
  (if k.names [0x0D01] then [⟨k.alters 0x0D01 65535 0 2 && (s.link.tr.state == 7 || anyStream), fun r => r.1 == 0x0D01⟩] else []) ++
  (k.pairs.filter fun p => p.1 == 0x0D02).map (fun p => ⟨s.twinPair && k.u 0x0D02 p.2 1 1 == 0, fun r => r == p⟩) ++
  (if k.names [0x0110] then
    [⟨(k.alters 0x0110 65535 0 1 || k.alters 0x0110 65535 1 1) &&
      (anyStream || s.cf.state != 0 || !s.usedBuffers.isEmpty || s.dmaUsesMem), fun r => r.1 == 0x0110⟩] else []) ++
  (if k.names [0x0111] then
    let rs := validRegions k.new
    [⟨regionsMeet rs, ofKinds [0x0111]⟩, ⟨rs.any fun r => decide (s.installed < r.2.1), ofKinds [0x0111]⟩,
     ⟨s.cf.state != 0 && !(rs.any fun r => r.2.2 == 2 && decide (r.1 ≤ s.basinRange.1 ∧ s.basinRange.2 ≤ r.2.1)), ofKinds [0x0111]⟩]
   else []) ++
  (if k.names [0x0110, 0x0801, 0x0802, 0x0703, 0x0201, 0x0303, 0x0301] then
    [⟨decide (k.u 0x0110 65535 3 1 * 10 < s.plannedOf k.new), ofKinds [0x0110, 0x0801, 0x0802, 0x0703, 0x0201, 0x0303, 0x0301]⟩]
   else [])

/-- R12: the first failing check decides; its DETAIL is the offset of the first pair that takes part (R580). -/
def State.inconsistent (s : State) (k : Change) : Option Nat :=
  let all := s.inletChecks k ++ s.controlChecks k ++ s.correctionChecks k ++ s.runnelChecks k ++ s.gridChecks k ++ s.mergeChecks k ++
    s.outputChecks k ++ s.otherChecks k
  let bad := all.filter (·.fails)
  if bad.isEmpty then none
  else
    some (24 + 4 * ((List.range k.pairs.length).find? fun i => bad.any fun x => x.part (k.pairs.getD i (0, 0))).getD 0)

/-! ### Boundaries (R11) -/

/-- A view that uses a filter set streams. -/
def State.setStreams (s : State) (off inst : Nat) : Bool :=
  (List.range 64).any fun v => s.streamsN v && s.au 0x0703 v 0 1 == 1 && s.au 0x0703 v off 1 == inst

/-- R302, R389: stream n runs: it is enabled while Confluence runs. -/
def State.streamRuns (s : State) (q : Nat) : Bool := s.cf.state != 0 && s.au 0x0902 q 0 1 == 1

/-- R11: a record accepts a boundary of a kind; `ctx` is the context of a frame boundary. -/
def State.accepts (s : State) (k : Change) (kind ctx : Nat) (p : Nat × Nat) : Bool :=
  let own := kind == 2 && ctx == p.2
  let anyView := (List.range 64).any fun v => s.streamsN v && s.au 0x0703 v 0 1 == 1
  match p.1 with
  | 0x0202 | 0x0401 =>
    let users := (List.range 64).filter fun c => s.streamsN c && s.profileOf c == p.2
    (kind == 0 && users.isEmpty) || (kind == 2 && !users.isEmpty && users.contains ctx)
  | 0x0201 => own || (kind == 0 && !s.streamsN p.2)
  | 0x0301 | 0x0303 | 0x0304 | 0x0402 => own || kind == 0
  | 0x0702 => kind == 1 || (kind == 0 && !anyView)
  | 0x0703 | 0x0704 => kind == 1 || (kind == 0 && !s.streamsN p.2)
  | 0x0705 => kind == 1 || (kind == 0 && !s.setStreams 2 p.2)
  | 0x0706 => kind == 1 || (kind == 0 && !s.setStreams 3 p.2)
  | 0x0801 => (kind == 0 && s.cf.state == 0) || (kind == 1 && !k.alters 0x0801 65535 4 5 && !k.alters 0x0801 65535 12 4)
  | 0x0802 | 0x0901 => kind == 1 || (kind == 0 && s.cf.state == 0)
  | 0x0902 | 0x0A01 => kind == 1 || (kind == 0 && !s.streamRuns p.2)
  | 0x0306 => false
  | _ => kind == 0

/-- R11: a record that exists accepts the kind of boundary, a frame boundary of some context at least; the map data record
accepts none (R195). -/
def State.acceptsKind (s : State) (k : Change) (kind : Nat) (p : Nat × Nat) : Bool :=
  if p.1 == 0x0306 then false
  else if !recExists p.1 p.2 then true
  else if kind = 2 then (List.range 64).any fun c => s.accepts k 2 c p
  else s.accepts k kind 0 p

end Sys2Proof.Machine
end

