-- ==== Sys2Proof/Machine/Weir.lean ====
section
/-!
DEFINITION. The Weir (R301 to R323) and its writing into the Spillway (R320, R321, R356, R390): occupancy, spans, the
background, sample formats, pieces and their reservation.
-/
namespace Sys2Proof.Machine

/-! ### Records of a row -/

/-- An unsigned field of the Weir record for row K. -/
def State.weirU (s : State) (k : Int) (off n : Nat) : Nat := recU (s.rowRec k 0x0901 65535) 0x0901 65535 off n

/-- An unsigned field of a stream record for row K. -/
def State.strmU (s : State) (k : Int) (q off n : Nat) : Nat := recU (s.rowRec k 0x0902 q) 0x0902 q off n

/-- R303: channel, polarity and threshold of the occupancy slots of row K. -/
def State.occSlots (s : State) (k : Int) : List (Nat × Nat × Nat) :=
  (List.range (s.weirU k 0 1)).map fun j => (s.weirU k (20 + 8 * j) 1, s.weirU k (21 + 8 * j) 1, s.weirU k (24 + 8 * j) 4)

/-- One Weir. -/
def State.setWeir (s : State) (f : Weir → Weir) : State := { s with weir := f s.weir }

/-- The samples of a channel of a released row. -/
def MergedRow.chan (m : MergedRow) (ch : Nat) : List Sample :=
  match m.cells.find? fun c => c.1 == ch with
  | some c => c.2
  | none => []

/-! ### Occupancy and spans -/

/-- R304: a cell exceeds its threshold. -/
def exceeds (pol thresh : Nat) (b : Nat × Bool) (x : Sample) : Bool :=
  let d : Int := x.value - b.1
  b.2 && !x.gap && match pol with
    | 1 => decide ((thresh : Int) < d)
    | 2 => decide ((thresh : Int) < -d)
    | _ => decide (thresh < d.natAbs)

/-- R304: raw occupancy of the columns. -/
def rawOcc (cols : Nat) (slots : List (Nat × Nat × Nat)) (bg : List (List (Nat × Bool))) (m : MergedRow) : List Bool :=
  let rows := slots.mapIdx fun j q => (q, bg.getD j [], m.chan q.1)
  (List.range cols).map fun c => rows.any fun r =>
    exceeds r.1.2.1 r.1.2.2 (r.2.1.getD c (0, false)) (r.2.2.getD c gapSample)

/-- Maximal runs of a list of Booleans: first and last index. -/
def runsOf : List Bool → Nat → Option Nat → List (Nat × Nat)
  | [], i, some s => [(s, i - 1)]
  | [], _, none => []
  | true :: bs, i, some s => runsOf bs (i + 1) (some s)
  | true :: bs, i, none => runsOf bs (i + 1) (some i)
  | false :: bs, i, some s => (s, i - 1) :: runsOf bs (i + 1) none
  | false :: bs, i, none => runsOf bs (i + 1) none

/-- R306: a span: first and last column, and CAPPED. -/
structure Span where
  first : Nat
  last : Nat
  capped : Bool
deriving DecidableEq, Repr

/-- R306: runs shorter than MIN_RUN are cleared. -/
def longRuns (minRun : Nat) (occ : List Bool) : List (Nat × Nat) :=
  (runsOf occ 0 none).filter fun r => decide (minRun ≤ r.2 + 1 - r.1)

/-- The columns that lie in one of the runs. -/
def inRuns (cols : Nat) (rs : List (Nat × Nat)) : List Bool :=
  (List.range cols).map fun c => rs.any fun r => decide (r.1 ≤ c ∧ c ≤ r.2)

/-- R306: margins, and runs closer than MIN_GAP merged. -/
def mergeRuns (cols margin minGap : Nat) : List (Nat × Nat) → List (Nat × Nat) → List (Nat × Nat)
  | acc, [] => acc.reverse
  | acc, r :: rs =>
    let s := r.1 - margin
    let e := min (r.2 + margin) (cols - 1)
    match acc with
    | [] => mergeRuns cols margin minGap [(s, e)] rs
    | g :: gs =>
      if (s : Int) - g.2 - 1 < minGap then mergeRuns cols margin minGap ((g.1, max g.2 e) :: gs) rs
      else mergeRuns cols margin minGap ((s, e) :: g :: gs) rs

/-- R306: a run cut under MAX_LEN; `fuel` bounds the cuts. -/
def capRun (maxLen : Nat) (capped : Bool) (s e : Nat) : Nat → List Span
  | 0 => [⟨s, e, capped⟩]
  | n + 1 =>
    if maxLen < e + 1 - s then ⟨s, s + maxLen - 1, true⟩ :: capRun maxLen true (s + maxLen) e n else [⟨s, e, capped⟩]

/-- R307: at most 1,024 spans. The Bool tells that the row was cut. -/
def limitSpans (ss : List Span) : List Span × Bool :=
  if ss.length ≤ 1024 then (ss, false)
  else
    let last := match ss.getLast? with | some x => x.last | none => 0
    (updAt (ss.take 1024) 1023 fun x => { x with last, capped := true }, true)

/-- R306: hold[c] and the occupancy it extends. -/
def holdStep (rowHold : Nat) (occ : List Bool) (hold : List Nat) : List (Nat × Bool) :=
  occ.mapIdx fun c o =>
    let h := hold.getD c 0
    if o then (rowHold, true) else if 0 < h then (h - 1, true) else (0, false)

/-- R306, R307: what the formation of spans gives. -/
structure SpanOut where
  spans : List Span
  hold : List Nat
  /-- Spans split under MAX_LEN, and whether the row was cut to 1,024 spans. -/
  split : Nat
  limited : Bool
deriving DecidableEq, Repr

/-- R306, R307: the spans of a row from its raw occupancy. -/
def formSpans (cols minRun rowHold margin minGap maxLen : Nat) (occ : List Bool) (hold : List Nat) : SpanOut :=
  let h := holdStep rowHold (inRuns cols (longRuns minRun occ)) hold
  let g := mergeRuns cols margin minGap [] (runsOf (h.map (·.2)) 0 none)
  let s := g.map fun r => capRun maxLen false r.1 r.2 (r.2 / maxLen)
  let (spans, limited) := limitSpans s.flatten
  { spans, limited, hold := h.map (·.1), split := (s.filter fun x => decide (1 < x.length)).length }

/-- R308: columns covered by spans. -/
def spanCols (ss : List Span) : Nat := ss.foldl (fun n x => n + (x.last + 1 - x.first)) 0

/-! ### Background -/

/-- R309: run[c] after the row. -/
def runStep (covered : List Bool) (run : List Nat) : List Nat :=
  covered.mapIdx fun c o => if o then run.getD c 0 + 1 else 0

/-- R309: one cell. -/
def updateCell (shift : Option Nat) (applies : Bool) (b : Nat × Bool) (x : Sample) : Nat × Bool :=
  if x.gap || x.sat then b
  else if !b.2 then (x.value, true)
  else match shift with
    | some k => if applies then (((b.1 : Int) + roundDiv ((x.value : Int) - b.1) (2 ^ k)).toNat, true) else b
    | none => b

/-- R303, R310: the cells of a slot. -/
def slotCells (bg : List (List (Nat × Bool))) (cols j : Nat) : List (Nat × Bool) :=
  (List.range cols).map fun c => (bg.getD j []).getD c (0, false)

/-- R310: some cell of a slot in use is not VALID. -/
def bgInvalid (bg : List (List (Nat × Bool))) (cols slots : Nat) : Bool :=
  (List.range slots).any fun j => (slotCells bg cols j).any fun b => !b.2

/-! ### Sample formats -/

/-- R311: VALUE as an unsigned 12.4 number, and whether it was clamped. -/
def u124 (scale value : Nat) : Nat × Bool :=
  let u := (roundDiv value (2 ^ (6 + scale))).toNat
  (min u 65535, decide (65535 < u))

/-- R312: the C12 curve. -/
def c12 (u : Nat) : Nat :=
  if u < 512 then u
  else
    let e := Nat.log2 u - 8
    let m := (roundDiv u (2 ^ (e - 1))).toNat - 512
    if m = 512 then (if e = 7 then 4095 else 512 * (e + 1)) else 512 * e + m

/-- A quotient rounded to nearest, an exact half to the even side. -/
def roundEven (a d : Nat) : Nat :=
  let q := a / d
  let r := a % d
  if d < 2 * r ∨ (2 * r = d ∧ q % 2 = 1) then q + 1 else q

/-- `a` times a power of two, rounded to nearest even. -/
def scaleEven (a : Nat) (p : Int) : Nat := if 0 ≤ p then a * 2 ^ p.toNat else roundEven a (2 ^ (-p).toNat)

/-- R311: binary16 of VALUE × 2^(SCALE − 10), and whether it was clamped. -/
def f16 (scale : Int) (value : Nat) : Nat × Bool :=
  if value = 0 then (0, false)
  else
    let e : Int := Nat.log2 value + scale - 10
    let code : Nat :=
      if e < -14 then scaleEven value (scale + 14)
      else
        let m := scaleEven value (10 - (Nat.log2 value : Int))
        ((e + 15) * 1024 + ((m : Int) - 1024)).toNat
    if 0x7C00 ≤ code then (0x7BFF, true) else (code, false)

/-- R311: the code of a sample in a format, and whether its conversion clamped. -/
def formatSample (format : Nat) (scale : Int) (x : Sample) : Nat × Bool :=
  match format with
  | 0 => (x.word, false)
  | 1 => if x.gap then (0x7E00, false) else f16 scale x.value
  | 2 => if x.gap then (0, false) else u124 scale.toNat x.value
  | _ => if x.gap then (0, false) else let u := u124 scale.toNat x.value; (c12 u.1, u.2)

/-- R311: bits of a sample. -/
def formatBits (format : Nat) : Nat := match format with | 0 => 36 | 3 => 12 | _ => 16

/-- R31: the flag nibble. -/
def Sample.nibble (x : Sample) : Nat := bit 0 x.gap + bit 1 x.nrh + bit 2 x.dfc + bit 3 x.sat

/-- Codes of `b` bits packed from bit 0 upward, padded to whole words (R316). -/
def packBits (b : Nat) (codes : List Nat) : List Byte :=
  leBytes (4 * ceilDiv (codes.length * b) 32) (codes.foldr (fun v n => v + 2 ^ b * n) 0)

/-! ### Pieces -/

/-- What a stream carries of a row. -/
structure StreamCfg where
  stream : Nat
  format : Nat
  gated : Bool
  plane : Bool
  mask : Nat
  scale : Int
  pieceMax : Nat
deriving DecidableEq, Repr

/-- R302: a stream's parameters for row K. -/
def State.streamCfg (s : State) (k : Int) (q : Nat) : StreamCfg :=
  { stream := q, format := s.strmU k q 1 1, gated := s.strmU k q 2 1 == 1
    plane := s.strmU k q 3 1 == 1 && s.strmU k q 1 1 != 0, mask := s.strmU k q 4 2
    scale := recS (s.rowRec k 0x0902 q) 0x0902 q 6 1, pieceMax := s.strmU k q 8 2 }

/-- The channels of a mask, ascending. -/
def maskChans (mask : Nat) : List Nat := (List.range 16).filter fun i => mask.testBit i

/-- R316: bytes of the data of a part with `cols` columns. -/
def StreamCfg.dataBytes (q : StreamCfg) (cols : Nat) : Nat :=
  let n := cols * (maskChans q.mask).length
  4 * ceilDiv (n * formatBits q.format) 32 + if q.plane then 4 * ceilDiv n 8 else 0

/-- R315: one part of a span. -/
structure Part where
  start : Nat
  cols : Nat
  prev : Bool
  next : Bool
  capped : Bool
deriving DecidableEq, Repr

/-- R317: whole columns of a span that fit in the room, at most `n`. -/
def StreamCfg.fitCols (q : StreamCfg) (room : Nat) : Nat → Nat
  | 0 => 0
  | n + 1 => if 8 + q.dataBytes (n + 1) ≤ room then n + 1 else q.fitCols room n

/-- R317: the parts of each piece, in order. `cont` tells that the first span continues; `fuel` bounds parts and pieces. -/
def StreamCfg.fill (q : StreamCfg) : Nat → List Part → Nat → Bool → List Span → List (List Part)
  | 0, cur, _, _, _ => [cur.reverse]
  | f + 1, cur, room, cont, ss =>
    match ss with
    | [] => [cur.reverse]
    | x :: xs =>
      let n := x.last + 1 - x.first
      let k := q.fitCols room n
      if k = n then q.fill f (⟨x.first, n, cont, false, x.capped⟩ :: cur) (room - 8 - q.dataBytes n) false xs
      else
        let cur := if k = 0 then cur else ⟨x.first, k, cont, true, x.capped⟩ :: cur
        cur.reverse :: q.fill f [] (q.pieceMax - 32) (cont || k != 0) ({ x with first := x.first + k } :: xs)

/-- The samples of a part in R316's order. -/
def partSamples (m : MergedRow) (chans : List Nat) (p : Part) : List Sample :=
  let rows := chans.map m.chan
  (List.range p.cols).flatMap fun i => rows.map fun r => r.getD (p.start + i) gapSample

/-- R316: the data of a part, and how many of its conversions clamped. -/
def StreamCfg.partData (q : StreamCfg) (xs : List Sample) : List Byte × Nat :=
  let codes := xs.map (formatSample q.format q.scale)
  (packBits (formatBits q.format) (codes.map (·.1)) ++ (if q.plane then packBits 4 (xs.map (·.nibble)) else []),
    (codes.filter (·.2)).length)

/-- R315: a span entry. -/
def Part.entry (p : Part) (word : Nat) (xs : List Sample) : List Byte :=
  leBytes 2 p.start ++ leBytes 2 p.cols ++ leBytes 2 word ++
    leBytes 2 (bit 0 p.prev + bit 1 p.next + bit 2 p.capped + bit 3 (xs.any (·.sat)) + bit 4 (xs.any (·.dfc)) +
      bit 5 (xs.any (·.nrh)) + bit 6 (xs.any (·.gap)))

/-- R295: the 64-byte row header. -/
def MergedRow.header (m : MergedRow) : List Byte :=
  leBytes 4 (wrapOf 32 m.row) ++ leBytes 2 m.mask ++ leBytes 2 m.missing ++ leBytes 2 m.idle ++ leBytes 2 m.hflags ++
    leWord m.tref ++ leWord m.latestSol ++ leWord m.sealTime ++ leBytes 8 m.arrived.toNat ++ m.ids.flatMap leHalf

/-- R313 to R315: the bytes of one piece, SEQ left 0, and its clamped conversions. -/
def StreamCfg.pieceBytes (q : StreamCfg) (m : MergedRow) (pflags index pieces occ : Nat) (parts : List Part) :
    List Byte × Nat :=
  let chans := maskChans q.mask
  let data := parts.map fun p => let xs := partSamples m chans p; (p, xs, q.partData xs)
  let entries := (data.foldl (fun (a : List Byte × Nat) d =>
    (a.1 ++ d.1.entry (a.2 / 4) d.2.1, a.2 + d.2.2.1.length)) ([], 0)).1
  let body := (if index = 0 then m.header else []) ++ entries ++ data.flatMap (·.2.2.1)
  (leBytes 4 (wrapOf 32 m.row) ++ leBytes 4 0 ++ leBytes 1 q.stream ++ leBytes 1 q.format ++ leBytes 2 pflags ++
    leBytes 2 q.mask ++ leBytes 1 chans.length ++ leBytes 1 (wrapOf 8 q.scale) ++ leBytes 2 parts.length ++
    leBytes 2 index ++ leBytes 2 pieces ++ leBytes 2 occ ++ leWord m.tref ++ leBytes 4 (32 + body.length) ++ body,
    (data.foldl (fun n d => n + d.2.2.2) 0))

/-- How a row goes out on the gated streams. -/
structure RowKind where
  blind : Bool
  learning : Bool
  /-- Sent whole, or empty. -/
  whole : Bool
  empty : Bool
  spans : List Span
deriving DecidableEq, Repr

/-- R301, R313 to R317: the pieces of a row on a stream, with the clamped conversions. -/
def StreamCfg.pieces (q : StreamCfg) (m : MergedRow) (cols : Nat) (r : RowKind) : List Piece × Nat :=
  let whole := !q.gated || r.whole
  let ss := if whole then [⟨0, cols - 1, false⟩] else if r.empty then [] else r.spans
  let empty := ss.isEmpty
  let parts := q.fill (cols + ss.length + 1) [] (q.pieceMax - 96) false ss
  let occ := if whole then cols else spanCols ss
  let all := parts.mapIdx fun i ps =>
    let pf := bit 0 (i = 0) + bit 1 (i + 1 == parts.length) + bit 2 whole + bit 3 (q.gated && r.learning) +
      bit 4 (q.gated && r.blind) + bit 5 q.plane + bit 6 empty
    (i + 1 == parts.length, q.pieceBytes m pf i parts.length occ ps)
  (all.map fun a => { stream := q.stream, row := BitVec.ofInt 32 m.row, bytes := a.2.1, lastOfRow := a.1, empty,
                      foot := m.foot },
    all.foldl (fun n a => n + a.2.2) 0)

/-- Pieces of several streams in the order they are written: piece by piece, streams ascending. -/
def interleave (ps : List (List Piece)) : List Piece :=
  (List.range (ps.foldl (fun n p => max n p.length) 0)).flatMap fun i => ps.filterMap fun p => p[i]?

/-! ### A row -/

/-- R310: learning begins. -/
def State.beginLearn (s : State) (k : Int) : State :=
  (s.setWeir fun w => { w with state := 1, learnLeft := s.weirU k 10 2, relearn := false }).raise 47 2

/-- R310: learning ends, and cells that are still not VALID are reported. -/
def State.endLearn (s : State) : State :=
  if s.weir.state = 1 ∧ s.weir.learnLeft = 0 then
    let s := s.setWeir fun w => { w with state := 2 }
    if bgInvalid s.weir.bg s.weir.run.length s.weir.slots.length then s.raiseHeld 47 9 else s
  else s

/-- R306, R310: what a row finds changed: the first row of a run, a boundary of the slots, a RELEARN write. -/
def State.weirBegin (s : State) (m : MergedRow) (cols : Nat) : State :=
  let slots := (s.occSlots m.row).map fun q => (q.1, q.2.1)
  let first := m.row == s.cf.first
  let s := if first then s.causeGone 47 13
    else if s.weir.lastRow = some (BitVec.ofInt 32 (m.row - 1)) then s else s.raiseHeld 47 13
  let s := s.endLearn
  let changed (j : Nat) : Bool := s.weir.slots[j]? != slots[j]?
  let fresh := (List.range slots.length).any changed
  let none_ : List (Nat × Bool) := List.replicate cols (0, false)
  let s :=
    if first then s.setWeir (fun w => { w with
      hold := List.replicate cols 0, run := List.replicate cols 0, slots := slots, bg := slots.map fun _ => none_ })
    else s.setWeir (fun w => { w with
      slots := slots
      bg := (List.range slots.length).map fun j => if changed j then none_ else slotCells w.bg cols j })
  if first || fresh || s.weir.relearn then s.beginLearn m.row else s

/-- R309: the background after a row that is not blind, and the columns forced to adapt. -/
def weirAdapt (w : Weir) (cols : Nat) (slots : List (Nat × Nat × Nat)) (adapt learnShift stuckRows : Nat) (learning : Bool)
    (m : MergedRow) (spans : List Span) : Weir × Nat :=
  let covered := (List.range cols).map fun c => spans.any fun x => decide (x.first ≤ c ∧ c ≤ x.last)
  let run := runStep covered w.run
  let forced (c : Nat) : Bool := !learning && adapt != 255 && stuckRows != 0 && decide (stuckRows ≤ run.getD c 0)
  let shift := if learning then some learnShift else if adapt = 255 then none else some adapt
  let bg := slots.mapIdx fun j q =>
    let xs := m.chan q.1
    (slotCells w.bg cols j).mapIdx fun c b =>
      updateCell shift (learning || !covered.getD c false || forced c) b (xs.getD c gapSample)
  ({ w with bg, run := run.mapIdx fun c n => if forced c then 0 else n },
    ((List.range cols).filter forced).length)

/-- R304 to R318: a released row arrives at the Weir and becomes pieces. -/
def State.weirRow (s : State) (m : MergedRow) : State :=
  let cols := s.au 0x0701 65535 0 2
  let s := s.weirBegin m cols
  let k := m.row
  let u (off n : Nat) : Nat := s.weirU k off n
  let slots := s.occSlots k
  let absent (ch : Nat) : Bool := (m.missing ||| m.idle).testBit ch
  let blind := !slots.isEmpty && slots.all fun q => absent q.1
  let learning := s.weir.state == 1
  let o := formSpans cols (u 3 1) (u 6 1) (u 1 1) (u 2 1) (u 4 2) (rawOcc cols slots s.weir.bg m) s.weir.hold
  let (w, forced) := weirAdapt s.weir cols slots (u 7 1) (u 8 1) (u 12 4) learning m o.spans
  let occ := spanCols o.spans
  let kind : RowKind := { blind, learning, whole := blind || (learning && u 9 1 == 1)
                          empty := learning && u 9 1 == 0, spans := o.spans }
  let cfgs := ((List.range 8).filter fun q => s.strmU k q 0 1 == 1).map (s.streamCfg k ·)
  let made := cfgs.map fun q => q.pieces m cols kind
  let clamped := made.foldl (fun n p => n + p.2) 0
  let held := interleave (made.map (·.1))
  let w : Weir := if blind then { s.weir with blind := true, blindRows := satInc 16 s.weir.blindRows, lastSpans := 0, lastOcc := 0 }
    else { w with blind := false, hold := o.hold, lastSpans := o.spans.length, lastOcc := occ,
                  capped := satAdd 16 w.capped o.split, limited := satAdd 16 w.limited (bit 0 o.limited),
                  stuck := satAdd 16 w.stuck forced, occSum := satAdd 32 w.occSum occ }
  let s := s.setWeir fun _ => { w with
    rows := satInc 32 w.rows, lastRow := some (BitVec.ofInt 32 k), clamped := satAdd 32 w.clamped clamped, held
    learnLeft := w.learnLeft - 1, refusedAt := none, stalled := false }
  let s := if blind then s.raiseHeld 47 0 else s.causeGone 47 0
  let s := s.raiseIf (!blind && 0 < forced) 47 1
  let s := s.raiseIf (!blind && 0 < o.split) 47 3
  let s := s.raiseIf (!blind && o.limited) 47 4
  let s := s.raiseIf (0 < clamped) 47 5
  let s := if blind then s else s.raiseLevel (decide (u 16 1 * cols < occ * 100)) 47 6
  let s := s.raiseIf (kind.whole && cfgs.any (·.gated)) 47 14
  let sends := cfgs.map fun q =>
    let ss := if !q.gated || kind.whole then [⟨0, cols - 1, false⟩] else if kind.empty then [] else o.spans
    let cells := (maskChans q.mask).map m.chan
    let gap (c : Nat) : Bool := cells.all fun r => (r.getD c gapSample).gap
    (ss.any (fun x => (List.range (x.last + 1 - x.first)).any fun i => !gap (x.first + i)), ss.isEmpty)
  let s := if bgInvalid s.weir.bg cols slots.length then s else s.causeGone 47 9
  let allGap := sends.any fun q => !q.1 && !q.2
  if allGap then s.raiseHeld 47 15 else if sends.any (·.1) then s.causeGone 47 15 else s

/-! ### Into the Spillway -/

/-- R127: the storage queue of a launch queue. -/
def launchQueue (q : Fin 8) : Fin 43 := ⟨32 + q.val, by omega⟩

/-- One launch queue changed. -/
def State.setLaunch (s : State) (q : Fin 8) (f : LaunchQueue → LaunchQueue) : State := { s with spill := upd s.spill q f }

/-- R128: the storage of a piece. -/
def pieceStorage (p : Piece) : Nat := ceilDiv p.bytes.length 16 * 16

/-- R356: the link is in neither ACTIVE nor EIDLE, or the queue reached DRAIN_LIMIT. -/
def State.queueBlocked (s : State) (q : Fin 8) : Bool :=
  !(s.link.tr.state == 7 || s.link.tr.state == 8) || s.spill[q].drained

/-- R389: FILL_WARN of a queue. -/
def State.fillHigh (s : State) : Bool :=
  (fins 8).any fun q => let w := s.au 0x0A01 q 1 1
    decide (w * 64 < s.spill[q].pieces.length * 100) || decide (w * 1048576 < s.queues[launchQueue q].used * 100)

/-- R396: FILL_HIGH and TIMED_BACKLOG follow the queues. -/
def State.noteFill (s : State) : State :=
  (s.raiseLevel s.fillHigh 47 20).raiseLevel
    ((fins 8).any fun q => decide (32 < (s.spill[q].pieces.filter (·.timed)).length)) 47 21

/-- R321, R390, R393: a piece commits into its launch queue. -/
def State.commitPiece (s : State) (q : Fin 8) (p : Piece) (k : Int) : State :=
  let store := s.rowRec k 0x0A01 q
  let timed := recU store 0x0A01 q 0 1 == 1
  let launch : Int := s.tref k + recU store 0x0A01 q 4 4
  let late := timed && decide (launch < s.clock.ext)
  let size := pieceStorage p
  let s := s.setQueue (launchQueue q) fun x => { x with used := x.used + size }
  let s := s.setLaunch q fun x =>
    let off := if 1048576 < x.next + size then 0 else x.next
    { x with pieces := x.pieces ++ [{ p with timed, launch, offset := off, at_ := s.now }], next := off + size
             late := satAdd 16 x.late (bit 0 late) }
  let s := s.raiseIf late 47 16
  let s := s.raiseIf (s.spill[q].pieces.length == 64) 47 19
  s.noteFill

end Sys2Proof.Machine
end

