-- ==== Sys2Proof/Machine/Digest.lean ====
section
/-!
DEFINITION. The comparison of a twin pair (R418 to R423): the digest of a row, its classes, and realignment.
-/
namespace Sys2Proof.Machine

/-- The twin state changed. -/
def State.setTwin (s : State) (f : Twin → Twin) : State := { s with twin := f s.twin }

/-- One bit of the reflected CRC with polynomial 0x42F0_E1EB_A9EA_3693 (R418). -/
def crc64Bit (c : BitVec 64) : BitVec 64 := if c.getLsbD 0 then (c >>> 1) ^^^ 0xC96C5795D7870F42#64 else c >>> 1

/-- One byte of the CRC. -/
def crc64Byte (c : BitVec 64) (b : Byte) : BitVec 64 :=
  crc64Bit (crc64Bit (crc64Bit (crc64Bit (crc64Bit (crc64Bit (crc64Bit (crc64Bit (c ^^^ b.setWidth 64))))))))

/-- R418: the CRC-64 of a list of bytes. -/
def crc64 (bs : List Byte) : Wide := (bs.foldl crc64Byte 0xFFFFFFFFFFFFFFFF#64) ^^^ 0xFFFFFFFFFFFFFFFF#64

/-- R418: a piece as the digest counts it: its SEQ filled in, and SEAL_TIME as 0 in the piece that carries the header. -/
def Piece.digestBytes (p : Piece) (seq : Word) : List Byte :=
  let b := p.bytes.take 4 ++ leWord seq ++ p.bytes.drop 8
  if (byteAt b 10).getLsbD 0 then b.take 52 ++ leBytes 4 0 ++ b.drop 56 else b

/-- R418: the digest of a row from its pieces, in ascending stream and piece order. -/
def rowDigest (seqs : Vector Word 8) (ps : List Piece) : Wide :=
  crc64 ((fins 8).flatMap fun (q : Fin 8) =>
    ((ps.filter fun p => p.stream == q.val).mapIdx fun i p => p.digestBytes (seqs[q] + BitVec.ofNat 32 i)).flatten)

/-- R399: the unit is the lead, or the shadow, of a pair in step. -/
def TwinState.inStep : TwinState → Bool
  | .lead | .shadow => true
  | _ => false

/-- R422: the lead starts a realignment for the row `row`; it ends at the Weir's current row plus 4. -/
def State.startRealign (s : State) (row : Word) : State :=
  if s.twin.realign.isSome then s.setTwin fun t => { t with again := true }
  else
    let m := s.weir.lastRow.getD row + 4
    ((s.setTwin fun t => { t with realign := some m, settle := some (row, m), again := false, sealRow := none }).raise
      49 14).sendG (.control 5 m 0)

/-- R421: the row lies in a realignment's range. -/
def State.settling (s : State) (row : Word) : Bool :=
  match s.twin.settle with
  | some (a, b) => behind 32 a.toNat row.toNat && behind 32 row.toNat b.toNat
  | none => false

/-- R421: a row for which the unit holds both entries is compared. -/
def State.compareRow (s : State) (a b : Digest) : State :=
  let s := s.setTwin fun t => { t with
    cmpRow := a.row, own := t.own.filter (·.row != a.row), theirs := t.theirs.filter (·.row != a.row) }
  if a.digest = b.digest then s.setTwin fun t => { t with cleanRows := min 256 (t.cleanRows + 1) }
  else
    let edge (s : State) : State := s.setTwin fun t => { t with
      sealEdge := satInc 16 t.sealEdge, sealBoot := t.sealBoot + 1, cleanRows := min 256 (t.cleanRows + 1) }
    if a.arrived ≠ b.arrived ∧ (a.near = true ∨ b.near = true) then
      let s := ((edge s).raise 49 11).setTwin fun t => { t with sealRow := t.sealRow.or (some a.row) }
      if s.twin.state = .lead then s.startRealign a.row else s
    else if s.settling a.row then edge s
    else
      let s := (s.setTwin fun t => { t with
        diverged := satInc 16 t.diverged, divergedBoot := t.divergedBoot + 1, cleanRows := 0 }).raise 49 12
      if s.au 0x0C01 65535 2 1 = 0 then s.fence else s

/-- R421: every row with both entries is compared. -/
def State.compareRows (s : State) : State :=
  s.twin.own.foldl (fun s a => match s.twin.theirs.find? fun b => b.row == a.row with
    | some b => if s.twin.state.inStep then s.compareRow a b else s
    | none => s) s

/-- R429: an admitted pair compares digests from the admission row onward. -/
def Twin.compares (t : Twin) (row : Word) : Bool :=
  match t.compareFrom with | some a => decide (0 ≤ (row - a).toInt) | none => true

/-- R418 to R420: the digest entry of the row the Weir has formed goes out and waits for the partner's. -/
def State.noteDigest (s : State) (m : MergedRow) : State :=
  if s.twin.state.inStep && s.twin.compares (BitVec.ofInt 32 m.row) then
    let none_ := (List.range 8).all fun q => s.strmU m.row q 0 1 != 1
    let e : Digest := {
      row := BitVec.ofInt 32 m.row, near := s.cf.nearRows.contains m.row, noStreams := none_, arrived := m.arrived
      digest := rowDigest s.weir.seqs s.weir.held, at_ := s.now }
    ((s.setTwin fun t => { t with own := t.own ++ [e] }).sendG (.digest e)).compareRows
  else s

/-- The pieces of a row that have still to take their SEQ. -/
def State.unnumbered (s : State) (q : Fin 8) : Word := BitVec.ofNat 32 (s.weir.held.filter fun p => p.stream == q.val).length

/-- R422: the item that carries the lead's Weir state: of every stream the SEQ that follows the row's own pieces. -/
def State.weirItem (s : State) : StateItem :=
  .weir s.weir.state s.weir.learnLeft s.weir.bg s.weir.hold s.weir.run ((fins 8).map fun q => s.weir.seqs[q] + s.unnumbered q)

/-- R422: the lead's Weir state takes the place of this unit's own; pieces of the row before it still take the SEQs before. -/
def State.installWeir (s : State) (i : StateItem) : State :=
  match i with
  | .weir st left bg hold run seqs => s.setWeir fun w => { w with
      state := st, learnLeft := left, bg, hold, run, seqs := Vector.ofFn fun q => seqs.getD q.val 0 - s.unnumbered q }
  | _ => s

/-- R422, R428: what follows the row of a realignment, or the row before the admission row: the lead sends its Weir state;
the other unit installs it, or holds its Weir until it has come. -/
def State.realignRow (s : State) (row : Word) : State :=
  if s.twin.realign = some row then
    match s.twin.state with
    | .lead | .leadAlone =>
      let s := (s.sendG (.state { item := s.weirItem, good := true, last := true })).setTwin fun t => { t with realign := none }
      if s.twin.again then s.startRealign row else s
    | .shadow | .admitting =>
      match s.twin.early with
      | some i => (s.installWeir i).setTwin fun t => { t with realign := none, early := none }
      | none => s.setTwin fun t => { t with holdSince := some s.now }
    | _ => s
  else s

end Sys2Proof.Machine
end

