-- ==== Sys2Proof/Machine/WeirRows.lean ====
section
/-!
DEFINITION. The meanings of the Weir's commands (R304 to R320, R356): a row formed, a piece reserved, a hold reported,
the end and the restart of learning.
-/
namespace Sys2Proof.Machine

/-- R320, R422: the Weir takes the next released row once every piece of the row before it is written, unless a
realignment holds it. -/
def State.takeRow (s : State) : State :=
  match s.cf.out with
  | [] => s
  | m :: rest =>
    if s.weir.held.isEmpty && s.twin.holdSince.isNone then
      let s := (((s.setCf fun f => { f with out := rest }).weirRow m).noteDigest m).realignRow (BitVec.ofInt 32 m.row)
      (s.causeGone 47 11).causeGone 47 12
    else s

/-- R304: WEIR_ROW. -/
def execWeirRow (dt : Nat) (s : State) : Host.Outcome State Fault Refusal := commit dt (fun s => s.takeRow) s

/-- R129, R320: the queue has a free descriptor and the storage of the piece. -/
def State.roomFor (s : State) (q : Fin 8) (p : Piece) : Bool :=
  s.queues[launchQueue q].state == 2 && decide (s.spill[q].pieces.length < 64) &&
    decide (s.queues[launchQueue q].used + pieceStorage p ≤ 1048576)

/-- R318: a piece consumes its stream's SEQ. -/
def State.takeSeq (s : State) (q : Fin 8) : State :=
  s.setWeir fun w => { w with seqs := w.seqs.set q (w.seqs[q] + 1) }

/-- R313, R318: the piece with its SEQ filled in. -/
def Piece.numbered (p : Piece) (seq : Word) : Piece :=
  { p with seq, bytes := p.bytes.take 4 ++ leWord seq ++ p.bytes.drop 8 }

/-- R356: a piece is discarded: it consumes its SEQ and is counted. -/
def State.dropPiece (s : State) (q : Fin 8) (p : Piece) : State :=
  let s := (s.takeSeq q).setLaunch q fun x => { x with dropRow := some p.row }
  let s := { s with link := { s.link with
    drops := s.link.drops + 1, qdrops := upd s.link.qdrops q (satInc 32) } }
  s.raise 48 20

/-- R320, R356: the piece at which the Weir stands is written, discarded, or refused. -/
def State.reservePiece (s : State) (q : Fin 8) : State :=
  match s.weir.held with
  | [] => s
  | p :: rest =>
    if p.stream ≠ q.val then s
    else
      let next (s : State) : State := s.setWeir fun w => { w with held := rest, refusedAt := none, stalled := false }
      if s.spill[q].dropRow = some p.row then next (s.dropPiece q p)
      else if s.roomFor q p then
        let n := p.numbered s.weir.seqs[q]
        let s := (s.takeSeq q).setWeir fun w => { w with
          bytes := upd w.bytes q fun n => satAdd 38 n p.bytes.length, lastRows := w.lastRows.set q p.row }
        next (s.commitPiece q n (s.extendRow p.row))
      else if s.queueBlocked q then next ((s.raise 47 18).dropPiece q p)
      else if s.weir.refusedAt.isSome then s
      else (s.setWeir fun w => { w with refusedAt := some s.now }).raise 47 18

/-- R320: PIECE_RESERVE. -/
def execPieceReserve (dt : Nat) (stream : Fin 8) (s : State) : Host.Outcome State Fault Refusal :=
  commit dt (fun s => s.reservePiece stream) s

/-- R320: WEIR_STALL. -/
def execWeirStall (dt : Nat) (s : State) : Host.Outcome State Fault Refusal :=
  commit dt (fun s => match s.weir.refusedAt with
    | some t =>
      if !s.weir.stalled && decide (t + ticksOfUs 25 < s.now) then (s.setWeir fun w => { w with stalled := true }).raise 47 7
      else s
    | none => s) s

/-- R310: LEARN_END. -/
def execLearnEnd (dt : Nat) (s : State) : Host.Outcome State Fault Refusal := commit dt (fun s => s.endLearn) s

/-- R310: RELEARN: learning starts at the next row. -/
def execRelearn (dt : Nat) (s : State) : Host.Outcome State Fault Refusal :=
  commit dt (fun s => (s.setWeir fun w => { w with relearn := true }).raise 47 8) s

end Sys2Proof.Machine
end

