-- ==== Sys2Proof/Machine/Link.lean ====
section
/-!
DEFINITION. The Uahorn link (R324 to R362) and the training that the Gelain link shares with it (R405): attempts and stages,
credits, sequence numbers and replay, frames and launches.
-/
namespace Sys2Proof.Machine

/-! ### Parts of the link -/

/-- The Uahorn link changed. -/
def State.setLink (s : State) (f : Link → Link) : State := { s with link := f s.link }

/-- The trainer of the Gelain (`g`) or the Uahorn link. -/
def State.trainer (s : State) (g : Bool) : Trainer := if g then s.gl else s.link.tr

/-- A trainer changed. -/
def State.setTrainer (s : State) (g : Bool) (f : Trainer → Trainer) : State :=
  if g then { s with gl := f s.gl } else s.setLink fun l => { l with tr := f l.tr }

/-- An unsigned field of the link record. -/
def State.linkU (s : State) (off n : Nat) : Nat := s.au 0x0B01 65535 off n

/-- R324, R405: the lanes of a link. -/
def laneCount (g : Bool) : Nat := if g then 4 else 18

/-- R335, R405: the fewest lanes an attempt goes on with. -/
def fewestLanes (g : Bool) : Nat := if g then 2 else 4

/-- The lanes of a link that are not marked bad, as a mask. -/
def Trainer.good (t : Trainer) (g : Bool) : Nat :=
  (fins 18).foldl (fun n (p : Fin 18) => n + bit p.val (decide (p.val < laneCount g) && !t.lanes[p].bad)) 0

/-- The lanes of a mask, ascending. -/
def lanesOf (mask : Nat) : List Nat := (List.range 18).filter fun p => mask.testBit p

/-- R330: a physical lane carries traffic. -/
def Trainer.active (t : Trainer) (p : Nat) : Bool := (t.map.take t.width).contains p

/-- R327, R405: the link may train. -/
def State.linkEnabled (s : State) (g : Bool) : Bool :=
  if g then s.twinPair && s.domOn 15 else s.linkU 0 1 == 1 && s.domOn 13

/-- The Uahorn link carries traffic: ACTIVE or EIDLE. -/
def State.linkOpen (s : State) : Bool := s.link.tr.state == 7 || s.link.tr.state == 8

/-! ### Attempts -/

/-- R359: the reply of LINK_RETRAIN when the attempt ends. -/
def State.answerRetrain (s : State) : State :=
  s.answerWaiting (fun w => w == .retrain) fun s c =>
    let t := s.link.tr
    s.ok c (leBytes 1 (if t.state = 7 then t.width else 0) ++ leBytes 1 t.state ++ leBytes 2 0 ++ leBytes 4 t.common.toNat)

/-- R335, R340: an attempt fails: IDLE_WAIT, the stage in which it ended, and the event of the Uahorn link. -/
def State.failAttempt (s : State) (g : Bool) (stage : Nat) : State :=
  let s := s.setTrainer g fun t => { t with state := 1, failStage := stage, hello := none }
  if g then s
  else
    let s := if stage = 1 then s else if s.link.tr.lanes.toList.all (·.los) then s.raiseHeld 48 2 else s.raise 48 3
    s.answerRetrain

/-- A stage begins. -/
def State.enterStage (s : State) (g : Bool) (stage : Nat) : State :=
  s.setTrainer g fun t => { t with
    state := stage, stageAt := s.now, hello := none, lanes := updAll t.lanes fun _ l => { l with ready := false } }

/-- R334, R335, R341: the first stage of an attempt: BIT_LOCK when it is a retrain and the PLL is locked. -/
def State.firstStage (s : State) (g full : Bool) : State :=
  let t := s.trainer g
  if !full && t.pllLocked then s.enterStage g 3
  else (s.setTrainer g fun t => { t with pllLocked := t.pllLocked && !full }).enterStage g 2

/-- R334: an attempt begins; `full` starts it at POWER_UP. The Uahorn link asks for leave unless it holds it. -/
def State.beginAttempt (s : State) (g full : Bool) : State :=
  let s := s.setTrainer g fun t => { t with
    attemptAt := s.now, width := 0, waitLeave := false, retrain := !full
    lanes := updAll t.lanes fun _ l => { l with old := l.bad } }
  if g then s.firstStage g full
  else
    let s := (if s.link.rot.isSome then s.rotationEnded 2 else s).setLink fun l => { l with
      attempts := satInc 16 l.attempts, rot := none, round := [], txIdle := false, rxIdle := false, test := none }
    if s.holds (fun w => w == .lanes) then s.firstStage g full
    else
      let r := s.askSelf .lanes 3 144 6
      if r.2 then r.1.setTrainer g fun t => { t with state := 1, waitLeave := true } else r.1.failAttempt g 1

/-- R342: a lane is marked bad. -/
def State.markBad (s : State) (g : Bool) (p : Nat) : State :=
  let s := s.setTrainer g fun t => { t with
    lanes := updAll t.lanes fun i l => if i.val = p then { l with bad := true } else l }
  if g then s else s.raiseHeld 48 5

/-- R341: a retrain from ACTIVE or EIDLE; `cause` is the lane to mark. -/
def State.retrainLink (s : State) (cause : Option Nat) : State :=
  if s.linkOpen then
    let s := match cause with | some p => s.markBad false p | none => s
    let s := s.setLink fun l => { l with retrains := satInc 16 l.retrains, retrainsTotal := l.retrainsTotal + 1 }
    let s := (s.raise 48 11).raiseHeld 48 1
    (s.beginAttempt false false).raiseHeld 48 19
  else s

/-- R327, R340: ENABLE 0, or a change that ends the link: DISABLED until the next attempt. -/
def State.closeLink (s : State) : State :=
  let was := s.link.tr.state == 7
  let off := s.linkU 0 1 == 0
  let s := (if s.link.rot.isSome then s.rotationEnded 2 else s).setLink fun l => { l with
    rate := s.linkU 1 1, rot := none, round := [], txIdle := false, rxIdle := false, test := none
    tr := { l.tr with state := 0, width := 0, waitLeave := false, pllLocked := l.tr.pllLocked && !off, hello := none } }
  let s := if off then s.release fun w => w == .lanes else s
  let s := if was && !off then s.raiseHeld 48 1 else s
  if was then s.raiseHeld 48 19 else s

/-! ### Stages -/

/-- R335: the timeout of a stage, in ticks. -/
def stageTicks (stage : Nat) : Nat :=
  ticksOfUs (match stage with | 2 => 400 | 3 => 1000 | 4 => 100 | 5 => 100 | _ => 2400)

/-- R335: what the lanes report at the end of a stage. -/
def State.noteLanes (s : State) (g : Bool) (rs : List LaneResult) : State :=
  let f (i : Fin 18) (l : SLane) : SLane :=
    match rs.find? fun r => r.lane == i.val with
    | some r => { l with ready := r.locked, los := l.los && !r.locked, lol := l.lol && !r.locked
                         eyeMui := if r.locked then min r.eyeMui 1023 else l.eyeMui
                         eyeMv := if r.locked then min r.eyeMv 1023 else l.eyeMv }
    | none => l
  s.setTrainer g fun t => { t with lanes := updAll t.lanes f }

/-- R335: every lane that is not marked has reported lock. -/
def Trainer.allReady (t : Trainer) (g : Bool) : Bool :=
  (fins 18).all fun p => decide (laneCount g ≤ p.val) || t.lanes[p].bad || t.lanes[p].ready

/-- R335: the stage that follows, or the end of the attempt for want of lanes. -/
def State.stageOn (s : State) (g : Bool) : State :=
  let t := s.trainer g
  if (lanesOf (t.good g)).length < fewestLanes g then s.failAttempt g t.state else s.enterStage g (t.state + 1)

/-- R335: the lanes of the stage that are not locked are marked bad. -/
def State.markUnready (s : State) (g : Bool) : State :=
  (fins 18).foldl (fun s (p : Fin 18) =>
    let l := (s.trainer g).lanes[p]
    if decide (p.val < laneCount g) && !l.bad && !l.ready then s.markBad g p else s) s

/-- R337, R405: the width of a common set of `n` lanes. -/
def widthOf (g : Bool) (mine theirs n : Nat) : Nat :=
  ((if g then [4, 2] else [16, 8, 4]).find? fun w => (g || decide (w ≤ mine ∧ w ≤ theirs)) && decide (w ≤ n)).getD 0

/-- R337: the common set of a handshake. -/
def State.commonOf (s : State) (g : Bool) (h : Hello) : BitVec 18 :=
  BitVec.ofNat 18 ((s.trainer g).good g) &&& h.goodLanes

/-- R325, R405: the rate a HELLO must carry. -/
def State.rateOf (s : State) (g : Bool) : Nat := if g then 1 else s.link.rate

/-- R338: a HELLO with which the handshake can complete. -/
def State.goodHello (s : State) (g : Bool) (h : Hello) : Bool :=
  h.version == 1 && h.rate == s.rateOf g && decide (fewestLanes g ≤ (lanesOf (s.commonOf g h).toNat).length)

/-- R337: width, lane map and common set when a link enters ACTIVE. -/
def State.mapLanes (s : State) (g : Bool) (h : Hello) : State :=
  let common := s.commonOf g h
  let ls := lanesOf common.toNat
  let w := widthOf g (s.linkU 2 1) h.widthMax ls.length
  let used := ls.take w
  let s := s.setTrainer g fun t => { t with
    state := 7, common, width := w, map := used ++ List.replicate (16 - w) 255, partner := h.session, hello := none
    lanes := updAll t.lanes fun _ l => { l with los := false, lol := false } }
  if g then s
  else s.setLink fun l => { l with spares := BitVec.ofNat 18 ((ls.drop w).foldl (fun n p => n + 2 ^ p) 0) }

/-! ### Sequence numbers and replay -/

/-- R14: `a` is `b` or behind it, for LSEQ values. -/
def seqLe (a b : Half) : Bool := decide ((b - a).toNat < 32768)

/-- R353: frames up to an LSEQ are released. -/
def State.releaseFrames (s : State) (lseq : Half) : State :=
  s.setLink fun l =>
    let keep := l.replay.filter fun f => !seqLe f.lseq lseq
    let same := (keep.head?.map (·.lseq)) == (l.replay.head?.map (·.lseq))
    { l with replay := keep, resend := min l.resend keep.length, replayCount := if same then l.replayCount else 0 }

/-- R353: a replay starts; after four replays of the same oldest frame the link retrains. -/
def State.startReplay (s : State) : State :=
  if s.link.replay.isEmpty then s
  else if 4 ≤ s.link.replayCount then (s.raise 48 17).retrainLink none
  else (s.setLink fun l => { l with
    resend := l.replay.length, replayCount := l.replayCount + 1, replays := satInc 16 l.replays
    replaysTotal := l.replaysTotal + 1 }).raise 48 16

/-- R352: a NAK is sent on the first frame discarded after an accepted one, and again after REPLAY_TIMEOUT. -/
def State.sendNak (s : State) : State :=
  let due := match s.link.nakAt with
    | none => true
    | some t => decide (t + ticksOfNs (s.linkU 6 2) ≤ s.now)
  if due then (s.setLink fun l => { l with nakAt := some s.now }).raise 48 15 else s

/-- R352: a good sequenced frame: accepted in order, acknowledged again when already seen, else answered with a NAK. -/
def State.acceptSeq (s : State) (lseq : Nat) (f : State → State) : State :=
  if s.linkOpen then
    let n := BitVec.ofNat 16 lseq
    let s := s.setLink fun l => { l with rxIdle := false, trafficAt := s.now }
    if n = s.link.nextRx then f (s.setLink fun l => { l with nextRx := l.nextRx + 1, nakAt := none })
    else if seqLe n s.link.nextRx then s else s.sendNak
  else s

/-! ### Credits -/

/-- R351: the units of a frame with `len` payload bytes. -/
def frameUnits (len : Nat) : Nat := ceilDiv (20 + len) 64

/-- R351: units of a class available: the signed difference of limit and consumption. -/
def Link.available (l : Link) (c : Fin 9) : Int := (l.limits[c] - l.used[c]).toInt

/-- R351: a frame of the class may be sent. -/
def State.credit (s : State) (c : Fin 9) (len : Nat) : Bool := decide ((frameUnits len : Int) ≤ s.link.available c)

/-- R351: a frame consumes its units. -/
def State.consume (s : State) (c : Fin 9) (len : Nat) : State :=
  s.setLink fun l => { l with used := upd l.used c fun u => u + BitVec.ofNat 32 (frameUnits len) }

/-! ### Frames -/

/-- R369: a delay of the physical lane that carries logical lane 0, in ps: receive at 0, transmit at 2. -/
def State.laneDelay (s : State) (off : Nat) : Nat := s.calU (208 + 4 * s.link.tr.map.headD 0 + off) 2

/-- R364, R369: device time in 1/2^24 ns, shifted by a number of ps. -/
def State.fineTime (s : State) (ps : Int) : Int := s.clock.ext * 2 ^ 24 + s.clock.frac + ps * 2 ^ 24 / 1000

/-- R347: TX_TIME of a frame that leaves now. -/
def State.txTime (s : State) : Int := s.fineTime (s.laneDelay 2) / 2 ^ 24

/-- R347: a frame: header, payload and CRC. -/
def frameBytes (type flags lseq epoch ident chan : Nat) (tx : Word) (payload : List Byte) : List Byte :=
  let b := leBytes 1 type ++ leBytes 1 flags ++ leBytes 2 payload.length ++ leBytes 2 lseq ++ leBytes 2 epoch ++
    leBytes 2 ident ++ leBytes 1 chan ++ leBytes 1 0 ++ leWord tx ++ payload
  b ++ leWord (crc32c b)

/-- A frame leaves. -/
def State.emit (s : State) (type flags lseq epoch ident chan : Nat) (payload : List Byte) : State :=
  let b := frameBytes type (flags + bit 2 s.clock.holdover) lseq epoch ident chan (time32 s.txTime) payload
  { s with out := { s.out with uahorn := s.out.uahorn ++ b }
           link := { s.link with trafficAt := s.now } }

/-- R348: an unsequenced frame of class 8. -/
def State.sendPlain (s : State) (type : Nat) (payload : List Byte) : State :=
  (s.consume 8 payload.length).emit type 1 0 s.twin.epoch.toNat s.ident 0 payload

/-- R128, R353: the replay buffer's storage of a frame. -/
def frameStorage (len : Nat) : Nat := ceilDiv (20 + len) 16 * 16

/-- R129, R353: the replay buffer takes a frame. -/
def State.replayRoom (s : State) (len : Nat) : Bool :=
  s.queues[40].state == 2 &&
    decide (s.link.replay.foldl (fun n f => n + frameStorage f.payload.length) 0 + frameStorage len ≤ 65536)

/-- R348, R353, R411: a sequenced frame: kept for replay with the epoch and identity in force. -/
def State.sendSeq (s : State) (cls : Fin 9) (type chan : Nat) (payload : List Byte) : State :=
  let f : TxFrame := { lseq := s.link.nextTx, type, chan, payload, epoch := s.twin.epoch, ident := s.ident, sentAt := s.now }
  let s := (s.consume cls payload.length).setLink fun l => { l with nextTx := l.nextTx + 1, replay := l.replay ++ [f] }
  s.emit type 0 f.lseq.toNat f.epoch.toNat f.ident chan payload

/-- R353: the next frame of a replay. -/
def State.sendReplay (s : State) : State :=
  let i := s.link.replay.length - s.link.resend
  match s.link.replay[i]? with
  | none => s.setLink fun l => { l with resend := 0 }
  | some f =>
    let s := s.setLink fun l => { l with
      resend := l.resend - 1, replay := updAt l.replay i fun f => { f with sentAt := s.now } }
    s.emit f.type 2 f.lseq.toNat f.epoch.toNat f.ident f.chan f.payload

/-! ### Launches -/

/-- R132, R391: the head piece of a queue, when the framer sees one. -/
def State.launchHead (s : State) (q : Fin 8) : Option Piece :=
  if s.spill[q].seen = 0 then none else s.spill[q].pieces.head?

/-- R391, R356: a piece may launch. -/
def State.eligible (s : State) (p : Piece) : Bool := !p.timed || decide (p.launch ≤ s.clock.ext)

/-- R356: the clock of DRAIN_LIMIT runs while the head is eligible. -/
def State.refreshEligible (s : State) (q : Fin 8) : State :=
  match s.launchHead q with
  | some p => if s.eligible p then s.setLaunch q fun x => { x with eligibleAt := x.eligibleAt.or (some s.now) } else s
  | none => s.setLaunch q fun x => { x with eligibleAt := none }

/-- R491: a row whose last piece leaves more than 150 µs after its latest line, the waits of R491 left out. -/
def State.noteLate (s : State) (p : Piece) : State :=
  match p.foot with
  | none => s
  | some f =>
    let queued : Int := (s.now - p.at_) * 5 / 2
    let wait : Int :=
      if p.timed then max 0 (min queued (p.launch - (s.clock.ext - queued)))
      else match s.link.exitAt with
        | some t => if p.at_ ≤ t then min queued 2000 else 0
        | none => 0
    if p.lastOfRow && decide (150000 < s.clock.ext - f - wait) && s.link.lateRow != some p.row then
      let s := s.setLink fun l => { l with lateRow := some p.row }
      ({ s with ev := { s.ev with late := satInc 32 s.ev.late } }).raise 52 11
    else s

/-- R355, R392, R393: the head piece of a queue launches. -/
def State.launch (s : State) (q : Fin 8) (p : Piece) : State :=
  let slip : Nat := if p.timed then (s.txTime - p.launch).toNat else 0
  let warn := recU (s.rowRec (s.extendRow p.row) 0x0A01 q) 0x0A01 q 8 4
  let s := s.setLaunch q fun x => { x with
    pieces := x.pieces.drop 1, seen := x.seen - 1, eligibleAt := none, drained := false
    maxSlip := max x.maxSlip (min slip 65535) }
  let s := s.setQueue (launchQueue q) fun x => { x with freed := x.freed + pieceStorage p }
  let s := { s with launched := satInc 32 s.launched }
  let s := (s.sendSeq ⟨q.val, by omega⟩ 1 q p.bytes).setLink fun l => { l with rr := q }
  let s := s.raiseIf (decide (warn < slip)) 47 17
  let s := if p.timed && s.clock.holdover then s.raiseHeld 47 24 else s
  ((s.noteLate p).refreshEligible q).noteFill

/-- The heads that may launch now: queue and piece. -/
def State.readyHeads (s : State) : List (Fin 8 × Piece) :=
  (fins 8).filterMap fun q => match s.launchHead q with
    | some p => if s.eligible p && s.credit ⟨q.val, by omega⟩ p.bytes.length && s.replayRoom p.bytes.length then some (q, p)
      else none
    | none => none

/-- R355, R391: the piece the framer takes: timed heads by launch time, then untimed ones in turn. -/
def State.pickPiece (s : State) : Option (Fin 8 × Piece) :=
  let hs := s.readyHeads
  let timed := hs.filter fun h => h.2.timed
  match timed with
  | h :: rest => some (rest.foldl (fun a b => if b.2.launch < a.2.launch then b else a) h)
  | [] => (hs.filter fun h => decide (s.link.rr < h.1.val)).head?.or hs.head?

/-- R349: the payload of STATUS. -/
def State.statusPayload (s : State) : List Byte :=
  leWord s.rowNo ++ leBytes 4 (wrapOf 32 s.cf.oldest) ++ leBytes 8 s.summary ++
    ((fins 8).flatMap fun q => leBytes 1 s.spill[q].pieces.length) ++ leBytes 1 s.link.tr.width ++
    leBytes 1 (bit 0 s.sys.faultLow + bit 1 s.clock.holdover + bit 2 s.link.rot.isSome + bit 3 (s.link.spares != 0)) ++
    leBytes 2 0 ++ leWord s.link.drops

/-- R357: the MB3 slots whose REPLY is still to be sent, the oldest first. -/
def State.replyWaits (s : State) : Option Nat :=
  let c := s.mb.chans[3]
  let open_ := (List.range 2).filter fun i => (c.slots.getD i {}).full && !s.link.replySent.contains i
  match open_ with
  | [] => none
  | i :: is => some (is.foldl (fun a b => if (c.slots.getD b {}).order < (c.slots.getD a {}).order then b else a) i)

/-- R349: the payload of MBOX_ACK. -/
def ackPayload (channel slot : Nat) (seq : Word) : List Byte :=
  leBytes 1 channel ++ leBytes 1 slot ++ leBytes 2 0 ++ leWord seq

/-- R355: STATUS and DATA. -/
def State.framerData (s : State) : State :=
  if s.link.statusDue && s.credit 8 32 then
    (s.setLink fun l => { l with statusDue := false }).sendPlain 2 s.statusPayload
  else
    let s := if s.link.statusDue then (s.setLink fun l => { l with statusDue := false }).raise 48 21 else s
    match s.pickPiece with
    | some (q, p) => s.launch q p
    | none => s

/-- R355: BEACON_ECHO, STATUS and DATA. -/
def State.framerRest (s : State) (es : List (Half × Byte × Word)) : State :=
  match es with
  | e :: es =>
    if s.credit 8 16 then
      (s.sendPlain 7 (leHalf e.1 ++ [e.2.1] ++ leBytes 1 0 ++ leWord e.2.2 ++ leBytes 8 0)).setLink fun l => { l with echoes := es }
    else s.framerData
  | [] => s.framerData

/-- R355: REPLY, and what follows it. -/
def State.framerReply (s : State) : State :=
  let reply := s.replyWaits.bind fun i =>
    let b := (s.mb.chans[3].slots.getD i {}).bytes
    if s.credit 8 b.length && s.replayRoom b.length then some (i, b) else none
  match reply with
  | some (i, b) => (s.sendSeq 8 4 i b).setLink fun l => { l with replySent := i :: l.replySent }
  | none => s.framerRest s.link.echoes

/-- R355: the framer sends the first frame that is ready and has credit; of the REPLY and MBOX_ACK that share a rank, the
MBOX_ACK, which is ready first (log entry 34). -/
def State.framerSend (s : State) : State :=
  if s.link.tr.state ≠ 7 ∨ s.link.txIdle = true then s
  else if s.link.resend ≠ 0 then s.sendReplay
  else
    match s.link.acks with
    | a :: as =>
      if s.credit 8 8 && s.replayRoom 8 then (s.sendSeq 8 5 0 (ackPayload 2 a.1 a.2)).setLink fun l => { l with acks := as }
      else s.framerReply
    | [] => s.framerReply

/-- R362: the tick since which a class with a frame waiting lacks credit. -/
def State.refreshStarved (s : State) : State :=
  let waits (c : Fin 9) : Bool :=
    if h : c.val < 8 then match s.launchHead ⟨c.val, h⟩ with
      | some p => s.eligible p && !s.credit c p.bytes.length
      | none => false
    else
      let n : Nat := if !s.link.acks.isEmpty then 8 else match s.replyWaits with
        | some i => (s.mb.chans[3].slots.getD i {}).bytes.length
        | none => if s.link.echoes.isEmpty then 32 else 16
      let some_ := !s.link.acks.isEmpty || !s.link.echoes.isEmpty || s.replyWaits.isSome || s.link.statusDue
      some_ && !s.credit 8 n
  s.setLink fun l => { l with starved := updAll l.starved fun c t => if s.linkOpen && waits c then t.or (some s.now) else none }

/-- R346: a frame is to be sent, or a timed launch is at most 3 µs away. -/
def State.trafficDue (s : State) : Bool :=
  s.link.resend != 0 || s.replyWaits.isSome || !s.link.acks.isEmpty || !s.link.echoes.isEmpty || s.link.statusDue ||
    (fins 8).any fun q => match s.launchHead q with
      | some p => !p.timed || decide (p.launch ≤ s.clock.ext + 3000)
      | none => false

end Sys2Proof.Machine
end

