-- ==== Sys2Proof/Machine/LinkUp.lean ====
section
/-!
DEFINITION. The end of a Uahorn handshake (R338, R339) and the rotation of its lanes (R342 to R344).
-/
namespace Sys2Proof.Machine

/-! ### Entering ACTIVE -/

/-- R339, R84, R85: a fresh start of the Uahorn link. -/
def State.freshLink (s : State) (h : Hello) (known : Bool) : State :=
  let s := s.setLink fun l => { l with
    nextTx := 0, nextRx := 0, replay := [], resend := 0, replayCount := 0, nakAt := none, drops := 0, roundAt := s.now
    limits := Vector.ofFn fun c => h.limits.getD c.val 0, used := Vector.replicate 9 0
    tr := { l.tr with lanes := updAll l.tr.lanes fun _ x => { x with bad := x.bad && !x.old } } }
  let s := if known then (s.peerReset [3, 2]).setLink fun l => { l with acks := [], replySent := [] } else s
  (s.raise 48 12).abortKept .p1

/-- R339: the link resumes: frames the partner has are released, the others are replayed. -/
def State.resumeLink (s : State) (h : Hello) : State :=
  let s := (s.releaseFrames (h.nextSeq - 1)).setLink fun l => { l with replayCount := 0 }
  if s.link.replay.isEmpty then s else s.startReplay

/-- R337 to R339, R342, R362: the handshake of the Uahorn link completes. -/
def State.linkActive (s : State) (h : Hello) : State :=
  let partner := s.link.tr.partner
  let s := s.mapLanes false h
  let s := if partner = h.session then s.resumeLink h else s.freshLink h (partner != 0)
  let s := s.setLink fun l => { l with
    trafficAt := s.now, statusAt := s.now, statusDue := false, txIdle := false, rxIdle := false
    skew := Config.freeMeasure s.freeCtr % 65536 }
  let s := (s.nextFree.raise 48 0).causeGone 48 31
  let s := if s.link.tr.width < s.linkU 2 1 then s.raiseHeld 48 6 else s
  let s := if s.link.spares = 0 then s.raiseHeld 48 7 else s
  s.answerRetrain

/-! ### Rotation -/

/-- R343: the rotation of the next logical lane of a round begins, or the round ends (R344). -/
def State.rotateNext (s : State) : State :=
  let l := s.link
  match l.round with
  | [] => ((s.setLink fun l => { l with rot := none, roundAt := s.now }).raise 48 22).rotationEnded 0
  | i :: rest =>
    match lanesOf l.spares.toNat with
    | [] => (s.setLink fun l => { l with rot := none, round := [], roundAt := s.now }).raise 48 22 |>.rotationEnded
        (if l.roundElems.isEmpty then 2 else 0)
    | sp :: _ => s.setLink fun l => { l with
        round := rest, rot := some { logical := i, phys := l.tr.map.getD i 255, spare := sp, step := 1, since := s.now } }

/-- R344: a round may run. -/
def State.canRotate (s : State) : Bool := s.link.tr.state == 7 && s.link.spares != 0 && s.link.rot.isNone

/-- R344: a round starts. -/
def State.startRound (s : State) : State :=
  (s.setLink fun l => { l with round := List.range l.tr.width, roundAsked := false }).rotateNext

/-- One physical lane as a mask. -/
def laneBit (p : Nat) : BitVec 18 := BitVec.ofNat 18 (2 ^ p)

/-- R343: logical lane `i` is carried on `to` from now on. -/
def State.carryOn (s : State) (i phys : Nat) : State :=
  s.setLink fun l => { l with tr := { l.tr with map := updAt l.tr.map i fun _ => phys } }

/-- R343: the eye of L as the recalibration measured it. -/
def State.noteEye (s : State) (p mui mv : Nat) : State :=
  s.setTrainer false fun t => { t with lanes := updAll t.lanes fun i l =>
    if i.val = p then { l with eyeMui := min mui 1023, eyeMv := min mv 1023 } else l }

/-- R343: the result of L is a failure: ℓ stays on S and L is marked bad. -/
def State.rejectLane (s : State) (r : Rotation) : State :=
  let s := (s.markBad false r.phys).raise 48 24
  let s := s.setLink fun l => { l with roundElems := l.roundElems ++ [{ element := r.logical, flags := 3 }] }
  let s := s.setLink fun l => { l with spares := l.spares &&& ~~~laneBit r.spare
                                       tr := { l.tr with common := l.tr.common &&& ~~~laneBit r.phys } }
  let s := if s.link.spares = 0 then s.raiseHeld 48 7 else s
  s.rotateNext

end Sys2Proof.Machine
end

