-- ==== Sys2Proof/Machine/Timebase.lean ====
section
/-!
DEFINITION. The timebase (R363 to R378) and the trigger generator (R379 to R388): steps and increments of device time,
beacons and holdover, schedules and pulses, event captures.
-/
namespace Sys2Proof.Machine

/-- The timebase changed. -/
def State.setClock (s : State) (f : Clock → Clock) : State := { s with clock := f s.clock }

/-- One output changed. -/
def State.setOut (s : State) (o : Fin 48) (f : Output → Output) : State :=
  { s with trig := { s.trig with outs := upd s.trig.outs o f } }

/-- One event input changed. -/
def State.setEvin (s : State) (i : Fin 8) (f : EvIn → EvIn) : State :=
  { s with trig := { s.trig with evins := upd s.trig.evins i f } }

/-! ### Holdover -/

/-- R378: an entry of kind 0x08, of firmware. -/
def State.logTime (s : State) : State := s.noteOverflow (s.stageOpen 0x10 8)

/-- R376, R378: holdover begins. -/
def State.enterHoldover (s : State) (cause : Nat) : State :=
  ((s.setClock fun c => { c with holdover := true, holdCause := cause, beaconSeen := false }).logTime).raiseHeld 52 7

/-- R377: holdover ends. -/
def State.leaveHoldover (s : State) : State :=
  if s.clock.holdover then (s.setClock fun c => { c with holdover := false, holdCause := 0, beaconSeen := false }).logTime
  else s

/-- R368: network time. -/
def State.syncMode (s : State) : Bool := s.au 0x0D01 65535 2 1 == 1

/-- R415: the unit takes its holdover from the lead. -/
def State.followsLead (s : State) : Bool := s.twin.state == .shadow || s.twin.state == .shadowDetached

/-! ### Steps -/

/-- R373: every device time that an output holds for an action to come. -/
def Output.move (o : Output) (d : Int) : Output :=
  { o with start := o.start + d, oneShots := o.oneShots.map fun x => { x with start := x.start + d }
           follow := o.follow.map (· + d), pulse := o.pulse.map fun p => (p.1, p.2 + d) }

/-- R373: an item with its deadline moved. -/
def Item.move (i : Item) (d : Int) : Item := { i with deadline := i.deadline + d }

/-- R373: a tag with its deadline moved. -/
def LineTag.move (t : LineTag) (d : Int) : LineTag := { t with deadline := t.deadline.map (· + d) }

/-- R373: a running command that waits for a device time. -/
def Running.move (r : Running) (d : Int) : Running :=
  match r.wait with
  | .streamTick m t => { r with wait := .streamTick m (t + d) }
  | _ => r

/-- R373: the deadlines of an inlet's packets. -/
def Inlet.move (x : Inlet) (d : Int) : Inlet :=
  { x with queue := x.queue.map (fun (k : InPacket) => { k with tag := k.tag.move d })
           waiting := x.waiting.map (fun (t : LineTag) => t.move d) }

/-- R373: the deadlines of a runnel's items. -/
def Runnel.move (r : Runnel) (d : Int) : Runnel :=
  { r with cur := r.cur.map (fun (i : Item) => i.move d), next := r.next.map (fun (i : Item) => i.move d)
           curDl := r.curDl + BitVec.ofInt 32 d }

/-- R374: the first line after a step is marked; a window that is open stays where it is. -/
def CtxState.move (x : CtxState) (d : Int) : CtxState :=
  { x with moved := x.moved + d, stepMark := x.stepMark || x.streaming }

/-- R217: the earliest edges of waiting sets. -/
def ExpoCtx.move (x : ExpoCtx) (d : Int) : ExpoCtx :=
  { x with sets := x.sets.map (fun (q : ExpoSet) => { q with edgeFrom := q.edgeFrom + d }) }

/-- R231, R373: the bookings of a bus. -/
def Bus.move (b : Bus) (d : Int) : Bus :=
  let w (w : Work) : Work := { w with at_ := w.at_.map (· + d) }
  { b with queue := b.queue.map w, cur := b.cur.map w }

/-- R373: the launch times of a queue. -/
def LaunchQueue.move (q : LaunchQueue) (d : Int) : LaunchQueue :=
  { q with pieces := q.pieces.map (fun (p : Piece) => { p with launch := p.launch + d }) }

/-- R373, R253: everything that waits for a device time moves with the step. -/
def State.moveTimes (s : State) (d : Int) : State :=
  let timed := s.spill.toList.any fun q => q.pieces.any (·.timed)
  let s := { s with
    grid := { s.grid with oldOrigin := s.grid.origin, origin := s.grid.origin + d, stepped := true }
    inlets := updAll s.inlets fun _ x => x.move d
    runnels := updAll s.runnels fun _ x => x.move d
    ctxs := updAll s.ctxs fun _ x => x.move d
    views := updAll s.views fun _ v => { v with oldOrigin := v.oldOrigin || v.active }
    expo := { s.expo with ctxs := updAll s.expo.ctxs fun _ x => x.move d }
    sluice := { s.sluice with buses := updAll s.sluice.buses fun _ x => x.move d }
    trig := { s.trig with outs := updAll s.trig.outs fun _ x => x.move d }
    spill := updAll s.spill fun _ x => x.move d
    ports := updAll s.ports fun _ p => { p with running := p.running.map (fun (r : Running) => r.move d) }
    clock := { s.clock with mirrored := s.clock.mirrored.map (fun (m : TimeChange × Int) => (m.1, m.2 + d)) } }
  s.raiseIf timed 47 22

/-- R366, R372 to R374: device time steps by Δ. -/
def State.stepTime (s : State) (d : Int) : State :=
  let before := s.clock.ext / 2 ^ 32
  let after := (s.clock.ext + d) / 2 ^ 32
  let s := s.setClock fun c => { c with
    ext := c.ext + d, counted := c.counted + (after - before), wrap := c.wrap + BitVec.ofInt 16 (after - before)
    stepped := true, lastStep := d }
  let s := s.moveTimes d
  let s := { s with trig := { s.trig with evins := updAll s.trig.evins fun _ e => { e with stepMark := true } } }
  s.logTime.raise 52 6

/-- R371, R372: a change of time takes effect; a VALUE of 0 in MODE 0 steps nothing. -/
def State.changeTime (s : State) (x : TimeChange) : State :=
  match x with
  | .set absolute value e =>
    let d := if absolute then (value - s.time).toInt else value.toInt
    let s := if absolute = false ∧ d = 0 then s else s.stepTime d
    if e then s.leaveHoldover else s
  | .incr v e =>
    let s := s.setClock fun c => { c with incr := v }
    if e then s.leaveHoldover else s

/-- R371, R372: a change takes effect and the command of time that waits for it is answered. -/
def State.doChange (s : State) (x : TimeChange) : State :=
  let before := s.time
  let s := s.changeTime x
  let isSet := match x with | .set .. => true | .incr .. => false
  s.answerWaiting (fun w => w == .timeStep) fun s c =>
    match c.body with
    | .timeSet .. => if isSet then s.ok c (leWord before ++ leWord s.time) else s
    | .timeIncr .. => if isSet then s else s.ok c (leWord s.clock.incr)
    | _ => s

/-- R377: END_HOLDOVER is refused without a good beacon since entry. -/
def State.holdoverStays (s : State) (e : Bool) : Bool := e && s.clock.holdover && !s.clock.beaconSeen

/-- R380: an output is armed: a schedule or one-shot is pending. -/
def Output.armed (o : Output) : Bool := o.mode != 0 || !o.oneShots.isEmpty || !o.follow.isEmpty

/-- R415: the instant of a mirrored change: what the lead decided, or at least 100 µs from now. -/
def State.mirrorInstant (s : State) (h : Hdr) (at_ : Option Word) : Option Int :=
  match h.mirror.bind (·.decided) with
  | some t => some (s.extend t)
  | none =>
    if s.twin.state = .lead then
      let t : Int := s.clock.ext + 100000
      some (match at_ with | some a => max t (s.extend a) | none => t)
    else none

/-- R372: TIME_SET. -/
def State.runTimeSet (s : State) (c : Cmd) (mode flags : Byte) (value at_ : Word) : State :=
  let absolute := mode == 1
  let useAt := flags.getLsbD 1
  let e := flags.getLsbD 0
  let ahead := (at_ - s.time).toInt
  let busy := s.anyStreams || s.trig.outs.toList.any (·.armed) || s.spill.toList.any fun q => !q.pieces.isEmpty
  if 1 < mode.toNat ∨ (absolute = true ∧ busy = true) then s.bad c 16
  else if 3 < flags.toNat then s.bad c 17
  else if absolute = false ∧ (value.toInt < -1000000000 ∨ 1000000000 < value.toInt) then s.bad c 20
  else if useAt && decide (ahead < 1000 ∨ 1000000000 < ahead) then s.bad c 24
  else if s.clock.pendingSet.isSome then s.retry c 0x0901
  else if s.holdoverStays e then s.notReady c 3
  else
    let x := TimeChange.set absolute value e
    match s.mirrorInstant c.h (if useAt then some at_ else none) with
    | some t => (s.setClock fun k => { k with mirrored := k.mirrored ++ [(x, t)] }).wait c .timeStep
    | none =>
      if useAt then (s.setClock fun k => { k with pendingSet := some (x, s.extend at_) }).wait c .timeStep
      else (s.wait c .timeStep).doChange x

/-- R371: TIME_INCR. -/
def State.runTimeIncr (s : State) (c : Cmd) (incr flags : Word) : State :=
  let e := flags.getLsbD 0
  if incr.toNat < 0x02600000 ∨ 0x02A00000 < incr.toNat then s.bad c 16
  else if s.holdoverStays e then s.notReady c 3
  else
    let x := TimeChange.incr incr e
    match s.mirrorInstant c.h none with
    | some t => (s.setClock fun k => { k with mirrored := k.mirrored ++ [(x, t)] }).wait c .timeStep
    | none => (s.wait c .timeStep).doChange x

/-- R367: TIME_READ. -/
def State.runTimeRead (s : State) (c : Cmd) : State :=
  let k := s.clock
  s.ok c (leWord s.time ++ leBytes 3 k.frac ++
    leBytes 1 (bit 0 k.holdover + bit 1 s.syncMode + bit 2 k.beaconSeen + k.holdCause * 8) ++ leWord k.incr ++
    leHalf k.wrap ++ leBytes 2 s.deviceId ++ leBytes 4 (wrapOf 32 k.lastStep))

/-! ### Beacons -/

/-- R349: the capture of a beacon in 1/2^24 ns. -/
def State.beaconCapture (s : State) : Int := s.fineTime (-(s.laneDelay 0 : Int))

/-- R376: a good beacon indicates a master change. -/
def State.masterChange (s : State) (m cap : Word) (seq : Half) : Bool :=
  s.clock.beaconGood &&
    (let d := seq - s.clock.bcnSeq
     let dm := m - s.clock.bcnMaster
     let dc := cap - s.clock.bcnCap
     decide (d = 0 ∨ 32768 < d.toNat) ||
       decide (s.au 0x0D01 65535 8 4 + dc.toNat / 1024 < (dm - dc).toInt.natAbs))

/-- R369, R376, R377: a good beacon. -/
def State.takeBeacon (s : State) (master : Wide) (seq : Half) : State :=
  let cap := s.beaconCapture
  let c32 := time32 (cap / 2 ^ 24)
  let frac : Byte := BitVec.ofInt 8 (cap / 2 ^ 16)
  let m : Word := master.setWidth 32
  let change := s.masterChange m c32 seq
  let judged := s.syncMode && !s.followsLead
  let tie := judged && !s.clock.holdover && s.now == s.clock.beaconAt + ticksOfUs (s.au 0x0D01 65535 4 4)
  let s := s.setClock fun k => { k with
    bcnCap := c32, bcnMaster := m, bcnSeq := seq, bcnFrac := frac, beacons := satInc 16 k.beacons, beaconAt := s.now
    beaconGood := true, lateTie := k.lateTie || tie }
  let s := s.setLink fun l => { l with echoes := l.echoes ++ [(seq, frac, c32)], rxIdle := false, trafficAt := s.now }
  if judged = false then s
  else if change then
    let s := s.setClock fun k => { k with jumps := satInc 16 k.jumps }
    if s.clock.holdover then s.setClock fun k => { k with beaconSeen := false } else s.enterHoldover 3
  else if s.clock.holdover then s.setClock fun k => { k with beaconSeen := true } else s

/-! ### Schedules -/

/-- R381: the leading edge START + k × PERIOD, rounded up to a whole ns: the first at which TIME can reach it. -/
def Output.edge (o : Output) (k : Int) : Int :=
  o.start + -((-(k * (o.periodNs * 65536 + o.periodFrac : Nat))) / 65536)

/-- R381: the first k whose leading edge, moved by `ofs`, is at or after a device time. -/
def Output.firstK (o : Output) (ofs from_ : Int) : Int :=
  -((-((from_ - ofs - o.start) * 65536)) / max 1 (o.periodNs * 65536 + o.periodFrac : Nat)) - 1

/-- R381: as `firstK`, exact: of two neighbours the first that is not before the time. -/
def Output.exactK (o : Output) (ofs from_ : Int) : Int :=
  let k := o.firstK ofs from_
  if from_ ≤ o.edge k + ofs then k else k + 1

/-- R381: the output at the root of a chain of followers, and the offset from it; none for an EVIN source. -/
def State.rootOf (s : State) (o : Fin 48) (ofs : Int) : Nat → Option (Fin 48 × Int)
  | 0 => some (o, ofs)
  | f + 1 =>
    let x := s.trig.outs[o]
    if x.mode = 3 then
      if x.source < 32 then s.rootOf (Fin.ofNat 48 x.source) (ofs + x.offset) f else none
    else some (o, ofs)

/-- R381: the next edge that an output takes from a periodic schedule, its own or its source's. -/
def State.nextPeriodic (s : State) (o : Fin 48) : Option Int :=
  let x := s.trig.outs[o]
  if x.left = some 0 then none
  else match x.mode with
    | 2 => some (x.edge x.nextK)
    | 3 => match s.rootOf o 0 48 with
      | some (r, ofs) =>
        let y := s.trig.outs[r]
        let open_ := match y.left with | some n => decide (x.nextK < y.nextK + n) | none => true
        if y.mode = 2 ∧ open_ = true then some (y.edge x.nextK + ofs) else none
      | none => none
    | _ => none

/-- The next scheduled leading edge of an output. -/
def State.nextEdge (s : State) (o : Fin 48) : Option Int :=
  let x := s.trig.outs[o]
  let all := (s.nextPeriodic o).toList ++ (x.oneShots.head?.map (·.start)).toList ++
    (if x.left = some 0 then [] else x.follow.head?.toList)
  match all with
  | [] => none
  | e :: es => some (es.foldl min e)

/-- The outputs that follow a source. -/
def State.followers (s : State) (source : Nat) : List (Fin 48) :=
  (fins 48).filter fun o => s.trig.outs[o].mode == 3 && s.trig.outs[o].source == source

/-- A time put in its place in a rising list. -/
def insertTime (t : Int) : List Int → List Int
  | [] => [t]
  | x :: xs => if t < x then t :: x :: xs else x :: insertTime t xs

/-- R381: an edge of a source at device time `e` is passed to its followers. -/
def State.pushFollow (s : State) (source : Nat) (e : Int) : Nat → State
  | 0 => s
  | f + 1 => (s.followers source).foldl (fun s o =>
      let t := e + s.trig.outs[o].offset
      (s.setOut o fun x => { x with follow := insertTime t x.follow }).pushFollow o.val t f) s

/-- R381: the followers of a schedule that begins take its edges from a device time on. -/
def State.alignFollowers (s : State) (source : Nat) (from_ : Int) : Nat → State
  | 0 => s
  | f + 1 => (s.followers source).foldl (fun s o =>
      let s := match s.rootOf o 0 48 with
        | some (r, ofs) => if s.trig.outs[r].mode = 2 then
            s.setOut o fun x => { x with nextK := s.trig.outs[r].exactK ofs from_ } else s
        | none => s
      s.alignFollowers o.val from_ f) s

/-- R381: the one-shots already queued at a source reach a new follower. -/
def State.followQueued (s : State) (o : Fin 48) (source : Nat) (ofs from_ : Int) : State :=
  if source < 32 then
    let src := s.trig.outs[Fin.ofNat 48 source]
    let ts := (src.oneShots.map (·.start) ++ src.follow).map (· + ofs)
    s.setOut o fun x => { x with follow := (ts.filter fun t => decide (from_ ≤ t)).foldl (fun l t => insertTime t l) [] }
  else s

/-- R381: the last falling edge a new one-shot must lie after. -/
def Output.lastFall (o : Output) : Option Int :=
  match o.oneShots.getLast? with
  | some x => some (x.start + x.width)
  | none => none

/-- R380: the reply of TRIG_SCHEDULE. -/
def State.trigReply (s : State) (c : Cmd) (o : Fin 48) : State :=
  s.ok c (match s.nextEdge o with | some e => leWord (time32 e) | none => leBytes 4 0)

/-- R380, R383: the first offending field of a TRIG_SCHEDULE. -/
def State.trigBad (s : State) (r : TrigReq) : Option Nat :=
  let o := Fin.ofNat 48 r.output.toNat
  let mode := r.mode.toNat
  let x := s.trig.outs[o]
  let expo := r.flags.getLsbD 0
  let ofs := r.offset.toInt
  let start := s.extend r.start
  let period := r.periodNs.toNat
  let w := r.width.toNat
  if 48 ≤ r.output.toNat ∨ s.au 0x0D02 o 0 1 ≠ 1 then some 16
  else if 3 < mode then some 18
  else if mode = 0 then (if 1 < r.flags.toNat then some 19 else none)
  else if 1 < r.flags.toNat ∨ (expo = true ∧ (32 ≤ r.output.toNat ∨ 64 ≤ r.context.toNat ∨
      s.trigMode r.context.toNat ≠ 2 ∨ s.prof r.context.toNat 6 1 ≠ r.output.toNat)) then some 19
  else if mode = 1 ∧ (start < s.clock.ext + 1000 ∨ 16 ≤ x.oneShots.length ∨
      (match x.lastFall with | some f => decide (start < f + 10) | none => false) = true) then some 20
  else if mode = 2 ∧ (period < 20 ∨ 1000000000 < period) then some 24
  else if w < 10 ∨ (mode = 2 ∧ period < w + 10) then some 32
  else if mode = 3 ∧ (39 < r.source.toNat ∨ r.source.toNat = r.output.toNat) then some 40
  else if mode = 3 ∧ (if r.source.toNat < 32 then decide (ofs < -1000000 ∨ 1000000 < ofs)
      else decide (ofs < 1000 ∨ 10000000 < ofs)) = true then some 44
  else none

/-- R380, R381: TRIG_SCHEDULE. -/
def State.runTrig (s : State) (c : Cmd) (r : TrigReq) : State :=
  match s.trigBad r with
  | some k => s.bad c k
  | none =>
    let o := Fin.ofNat 48 r.output.toNat
    let expo := r.flags.getLsbD 0
    let w := r.width.toNat
    let ctx := r.context.toNat % 64
    let left := if r.count = 0 then none else some r.count.toNat
    let soon : Int := s.clock.ext + 1000
    match r.mode.toNat with
    | 0 => (s.setOut o fun x => { x with mode := 0, oneShots := [], follow := [], left := none }).ok c (leBytes 4 0)
    | 1 =>
      let t := s.extend r.start
      let s := s.setOut o fun x => { x with oneShots := x.oneShots ++ [{ start := t, width := w, expo, ctx }] }
      (s.pushFollow o.val t 48).ok c (leWord (time32 t))
    | 2 =>
      let s := s.setOut o fun x => { x with
        mode := 2, start := s.extend r.start, periodNs := r.periodNs.toNat, periodFrac := r.periodFrac.toNat, width := w
        expo, ctx, left, follow := [] }
      let x := s.trig.outs[o]
      let from_ := match x.pulse with | some p => max soon (p.2 + 10) | none => soon
      let s := s.setOut o fun x => { x with nextK := x.exactK 0 from_ }
      (s.alignFollowers o.val soon 48).trigReply c o
    | _ =>
      let s := s.setOut o fun x => { x with
        mode := 3, source := r.source.toNat, offset := r.offset.toInt, width := w, expo, ctx, left, follow := [] }
      let s := match s.rootOf o 0 48 with
        | some (root, ofs) => if s.trig.outs[root].mode = 2 then
            s.setOut o fun x => { x with nextK := s.trig.outs[root].exactK ofs soon } else s
        | none => s
      ((s.followQueued o r.source.toNat r.offset.toInt soon).alignFollowers o.val soon 48).trigReply c o

/-! ### Pulses -/

/-- An edge that has fallen due: its time, width and exposure binding. -/
structure DueEdge where
  at_ : Int
  width : Nat
  expo : Bool
  ctx : Nat
deriving DecidableEq, Repr

/-- R383: the width of a pulse: the exposure in force of its context, or its own. -/
def State.pulseWidth (s : State) (e : DueEdge) : Nat :=
  if e.expo then (s.expo.ctxs[Fin.ofNat 64 e.ctx].pulseW).getD e.width else e.width

/-- R382, R385: the edges of an output that are due, which leave its schedule. -/
def State.takeDue (s : State) (o : Fin 48) : State × List DueEdge :=
  let x := s.trig.outs[o]
  let t := s.clock.ext
  let due (e : Option Int) : Bool := match e with | some v => decide (v ≤ t) | none => false
  let per := s.nextPeriodic o
  let own : List DueEdge := if due per then [⟨per.getD t, x.width, x.expo, x.ctx⟩] else []
  let shots := (x.oneShots.takeWhile fun q => decide (q.start ≤ t)).map fun q => (⟨q.start, q.width, q.expo, q.ctx⟩ : DueEdge)
  let fol := if x.left = some 0 then [] else (x.follow.takeWhile fun q => decide (q ≤ t)).map fun q =>
    (⟨q, x.width, x.expo, x.ctx⟩ : DueEdge)
  let n := own.length + fol.length
  let left := x.left.map (· - n)
  (s.setOut o fun x => { x with
    nextK := x.nextK + own.length, oneShots := x.oneShots.drop shots.length, follow := x.follow.drop fol.length
    left := left, mode := if left = some 0 then 0 else x.mode }, own ++ shots ++ fol)

/-- R217: the line of a context that will consume the next pulse record of its output. -/
def State.pulseLine (s : State) (c : Fin 64) : Word :=
  let q := s.expo.pulses[s.trigOut c]
  s.ctxs[c].line + BitVec.ofNat 32 (q.base + q.recs.length - max s.expo.ctxs[c].cursor q.base)

/-- R217: earlier pulses of lines from `a` on carry ID 0xFFFF for a context. -/
def State.unsetPulses (s : State) (c : Fin 64) (a : Word) : State :=
  let o := s.trigOut c
  let q := s.expo.pulses[o]
  let cur := max s.expo.ctxs[c].cursor q.base
  let line (i : Nat) : Word := s.ctxs[c].line + BitVec.ofInt 32 ((q.base + i : Nat) - (cur : Int))
  let mark (i : Nat) (r : PulseRec) : PulseRec :=
    if behind 32 a.toNat (line i).toNat then { r with ids := r.ids.map fun p => if p.1 = c.val then (p.1, 0xFFFF) else p }
    else r
  { s with expo := { s.expo with pulses := upd s.expo.pulses o fun q => { q with recs := q.recs.mapIdx mark } } }

/-- R216, R217: the sets that this pulse brings into force for a context and those that share its pulse. -/
def State.bindSet (s : State) (c : Fin 64) (edge : Int) : State :=
  let line := s.pulseLine c
  match s.expo.ctxs[c].sets.find? (fun q => q.phase == 2 && q.leader.isNone) with
  | none => s
  | some q =>
    let ready := decide (q.edgeFrom ≤ edge) && match q.target with
      | some a => behind 32 a.toNat line.toNat
      | none => true
    if ready then
      let late := s.tmpl c 0 1 != 0 && (match q.target with | some a => a != line | none => false)
      let s := if late then (s.unsetPulses c (q.target.getD line)).noteLateAck else s
      let s := (fins 64).foldl (fun s (d : Fin 64) =>
        let mine := s.expo.ctxs[d].sets.find? (fun x => (d == c && x.id == q.id) || x.leader == some (c.val, q.id))
        match mine with
        | some x => s.setExpo d fun e => { e with pulseId := x.id, pulseW := some q.requested }
        | none => s) s
      let q := { q with applied := line }
      ((s.noteMissed q).expoReply c q).dropSet c q.id
    else s

/-- R216, R383: the pulse record of an output with WIDTH_EXPO. -/
def State.writePulse (s : State) (o : Fin 48) (edge : Int) (width : Nat) : State :=
  if h : o.val < 32 then
    let i : Fin 32 := ⟨o.val, h⟩
    let users := s.expoUsers o.val
    let r : PulseRec := { edge, width, ids := users.map fun c => (c.val, s.expo.ctxs[c].pulseId) }
    let q := s.expo.pulses[i]
    let full := decide (64 ≤ q.recs.length)
    let q' : PulseQueue := if full then { base := q.base + 1, recs := q.recs.drop 1 ++ [r] } else { q with recs := q.recs ++ [r] }
    let s := { s with expo := { s.expo with
      pulses := s.expo.pulses.set i q', unmatched := if full then satInc 16 s.expo.unmatched else s.expo.unmatched } }
    s.raiseIf full 50 27
  else s

/-- R385: leading edges are dropped. -/
def State.dropEdges (s : State) (o : Fin 48) (n : Nat) : State :=
  if n = 0 then s else (s.setOut o fun x => { x with dropped := satAdd 16 x.dropped n }).raise 52 8

/-- R382, R383, R385: the leading edges of an output that are due. -/
def State.trigEdge (s : State) (o : Fin 48) : State :=
  let (s, es) := s.takeDue o
  match es with
  | [] => s
  | e :: rest =>
    if s.trig.outs[o].pulse.isSome then s.dropEdges o es.length
    else
      let expo := es.any (·.expo)
      let edge := s.clock.ext
      let s := if expo then (s.expoUsers o.val).foldl (fun s c => s.bindSet c edge) s else s
      let want := rest.foldl (fun w x => max w (s.pulseWidth x)) (s.pulseWidth e)
      let cut : Option Nat := match s.nextEdge o with
        | some n => if expo && decide (n < e.at_ + want + 10) then some (n - 10 - e.at_).toNat else none
        | none => none
      let width := cut.getD want
      let s := s.setOut o fun x => { x with pulse := some (edge, e.at_ + width), driven := s.twin.state.drives }
      let s := (s.raiseIf cut.isSome 52 9).dropEdges o rest.length
      if expo then s.writePulse o edge ((e.at_ + width - edge).toNat) else s

/-- R379, R382: a pulse reaches its width; a change of DRIVE or ACTIVE_LOW takes effect on the inactive output. -/
def State.pulseEnd (s : State) (o : Fin 48) : State :=
  match s.trig.outs[o].pulse with
  | some p =>
    if p.2 ≤ s.clock.ext then s.setOut o fun x => { x with
      pulse := none, driven := false, driveActive := s.au 0x0D02 o 1 1 == 1, lowActive := s.au 0x0D02 o 2 1 == 1 } else s
  | none => s

/-! ### Event inputs -/

/-- R387, R381: an edge of an input that has held for FILTER ticks is captured and followed. -/
def State.evinEdge (s : State) (i : Fin 8) (rising : Bool) : State :=
  let rec_ (off : Nat) : Nat := s.au 0x0D03 i off 1
  if rec_ 0 ≠ 1 then s
  else
    let s := s.setEvin i fun e => { e with level := rising }
    if (rec_ 1).testBit (if rising then 0 else 1) = false then s
    else
      let t := s.clock.ext * 2 ^ 24 + s.clock.frac - rec_ 2 * s.clock.incr.toNat
      let at_ : Int := t / 2 ^ 24
      let x := s.trig.evins[i]
      let lost := match x.ring.head? with
        | some k => decide (64 ≤ x.ring.length) && behind 32 x.readTo.toNat k.serial.toNat
        | none => false
      let k : Capture := { serial := x.next, time := time32 at_, rising, holdover := s.clock.holdover, step := x.stepMark }
      let ring := x.ring ++ [k]
      let s := s.setEvin i fun e => { e with
        ring := ring.drop (ring.length - 64), next := e.next + 1, stepMark := false
        overwritten := if lost then satInc 16 e.overwritten else e.overwritten }
      let s := s.raiseIf lost 52 10
      s.pushFollow (32 + i.val) (if s.twinPair then at_ / 40 * 40 else at_) 48

/-- R388: one capture in the reply of EVIN_READ. -/
def Capture.bytes (k : Capture) : List Byte :=
  leWord k.serial ++ leWord k.time ++ leBytes 1 (bit 0 k.rising + bit 1 k.holdover + bit 2 k.step) ++ leBytes 3 0

/-- R388: EVIN_READ. -/
def State.runEvinRead (s : State) (c : Cmd) (input : Byte) (start count : Word) : State :=
  if 8 ≤ input.toNat then s.bad c 16
  else if count.toNat < 1 ∨ 18 < count.toNat then s.bad c 24
  else
    let i := Fin.ofNat 8 input.toNat
    let x := s.trig.evins[i]
    let oldest := x.next - BitVec.ofNat 32 x.ring.length
    let oldestAsked := start == 0xFFFFFFFF
    let gone := !oldestAsked && !behind 32 oldest.toNat start.toNat
    let first := if oldestAsked || gone then oldest else start
    let got := (x.ring.filter fun k => behind 32 first.toNat k.serial.toNat).take count.toNat
    let newest := match got.getLast? with | some k => k.serial + 1 == x.next | none => true
    let s := match got.getLast? with
      | some k => s.setEvin i fun e => { e with readTo := if behind 32 e.readTo.toNat k.serial.toNat then k.serial + 1 else e.readTo }
      | none => s
    s.ok c (leWord first ++ leBytes 1 got.length ++ leBytes 1 (bit 0 gone + bit 1 newest) ++ leBytes 2 0 ++
      got.flatMap (·.bytes))

end Sys2Proof.Machine
end

