-- ==== Sys2Proof/Machine/Twin.lean ====
section
/-!
DEFINITION. Twin operation (R397 to R431): the transitions of the state machine, the Gelain handshake, time alignment, tags,
swaps, realignment and admission.
-/
namespace Sys2Proof.Machine

/-- An unsigned field of the twin record. -/
def State.twinU (s : State) (off n : Nat) : Nat := s.au 0x0C01 65535 off n

/-! ### Epochs -/

/-- R408, R410: a lead that met a newer epoch, or lost the comparison of two leads, is demoted. -/
def State.demote (s : State) (e : Half) : State :=
  ((s.enter .quarantine e).setTwin fun t => { t with demoted := true }).raiseHeld 49 4

/-- R399: the unit leads a pair. -/
def TwinState.leads : TwinState → Bool
  | .lead | .leadAlone => true
  | _ => false

/-- R410: the epoch comes from a swap that the unit takes part in. -/
def State.swapEpoch (s : State) (e : Half) : Bool := s.twin.swap.isSome && e == s.twin.epoch + 1

/-- R410: the unit meets an epoch of its partner, whose IDENT is given. -/
def State.meetEpoch (s : State) (e ident : Half) : State :=
  let own := s.twin.epoch
  let s := s.setTwin fun t => { t with partnerEpoch := e, partnerIdent := ident, split := t.split && newer e own }
  match s.twin.state with
  | .single => s
  | .lead | .leadAlone =>
    if s.swapEpoch e then s
    else if newer e own then s.demote own
    else if e = own ∧ ident.toNat / 2 ^ 14 = 0 ∧ ident.toNat % 2 ^ 14 < s.deviceId then s.demote own else s
  | .shadow | .shadowDetached => if newer e own && !s.swapEpoch e then s.enter .quarantine own else s
  | .forming | .quarantine | .admitting => s

/-- R410: a unit that is not in operation adopts its partner's epoch. -/
def State.adoptEpoch (s : State) (e : Half) : State :=
  match s.twin.state with
  | .forming | .quarantine | .admitting => s.setEpoch e
  | _ => s

/-- R410: the unit meets an epoch in a command; EPOCH_FENCE reports a newer one. -/
def State.fenceByCommand (s : State) (e : Half) : State :=
  if newer e s.twin.epoch && !s.swapEpoch e then
    let s := s.raise 49 5
    match s.twin.state with
    | .lead | .leadAlone => s.demote s.twin.epoch
    | .shadow | .shadowDetached => s.enter .quarantine s.twin.epoch
    | _ => s
  else s

/-- R408: a unit in FORMING meets a partner with a role, an IDENT and an epoch. -/
def State.formWith (s : State) (role : Nat) (ident e : Half) : State :=
  if s.twin.state ≠ .forming then s
  else
    let theirs := ident.toNat % 2 ^ 14
    let top := if newer e s.twin.epoch then e else s.twin.epoch
    if role = 0 then s.enter .quarantine e
    else if role = 1 then s
    else if theirs = s.deviceId then (s.setTwin fun t => { t with formConflict := true }).raiseLevel true 49 2
    else if s.deviceId < theirs then s.enter .leadAlone (top + 1)
    else s.enter .quarantine (top + 1)

/-! ### Ends of procedures -/

/-- R426: a swap that was asked for does not take place. -/
def State.failSwap (s : State) : State :=
  if s.twin.swap.isSome then
    let told := s.twin.state == .lead && !(s.twin.swap.map (·.handover)).getD false
    let s := (s.setTwin fun t => { t with swap := none }).raiseIf told 49 22
    s.answerWaiting (fun w => w == .roleSwap) fun s c => s.fail c 8 1
  else s

/-- R430: an admission that runs at the lead fails. -/
def State.failAdmission (s : State) (code : Nat) : State :=
  if s.twin.admitting then
    let s := (s.setTwin fun t => { t with admitting := false, admitRow := none, joinFrames := [], realign := none }).raise 49 25
    (s.sendG (.control 6 0 code)).answerWaiting (fun w => w == .admission) fun s c => s.fail c 8 code
  else s

/-- R430: the joining unit returns to QUARANTINE. -/
def State.failJoin (s : State) : State :=
  if s.twin.state = .admitting then
    let s := s.release fun w => match w with | .context c none => !s.streams c | _ => false
    ((s.enter .quarantine s.twin.epoch).setTwin fun t => { t with
      admitRow := none, chunkFailed := false, joinFrames := [] }).raise 49 25
  else s

/-- R430: the joining unit tells the lead why the admission has failed. -/
def State.abortJoin (s : State) (code : Word) : State :=
  if s.twin.state = .admitting then (s.sendG (.control 6 0 code)).failJoin else s

/-- R430: a context of the joining unit is refused leave. -/
def State.refuseJoin (s : State) : State := if s.twin.joining.isEmpty then s else s.abortJoin 4

/-- R424: a mirrored command whose acceptance has come, or is no longer awaited, is answered when its own execution is done. -/
def State.endMirror (s : State) (m : MirrorWait) : State :=
  let s := s.setTwin fun t => { t with mirrors := t.mirrors.filter fun x => x != m }
  match m.reply with
  | none => s
  | some (status, detail, payload, rflags) =>
    match (s.port m.port).running with
    | some r => if r.h.seq = m.seq then s.reply ⟨r.h, r.body⟩ status detail payload rflags else s
    | none => s

/-- R408: mirroring stops: no acceptance is awaited any more. -/
def State.endMirrors (s : State) : State := s.twin.mirrors.foldl (fun s m => s.endMirror m) s

/-- R85: the partner was reset: each command of MB6 that is not yet answered ends ABORTED for firmware, which answers the
command it forwarded so, and waits no longer for an acceptance. -/
def State.abortTwin (s : State) : State :=
  s.twin.mirrors.foldl (fun s m =>
    if m.word.getLsbD 2 then s.endMirror m
    else
      let s := s.setTwin fun t => { t with mirrors := t.mirrors.filter fun x => x != m }
      match s.waitingFor m.port (fun w => w == .twinReply m.seq) with
      | some r => s.fail ⟨r.h, r.body⟩ 2 0
      | none => s) s

/-! ### Presence -/

/-- R404: the decision timer runs while the link and the heartbeat are both lost. -/
def State.refreshJoint (s : State) : State :=
  let both := !s.twin.gelainUp && !s.twin.hbAlive
  let detached := s.twin.state == .shadow || s.twin.state == .shadowDetached
  if both then
    let s := s.setTwin fun t => { t with jointAt := t.jointAt.or (some s.now), deciding := detached }
    s.raiseLevel (both && detached) 49 9
  else s.setTwin fun t => { t with deciding := false }

/-- R404, R433: the link or the heartbeat returns: a tie with the decision timer, and a suspected split of a lead. -/
def State.endJoint (s : State) : State :=
  match s.twin.jointAt with
  | none => s
  | some t =>
    let limit := t + ticksOfUs (s.twinU 0 2)
    let tie := s.twin.deciding && s.now == limit
    let split := s.twin.state.leads && decide (limit ≤ s.now)
    let s := s.setTwin fun x => { x with jointAt := none, deciding := false, lateTie := x.lateTie || tie, split := x.split || split }
    if split then s.raiseHeld 49 29 else s

/-- R408, R426, R430: what the loss of the link or of the heartbeat ends at a lead. -/
def State.leadLoses (s : State) : State :=
  let s := match s.twin.swap with
    | some w => if w.confirmed then s else s.failSwap
    | none => s
  let s := s.failAdmission 1
  if s.twin.state = .lead then ((s.enter .leadAlone s.twin.epoch).setTwin fun t => { t with realign := none }).endMirrors
  else s.endMirrors

/-- R403, R408: the Gelain link is lost. -/
def State.loseGelain (s : State) : State :=
  if s.twin.gelainUp then
    let s := (s.setTwin fun t => { t with gelainUp := false, formAt := s.now }).raiseHeld 49 6
    let s := s.setTrainer true fun t => { t with state := 1, width := 0 }
    let s := match s.twin.state with
      | .shadow => s.enter .shadowDetached s.twin.epoch
      | .admitting => s.failJoin
      | .lead | .leadAlone => s.leadLoses
      | _ => s
    s.refreshJoint
  else s

/-- R402, R408: HB_IN is lost. -/
def State.loseHb (s : State) : State :=
  if s.twin.hbAlive then
    let s := (s.setTwin fun t => { t with hbAlive := false, formAt := s.now }).raiseHeld 49 8
    let s := match s.twin.state with
      | .lead | .leadAlone => s.leadLoses
      | .admitting => s.failJoin
      | _ => s
    s.refreshJoint
  else s

/-- R403: the link is present again. -/
def State.gainGelain (s : State) : State :=
  if s.twin.gelainUp then s else (s.setTwin fun t => { t with gelainUp := true }).endJoint

/-! ### The Gelain handshake -/

/-- R338, R339, R405, R84, R85: the Gelain handshake completes. -/
def State.gelainActive (s : State) (h : Hello) : State :=
  let before := s.twin.partnerSession
  let s := s.mapLanes true h
  let s := (s.setTwin fun t => { t with partnerSession := some h.session, frameAt := s.now }).gainGelain
  let s := if s.gl.width = 2 then s.raiseHeld 49 7 else s.causeGone 49 7
  let changed : Bool := match before with | some x => x != h.session | none => false
  let s := if changed then ((s.raise 49 28).peerReset [4, 5, 6, 7]).abortTwin else s
  let s := if before = some h.session then s else s.abortKept .p2
  let forming := s.twin.state == .forming
  let s := (s.meetEpoch h.epoch h.ident).formWith (h.ident.toNat / 2 ^ 14) h.ident h.epoch
  let s := if forming && s.twin.state != .forming then s else s.adoptEpoch h.epoch
  if s.twin.state = .shadowDetached ∧ changed = true then s.enter .quarantine s.twin.epoch else s

/-- R338: a HELLO in HANDSHAKE; the handshake completes when the partner has seen this side's. -/
def State.takeHello (s : State) (g : Bool) (h : Hello) : State :=
  let t := s.trainer g
  if t.state ≠ 6 ∨ s.goodHello g h = false then s
  else
    let tie := s.now == t.stageAt + stageTicks 6
    let s := s.setTrainer g fun t => { t with hello := some h, lateTie := t.lateTie || tie }
    if h.seen then (if g then s.gelainActive h else s.linkActive h) else s

/-! ### HEART -/

/-- R414: an average of offsets in ps. -/
def meanPs (xs : List Int) : Int := if xs.isEmpty then 0 else roundDiv (xs.foldl (· + ·) 0) xs.length

/-- R414: the shadow corrects its FRAC toward the lead by at most 1 ppm of the time elapsed since the last HEART. -/
def State.alignFrac (s : State) (ticks : Nat) (ps : Int) : State :=
  let bound : Int := (ticks * s.clock.incr.toNat / 1000000 : Nat)
  let want : Int := ps * 2 ^ 24 / 1000
  let d := max (-bound) (min bound want)
  let total := s.clock.ext * 2 ^ 24 + s.clock.frac + d
  s.setClock fun c => { c with ext := total / 2 ^ 24, frac := (total % 2 ^ 24).toNat }

/-- R414: the offset that a HEART measures, and what follows from its size. -/
def State.measureOffset (s : State) (h : Heart) (ticks : Nat) : State :=
  let cl := h.echoRx
  let ts := h.echoTx
  let cs := s.time
  let ps : Int := (((cl - ts).toInt - (cs - h.txTime).toInt) * 1000) / 2
  let offsets := (ps :: s.twin.offsets).take 64
  let mean := meanPs offsets
  let warn := decide (s.twinU 10 1 * 1000 < mean.natAbs)
  let s := s.setTwin fun t => { t with offsets, timeOfs := mean, timeWarn := warn }
  let s := s.raiseLevel warn 49 17
  if 40000 < mean.natAbs then (s.raise 49 18).fence else s.alignFrac ticks mean

/-- R415: the shadow takes HOLDOVER and its cause from the lead. -/
def State.takeHoldover (s : State) (h : Heart) : State :=
  if h.holdover && !s.clock.holdover then s.enterHoldover h.holdCause
  else if !h.holdover && s.clock.holdover then s.leaveHoldover
  else s.setClock fun c => { c with holdCause := if h.holdover then h.holdCause else c.holdCause }

/-- R408: what a HEART tells of the partner's state. -/
def State.partnerIs (s : State) (h : Heart) (was : Option Nat) : State :=
  match s.twin.state with
  | .forming => s.formWith (if h.state = 2 ∨ h.state = 3 then 0 else if h.state = 4 ∨ h.state = 5 then 1 else 2) h.ident h.epoch
  | .lead =>
    if h.state = 4 ∨ (h.state = 2 ∧ (s.swapEpoch h.epoch = true ∨ h.epoch + 1 = s.twin.epoch)) then s
    else ((s.enter .leadAlone s.twin.epoch).setTwin fun t => { t with realign := none }).endMirrors
  | .leadAlone =>
    if h.state = 4 ∧ was ≠ some 4 then
      let joined := s.twin.admitRow.isSome
      let s := (s.enter .lead s.twin.epoch).setTwin fun t => { t with
        aloneCfg := if joined then false else t.aloneCfg, admitting := false, admitRow := none, joinFrames := [] }
      if joined then s else (s.setTwin fun t => { t with compareFrom := none }).startRealign (s.weir.lastRow.getD s.rowNo)
    else if s.twin.admitting && h.state != 6 && h.state != 7 then s.failAdmission 2
    else s
  | .shadowDetached =>
    if h.state = 3 ∧ h.epoch = s.twin.epoch ∧ h.aloneCfg = false then
      (s.enter .shadow s.twin.epoch).setTwin fun t => { t with compareFrom := none }
    else s.enter .quarantine s.twin.epoch
  | _ => s

/-- R406, R410, R414, R415: a HEART frame. -/
def State.takeHeart (s : State) (h : Heart) : State :=
  if s.gl.state ≠ 7 then s
  else
    let ticks := s.now - s.twin.frameAt
    let was := s.twin.partnerState
    let s := (s.setTwin fun t => { t with
      frameAt := s.now, partnerState := some h.state, echoTx := h.txTime, echoRx := s.time }).gainGelain
    let forming := s.twin.state == .forming
    let s := (s.meetEpoch h.epoch h.ident).partnerIs h was
    let s := if forming && s.twin.state != .forming then s else s.adoptEpoch h.epoch
    if s.followsLead && (h.state == 2 || h.state == 3) then (s.takeHoldover h).measureOffset h ticks else s

/-- R403, R406: the HEART that each unit sends every 2 µs. -/
def State.heartFrame (s : State) : GFrame :=
  let flags := bit 0 s.clock.holdover + bit 1 s.twin.aloneCfg + bit 2 s.escalated + bit 3 s.twin.hbAlive
  .heart s.twin.state.code flags s.clock.holdCause s.rowNo s.twin.echoTx s.twin.echoRx

/-- R406, R407: the HEART leaves, or is discarded when the transmit queue refuses it. -/
def State.sendHeart (s : State) : State :=
  if s.gl.state ≠ 7 then s
  else if s.queues[41].state = 2 then { s with out := { s.out with gelain := s.out.gelain ++ [s.heartFrame] } }
  else (s.setTwin fun t => { t with dropped := satInc 16 t.dropped }).raise 49 27

/-! ### Tags -/

/-- R417: the value of a capture replaced by the lead's. -/
def State.adoptTag (s : State) (w : TagWait) (t : Word) : State :=
  let d : Int := (t - w.time).toInt
  match w.kind with
  | 1 =>
    let fix (k : InPacket) : InPacket :=
      if k.tag.ctx = w.index ∧ k.tag.gap = false ∧ k.tag.line.toNat % 65536 = w.num then
        { k with tag := { k.tag with sol := k.tag.sol + d, mid := if k.tag.trigWidth then k.tag.mid else k.tag.mid + d } }
      else k
    { s with inlets := updAll s.inlets fun _ x => { x with queue := x.queue.map fix } }
  | 2 => s.setCtx (Fin.ofNat 64 w.index) fun x => { x with fsTime := x.fsTime + d }
  | 3 => s.setEvin (Fin.ofNat 8 w.index) fun e => { e with
      ring := e.ring.map fun k => if k.serial.toNat % 65536 = w.num then { k with time := t } else k }
  | _ => { s with expo := { s.expo with pulses := upd s.expo.pulses (Fin.ofNat 32 w.index) fun q => { q with
      recs := q.recs.map fun r => if time32 r.edge = w.time then { r with edge := r.edge + d } else r } } }

/-- R417: the width of a pulse record replaced by the lead's. -/
def State.adoptWidth (s : State) (w : TagWait) (width : Word) : State :=
  if w.kind = 4 then
    { s with expo := { s.expo with pulses := upd s.expo.pulses (Fin.ofNat 32 w.index) fun q => { q with
      recs := q.recs.map fun r => if time32 r.edge = w.time then { r with width := width.toNat } else r } } }
  else s

/-- R417: a capture that keeps this unit's own values. -/
def State.missTag (s : State) : State :=
  (s.setTwin fun t => { t with tagMiss := satInc 16 t.tagMiss }).raise 49 16

/-- R417: the tag and the entry belong to one capture. -/
def TagWait.fits (w : TagWait) (e : TagEntry) : Bool := w.kind == e.kind && w.index == e.index && w.num == e.num

/-- R417: an own capture that waits meets the lead's entry. -/
def State.matchTag (s : State) (w : TagWait) (e : TagEntry) : State :=
  let s := s.setTwin fun t => { t with
    tags := t.tags.filter (fun x => x != w), leadTags := t.leadTags.filter fun x => x != e }
  if (e.time - w.time).toInt.natAbs ≤ 40 then ((s.adoptWidth w e.width).adoptTag w e.time) else s.missTag

/-- R417: one entry of a TAG frame. -/
def State.takeTag (s : State) (e : TagEntry) : State :=
  if s.twin.state ≠ .shadow then s
  else match s.twin.tags.find? (fun w => w.fits e) with
    | some w => s.matchTag w e
    | none => s.setTwin fun t => { t with leadTags := (e :: t.leadTags).take 256 }

/-- R417: a capture of this unit: the lead sends it, the shadow compares it with the lead's. -/
def State.capture (s : State) (kind index num : Nat) (time width : Word) : State :=
  match s.twin.state with
  | .lead => s.sendG (.tag { kind, index, num := num % 65536, time, width })
  | .shadow =>
    let w : TagWait := { kind, index, num := num % 65536, time, width, at_ := s.now }
    let s := s.setTwin fun t => { t with tags := t.tags ++ [w] }
    match s.twin.leadTags.find? (fun e => w.fits e) with
    | some e => s.matchTag w e
    | none => s
  | _ => s

/-- R417: the lines that an inlet has tagged beyond the first `n` packets of its queue. -/
def State.captureLines (s : State) (p : Fin 32) (n : Nat) : State :=
  ((s.inlets[p].queue.drop n).filter fun k => !k.tag.gap).foldl
    (fun s k => s.capture 1 k.tag.ctx k.tag.line.toNat (time32 k.tag.sol) 0) s

/-- R417: the first wait of a context that has lasted TAG_WAIT_NS ends. -/
def State.expireTag (s : State) (c : Nat) : State :=
  match s.twin.tags.find? (fun w => w.index == c && decide (w.at_ + ticksOfNs (s.twinU 6 2) ≤ s.now)) with
  | some w => (s.setTwin fun t => { t with tags := t.tags.filter fun x => x != w }).missTag
  | none => s

/-! ### Swap -/

/-- R426, R427: the swap row is reached. -/
def State.swapNow (s : State) : State :=
  match s.twin.swap with
  | none => s
  | some w =>
    if s.rowNo ≠ w.row then s
    else match s.twin.state with
      | .lead | .leadAlone =>
        if w.confirmed then
          let s := s.setTwin fun t => { t with swap := none }
          let s := s.enter (if w.handover then .quarantine else .shadow) (s.twin.epoch + 1)
          let s := if w.handover || s.twin.gelainUp then s else (s.enter .shadowDetached s.twin.epoch).refreshJoint
          let s := (s.raise 49 21).raiseIf w.handover 49 26
          s.answerWaiting (fun x => x == .roleSwap) fun s c => s.ok c (leWord w.row)
        else s.failSwap
      | .shadow | .shadowDetached =>
        let s := s.setTwin fun t => { t with swap := none }
        let s := (s.enter .lead (s.twin.epoch + 1)).raise 49 21
        let s := if s.twin.gelainUp && s.twin.hbAlive then s else s.enter .leadAlone s.twin.epoch
        s.answerWaiting (fun x => x == .roleSwap) fun s c => s.ok c (leWord w.row)
      | _ => s

/-! ### Admission -/

/-- R429: P_max in ns. -/
def State.pMax (s : State) : Int :=
  let live := (fins 64).filter fun (c : Fin 64) => s.ctxEnabled c
  let line := (live.filter fun (c : Fin 64) => s.lineScan c).foldl (fun (m : Nat) (c : Fin 64) => max m (s.prof c 20 4)) 0
  let frame := (live.filter fun (c : Fin 64) => !s.lineScan c).foldl (fun (m : Nat) (c : Fin 64) => max m (s.au 0x0301 c 4 4)) 0
  (1000000 + max (40 * line) (2 * frame * 1000) : Nat)

/-- R429: the admission row, the lowest with t_ref(A) at or after T_ready − DLY_MIN + P_max. -/
def State.admissionRow (s : State) : Int :=
  let low := match dlyRange s.recs.active with | some r => r.1 | none => 0
  s.rowAt (s.clock.ext - low + s.pMax - 1) + 1

/-- R429: F_c of each streaming context with temporal filtering: its first frame that starts after now. -/
def State.historyFrames (s : State) : List (Fin 64 × Word) :=
  ((fins 64).filter fun (c : Fin 64) => s.streams c && !s.lineScan c && (s.au 0x0303 c 0 1).testBit 1).map fun c =>
    (c, if s.ctxs[c].started then s.ctxs[c].frame + 1 else s.ctxs[c].frame)

/-- R429: the joining unit reports that it is ready: the lead fixes the admission row. -/
def State.fixAdmission (s : State) : State :=
  if s.twin.admitting && s.twin.admitRow.isNone then
    let a := BitVec.ofInt 32 s.admissionRow
    let frames := s.historyFrames
    let s := (s.setTwin fun t => { t with
      admitRow := some a, joinFrames := frames, realign := some (a - 1), again := false, settle := none
      compareFrom := some a }).sendG (.admitRow a frames)
    s.answerWaiting (fun w => w == .admission) fun s c => s.ok c (leWord a)
  else s

/-- R428, R429: the admission row is reached. -/
def State.admitNow (s : State) : State :=
  match s.twin.admitRow with
  | none => s
  | some a =>
    if s.rowNo ≠ a then s
    else match s.twin.state with
      | .admitting =>
        ((s.enter .shadow s.twin.epoch).setTwin fun t => { t with admitRow := none, aloneCfg := false, joinFrames := [] }).raise 49 24
      | .leadAlone =>
        (s.enter .lead s.twin.epoch).setTwin fun t => { t with
          admitRow := none, admitting := false, aloneCfg := false, joinFrames := [], partnerState := some 4 }
      | _ => s

/-- R428: the mirrored records that a chunk brings, over the per-unit ones of R398. -/
def perUnit (id : Nat) : Bool := id == 0x0B01 || id == 0x0D01 || id / 256 == 6 || id / 256 == 0xE || id / 256 == 0xF

/-- R398: the record a cell address belongs to. -/
def recOfAddr (a : Nat) : Nat := a / 131072 / 65536

/-- A time of the lead without its wrap, counted from this unit's own wraps. -/
def State.ownTime (s : State) (lead t : Int) : Int := t + roundDiv (s.clock.ext - lead) (2 ^ 32) * 2 ^ 32

/-- R428: the item of a chunk is installed. -/
def State.install (s : State) (i : StateItem) : State :=
  match i with
  | .records active pending locked streaming =>
    let keep (m : List Host.Cell) : List Host.Cell := m.filter fun c => perUnit (recOfAddr c.1)
    let put (m : List Host.Cell) (cs : List (Nat × Byte)) : List Host.Cell :=
      writeCells recDefault (keep m) (cs.filter fun c => !perUnit (recOfAddr c.1))
    let mine (a : Scheduled) : Bool := a.pairs.any fun p => perUnit p.1
    let theirs := (locked.filter fun a => !mine a).map fun a =>
      if a.kind = 1 then { a with boundary := s.extendRow (BitVec.ofInt 32 a.boundary) } else a
    ({ s with recs := { s.recs with active := put s.recs.active active, pending := put s.recs.pending pending
                                    scheduled := s.recs.scheduled.filter mine ++ theirs } }).setTwin fun t => { t with
      joining := (fins 64).filter fun c => streaming.getLsbD c.val }
  | .memory a bs => { s with lpddr := Memory.writeList zeroByte s.lpddr a bs }
  | .exposure c next id e lead sets => s.setExpo c fun x => { x with
      nextId := next, baseId := id, baseE := e, timeline := []
      sets := sets.map fun q => { q with port := none, edgeFrom := s.ownTime lead q.edgeFrom } }
  | .trigger o lead r oneShots pulses =>
    let s := s.setOut o fun x => { x with
      mode := r.mode, start := s.ownTime lead r.start, periodNs := r.periodNs, periodFrac := r.periodFrac, width := r.width
      expo := r.expo, ctx := r.ctx, source := r.source, offset := r.offset, left := r.left, nextK := r.nextK
      oneShots := oneShots.map fun q => { q with start := s.ownTime lead q.start } }
    if h : o.val < 32 then { s with expo := { s.expo with pulses := s.expo.pulses.set o.val { pulses with
      recs := pulses.recs.map fun q => { q with edge := s.ownTime lead q.edge } } } }
    else s
  | .evin i n => s.setEvin i fun e => { e with next := n, ring := [], readTo := n }
  | .time t => s.stepTime (t - s.time).toInt
  | .weir .. => s.installWeir i

/-- R428: maps that enabled contexts use. -/
def State.mapsUsed (s : State) : List Nat :=
  (List.range 128).filter fun m => (List.range 64).any fun c => s.ctxEnabled c && s.au 0x0303 c 56 2 == m

/-- R428: the data of every map in use agrees with its DATA_CRC. -/
def State.mapsGood (s : State) : Bool :=
  s.mapsUsed.all fun m => (crc32c (s.lpBytes (s.mapBase m) (s.mapLength m))).toNat == s.mapU m 20 4

/-- R499, R428: the joining unit asks for leave for a context of the lead's that it does not run yet. -/
def State.askJoin (s : State) (c : Fin 64) : State :=
  if s.twin.state = .admitting then
    let cost := s.contextCost c
    let r : LeaveReq := { who := .context c none, kind := 4, cost, prio := 4, at_ := s.now, limit := s.twin.joinLimit }
    match s.refuseLeave cost with
    | some k => (s.denyLeave r k 0).abortJoin 4
    | none => s.enqueue r
  else s

/-- R428, R429: with the last item of the transfer the joining unit stops what the lead does not run, and starts what it
runs; it reports that it is ready when nothing is left to start. -/
def State.startJoin (s : State) : State :=
  if s.mapsGood then
    let wanted := s.twin.joining
    let s := ((fins 64).filter fun c => !wanted.contains c).foldl State.stopContext s
    let togo := wanted.filter fun c => !s.streams c
    let s := s.setTwin fun t => { t with joining := togo }
    if togo.isEmpty then s.sendG (.control 7 0 0) else togo.foldl State.askJoin s
  else s.abortJoin 3

/-- R430: a strip of history of frame F_c that comes after a frame of the context has needed it. -/
def State.lateStrip (s : State) (a : Nat) : Bool :=
  s.twin.joinFrames.any fun q =>
    let base := s.histBase q.1 q.2
    let row := (a - base) / (4 * max 1 (s.au 0x0201 q.1 12 2))
    decide (base ≤ a ∧ row < s.au 0x0201 q.1 6 2 ∧ row < s.carries[q.1].index ∧ 0 < (s.carries[q.1].frame - q.2).toInt)

/-- R428, R430: a good chunk of the transfer. -/
def State.takeItem (s : State) (c : StateChunk) : State :=
  let s := s.setTwin fun t => { t with chunkFailed := false }
  match c.item with
  | .weir .. =>
    if s.twin.holdSince.isSome then (s.install c.item).setTwin fun t => { t with holdSince := none, realign := none }
    else s.setTwin fun t => { t with early := some c.item }
  | .memory a _ => if s.lateStrip a then s.abortJoin 5 else s.install c.item
  | _ => s.install c.item

/-- R428, R422, R430: a STATE chunk. -/
def State.takeChunk (s : State) (c : StateChunk) : State :=
  match s.twin.state with
  | .admitting =>
    if c.good then
      let s := s.takeItem c
      if c.last && s.twin.admitRow.isNone then s.startJoin else s
    else if s.twin.chunkFailed then s.abortJoin 3
    else s.setTwin fun t => { t with chunkFailed := true }
  | .shadow =>
    if c.good then match c.item with
      | .weir .. =>
        if s.twin.holdSince.isSome then
          (s.install c.item).setTwin fun t => { t with holdSince := none, realign := none }
        else if s.twin.realign.isSome then s.setTwin fun t => { t with early := some c.item }
        else s
      | _ => s
    else s
  | _ => s

/-- R428: the maps in use, as chunks of their storage. -/
def State.mapItems (s : State) : List StateItem :=
  s.mapsUsed.flatMap fun m => (chunksOf (s.mapBase m) (s.lpBytes (s.mapBase m) (s.mapLength m))).map fun x => .memory x.1 x.2

/-- R428: the schedule, the one-shots and the pulse records of an output. -/
def State.triggerItem (s : State) (o : Fin 48) : StateItem :=
  let x := s.trig.outs[o]
  .trigger o s.clock.ext { mode := x.mode, start := x.start, periodNs := x.periodNs, periodFrac := x.periodFrac
                           width := x.width, expo := x.expo, ctx := x.ctx, source := x.source, offset := x.offset
                           left := x.left, nextK := x.nextK }
    x.oneShots (if h : o.val < 32 then s.expo.pulses[o.val] else {})

/-- R428: the exposure state of a context. -/
def State.exposureItem (s : State) (c : Fin 64) : StateItem :=
  let x := s.expo.ctxs[c]
  let now := x.at_ (if s.lineScan c then s.ctxs[c].line else s.ctxs[c].frame)
  .exposure c x.nextId now.1 now.2 s.clock.ext x.sets

/-- R428: the lead's items of a transfer; the Weir state follows after row A − 1. -/
def State.stateItems (s : State) : List StateItem :=
  let own (m : List Host.Cell) : List (Nat × Byte) := m.filter fun c => !perUnit (recOfAddr c.1)
  .time s.time ::
    .records (own s.recs.active) (own s.recs.pending) (s.recs.scheduled.filter fun a => a.kind == 1 || a.kind == 2)
      (((fins 64).filter fun c => s.streams c).foldl (fun m c => m ||| (1#64 <<< c.val)) 0) ::
    s.mapItems ++ (fins 64).map s.exposureItem ++ (fins 48).map s.triggerItem ++
    (fins 8).map fun i => .evin i s.trig.evins[i].next

/-- R428: the lead begins the admission of its partner; ADMIT_BEGIN carries LEAVE_WAIT of TWIN_ADMIT (R499). -/
def State.beginAdmission (s : State) (leaveWait : Half) : State :=
  let s := (s.setTwin fun t => { t with admitting := true, admitRow := none, joinFrames := [] }).sendG
    (.control 3 0 (leaveWait.setWidth 32))
  let items := s.stateItems
  let n := items.length
  (items.mapIdx fun i x => (x, i + 1 == n)).foldl
    (fun s x => s.sendG (.state { item := x.1, good := true, last := x.2 })) s

end Sys2Proof.Machine
end

