-- ==== Sys2Proof/Machine/TwinRows.lean ====
section
/-!
DEFINITION. The meanings of the twin's commands (R402 to R430): Gelain frames, heartbeat and presence, the timers and rows
of its procedures.
-/
namespace Sys2Proof.Machine

/-- A frame of the partner while the link is in ACTIVE (R403). -/
def State.onGelain (s : State) (f : State → State) : State :=
  if s.gl.state = 7 then f ((s.setTwin fun t => { t with frameAt := s.now }).gainGelain) else s

/-- R410: a CONTROL frame carries the partner's epoch in its header. -/
def State.onControl (s : State) (epoch : Half) (f : State → State) : State :=
  s.onGelain fun s =>
    let swaps := s.twin.swap.isSome
    let s := if swaps then s else (s.meetEpoch epoch s.twin.partnerIdent).adoptEpoch epoch
    f s

/-- R403: HEART_PERIOD. -/
def execHeartPeriod (dt : Nat) (s : State) : Host.Outcome State Fault Refusal := commit dt (fun s => s.sendHeart) s

/-- R406: GELAIN_HEART. -/
def execGelainHeart (dt : Nat) (heart : Heart) (s : State) : Host.Outcome State Fault Refusal :=
  commit dt (fun s => s.takeHeart heart) s

/-- R420: the partner's entries are kept. -/
def State.takeDigests (s : State) (es : List DigestEntry) : State :=
  let ds := es.map fun e => ({ row := e.row, near := e.near, noStreams := e.noStreams, arrived := e.arrived, digest := e.digest
                               at_ := s.now } : Digest)
  if s.twin.state.inStep then (s.setTwin fun t => { t with theirs := (t.theirs ++ ds).reverse.take 4096 |>.reverse }).compareRows
  else s

/-- R421: GELAIN_DIGEST. -/
def execGelainDigest (dt : Nat) (entries : List DigestEntry) (s : State) : Host.Outcome State Fault Refusal :=
  commit dt (fun s => s.onGelain fun s => s.takeDigests entries) s

/-- R417: GELAIN_TAG. -/
def execGelainTag (dt : Nat) (entries : List TagEntry) (s : State) : Host.Outcome State Fault Refusal :=
  commit dt (fun s => s.onGelain fun s => entries.foldl (fun s e => s.takeTag e) s) s

/-- R417: TAG_WAIT_EXPIRY. -/
def execTagWaitExpiry (dt : Nat) (ctx : Fin 64) (s : State) : Host.Outcome State Fault Refusal :=
  commit dt (fun s => s.expireTag ctx) s

/-- R406, R424: a command for MB4, with its mirror word and what the lead decided. -/
def State.takeMirror (s : State) (mirror decided : Word) (slot : Nat) (packet : List Byte) : State :=
  if (s.mb.chans[4].slots.getD slot {}).full then s.overrun 4
  else ((s.fillSlot 4 slot packet).setSlot 4 slot fun x => { x with mirror := some (mirror, decided) }).hwAnswer 4 slot

/-- R424: GELAIN_CMD. -/
def execGelainCmd (dt : Nat) (mirror decided : Word) (slot : Fin 2) (packet : List Byte) (s : State) :
    Host.Outcome State Fault Refusal :=
  commit dt (fun s => s.onGelain fun s => s.takeMirror mirror decided slot packet) s

/-- R406: GELAIN_REPLY. -/
def execGelainReply (dt : Nat) (slot : Fin 2) (packet : List Byte) (s : State) : Host.Outcome State Fault Refusal :=
  commit dt (fun s => s.onGelain fun s =>
    if (s.mb.chans[7].slots.getD slot {}).full then s.overrun 7 else s.fillSlot 7 slot packet) s

/-- R406: GELAIN_MBOX_ACK: the partner has read a slot of MB5 or MB6. -/
def execGelainMboxAck (dt : Nat) (channel : Fin 10) (slot : Fin 2) (s : State) : Host.Outcome State Fault Refusal :=
  commit dt (fun s => s.onGelain fun s =>
    if channel = 5 ∨ channel = 6 then s.clearSlot channel slot else s) s

/-! ### CONTROL -/

/-- R426: SWAP_AT. -/
def execSwapAt (dt : Nat) (row : Word) (epoch : Half) (s : State) : Host.Outcome State Fault Refusal :=
  commit dt (fun s => s.onControl epoch fun s =>
    if s.twin.state = .shadow then
      (s.setTwin fun t => { t with swap := some { row, confirmed := true, port := t.swap.bind (·.port) } }).sendG (.control 7 row 0)
    else s) s

/-- R426, R429: CONFIRM: the shadow confirms a swap, or the joining unit reports that it is ready. -/
def execConfirm (dt : Nat) (row : Word) (epoch : Half) (s : State) : Host.Outcome State Fault Refusal :=
  commit dt (fun s => s.onControl epoch fun s =>
    match s.twin.swap with
    | some w => if w.row = row ∧ s.twin.state.leads = true then s.setTwin fun t => { t with swap := some { w with confirmed := true } }
      else s
    | none => s.fixAdmission) s

/-- R423: QUARANTINE_YOU. -/
def execQuarantineYou (dt : Nat) (epoch : Half) (s : State) : Host.Outcome State Fault Refusal :=
  commit dt (fun s => s.onControl epoch fun s => s.fence) s

/-- R428: ADMIT_BEGIN. -/
def execAdmitBegin (dt : Nat) (epoch : Half) (arg : Word) (s : State) : Host.Outcome State Fault Refusal :=
  commit dt (fun s => s.onControl epoch fun s =>
    if s.twin.state = .quarantine then
      let wait := if arg.toNat % 65536 = 0 then s.au 0x0F01 65535 2 2 else arg.toNat % 65536
      (s.enter .admitting s.twin.epoch).setTwin fun t => { t with
        admitRow := none, chunkFailed := false, joinLimit := some (s.now + wait * 40000) }
    else s) s

/-- R429: ADMIT_ROW. -/
def execAdmitRow (dt : Nat) (row : Word) (epoch : Half) (frames : List (Fin 64 × Word)) (s : State) :
    Host.Outcome State Fault Refusal :=
  commit dt (fun s => s.onControl epoch fun s =>
    if s.twin.state = .admitting then s.setTwin fun t => { t with
      admitRow := some row, joinFrames := frames, realign := some (row - 1), settle := none, compareFrom := some row } else s) s

/-- R422: REALIGN. -/
def execRealign (dt : Nat) (row : Word) (epoch : Half) (s : State) : Host.Outcome State Fault Refusal :=
  commit dt (fun s => s.onControl epoch fun s =>
    if s.twin.state = .shadow then
      (s.setTwin fun t => { t with realign := some row, settle := some (t.sealRow.getD (row - 4), row), sealRow := none }).raise 49 14
    else s) s

/-- R406, R430: ABORT: a procedure in progress ends; ARG tells why an admission has failed. -/
def execAbort (dt : Nat) (epoch : Half) (arg : Word) (s : State) : Host.Outcome State Fault Refusal :=
  commit dt (fun s => s.onControl epoch fun s =>
    let s := s.failSwap.failJoin
    let s := s.failAdmission (if 1 ≤ arg.toNat ∧ arg.toNat ≤ 5 then arg.toNat else 2)
    s.setTwin fun t => { t with realign := none, holdSince := none }) s

/-- R428: GELAIN_STATE. -/
def execGelainState (dt : Nat) (chunk : StateChunk) (s : State) : Host.Outcome State Fault Refusal :=
  commit dt (fun s => s.onGelain fun s => s.takeChunk chunk) s

/-! ### Timers -/

/-- R422: REALIGN_FAIL: the shadow's Weir was held for 50 µs. -/
def execRealignFail (dt : Nat) (s : State) : Host.Outcome State Fault Refusal :=
  commit dt (fun s => match s.twin.holdSince with
    | some t => if t + ticksOfUs 50 < s.now then
        (((s.setTwin fun t => { t with holdSince := none, realign := none }).raise 49 15).fence).abortJoin 2 else s
    | none => s) s

/-- R421: UNCOMPARED. -/
def execUncompared (dt : Nat) (row : Word) (s : State) : Host.Outcome State Fault Refusal :=
  commit dt (fun s => match s.twin.own.find? (fun d => d.row == row) with
    | some d => if d.at_ + ticksOfUs 1000 ≤ s.now then
        (s.setTwin fun t => { t with own := t.own.filter (fun x => x.row != row), uncompared := satInc 16 t.uncompared }).raise 49 13
      else s
    | none => s) s

/-- R424: MIRROR_ACCEPT_TIMEOUT. -/
def execMirrorAcceptTimeout (dt : Nat) (s : State) : Host.Outcome State Fault Refusal :=
  commit dt (fun s =>
    let due (m : MirrorWait) : Bool := m.word.getLsbD 2 && match m.sentAt with | some t => decide (t + ticksOfUs 1000 ≤ s.now) | none => false
    match s.twin.mirrors.find? due with
    | some m => (s.sendG (.control 2 0 0)).endMirror m
    | none => s) s

/-- R402, R404: HB_IN_ALIVE. -/
def execHbInAlive (dt : Nat) (s : State) : Host.Outcome State Fault Refusal :=
  commit dt (fun s => if s.twin.hbAlive then s else (s.setTwin fun t => { t with hbAlive := true }).endJoint) s

/-- R402: HB_IN_LOST. -/
def execHbInLost (dt : Nat) (s : State) : Host.Outcome State Fault Refusal := commit dt (fun s => s.loseHb) s

/-- R402: HB_OUT_STOP. -/
def execHbOutStop (dt : Nat) (s : State) : Host.Outcome State Fault Refusal :=
  commit dt (fun s => { s with sys := { s.sys with hbOut := false } }) s

/-- R403: GELAIN_LOST: silence for 20 µs, or the link has left ACTIVE. -/
def execGelainLost (dt : Nat) (s : State) : Host.Outcome State Fault Refusal :=
  commit dt (fun s => if s.gl.state ≠ 7 ∨ s.twin.frameAt + ticksOfUs 20 ≤ s.now then s.loseGelain else s) s

/-- R404: DECISION_TIMER. -/
def execDecisionTimer (dt : Nat) (s : State) : Host.Outcome State Fault Refusal :=
  commit dt (fun s => match s.twin.jointAt with
    | some t =>
      if s.twin.deciding && decide (t + ticksOfUs (s.twinU 0 2) ≤ s.now) then
        (s.enter .leadAlone (s.twin.epoch + 1)).raise 49 3
      else s
    | none => s) s

/-- R408: FORM_WAIT. -/
def execFormWait (dt : Nat) (s : State) : Host.Outcome State Fault Refusal :=
  commit dt (fun s =>
    if s.twin.state = .forming ∧ s.twin.formAt + ticksOfMs (s.twinU 8 2) ≤ s.now ∧ s.twin.gelainUp = false then
      if s.twin.hbAlive then (s.setTwin fun t => { t with formBlocked := true }).raiseLevel true 49 1
      else s.enter .leadAlone (s.twin.epoch + 1)
    else s) s

/-- R426: SWAP_ROW_REACHED. -/
def execSwapRowReached (dt : Nat) (s : State) : Host.Outcome State Fault Refusal := commit dt (fun s => s.swapNow) s

/-- R429: ADMISSION_ROW_REACHED. -/
def execAdmissionRowReached (dt : Nat) (s : State) : Host.Outcome State Fault Refusal := commit dt (fun s => s.admitNow) s

/-- R409: EPOCH_WRITE: the changed epoch is in MRAM. -/
def execEpochWrite (dt : Nat) (s : State) : Host.Outcome State Fault Refusal :=
  commit dt (fun s => match s.audit.epochWrite with
    | some e =>
      if s.pwr.pfHold then s
      else { s with audit := { s.audit with epochWrite := none }, nvm := { s.nvm with epoch := e, pages := satAdd 32 s.nvm.pages 3 } }
    | none => s) s

end Sys2Proof.Machine
end

