-- ==== Sys2Proof/Machine/Apply.lean ====
section
/-!
DEFINITION. Staged parameters (R10 to R16, R62 to R64): REC_WRITE, REC_READ and REC_APPLY, what follows when records
become active, and the rows of the grid (R252, R276).
-/
namespace Sys2Proof

/-- R438: the command is a REC_APPLY of the memory record. -/
def Body.namesMemory : Body → Bool
  | .recApply _ _ _ pairs => pairs.any fun p => p.1 == 0x0110
  | _ => false

end Sys2Proof

namespace Sys2Proof.Machine

/-! ### Map data (R195) -/

/-- Bytes of LPDDR6 written by firmware; past installed memory the access ends with ADDR_RANGE (R435). -/
def State.lpStore (s : State) (a : Nat) (bs : List Byte) : State :=
  if a + bs.length ≤ s.installed then { s with lpddr := Memory.writeList zeroByte s.lpddr a bs } else s.addrRange a

/-! ### REC_WRITE -/

/-- R62, R63: the record's size and whether the record exists; a map's data have the size of its storage. -/
def State.recLength (s : State) (id inst : Nat) : Nat := if id = 0x0306 then s.mapLength inst else recSize id

/-- R63: the open state of a record after a piece of a port. -/
def State.noteOpen (s : State) (id inst : Nat) (p : Port) (last : Bool) : State :=
  let rest := s.recs.opens.filter fun o => !(o.id == id && o.inst == inst)
  { s with recs := { s.recs with opens := if last then rest else rest ++ [{ id, inst, port := p, at_ := s.now }] } }

/-- R101: a write of a port record's LANE_MAP gives one physical lane to two of the first LANES logical lanes, or one at or
above the number the mode provides. -/
def State.writeMapBad (s : State) (id inst off : Nat) (data : List Byte) : Bool :=
  let m := (s.writePending id inst off data).recs.pending
  let map := (List.range (recU m 0x0203 inst 1 1)).map fun i => recU m 0x0203 inst 8 4 / 8 ^ i % 8
  let top := if recU m 0x0203 inst 0 1 = 2 then 3 else 4
  id == 0x0203 && decide (off ≤ 8 ∧ 8 < off + data.length) && (anyTwice map || map.any fun x => decide (top ≤ x))

/-- R187: offset from the map's start of the first written word with a non-zero reserved bit: word 1 of a FULL entry. -/
def State.mapReserved (s : State) (m off : Nat) (data : List Byte) : Option Nat :=
  if s.mapU m 0 1 ≠ 0 then none
  else
    ((List.range (data.length / 4)).find? fun i =>
      (off / 4 + i) % 2 == 1 && decide (2 ^ 18 ≤ field data (4 * i) 4)).map fun i => 4 * i

/-- R10, R62, R63, R195: REC_WRITE. -/
def State.runRecWrite (s : State) (c : Cmd) (recId inst : Half) (offset : Word) (first last : Bool) (data : List Byte) :
    State :=
  let id := recId.toNat
  let i := inst.toNat
  let off := offset.toNat
  let p := fetchPort c.h
  let map := id == 0x0306
  if map && !s.memReady then s.notReady c 3
  else if !map && (recShape id).isNone then s.bad c 16
  else if (map && decide (128 ≤ i)) || (!map && !recExists id i) then s.bad c 18
  else if off % 4 != 0 ∨ s.recLength id i < off + data.length then s.bad c 20
  else if !first && s.openFor id i != some p then s.bad c 24
  else if map then
    if s.mapInUse i then s.bad c 28
    else match s.mapReserved i off data with
      | some a => s.bad c (28 + a)
      | none =>
        if (s.openFor id i).any (· != p) then s.retryOpen c
        else ((s.lpStore (s.mapBase i + off) data).noteOpen id i p last).ok c []
  else match badField (fieldsOf id i) off data data.length with
    | some a => s.bad c (28 + (a - off))
    | none =>
      if s.writeMapBad id i off data then s.bad c (28 + (8 - off))
      else if s.locked id i || (s.openFor id i).any (· != p) then s.retryOpen c
      else ((s.writePending id i off data).noteOpen id i p last).ok c []

/-! ### REC_READ -/

/-- R64, R195: REC_READ: the data and the CRC-32C of the whole copy. -/
def State.runRecRead (s : State) (c : Cmd) (recId inst : Half) (offset count : Word) : State :=
  let id := recId.toNat
  let i := inst.toNat
  let off := offset.toNat
  let n := count.toNat
  let map := id == 0x0306
  if map && !s.memReady then s.notReady c 3
  else if !map && (recShape id).isNone then s.bad c 16
  else if (map && decide (128 ≤ i)) || (!map && !recExists id i) then s.bad c 18
  else if n < 4 ∨ 224 < n ∨ n % 4 ≠ 0 then (if off % 4 != 0 ∨ s.recLength id i ≤ off then s.bad c 20 else s.bad c 24)
  else if off % 4 != 0 ∨ s.recLength id i < off + n then s.bad c 20
  else if map then s.ok c (s.lpBytes (s.mapBase i + off) n ++ leWord (crc32c (s.lpBytes (s.mapBase i) (s.mapLength i))))
  else
    let m := if c.h.active then s.recs.active else s.recs.pending
    s.ok c (recBytes m id i off n ++ leWord (crc32c (recBytes m id i 0 (recSize id))))

/-! ### What follows when records become active -/

/-- R278: COVER_HOLE follows the channels. -/
def State.refreshCover (s : State) (k : Change) : State :=
  s.raiseLevel (k.chans.any k.hole) 46 10

/-- R279: channels that stitch, by the records of a store. -/
def stitching (m : List Host.Cell) : Nat :=
  ((List.range 16).filter fun ch => recU m 0x0802 ch 0 1 == 1 && decide (2 ≤ recU m 0x0802 ch 3 1)).length

/-- R279: a request or grant of stitching leave. -/
def isStitch (w : Requester) : Bool := match w with | .stitch _ => true | _ => false

/-- R279: the leave returns when no channel stitches, nor will by a REC_APPLY that was accepted. -/
def State.trimStitch (s : State) : State :=
  let coming := s.recs.scheduled.any fun a => decide (0 < stitching (activated s.recs a.pairs))
  if stitching s.recs.active = 0 ∧ coming = false then s.release isStitch else s

/-- R379: an output record became active: ENABLE 0 discards the schedule; DRIVE and ACTIVE_LOW wait for an inactive pin. -/
def State.refreshOut (s : State) (o : Fin 48) : State :=
  let off := s.au 0x0D02 o 0 1 == 0
  let x := s.trig.outs[o]
  let drive := s.au 0x0D02 o 1 1 == 1
  let low := s.au 0x0D02 o 2 1 == 1
  let y : Output := if off then { dropped := x.dropped, driveActive := drive, lowActive := low }
    else if x.pulse.isNone then { x with driveActive := drive, lowActive := low } else x
  { s with trig := { s.trig with outs := s.trig.outs.set o y } }

/-- What a record that became active changes at once outside its own fields. -/
def State.recordEffect (s : State) (k : Change) (p : Nat × Nat) : State :=
  match p.1 with
  | 0x0502 => s.refreshBus (Fin.ofNat 32 p.2)
  | 0x0501 =>
    let mark (s : State) (b : Nat) : State := s.setBus (Fin.ofNat 32 b) fun x => { x with daaDue := x.daaDue || x.mode == 2 }
    let s := { s with sluice := { s.sluice with addrs := s.sluice.addrs.set (Fin.ofNat 128 p.2) none } }
    mark (mark s (recU k.old 0x0501 p.2 1 1)) (k.u 0x0501 p.2 1 1)
  | 0x0B01 =>
    if k.alters 0x0B01 65535 0 1 || k.alters 0x0B01 65535 1 1 || k.alters 0x0B01 65535 2 1 then s.closeLink else s
  | 0x0D01 =>
    if k.alters 0x0D01 65535 2 1 && k.u 0x0D01 65535 2 1 == 0 then s.leaveHoldover else s
  | 0x0D02 => s.refreshOut (Fin.ofNat 48 p.2)
  | 0x0A01 => s.raise 47 23
  | 0x0701 =>
    let o := s.extend (BitVec.ofNat 32 (k.u 0x0701 65535 16 4))
    let s := { s with grid := { s.grid with valid := true, origin := o, oldOrigin := o } }
    { s with grid := { s.grid with row := s.rowAt s.clock.ext } }
  | 0x0F01 => s.retryRound
  | _ => s

/-- What follows an activation. -/
def State.afterApply (s : State) (old : List Host.Cell) (pairs : List (Nat × Nat)) : State :=
  let k : Change := { old, new := s.recs.active, pairs }
  let s := pairs.foldl (fun s p => s.recordEffect k p) s
  let s := if k.names [0x0802, 0x0703, 0x0704, 0x0201, 0x0202, 0x0701] then s.refreshCover k else s
  s.trimStitch.refreshPlan

/-- R13: the records of a REC_APPLY become active, with what follows. -/
def State.bringIn (s : State) (a : Scheduled) : State := (s.activate a).afterApply s.recs.active a.pairs

/-- R64: the reply of a REC_APPLY. -/
def State.applyReply (s : State) (c : Cmd) (a : Scheduled) : State :=
  s.reply c 0 0 (leBytes 2 a.kind ++ leBytes 2 (if a.kind = 2 then a.ctx else 0) ++ leBytes 4 (wrapOf 32 a.boundary))
    (2 * bit 0 a.moved) (BitVec.ofInt 32 a.boundary)

/-- R64: an immediate REC_APPLY takes effect and is answered: BOUNDARY is the current row. -/
def State.applyNow (s : State) (c : Cmd) (a : Scheduled) : State :=
  let drop (s : State) : State := { s with recs := { s.recs with scheduled := s.recs.scheduled.filter (· != a) } }
  let s := drop s
  let b : Int := if s.grid.valid then s.grid.row else 0
  let s := s.bringIn { a with boundary := b }
  let b : Int := if s.grid.valid then s.grid.row else 0
  s.applyReply c { a with boundary := b }

/-! ### Boundaries -/

/-- R144, R192, R229: an immediate REC_APPLY waits: an item of a streaming context it names runs, or a guarded sequence on
a bus whose routing it replaces. -/
def State.applyHeld (s : State) (pairs : List (Nat × Nat)) : Bool :=
  pairs.any fun p =>
    if [0x0301, 0x0303, 0x0304].contains p.1 then
      s.streamsN p.2 && s.runnels.toList.any fun r => match r.cur with | some i => i.ctx.val == p.2 | none => false
    else if p.1 = 0x0501 then
      [recU s.recs.active 0x0501 p.2 1 1, recU s.recs.pending 0x0501 p.2 1 1].any fun b =>
        match s.sluice.buses[Fin.ofNat 32 b].cur with | some w => w.kind.guarded | none => false
    else false

/-- R270: the highest row position a view has computed. -/
def ViewState.topPos (x : ViewState) : Option Int :=
  (x.seqs.flatMap fun q => q.lines.flatMap fun l => l.pos.filterMap id).foldl
    (fun acc p => some (match acc with | none => p | some m => max m p)) none

/-- R270: the views a record of the grid affects. -/
def State.affectedViews (s : State) (p : Nat × Nat) : List Nat :=
  let on := (List.range 64).filter fun v => s.au 0x0703 v 0 1 == 1
  match p.1 with
  | 0x0702 => on
  | 0x0703 | 0x0704 => on.filter (· == p.2)
  | 0x0705 => on.filter fun v => s.au 0x0703 v 2 1 == p.2
  | 0x0706 => on.filter fun v => s.au 0x0703 v 3 1 == p.2
  | _ => []

/-- R14, R270: the row at which a REC_APPLY takes effect: the one named, unless it has passed, a view has computed a line
beyond it, or Confluence has sealed it. -/
def State.rowBoundary (s : State) (n : Word) (pairs : List (Nat × Nat)) : Int × Bool :=
  let named : Int := if behind 32 n.toNat s.rowNo.toNat then s.grid.row - ((s.rowNo - n).toNat : Int)
    else s.grid.row + ((n - s.rowNo).toNat : Int)
  let k := if named ≤ s.grid.row then s.grid.row + 1 else named
  let k := (pairs.flatMap s.affectedViews).foldl (fun (k : Int) v =>
    match s.views[Fin.ofNat 64 v].topPos with
    | none => k
    | some p => if k * 65536 ≤ p then max k (p / 65536 + 1) else k) k
  let merges := pairs.any fun p => [0x0801, 0x0802, 0x0901, 0x0902].contains p.1
  let k := if merges then s.cf.sealed.foldl (fun k q => max k (q.row + 1)) k else k
  (k, k != named)

/-- R14, R64: the frame or line at which a REC_APPLY takes effect. -/
def State.frameBoundary (s : State) (ctx : Nat) (n : Word) : Int × Bool :=
  let x := s.ctxs[Fin.ofNat 64 ctx]
  if s.lineScan ctx then
    let cur := x.line - 1
    if behind 32 n.toNat cur.toNat then ((x.line.toNat : Int), true) else ((n.toNat : Int), false)
  else if x.started && behind 32 n.toNat x.frame.toNat then (((x.frame + 1).toNat : Int), true) else ((n.toNat : Int), false)

/-- R11, R13: a REC_APPLY with a grid row boundary is scheduled, and rows from the boundary on find the new contents. -/
def State.scheduleRow (s : State) (a : Scheduled) : State :=
  let new := activated s.recs a.pairs
  { s with recs := { s.recs with
      scheduled := s.recs.scheduled ++ [a]
      rowSerial := s.recs.rowSerial + 1
      rows := s.recs.rows ++ [{ serial := s.recs.rowSerial + 1, boundary := a.boundary, pairs := a.pairs
                                old := s.recs.active, new }] } }

/-! ### REC_APPLY -/

/-- R438: the REC_APPLY changes a boot field of the memory record. -/
def Change.retrains (k : Change) : Bool :=
  k.names [0x0110] && (k.alters 0x0110 65535 0 1 || k.alters 0x0110 65535 1 1)

/-- R438, R499: every enabled channel asks for the leave of its training. -/
def State.askTraining (s : State) (c : Cmd) (mask : Nat) : State :=
  let ms := (fins 6).filter fun m => mask.testBit m.val
  let r (m : Fin 6) : LeaveReq := { who := .training m (some c.h.port), kind := 2, cost := 30, prio := 6, at_ := s.now
                                    limit := some (s.leaveLimit c.h) }
  ms.foldl (fun s m => s.enqueue (r m)) s

/-- R447, R438: why an accepted REC_APPLY must not start now: reason 1 RETRY with 0x0110, 2 NOT_READY. -/
def State.applyBlocked (s : State) (k : Change) : Nat :=
  let touched := k.names [0x0111] && (List.range 16).any fun i =>
    k.pairs.contains (0x0111, i) && [k.old, k.new].any fun m =>
      let r := regionRange m i
      recU m 0x0111 i 0 1 == 1 && s.dmaTouches r.1 r.2
  if touched then 1
  else if s.sys.factoryTest && k.names [0x0B01] && k.u 0x0B01 65535 0 1 == 1 then 2
  else 0

/-- R11 to R15: a REC_APPLY whose parameters are well formed is accepted, or refused. -/
def State.acceptApply (s : State) (c : Cmd) (kind ctx : Nat) (boundary : Word) (pairs : List (Nat × Nat)) : State :=
  let k : Change := { old := s.recs.active, new := activated s.recs pairs, pairs }
  let base : Scheduled := { kind, ctx, boundary := 0, pairs, port := c.h.port, seq := c.h.seq, originId := s.originId c.h.port
                            moved := false }
  match s.inconsistent k with
  | some off => (s.trimStitch).bad c off
  | none =>
    let lock (s : State) (a : Scheduled) : State := { s with recs := { s.recs with scheduled := s.recs.scheduled ++ [a] } }
    match s.applyBlocked k with
    | 1 => (s.trimStitch).retry c 0x0110
    | 2 => (s.trimStitch).notReady c 3
    | _ =>
      if kind = 0 then
        if k.retrains then
          match s.refuseLeave 30 with
          | some 1 => (s.denyLeave { who := .training 0 (some c.h.port), kind := 2, cost := 30, prio := 6, at_ := s.now } 1 7).fail c 7 0
          | some _ => (s.denyLeave { who := .training 0 (some c.h.port), kind := 2, cost := 30, prio := 6, at_ := s.now } 2 1).retry c 0x0C01
          | none => ((lock s base).askTraining c (k.u 0x0110 65535 0 1)).wait c .applyLeave
        else if s.applyHeld pairs then (lock s base).wait c (.applyItem (pairs.map (·.2)))
        else (lock s base).applyNow c base
      else if kind = 1 then
        let (b, moved) := s.rowBoundary boundary pairs
        let a := { base with boundary := b, moved }
        (s.scheduleRow a).applyReply c a
      else
        let (b, moved) := s.frameBoundary ctx boundary
        let a := { base with boundary := b, moved }
        (lock s a).applyReply c a

/-- R11, R64, R279: REC_APPLY. -/
def State.runRecApply (s : State) (c : Cmd) (kind : Byte) (ctx : Half) (boundary : Word) (pairs : List (Half × Half)) : State :=
  let ps := pairs.map fun p => (p.1.toNat, p.2.toNat)
  let n := ps.length
  let kd := kind.toNat
  let cx := ctx.toNat
  let k : Change := { old := s.recs.active, new := activated s.recs ps, pairs := ps }
  let missing := (List.range n).find? fun i => !recExists (ps.getD i (0, 0)).1 (ps.getD i (0, 0)).2
  if kd = 1 ∧ s.grid.valid = false then s.notReady c 3
  else if 2 < kd ∨ ps.any (fun p => !s.acceptsKind k kd p) = true then s.bad c 16
  else if n = 0 ∨ 48 < n then s.bad c 17
  else if kd = 2 ∧ 64 ≤ cx then s.bad c 18
  else match missing with
    | some i => s.bad c (24 + 4 * i + (if (recShape (ps.getD i (0, 0)).1).isSome then 2 else 0))
    | none =>
      if ps.any fun p => !s.accepts k kd cx p then s.bad c 18
      else if ps.any fun p => s.locked p.1 p.2 || (s.openFor p.1 p.2).isSome then s.retryOpen c
      else if stitching k.old = 0 ∧ 0 < stitching k.new ∧ s.holds isStitch = false then
        let s := s.askFor c (.stitch (some c.h.port)) 8 40 4 .applyLeave
        if s.asked isStitch then s.raise 46 25 else s.raiseIf (s.refuseLeave 40 == some 1) 46 26
      else s.acceptApply c kd cx boundary ps

/-- R279: the stitching leave of a port's REC_APPLY is granted. -/
def State.resumeApply (s : State) (p : Port) : State :=
  match s.waitingFor p (· == .applyLeave) with
  | none => s
  | some r => match r.body with
    | .recApply kind ctx boundary pairs =>
      s.acceptApply ⟨r.h, r.body⟩ kind.toNat ctx.toNat boundary (pairs.map fun p => (p.1.toNat, p.2.toNat))
    | _ => s

/-- The REC_APPLY of a port that is accepted and waits. -/
def State.scheduledOf (s : State) (c : Cmd) : Option Scheduled :=
  s.recs.scheduled.find? fun a => a.kind == 0 && a.port == c.h.port && a.seq == c.h.seq

/-- R144, R192, R229: immediate REC_APPLYs whose items and sequences have ended take effect. -/
def State.finishApplies (s : State) : State :=
  allPorts.foldl (fun s p => match (s.port p).running with
    | some r => match r.wait with
      | .applyItem _ => match s.scheduledOf ⟨r.h, r.body⟩ with
        | some a => if s.applyHeld a.pairs then s else s.applyNow ⟨r.h, r.body⟩ a
        | none => s
      | _ => s
    | none => s) s

/-! ### Retraining of the memory -/

/-- R438: a channel's training leave is granted: with the first grant the record becomes active and LPDDR6 is lost. -/
def State.beginTraining (s : State) (m : Fin 6) : State :=
  let waiting := s.recs.scheduled.find? fun a => a.kind == 0 && a.pairs.contains (0x0110, 65535)
  let s := match waiting with
    | none => s
    | some a =>
      let s := { s with recs := { s.recs with scheduled := s.recs.scheduled.filter (· != a) } }
      let s := s.bringIn { a with boundary := if s.grid.valid then s.grid.row else 0 }
      { s with lpddr := [], mem := { s.mem with n := 0, ctls := updAll s.mem.ctls fun _ x => { x with inUse := false } } }
  s.setMc m fun x => { x with state := 1, retried := false }

/-- A request or grant of a channel's training. -/
def isTraining (w : Requester) : Bool := match w with | .training _ _ => true | _ => false

/-- R437, R438: once every channel has ended its training the interleave set is chosen and the REC_APPLY answered. -/
def State.trainingEnds (s : State) : State :=
  if s.holds isTraining || s.asked isTraining then s
  else
    let s := s.chooseSet.refreshPlan
    s.answerWaiting (· == .applyLeave) fun s c =>
      let row : Int := if s.grid.valid then s.grid.row else 0
      let a : Scheduled := { kind := 0, ctx := 0, boundary := row, pairs := [], port := c.h.port, seq := c.h.seq, originId := 0, moved := false }
      if c.body.namesMemory then s.applyReply c a else s

/-- R436, R499: a channel's training ends. -/
def State.channelTrained (s : State) (m : Fin 6) (ok : Bool) : State :=
  if s.mem.ctls[m].state != 1 then s
  else
    let s := s.trainEnd m ok
    if s.mem.ctls[m].state = 1 then s
    else (s.release fun w => match w with | .training k _ => k == m | _ => false).trainingEnds

/-- R436: CHANNEL_TRAINING. -/
def execChannelTraining (dt : Nat) (mc : Fin 6) (ok : Bool) (s : State) : Host.Outcome State Fault Refusal :=
  commit dt (fun s => s.channelTrained mc ok) s

/-! ### Time-driven rows -/

/-- R63: a record that got no piece for 100 ms closes. -/
def State.closeRecord_ (s : State) (id inst : Nat) : State :=
  { s with recs := { s.recs with
      opens := s.recs.opens.filter fun o => !(o.id == id && o.inst == inst && decide (o.at_ + ticksOfMs 100 ≤ s.now)) } }

/-- R63: RECORD_OPEN_TIMEOUT. -/
def execRecordOpenTimeout (dt : Nat) (recId inst : Half) (s : State) : Host.Outcome State Fault Refusal :=
  commit dt (fun s => s.closeRecord_ recId.toNat inst.toNat) s

/-- R13: the row boundaries that fall at row K. -/
def State.rowBoundaries (s : State) (k : Int) : State :=
  (s.recs.scheduled.filter fun a => a.kind == 1 && decide (a.boundary ≤ k)).foldl State.bringIn s

/-- R252: device time has reached the next row, which becomes the current one. -/
def State.advanceRow (s : State) : State :=
  if s.grid.valid && decide (s.tref (s.grid.row + 1) ≤ s.clock.ext) then
    let k := s.grid.row + 1
    let s := { s with grid := { s.grid with row := k } }
    let s := (s.rowBoundaries k).sealComplete
    { s with recs := { s.recs with rows := s.recs.rows.filter fun w => decide (k < w.boundary + 8192) } }
  else s

/-- R252: GRID_ROW_ADVANCE. -/
def execGridRowAdvance (dt : Nat) (s : State) : Host.Outcome State Fault Refusal := commit dt (fun s => s.advanceRow) s

end Sys2Proof.Machine
end

