-- ==== Sys2Proof/Machine/CalCmds.lean ====
section
/-!
DEFINITION. The commands and events of calibration, of the MRAM store and of firmware and boot images (R516 to R539).
-/
namespace Sys2Proof.Machine

/-- R102: DESKEW_SWEEP_END. -/
def execDeskewSweepEnd (dt : Nat) (port : Fin 32) (taps eyes : List Nat) (s : State) : Host.Outcome State Fault Refusal :=
  commit dt (fun s => s.sweepEnd port taps eyes) s

/-- R524: DESKEW_RUN_TIMEOUT. -/
def execDeskewRunTimeout (dt : Nat) (s : State) : Host.Outcome State Fault Refusal := commit dt (fun s => s.deskewTimeouts) s

/-- R440: RETRAINING_SLICE. -/
def execRetrainingSlice (dt : Nat) (mc : Fin 6) (ok : Bool) (s : State) : Host.Outcome State Fault Refusal :=
  commit dt (fun s => s.slice mc ok) s

/-- R521: DRIFT_ROUND_END. -/
def execDriftRoundEnd (dt : Nat) (s : State) : Host.Outcome State Fault Refusal := commit dt (fun s => s.roundEnds) s

/-- R521: DRIFT_ROUND_REPEAT. -/
def execDriftRoundRepeat (dt : Nat) (s : State) : Host.Outcome State Fault Refusal := commit dt (fun s => s.repeatRound) s

/-- R530: MRAM_WRITE_DONE. -/
def execMramWriteDone (dt : Nat) (ok : Bool) (s : State) : Host.Outcome State Fault Refusal := commit dt (fun s => s.jobDone ok) s

/-- R528: REPAIR_APPEND: the rows that wait are asked to be appended to the stored set. -/
def execRepairAppend (dt : Nat) (s : State) : Host.Outcome State Fault Refusal := commit dt (fun s => s.askAppend) s

/-! ### The calibration set as bytes -/

/-- R518: ITEM_ID and length of the items. -/
def calItems : List (Nat × Nat) :=
  [(1, 128), (2, 88), (3, 256), (4, 352), (5, 3072), (6, 1536), (7, 4096), (8, 52), (9, 16), (10, 32)]

/-- R517: the items with their headers, from an offset of the set. -/
def itemBytes (cells : List Host.Cell) : Nat → List (Nat × Nat) → List Byte
  | _, [] => []
  | off, (id, n) :: rest =>
    let data := Memory.readList calFactory cells (off + 8) n
    leBytes 2 id ++ leBytes 2 n ++ leWord (crc32c data) ++ data ++ itemBytes cells (off + 8 + n) rest

/-- R517: the 60 bytes of the set header before SET_CRC. -/
def setHeader (origin : Nat) (serial : Word) (session : Half) (time : Word) : List Byte :=
  leBytes 2 1 ++ leBytes 1 origin ++ leBytes 1 10 ++ ((List.range 8).map fun i => Config.dieId i) ++ leWord serial ++
    leBytes 4 9772 ++ leHalf session ++ leBytes 2 0 ++ leWord time ++ leBytes 32 0

/-- R517: a set as it is exported. -/
def CalSet.bytesOf (x : CalSet) : List Byte :=
  let h := setHeader x.origin x.serial x.session x.time
  let items := itemBytes x.bytes 64 calItems
  h ++ leWord (crc32c (h ++ leBytes 4 0 ++ items)) ++ items

/-- R526: CAL_EXPORT. -/
def State.runCalExport (s : State) (c : Cmd) (which : Byte) (offset count : Word) : State :=
  if 1 < which.toNat then s.bad c 16
  else if offset.toNat % 4 != 0 ∨ 9768 < offset.toNat then s.bad c 20
  else if count.toNat < 4 ∨ 224 < count.toNat ∨ count.toNat % 4 != 0 then s.bad c 24
  else if 9772 < offset.toNat + count.toNat then s.bad c 20
  else
    let set := if which = 0 then s.nvm.stored else s.commitSet s.nvm.working.bytes 1
    let serial : Nat := if which = 0 then s.nvm.stored.serial.toNat else s.nvm.changes
    s.ok c (leBytes 4 serial ++ leBytes 4 9772 ++ (set.bytesOf.drop offset.toNat).take count.toNat)

/-- R523, R525, R527: CAL_COMMIT. -/
def State.runCalCommit (s : State) (c : Cmd) (flags : Word) : State :=
  if 1 < flags.toNat then s.bad c 16
  else if s.nvm.imports.any (fun o => o.stage.isNone) then s.retryOpen c
  else if s.calBusy then s.retry c 0x0602
  else if s.nvm.stored.origin = 0 ∧ flags.getLsbD 0 = false then s.bad c 16
  else s.askWrite c

/-- R527: the checks of an imported set, but for those of its fixed header fields. -/
def importGood (bs : List Byte) : Bool :=
  let h := bs.take 60
  let items := bs.drop 64
  let rec_ := calItems.foldl (fun (acc : Nat × Bool) it =>
    let data := (bs.drop (acc.1 + 8)).take it.2
    (acc.1 + 8 + it.2, acc.2 && field bs acc.1 2 == it.1 && field bs (acc.1 + 2) 2 == it.2 && word bs (acc.1 + 4) == crc32c data)) (64, true)
  field bs 0 2 == 1 && field bs 16 4 == 9772 && word bs 60 == crc32c (h ++ leBytes 4 0 ++ items) && rec_.2 &&
    (List.range 8).all fun i => byteAt bs (4 + i) == Config.dieId i

/-- The bytes of a set from its cells: what was written, over the factory contents. -/
def cellBytes (d : Nat → Byte) (cells : List Host.Cell) (n : Nat) : List Byte := Memory.readList d cells 0 n

/-- R527: an import or a stage that a piece without FIRST needs is open for the port. -/
def State.openImport (s : State) (p : Port) (stage : Option (Nat × Nat)) : Option OpenImport :=
  s.nvm.imports.find? fun o => o.stage == stage && o.port == p

/-- R527, R534: a piece opens an import or a stage for its port, or keeps it open. -/
def State.openPiece (s : State) (p : Port) (stage : Option (Nat × Nat)) (first : Bool) : State :=
  let old : OpenImport := match s.openImport p stage with
    | some o => if first then { port := p, stage, at_ := s.now } else o
    | none => { port := p, stage, at_ := s.now }
  s.setNvm fun n => { n with
    imports := n.imports.filter (fun x => !(x.stage == stage && x.port == p)) ++ [{ old with at_ := s.now }] }

/-- R532: the pages that some bytes of the MRAM touch. -/
def pagesOf (off n : Nat) : Nat := (off + n - 1) / 64 + 1 - off / 64

/-- R527, R532: the bytes of a piece are written to the copy that is not selected. -/
def State.putPiece (s : State) (p : Port) (stage : Option (Nat × Nat)) (off : Nat) (data : List Byte) : State :=
  s.setNvm fun n => { n with
    pages := satAdd 32 n.pages (pagesOf off data.length)
    imports := n.imports.map fun o => if o.stage == stage && o.port == p then
      { o with at_ := s.now, cells := Memory.writeList zeroByte o.cells off data } else o }

/-- R499: the leave of a port's MRAM write is returned. -/
def State.freeWrite (s : State) (p : Port) : State := s.release fun r => r == .nvm (some p)

/-- R527, R532: a piece of an import has leave: it is written; the last one is checked, and its set waits for its commit. -/
def State.importPiece (s : State) (c : Cmd) (flags : Byte) (off : Word) (data : List Byte) : State :=
  let p := c.h.port
  let s := s.putPiece p none off.toNat data
  if !flags.getLsbD 1 then (s.freeWrite p).ok c []
  else
    let bs := match s.openImport p none with | some o => cellBytes zeroByte o.cells 9772 | none => []
    if importGood bs && Config.limitsGood bs && (s.nvm.stored.origin != 0 || flags.getLsbD 2) then
      -- The items are kept as cells over the factory contents.
      let cells := Memory.writeList calFactory [] 0 bs
      (s.setNvm fun n => { n with imports := n.imports.map fun x =>
        if x.stage.isNone && x.port == p then { x with cells } else x }).addJob (.import_ p)
    else
      let s := (s.setNvm fun n => { n with imports := n.imports.filter fun x => !(x.stage.isNone && x.port == p) }).freeWrite p
      (s.bad c 24).beginRuns

/-- R527: CAL_IMPORT. -/
def State.runCalImport (s : State) (c : Cmd) (flags : Byte) (off : Word) (data : List Byte) : State :=
  let first := flags.getLsbD 0
  if s.nvm.imports.any (fun o => o.stage.isNone && o.port != c.h.port) then s.retryOpen c
  else if 7 < flags.toNat then s.bad c 16
  else if !first && (s.openImport c.h.port none).isNone then s.bad c 16
  else if off.toNat % 4 != 0 ∨ 9772 < off.toNat + data.length then s.bad c 20
  else if s.pwr.pfActive then s.notReady c 3
  else (s.openPiece c.h.port none first).askWrite c

/-- R527, R534: IMPORT_IDLE_TIMEOUT: what got no piece for 100 ms is closed. -/
def State.closeIdle (s : State) : State :=
  let busy (o : OpenImport) : Bool := s.nvm.jobs.any fun j => match j with | .import_ p => o.stage.isNone && o.port == p | _ => false
  let waits (o : OpenImport) : Bool := (s.nvmCmd o.port).isSome
  s.setNvm fun n => { n with imports := n.imports.filter fun o => decide (s.now < o.at_ + ticksOfMs 100) || busy o || waits o }

/-- R527: IMPORT_IDLE_TIMEOUT. -/
def execImportIdleTimeout (dt : Nat) (s : State) : Host.Outcome State Fault Refusal := commit dt (fun s => s.closeIdle.beginRuns) s

/-! ### Firmware and boot images -/

/-- R529: the bytes of an image's area; a two-copy item ends in its trailer page. -/
def areaSize (target : Nat) : Nat := if target = 0 then 1835008 else 262080

/-- R535: the RECORD_IDs of the record images of a body; none when they do not fill it. -/
def bodyRecords : Nat → List Byte → Option (List (Nat × Nat × List Byte))
  | 0, bs => if bs.isEmpty then some [] else none
  | fuel + 1, bs =>
    if bs.isEmpty then some []
    else if bs.length < 8 then none
    else
      let n := field bs 4 4
      let rest := bs.drop 8
      if rest.length < n then none
      else (bodyRecords fuel (rest.drop (ceilDiv n 4 * 4))).map fun l => (field bs 0 2, field bs 2 2, rest.take n) :: l

/-- R535: the body of an image. -/
def imageBody (target : Nat) (bs : List Byte) : List Byte :=
  (bs.drop 64).take (field bs 12 4 - 64 - (if target = 0 then 64 else 0))

/-- R535: the checks of a staged image. -/
def imageGood (target : Nat) (bs : List Byte) : Bool :=
  let n := field bs 12 4
  let body := imageBody target bs
  field bs 0 2 == 1 && decide (64 ≤ n ∧ n ≤ areaSize target ∧ n = bs.length) && word bs 60 == crc32c (bs.take 60) &&
    word bs 16 == crc32c body && field bs 2 1 == target && decide (field bs 8 4 ≤ Config.romVersion.toNat) &&
    (target != 0 || Config.signatureGood bs) &&
    (target != 2 || match bodyRecords body.length body with
      | some rs => rs.all fun r => r.1 == 0x0202 || r.1 == 0x0401
      | none => false)

/-- R534, R539: one image of a target and index changed. -/
def State.setImage (s : State) (target index : Nat) (f : Image → Image) : State :=
  s.setNvm fun n =>
    if target = 0 then { n with slots := upd n.slots (Fin.ofNat 2 (1 - n.running % 2)) f }
    else { n with sets := upd n.sets (Fin.ofNat 5 (if target = 2 then 4 else index)) f }

/-- R539: an image of a target and index. -/
def State.image (s : State) (target index : Nat) : Image :=
  if target = 0 then s.nvm.slots[Fin.ofNat 2 (1 - s.nvm.running % 2)] else s.nvm.sets[Fin.ofNat 5 (if target = 2 then 4 else index)]

/-- R534: the stage that a piece for an image belongs to. -/
def stageKey (t i : Nat) : Option (Nat × Nat) := some (t, if t = 1 then i else 0)

/-- R534, R532, R535: a piece of an image has leave: it is written; the last one is checked. -/
def State.stagePiece (s : State) (c : Cmd) (t i : Nat) (flags : Byte) (off : Word) (data : List Byte) : State :=
  let p := c.h.port
  let s := (s.putPiece p (stageKey t i) off.toNat data).freeWrite p
  let s := s.setImage t i fun x => { x with
    bytes := (List.range data.length).foldl (fun b k => putByte b (off.toNat + k) (byteAt data k)) x.bytes }
  let total := (s.image t i).bytes.length
  if !flags.getLsbD 1 then s.ok c (leBytes 4 total)
  else
    let s := s.setNvm fun n => { n with imports := n.imports.filter fun x => !(x.stage == stageKey t i && x.port == p) }
    let bs := (s.image t i).bytes
    if imageGood t bs then
      (s.setImage t i fun x => { x with state := 2, version := word bs 4, length := word bs 12, bodyCrc := word bs 16 }).ok c
        (leBytes 4 total)
    else s.bad c 24

/-- R534: FW_STAGE. -/
def State.runFwStage (s : State) (c : Cmd) (target index flags : Byte) (off : Word) (data : List Byte) : State :=
  let t := target.toNat
  let i := index.toNat
  let first := flags.getLsbD 0
  if 2 < t then s.bad c 16
  else if 3 < i then s.bad c 17
  else if 3 < flags.toNat then s.bad c 18
  else if s.nvm.imports.any (fun o => o.stage.isSome && o.port != c.h.port) then s.retryOpen c
  else if t = 0 ∧ s.nvm.trial = true then s.notReady c 3
  else if s.pwr.pfActive then s.notReady c 3
  else if !first && (s.openImport c.h.port (stageKey t i)).isNone then s.bad c 18
  else if off.toNat % 4 != 0 ∨ areaSize t < off.toNat + data.length then s.bad c 20
  else
    let s := if first then s.setImage t i fun _ => { state := 1 } else s
    (s.openPiece c.h.port (stageKey t i) first).askWrite c

/-- R499, R530: leave of kind 6 is granted: a piece is written, a commit joins the writes in order. -/
def State.grantWrite (s : State) (p : Option Port) : State :=
  match p with
  | none => s.addJob .append
  | some q => match s.nvmCmd q with
    | some c => match c.body with
      | .calCommit _ => s.addJob (.commit q)
      | .calImport flags off data => s.importPiece c flags off data
      | .fwStage t i flags off data => s.stagePiece c t.toNat i.toNat flags off data
      | .fwActivate t i sc =>
        if t = 0 then s.addJob (.activateFw q (1 - s.nvm.running % 2) sc.toNat)
        else s.addJob (.activate q (if t = 2 then 4 else i.toNat) (t = 1 && sc.getLsbD 0))
      | _ => s
    | none => s

/-- R536: FW_ACTIVATE. -/
def State.runFwActivate (s : State) (c : Cmd) (target index scope : Byte) : State :=
  let t := target.toNat
  if 2 < t then s.bad c 16
  else if t = 1 ∧ 3 < index.toNat then s.bad c 17
  else if (if t = 0 then decide (2 < scope.toNat) else decide (1 < scope.toNat)) then s.bad c 18
  else if (s.image t index.toNat).state != 2 then s.bad c 16
  else s.askWrite c

/-- R539: FW_STATUS. -/
def State.runFwStatus (s : State) (c : Cmd) : State :=
  let n := s.nvm
  let slot (x : Image) : List Byte := leBytes 1 x.state ++ leBytes 3 0 ++ leWord x.version ++ leWord x.length ++ leWord x.bodyCrc
  let img (x : Image) : List Byte := leBytes 1 x.state ++ leBytes 3 0 ++ leWord x.bodyCrc
  s.ok c (leWord Config.romVersion ++ leBytes 1 n.running ++ leBytes 1 n.bootSet ++ leHalf n.session ++
    (n.slots.toList.flatMap slot) ++ (n.sets.toList.flatMap img))

/-- R537: a trial slot that has been command-ready for 10 s becomes ACTIVE, the other PREVIOUS. -/
def State.confirmTrial (s : State) : State :=
  let n := s.nvm
  if n.trial && n.running == n.activeSlot && s.sys.cmdReady && decide (s.sys.readyAt + ticksOfMs 10000 ≤ s.now) then
    (s.setNvm fun n => { n with
      trial := false
      slots := updAll n.slots fun i x => if i.val = n.activeSlot then { x with state := 4 }
        else { x with state := if x.state = 4 then 5 else x.state }
      pages := satAdd 32 n.pages 3 }).logFirmware
  else s

/-- R537: FW_TRIAL_CONFIRM. -/
def execFwTrialConfirm (dt : Nat) (s : State) : Host.Outcome State Fault Refusal := commit dt (fun s => s.confirmTrial) s

end Sys2Proof.Machine
end

