-- ==== Sys2Proof/Machine/DmaCmds.lean ====
section
/-!
DEFINITION. The DMA engine's register commands and request lines, its waits and its errors (R453 to R469).
-/
namespace Sys2Proof.Machine

/-- R458: DMA_START. -/
def execDmaStart (dt : Nat) (ch : Fin 32) (s : State) : Host.Outcome State Fault Refusal := commit dt (fun s => s.dmaStart ch) s

/-- R464: DMA_CMD_ABORT. -/
def execDmaCmdAbort (dt : Nat) (ch : Fin 32) (s : State) : Host.Outcome State Fault Refusal := commit dt (fun s => s.dmaAbort ch) s

/-- R467: DMA_CMD_CLEAR. -/
def execDmaCmdClear (dt : Nat) (ch : Fin 32) (s : State) : Host.Outcome State Fault Refusal := commit dt (fun s => (((s.dmaClear ch).causeGone 51 26).causeGone 51 27).causeGone 51 30) s

/-- R458, R460: DMA_SET_WRITE. -/
def execDmaSetWrite (dt : Nat) (ch : Fin 32) (shadow : Bool) (reg : Fin 5) (value : Word) (s : State) :
    Host.Outcome State Fault Refusal :=
  commit dt (fun s => s.dmaWriteSet ch shadow reg.val value) s

/-- R453, R468: DMA_SWREQ: lines 48 to 79; others are ignored. -/
def State.dmaSwreq (s : State) (line count : Nat) : State :=
  if 48 ≤ line ∧ line ≤ 79 then s.dmaRequest line (count % 256) else s

/-- R453: DMA_SWREQ. -/
def execDmaSwreq (dt : Nat) (line : Fin 256) (count : Nat) (s : State) : Host.Outcome State Fault Refusal :=
  commit dt (fun s => s.dmaSwreq line.val count) s

/-- R453, R468: DMA_SWREQ_HOST: line 80 + INDEX. -/
def State.dmaSwreqHost (s : State) (index count : Nat) : State := s.dmaRequest (80 + index % 16) (count % 256)

/-- R453: DMA_SWREQ_HOST. -/
def execDmaSwreqHost (dt : Nat) (index : Fin 16) (count : Nat) (s : State) : Host.Outcome State Fault Refusal :=
  commit dt (fun s => s.dmaSwreqHost index.val count) s

/-- R453: DMA_REQUEST. -/
def execDmaRequest (dt : Nat) (line : Fin 48) (s : State) : Host.Outcome State Fault Refusal :=
  commit dt (fun s => s.dmaRequest line.val 1) s

/-- R461: a burst in progress has waited more than 100 µs. -/
def State.preemptLong (s : State) (c : Fin 32) : State :=
  match s.dma.chans[c].waitAt with
  | some t => if t + 40000 < s.now then s.raiseLevel true 51 18 else s
  | none => s

/-- R461: PREEMPT_LONG. -/
def execPreemptLong (dt : Nat) (ch : Fin 32) (s : State) : Host.Outcome State Fault Refusal := commit dt (fun s => s.preemptLong ch) s

/-- R469: a started burst has not finished after 1 ms. -/
def State.dmaWatchdog (s : State) (c : Fin 32) : State :=
  let x := s.dma.chans[c]
  if x.burst.isSome && decide (x.burstAt + 400000 ≤ s.now) then s.raiseLevel true 51 31 else s

/-- R469: DMA_WATCHDOG. -/
def execDmaWatchdog (dt : Nat) (ch : Fin 32) (s : State) : Host.Outcome State Fault Refusal := commit dt (fun s => s.dmaWatchdog ch) s

/-- R469: a channel has been halted for 10 ms. -/
def State.haltWait (s : State) (c : Fin 32) : State :=
  let x := s.dma.chans[c]
  if x.state = 6 ∧ x.haltAt + 4000000 ≤ s.now then s.raiseLevel true 51 24 else s

/-- R469: HALT_WAIT. -/
def execHaltWait (dt : Nat) (ch : Fin 32) (s : State) : Host.Outcome State Fault Refusal := commit dt (fun s => s.haltWait ch) s

/-- R465, R466: a channel halts with a bus error: the beat's address, direction and kind are latched. -/
def State.dmaHalt (s : State) (c : Fin 32) (addr : Nat) (write tail : Bool) (kind : Nat) : State :=
  let s := (s.dmaResult c 3).dmaStop c 6
  let s := s.setDma c fun x => { x with
    errAddr := addr % 2 ^ 36, errWrite := write, errKind := kind, tailErr := tail, shadow := {} }
  (s.raiseHeld 51 (dmaGroup c + (if tail then 3 else 2))).answerAbort c

end Sys2Proof.Machine
end

