-- ==== Sys2Proof/Machine/Events.lean ====
section
/-!
DEFINITION. The commands and events of the event logic (R470 to R493) and factory test mode (R488 to R490).
-/
namespace Sys2Proof.Machine

/-- R492: the severities of sources `b` to `b + 15` of a block, two bits each. -/
def State.sevWord (s : State) (k b : Nat) : Nat :=
  (List.range 16).foldl (fun n i => n + s.severity ⟨k, b + i⟩ * 4 ^ i) 0

/-- R492: the event registers of a block, in offset order. -/
def State.evWord (s : State) (k : Fin 53) (i : Nat) : Word :=
  let b := s.ev.blocks[k]
  match i with
  | 0 => b.status
  | 1 => b.cause
  | 2 => BitVec.ofNat 32 (s.sevWord k 0)
  | 3 => BitVec.ofNat 32 (s.sevWord k 16)
  | 4 => BitVec.ofNat 32 (b.last + bit 7 b.lastInjected)
  | 5 => b.lastTime
  | 6 => b.firstTime
  | _ => BitVec.ofNat 32 b.count

/-- R493: SYS_FAULT. -/
def State.sysFault (s : State) : Nat :=
  bit 0 s.faultLevel + bit 1 s.faultByEvents + bit 2 s.faultByWellhead + bit 3 s.escalated + s.faultThresh * 256

/-- R487: EVT_STATUS. -/
def State.runEvtStatus (s : State) (c : Cmd) (block : Byte) : State :=
  if h : block.toNat < 53 then s.ok c ((List.range 8).flatMap fun i => leWord (s.evWord ⟨block.toNat, h⟩ i))
  else if block = 0xFF then
    s.ok c (leBytes 8 s.summary ++ leBytes 8 s.fsummary ++ leBytes 1 s.faultThresh ++ leBytes 1 (s.sysFault % 16) ++
      leBytes 2 0 ++ leBytes 4 s.ev.late)
  else s.bad c 16

/-- R478, R479: a clear of the masked bits of one block. -/
def State.evtClear (s : State) (k : Fin 53) (mask : Word) : State :=
  { s with ev := { s.ev with blocks := upd s.ev.blocks k (·.clear (mask &&& definedMask k)) } }

/-- R478: EVT_CLEAR. -/
def State.runEvtClear (s : State) (c : Cmd) (block : Byte) (mask : Word) : State :=
  if h : block.toNat < 53 then
    let k : Fin 53 := ⟨block.toNat, h⟩
    if mask &&& ~~~definedMask k != 0 then s.bad c 20
    else
      let s := s.evtClear k mask
      let still := s.ev.blocks[k].status &&& mask
      s.reply c 0 (if still = 0 then 0 else 1) (leWord still)
  else if block = 0xFF then
    let s := (fins 53).foldl (fun s k => s.evtClear k mask) s
    let still := (fins 53).foldl (fun n k => n + bit k.val (s.ev.blocks[k].status &&& mask != 0)) 0
    s.reply c 0 (if still = 0 then 0 else 1) (leBytes 8 still)
  else s.bad c 16

/-- R483: EVT_SEVERITY. -/
def State.runEvtSeverity (s : State) (c : Cmd) (block bit severity : Byte) : State :=
  let src : Src := ⟨block.toNat, bit.toNat⟩
  if 52 < block.toNat then s.bad c 16
  else if !src.defined then s.bad c 17
  else if 3 < severity.toNat ∨ ((resetSeverities block.toNat).getD bit.toNat 0 = 3 ∧ severity.toNat < 2) then s.bad c 18
  else if s.locked 0x0E01 block.toNat || (s.openFor 0x0E01 block.toNat).isSome then s.retryOpen c
  else (s.writeBoth 0x0E01 block.toNat bit.toNat [severity]).ok c []

/-- R490: EVT_INJECT; without factory test mode the opcode does not exist. -/
def State.runEvtInject (s : State) (c : Cmd) (block bit mode : Byte) (holdUs : Word) : State :=
  let src : Src := ⟨block.toNat, bit.toNat⟩
  if !s.sys.factoryTest then s.fail c 4 0
  else if 52 < block.toNat then s.bad c 16
  else if !src.defined then s.bad c 17
  else if 1 < mode.toNat then s.bad c 18
  else if mode = 1 ∧ (holdUs.toNat = 0 ∨ 1000000 < holdUs.toNat) then s.bad c 20
  else if mode = 0 then (s.noteOverflow (s.occur src false true)).ok c []
  else
    let s := s.noteOverflow (s.occur src true true)
    let holds := (s.ev.holds.filter fun x => x.1 != src) ++ [(src, s.now + ticksOfUs holdUs.toNat)]
    { s with ev := { s.ev with holds } }.ok c []

/-- R490: the cause of an injection is gone. -/
def State.endInjection (s : State) (src : Src) : State :=
  if h : src.block < 53 then
    { s with ev := { s.ev with
        holds := s.ev.holds.filter (·.1 != src)
        blocks := upd s.ev.blocks ⟨src.block, h⟩ fun b => { b with injected := b.injected &&& ~~~(1#32 <<< src.bit) } } }
  else s

/-- R490: INJECT_HOLD_END, once HOLD_US has passed. -/
def State.holdEnd (s : State) (src : Src) : State :=
  match s.ev.holds.find? (·.1 == src) with
  | some h => if h.2 ≤ s.now then s.endInjection src else s
  | none => s

/-- R490: INJECT_HOLD_END. -/
def execInjectHoldEnd (dt : Nat) (block : Fin 53) (bit : Fin 32) (s : State) : Host.Outcome State Fault Refusal :=
  commit dt (fun s => s.holdEnd ⟨block.val, bit.val⟩) s

/-- R479: EV_STATUS_W1C. -/
def execEvStatusW1c (dt : Nat) (block : Fin 53) (value : Word) (s : State) : Host.Outcome State Fault Refusal :=
  commit dt (fun s => s.evtClear block value) s

/-- R488: factory test mode ends: injection holds end and FACTORY_TEST's cause is gone. -/
def State.leaveTest (s : State) : State :=
  let s := s.ev.holds.foldl (fun s h => s.endInjection h.1) s
  { s with sys := { s.sys with factoryTest := false } }

/-- R488: TEST_MODE. -/
def State.runTestMode (s : State) (c : Cmd) (mode : Byte) : State :=
  let may := s.ctxs.toList.all (fun x => !x.streaming) && s.au 0x0B01 65535 0 1 == 0 &&
    (s.twin.state == .single || s.twin.state == .forming || s.twin.state == .quarantine) && s.domOn 21
  if 1 < mode.toNat then s.bad c 16
  else if mode = 1 then
    if c.h.port = .p3 && may then
      ({ s with sys := { s.sys with factoryTest := true } }.raiseHeld 52 30).ok c (leBytes 4 1)
    else s.notReady c 3
  else s.leaveTest.ok c (leBytes 4 0)

/-- R489: the queues of a target bit. -/
def bistQueues (targets : Word) : List (Fin 43) :=
  (fins 43).filter fun q =>
    if q.val < 32 then targets.getLsbD 0 else if q.val < 40 then targets.getLsbD 1 else targets.getLsbD 2

/-- R489: the result of the queues of one target: pass, pass with corrected errors, pass after repair, fail. -/
def State.bistQueueResult (s : State) (qs : List (Fin 43)) : Nat :=
  let corr := qs.foldl (fun n q => n + s.queues[q].sweepCorr) 0
  let code := if qs.any fun q => s.queues[q].state == 5 then 4
    else if qs.any fun q => s.queues[q].sweepRepair != 0 then 3
    else if corr != 0 then 2 else 1
  code + min corr 65535 * 256

/-- R489: a result that the spec leaves to the arrays: pass or pass with corrected errors, and its count, free. -/
def State.bistFree (s : State) (fails : Bool) : Nat :=
  let n := Config.freeMeasure s.freeCtr % 65536
  if fails then 4 + n * 256 else if n = 0 then 1 else 2 + n * 256

/-- R489: the reply of a TEST_BIST, once its queue sweeps have ended. -/
def State.answerBist (s : State) : State :=
  s.answerWaiting
    (fun w => match w with | .bist t => (bistQueues t).all fun q => s.queues[q].state != 1 | _ => false)
    fun s c => match c.body with
      | .testBist t =>
        let group (i : Nat) : List (Fin 43) := (bistQueues t).filter fun q =>
          (if q.val < 32 then 0 else if q.val < 40 then 1 else 2) == i
        let res (i : Nat) : Nat :=
          if !t.getLsbD i then 0
          else if i < 3 then s.bistQueueResult (group i)
          else { s with freeCtr := s.freeCtr + i }.bistFree (i == 5 && !s.nvm.valid)
        { s with freeCtr := s.freeCtr + 6 }.ok c ((List.range 6).flatMap fun i => leBytes 4 (res i))
      | _ => s

/-- R489: TEST_BIST: the selected queues are swept; the reply waits for them. -/
def State.runTestBist (s : State) (c : Cmd) (targets : Word) : State :=
  if !s.sys.factoryTest then s.notReady c 3
  else if targets = 0 ∨ 63 < targets.toNat then s.bad c 16
  else
    let s := (bistQueues targets).foldl (fun (s : State) q =>
      { s with queues := upd s.queues q fun x => { x with state := 1, sweepCorr := 0, sweepRepair := 0 } }) s
    (s.wait c (.bist targets)).answerBist

end Sys2Proof.Machine
end

