-- ==== Sys2Proof/Machine/Streams.lean ====
section
/-!
DEFINITION. Starting and stopping streams (R574 to R576).
-/
namespace Sys2Proof.Machine

/-- R574: the tick of a start or stop in twin-pair configuration: what the lead decided, or the first whole microsecond at least
100 µs after acceptance. -/
def State.streamInstant (s : State) (h : Hdr) : Int :=
  match h.mirror.bind (·.decided) with
  | some t => s.extend t
  | none => (s.clock.ext + 100999) / 1000 * 1000

/-- The contexts of a mask. -/
def maskCtxs (mask : Wide) : List (Fin 64) := (fins 64).filter fun c => mask.getLsbD c.val

/-- The mask of a list of contexts. -/
def ctxMask (cs : List (Fin 64)) : Wide := cs.foldl (fun m c => m ||| (1#64 <<< c.val)) 0

/-- R437: the context's stream needs LPDDR6: a map, a history, or a view that a channel merges. -/
def State.needsMem (s : State) (c : Fin 64) : Bool :=
  s.au 0x0303 c 56 2 != 65535 || (s.au 0x0303 c 0 1).testBit 1 ||
    (List.range 16).any fun ch => s.au 0x0802 ch 0 1 == 1 &&
      (List.range (s.au 0x0802 ch 3 1)).any fun i => s.au 0x0802 ch (8 + 4 * i) 1 == c.val

/-- R189, R174: bytes of the strip block of a context that go in, and of the history that goes out. -/
def State.blockSizes (s : State) (c : Fin 64) : Nat × Nat :=
  let w := s.au 0x0201 c 12 2 * 32
  let map := s.au 0x0303 c 56 2
  let tnr := (s.au 0x0303 c 0 1).testBit 1
  (w * ((if map = 65535 then 0 else mapSize (s.mapU map 0 1)) + (if tnr then 4 else 0)), if tnr then w * 4 else 0)

/-- R160: the requests for the block of the strip after this one. -/
def State.askBlock (s : State) (r : Fin 8) (c : Fin 64) : State :=
  let b := s.blockSizes c
  s.postBlocks r b.1 b.2

/-- R574, R110, R115, R174, R216: a context begins streaming. -/
def State.beginStream (s : State) (c : Fin 64) : State :=
  let o := s.trigOut c
  let q := s.expo.pulses[o]
  let s := s.setExpo c fun x => { x with cursor := q.base + q.recs.length }
  let runnel := s.au 0x0301 c 0 1
  let buffer := s.ctxs[c].buffer
  let s := s.setCtx c fun _ => { streaming := true, lineAt := s.now, startAt := s.now, runnel, buffer }
  let s := s.setCarry c fun _ => {}
  let s := { s with stats := upd s.stats c fun x => { x with next := 0, open_ := none } }
  let s := if s.lineScan c then s else (s.runnelsOf c).foldl (fun s r => s.askBlock (Fin.ofNat 8 r) c) s
  (s.causeGone (s.portOf c) 15).startView c

/-- R574: every context of the mask begins in one tick, and the command is answered. -/
def State.beginStreams (s : State) (c : Cmd) (mask : Wide) : State :=
  let s := (maskCtxs mask).foldl (fun s x => if s.streams x then s else s.beginStream x) s
  let first := if s.cf.state = 1 then BitVec.ofInt 32 s.cf.first else 0xFFFFFFFF
  s.refreshPlan.ok c (leBytes 8 mask.toNat ++ leWord first ++ leWord s.rowNo)

/-- R574: with every grant made the contexts start: at once, or in twin-pair configuration at the tick that was fixed. -/
def State.startGranted (s : State) (c : Cmd) (mask : Wide) : State :=
  if s.twinPair then
    s.setPort c.h.port fun q => { q with running := q.running.map fun r => { r with
      wait := .streamTick mask (match r.wait with | .streamLeave _ _ _ (some t) => t | _ => 0) } }
  else s.beginStreams c mask

/-- R574: what STREAM_START checks beside its mask. -/
def State.startBlocked (s : State) (h : Hdr) (cs : List (Fin 64)) : Nat :=
  if h.port = .p0 ∧ s.win.dynAddr.isNone then 1
  else if s.sys.factoryTest then 3
  else if cs.any fun c => s.queues[inletQueue (s.itemPort c)].state == 5 || (!s.memReady && s.needsMem c) then 3
  else 0

/-- R574, R503: the leave of each context, in ascending order; a refusal withdraws those before it. -/
def State.askStreams (s : State) (c : Cmd) : List (Fin 64) → State × Nat
  | [] => (s, 0)
  | x :: xs =>
    let cost := s.contextCost x
    let r : LeaveReq := { who := .context x (some c.h.port), kind := 4, cost, prio := 4, at_ := s.now, limit := some (s.leaveLimit c.h) }
    match s.refuseLeave cost with
    | some k => (s.denyLeave r k (if k = 1 then 7 else 1), k)
    | none => (s.enqueue r).askStreams c xs

/-- The requests and grants of a port's STREAM_START for contexts that do not stream yet. -/
def State.dropStreams (s : State) (p : Port) : State :=
  s.release fun w => match w with | .context x (some q) => q == p && !s.streams x | _ => false

/-- R574, R53: STREAM_START. -/
def State.runStreamStart (s : State) (c : Cmd) (mask : Wide) : State :=
  match s.startBlocked c.h (maskCtxs mask) with
  | 0 =>
    if mask = 0 ∨ (maskCtxs mask).any (fun x => !s.ctxEnabled x) then s.bad c 16
    else
      let cs := (maskCtxs mask).filter fun x => !s.streams x
      if cs.isEmpty then s.beginStreams c 0
      else
        let (s, refused) := s.askStreams c cs
        match refused with
        | 0 => s.wait c (.streamLeave (ctxMask cs) cs [] (if s.twinPair then some (s.streamInstant c.h) else none))
        | 1 => (s.dropStreams c.h.port).fail c 7 0
        | _ => (s.dropStreams c.h.port).retry c 0x0C01
  | n => s.notReady c n

/-- R428, R429: the joining unit has leave for a context: it streams; with the last one the unit reports that it is ready. -/
def State.joinContext (s : State) (x : Fin 64) : State :=
  if s.twin.state = .admitting ∧ s.twin.joining.contains x = true then
    let s := (if s.streams x then s else s.beginStream x).setTwin fun t => { t with joining := t.joining.filter (· != x) }
    if s.twin.joining.isEmpty then s.sendG (.control 7 0 0) else s
  else s

/-- R574: the leave of a context is granted. -/
def State.grantContext (s : State) (x : Fin 64) (port : Option Port) : State :=
  match port with
  | none => s.joinContext x
  | some p => match (s.port p).running with
    | none => s
    | some r => match r.wait with
      | .streamLeave mask togo granted t =>
        let rest := togo.filter (· != x)
        let s := s.setPort p fun q => { q with running := some { r with wait := .streamLeave mask rest (granted ++ [x]) t } }
        if rest.isEmpty then s.startGranted ⟨r.h, r.body⟩ mask else s
      | _ => s

/-- R575: the contexts of a mask stop; the command is answered when their views have ended. -/
def State.stopStreams (s : State) (c : Cmd) (mask : Wide) : State :=
  let cs := (maskCtxs mask).filter fun x => s.streams x
  let s := s.wait c (.streamStop (ctxMask cs))
  (cs.foldl State.stopContext s).answerStops.refreshPlan

/-- R575: STREAM_STOP; in twin-pair configuration at the tick that the lead fixes. -/
def State.runStreamStop (s : State) (c : Cmd) (mask : Wide) : State :=
  if mask = 0 then s.bad c 16
  else if s.twinPair then s.wait c (.streamTick mask (s.streamInstant c.h))
  else s.stopStreams c mask

/-- R574, R575: the tick of a mirrored start or stop has come. -/
def State.streamTick (s : State) : State :=
  allPorts.foldl (fun s p => match (s.port p).running with
    | some r => match r.wait with
      | .streamTick mask t =>
        if t ≤ s.clock.ext then
          match r.body with
          | .streamStop _ => s.stopStreams ⟨r.h, r.body⟩ mask
          | _ => s.beginStreams ⟨r.h, r.body⟩ mask
        else s
      | _ => s
    | none => s) s

/-- R574: STREAM_START_TICK. -/
def execStreamStartTick (dt : Nat) (s : State) : Host.Outcome State Fault Refusal := commit dt (fun s => s.streamTick) s

/-- R576: STREAM_STATUS. -/
def State.runStreamStatus (s : State) (c : Cmd) : State :=
  let streaming := ctxMask ((fins 64).filter fun x => s.streams x)
  let first : Word := if s.cf.state = 0 then 0xFFFFFFFF else BitVec.ofInt 32 s.cf.first
  s.ok c (leBytes 8 streaming.toNat ++ leBytes 1 s.cf.state ++ leBytes 1 s.weir.state ++ leBytes 2 0 ++ leWord first ++
    leWord (BitVec.ofInt 32 s.cf.oldest) ++ leWord s.rowNo ++
    (fins 8).flatMap fun q => leWord s.weir.seqs[q] ++ leWord s.weir.lastRows[q])

end Sys2Proof.Machine
end

