-- ==== Sys2Proof/Machine/RunnelRows.lean ====
section
/-!
DEFINITION. The commands of the runnels (R146 to R166, R221, R273): decisions, items, map blocks and moves.
-/
namespace Sys2Proof.Machine

/-- R494, R164: the runnel works: its pair's domain is ON and its record has ENABLE 1. -/
def State.runnelOn (s : State) (r : Fin 8) : Bool :=
  s.domOn ⟨8 + r.val / 2, by omega⟩ && s.au 0x0302 r 0 1 == 1

/-- R153: the runnel decides, once for each item: the earliest deadline among the candidates. -/
def State.decideRunnel (s : State) (r : Fin 8) : State :=
  let s := s.markHeads
  if s.runnelOn r && s.runnels[r].next.isNone then
    match s.decide_ r with
    | none => s
    | some i => s.setRunnel r fun x => { x with next := some i, state := if x.cur.isNone then 1 else x.state }
  else s

/-- R153: RUNNEL_DECISION. -/
def execRunnelDecision (dt : Nat) (runnel : Fin 8) (s : State) : Host.Outcome State Fault Refusal :=
  commit dt (fun s => s.decideRunnel runnel) s

/-- R161: the strip's lines are replaced by GAP lines. -/
def State.replaceStrip (s : State) (r : Fin 8) : State :=
  (s.setRunnel r fun x => { x with
    cur := x.cur.map fun i => { i with replaced := true }, state := 2, mapTimeouts := satInc 16 x.mapTimeouts }).raise (32 + r.val) 4

/-- R149: the runnel runs, or waits for a line of the strip. -/
def State.noteStrip (s : State) (r : Fin 8) : State :=
  s.setRunnel r fun x => { x with state := if itemComplete (s.curPackets r) then 2 else 3 }

/-- R160, R161: a strip that needs a map block finds it, waits for it, or is replaced. -/
def State.takeBlock (s : State) (r : Fin 8) (i : Item) : State :=
  if !s.needsBlock i (s.curPackets r) then s.noteStrip r
  else if s.mapDmaBad r then (s.raiseHeld (32 + r.val) 5).replaceStrip r
  else if s.runnels[r].mapReady then
    ((s.setRunnel r fun x => { x with mapReady := false }).askBlock r i.ctx).noteStrip r
  else (s.setRunnel r fun x => { x with state := 4, stallAt := s.now }).raise (32 + r.val) 3

/-- R151, R152, R155: the banks swap and the chosen item starts. -/
def State.startItem (s : State) (r : Fin 8) : State :=
  let x := s.runnels[r]
  match x.next, x.cur with
  | some i, none =>
    let slack := s.slack i.deadline
    let late := decide (slack < 0)
    let switch := x.lastCtx.isSome && x.lastCtx != some i.ctx
    let s := s.setRunnel r fun x => { x with
      cur := some { i with startAt := s.now }, next := none, state := 2, lastCtx := some i.ctx, lastGap := i.gap
      curDl := time32 i.deadline, minSlack := min x.minSlack slack
      switches := if switch then satInc 32 x.switches else x.switches
      misses := if late then satInc 16 x.misses else x.misses }
    let s := s.raiseIf late (32 + r.val) 1
    s.takeBlock r i
  | _, _ => s

/-- R151: ITEM_START. -/
def execItemStart (dt : Nat) (runnel : Fin 8) (s : State) : Host.Outcome State Fault Refusal :=
  commit dt (fun s => s.startItem runnel) s

/-- R147, R175, R184: a strip of a ganged context starts with the lines the strip before it left. -/
def State.prepareGang (s : State) (c : Fin 64) (strip : Nat) (frame : Word) : State :=
  let p := s.itemPort c
  let bands := s.iprof c frame 1 1
  let prev := (s.inlets[p].queue.filter fun k => k.tag.ctx == c.val && k.tag.frame == frame && k.tag.strip.toNat + 1 == strip)
  let before := prev.drop (prev.length - 2 * bands)
  let tail := if strip = 0 then [{}, {}, {}, {}] else s.gangTail c (strip - 1) before
  s.setCarry c fun k => { k with
    index := strip * 32, bands := tail.map fun b => { b with donor := none }, group := [], groups := [] }

/-- R147: what a strip leaves to the strip after it. -/
def State.saveTail (s : State) (c : Fin 64) (strip : Nat) : State :=
  s.setCarry c fun k => { k with tails := ((strip, k.bands) :: k.tails).take 4 }

/-- R147: strips of the pair are counted, and GANG_SKEW follows their difference. -/
def State.noteGang (s : State) (c : Fin 64) (odd : Bool) : State :=
  let s := s.setCtx c fun x => { x with
    stripsEven := if odd then x.stripsEven else x.stripsEven + 1, stripsOdd := if odd then x.stripsOdd + 1 else x.stripsOdd }
  let x := s.ctxs[c]
  s.raiseLevel (decide (x.stripsEven < x.stripsOdd ∨ x.stripsOdd + 1 < x.stripsEven)) (32 + x.runnel) 10

/-- R155, R165, R166: what the end of an item's hold leaves in the runnel's registers. -/
def State.endHold (s : State) (r : Fin 8) (i : Item) : State :=
  let hold := s.now - i.startAt
  let s := s.raiseIf (decide (s.au 0x0302 r 2 2 * 400 < hold)) (32 + r.val) 2
  let old := s.runnels[r].busy.filter fun b => decide (s.now < b.2 + 400000)
  let busy := old ++ [(i.startAt, s.now)]
  let sum := busy.foldl (fun n b => n + (b.2 - max b.1 (s.now - 400000))) 0
  s.setRunnel r fun x => { x with
    cur := none, state := if x.next.isSome then 1 else 0, watched := false, busy
    peakBusy := max x.peakBusy (sum * 1000 / 400000) }

/-- R149, R186, R265: an item ends: its lines were corrected, tapped and resampled, and its packets are released. -/
def State.endItem (s : State) (r : Fin 8) : State :=
  match s.runnels[r].cur with
  | none => s
  | some i =>
    let ks := s.curPackets r
    if s.runnels[r].state = 4 ∨ itemComplete ks = false then s
    else
      let t := (ks.headD { tag := {} }).tag
      let gang := s.ganged i.ctx && i.area
      let s := if gang then s.prepareGang i.ctx t.strip.toNat t.frame else s
      let (s, os) := s.runLines r i.ctx i.replaced ks
      let s := if gang then s.saveTail i.ctx t.strip.toNat else s
      let s := s.deliverLines r i.ctx t.strip.toNat os
      let s := s.releaseItem (s.itemPort i.ctx) ks
      let s := s.endHold r i
      let s := if gang then s.noteGang i.ctx i.odd else s
      ((s.pruneFrames i.ctx t.num).markHeads.drain i.ctx).finishApplies

/-- R149: ITEM_END. -/
def execItemEnd (dt : Nat) (runnel : Fin 8) (s : State) : Host.Outcome State Fault Refusal :=
  commit dt (fun s => s.endItem runnel) s

/-- R166: one item has held the runnel for more than 10 ms. -/
def State.runnelWatchdog (s : State) (r : Fin 8) : State :=
  match s.runnels[r].cur with
  | some i =>
    if i.startAt + ticksOfMs 10 < s.now ∧ s.runnels[r].watched = false then
      (s.setRunnel r fun x => { x with watched := true }).raiseHeld (32 + r.val) 11
    else s
  | none => s

/-- R166: RUNNEL_WATCHDOG. -/
def execRunnelWatchdog (dt : Nat) (runnel : Fin 8) (s : State) : Host.Outcome State Fault Refusal :=
  commit dt (fun s => s.runnelWatchdog runnel) s

/-- R149: STRIP_LINE_ARRIVAL. -/
def execStripLineArrival (dt : Nat) (runnel : Fin 8) (s : State) : Host.Outcome State Fault Refusal :=
  commit dt (fun s => if s.runnels[runnel].state = 3 then s.noteStrip runnel else s) s

/-- R160, R161: a map block has come: for the strip that waits, or ahead of the next one. -/
def State.blockDone (s : State) (r : Fin 8) : State :=
  let x := s.runnels[r]
  if x.state = 4 then
    let s := s.setRunnel r fun x => { x with stallCycles := satAdd 32 x.stallCycles ((s.now - x.stallAt) * 3) }
    match x.cur with
    | some i => (s.askBlock r i.ctx).noteStrip r
    | none => s
  else s.setRunnel r fun x => { x with mapReady := true }

/-- R161: MAP_BLOCK_COMPLETE. -/
def execMapBlockComplete (dt : Nat) (runnel : Fin 8) (s : State) : Host.Outcome State Fault Refusal :=
  commit dt (fun s => s.blockDone runnel) s

/-- R161: a due strip's block has not come within MAP_TIMEOUT. -/
def State.mapLate (s : State) (r : Fin 8) : State :=
  let x := s.runnels[r]
  if x.state = 4 ∧ x.stallAt + ticksOfUs (s.au 0x0302 r 4 4) ≤ s.now then
    let s := s.setRunnel r fun x => { x with stallCycles := satAdd 32 x.stallCycles ((s.now - x.stallAt) * 3) }
    s.replaceStrip r
  else s

/-- R161: MAP_TIMEOUT. -/
def execMapTimeout (dt : Nat) (runnel : Fin 8) (s : State) : Host.Outcome State Fault Refusal :=
  commit dt (fun s => s.mapLate runnel) s

/-- R146, R177: a context whose leave is granted, and whose earlier items have ended, starts on its new runnel. -/
def State.moveContext (s : State) (c : Fin 64) : State :=
  let granted := s.holds fun w => match w with | .move d => d == c | _ => false
  let busy := s.runnels.toList.any fun r => match r.cur with | some i => i.ctx == c | none => false
  let mine := s.inlets[s.itemPort c].queue.filter fun k => k.tag.ctx == c.val && !k.taken
  let before := match mine with | k :: _ => !s.movesBy c k.tag | [] => s.au 0x0301 c 0 1 == s.ctxs[c].runnel
  if granted && s.ctxs[c].moving && !busy && !before then
    let r := s.au 0x0301 c 0 1
    let s := s.setCtx c fun x => { x with runnel := r, moving := false }
    let s := s.setCarry c fun k => { index := k.index, lostLines := 2, histValid := k.histValid, params := k.params }
    (s.raise (32 + r) 8).markHeads
  else s

/-- R146: CONTEXT_MOVE. -/
def execContextMove (dt : Nat) (ctx : Fin 64) (s : State) : Host.Outcome State Fault Refusal :=
  commit dt (fun s => s.moveContext ctx) s

/-- R221: a closed record takes the place of the latest one, which becomes the previous. -/
def State.publishStats (s : State) (r : Fin 8) : State :=
  match s.runnels[r].publish with
  | [] => s
  | (c, k) :: rest =>
    let s := s.setRunnel r fun x => { x with publish := rest }
    { s with stats := upd s.stats c fun x => { x with previous := x.latest, latest := some k } }

/-- R221: STATS_PUBLISH. -/
def execStatsPublish (dt : Nat) (runnel : Fin 8) (s : State) : Host.Outcome State Fault Refusal :=
  commit dt (fun s => s.publishStats runnel) s

/-- R273: the view's row in progress will be emitted as ALL_GAP. -/
def State.spoilView (s : State) (v : Fin 64) : State :=
  let r := s.runnelOf v
  let s := { s with views := upd s.views v fun x => { x with spoiled := x.active } }
  (s.setRunnel (Fin.ofNat 8 r) fun x => { x with corrCtx := v, corrBit := 23 }).raiseHeld (32 + r) 23

/-- R273: RS_CHECK. -/
def execRsCheck (dt : Nat) (view : Fin 64) (s : State) : Host.Outcome State Fault Refusal :=
  commit dt (fun s => s.spoilView view) s

end Sys2Proof.Machine
end

