-- ==== Sys2Proof/Machine/QueueRows.lean ====
section
/-!
DEFINITION. The commands of the packet queues (R127 to R141): crossings, checks, flushes and sweeps; and the replies that
wait for sweeps (R489, R497).
-/
namespace Sys2Proof.Machine

/-- R127: what a queue is: an inlet queue, a launch queue, the replay buffer or a Gelain queue. -/
inductive QueueKind where
  | inlet (p : Fin 32) | launch (q : Fin 8) | replay | gelain

/-- R127: the kind of a queue number. -/
def queueKind (q : Fin 43) : QueueKind :=
  if h : q.val < 32 then .inlet ⟨q.val, h⟩
  else if h : q.val < 40 then .launch ⟨q.val - 32, by omega⟩
  else if q.val = 40 then .replay else .gelain

/-- R494: the power domain that holds a queue. -/
def queueDomain (q : Fin 43) : Fin 22 :=
  match queueKind q with
  | .inlet p => portDomain p
  | .launch _ => 12
  | .replay => 13
  | .gelain => 15

/-- R497: commands that wait for a domain are answered once it is usable and its queues have been swept. -/
def State.answerWakes (s : State) : State :=
  (fins 22).foldl (fun s d =>
    let sweeping := (fins 43).any fun q => queueDomain q == d && s.queues[q].state == 1
    if s.domOn d && !sweeping then
      s.answerWaiting (· == .domainWake d) fun s c => s.ok c (leBytes 1 2 ++ leBytes 3 0)
    else s) s

/-! ### Crossings -/

/-- R132, R148: committed packets become visible to the reader. -/
def State.crossToReader (s : State) (q : Fin 43) : State :=
  match queueKind q with
  | .inlet p => (s.setInlet p fun x => { x with seen := x.queue.length }).markHeads
  | .launch n => (s.setLaunch n fun x => { x with seen := x.pieces.length }).refreshEligible n
  | _ => s

/-- R132: released storage becomes visible to the writer. -/
def State.crossToWriter (s : State) (q : Fin 43) : State :=
  (s.setQueue q fun x => { x with used := x.used - x.freed, freed := 0 }).noteFill

/-- R132: POINTER_CROSSING. -/
def execPointerCrossing (dt : Nat) (queue : Fin 43) (toReader : Bool) (s : State) : Host.Outcome State Fault Refusal :=
  commit dt (fun s => if toReader then s.crossToReader queue else s.crossToWriter queue) s

/-! ### Flushes -/

/-- The packets of items that run, at a port. -/
def State.inWork (s : State) (p : Fin 32) : List InPacket :=
  (List.range 8).flatMap fun r => match (s.runnel r).cur with
    | some i => if s.itemPort i.ctx = p then s.curPackets r else []
    | none => []

/-- R137: every committed packet that the reader has not begun is discarded and counted. -/
def State.flushQueue (s : State) (q : Fin 43) : State :=
  let counted (s : State) (n used : Nat) : State :=
    s.setQueue q fun x => { x with flushed := satAdd 16 x.flushed n, used, freed := 0 }
  match queueKind q with
  | .inlet p =>
    let keep := s.inWork p
    let n := (s.inlets[p].queue.filter fun k => !k.taken && !keep.contains k).length
    let used := keep.foldl (fun n k => n + s.storageOf k.tag) 0
    counted (s.setInlet p fun x => { x with queue := keep, seen := keep.length }) n used
  | .launch l =>
    let n := s.spill[l].pieces.length
    let s := s.setLaunch l fun x => { x with pieces := [], seen := 0, next := 0, eligibleAt := none, drained := false, orderBad := false }
    ((counted s n 0).raise 47 25).noteFill
  | .replay =>
    let n := s.link.replay.length
    counted { s with link := { s.link with replay := [], resend := 0 } } n 0
  | .gelain => counted s 0 0

/-- R137: a flush that was requested takes effect; the queue goes on in service. -/
def State.takeFlush (s : State) (q : Fin 43) : State :=
  if s.queues[q].state = 3 then (s.flushQueue q).setQueue q fun x => { x with state := 2 } else s

/-- R137: QUEUE_FLUSH. -/
def execQueueFlush (dt : Nat) (queue : Fin 43) (s : State) : Host.Outcome State Fault Refusal :=
  commit dt (fun s => s.takeFlush queue) s

/-- R137, R141: a flush is requested; one that is pending is joined, and a queue out of service has nothing to flush. -/
def State.requestFlush (s : State) (index : Nat) : State :=
  if h : index < 43 then
    s.setQueue ⟨index, h⟩ fun x => { x with state := if x.state = 2 then 3 else x.state }
  else s

/-- R141: Q_FLUSH. -/
def execQFlush (dt : Nat) (index : Nat) (s : State) : Host.Outcome State Fault Refusal :=
  commit dt (fun s => s.requestFlush (index % 64)) s

/-! ### Checks and recovery -/

/-- R136: the runnels that read the port abort: what they were reading is discarded without a count. -/
def State.abortReaders (s : State) (p : Fin 32) : State :=
  let gone := s.inWork p
  let s := (fins 8).foldl (fun s r => match s.runnels[r].cur with
    | some i => if s.itemPort i.ctx = p then s.endHold r i else s
    | none => s) s
  s.setInlet p fun x => { x with queue := x.queue.filter fun k => !gone.contains k }

/-- R135, R136: the queue check fails: the reader stops, the queue is flushed and recovery begins. -/
def State.checkFails (s : State) (q : Fin 43) : State :=
  if s.queues[q].state = 2 ∨ s.queues[q].state = 3 then
    let s := s.setQueue q fun x => { x with state := 4, checkFail := true }
    match queueKind q with
    | .inlet p => ((s.abortReaders p).flushQueue q).raiseHeld p 18
    | .launch _ => (s.flushQueue q).raiseHeld 47 28
    | .replay => (s.flushQueue q).raiseHeld 48 30
    | .gelain => (s.flushQueue q).raiseHeld 49 31
  else s

/-- R136: QUEUE_CHECK_FAIL. -/
def execQueueCheckFail (dt : Nat) (queue : Fin 43) (s : State) : Host.Outcome State Fault Refusal :=
  commit dt (fun s => s.checkFails queue) s

/-! ### Sweeps -/

/-- R140: the sweep ends clean: the queue returns to service with its pointers reset. -/
def State.sweepClean (s : State) (q : Fin 43) (corrected : Nat) : State :=
  s.setQueue q fun x => { x with state := 2, used := 0, freed := 0, sweepCorr := satAdd 16 x.sweepCorr corrected }

/-- R140: no repair row remains: the queue goes out of service and its queue-check source stays active. -/
def State.sweepOut (s : State) (q : Fin 43) : State :=
  let s := s.setQueue q fun x => { x with state := 5, repairLeft := 0 }
  match queueKind q with
  | .inlet p => s.raiseLevel true p 18
  | .launch _ => (s.raiseLevel true 47 27).raiseLevel true 47 28
  | .replay => s.raiseLevel true 48 30
  | .gelain => s.raiseLevel true 49 31

/-- R140: a sweep ends: in service, restarted with rows repaired, or out of service. -/
def State.sweepQueue (s : State) (q : Fin 43) (r : SweepResult) : State :=
  if s.queues[q].state = 1 ∨ s.queues[q].state = 4 then
    match r with
    | .clean corrected => s.sweepClean q corrected
    | .outOfService => s.sweepOut q
    | .repaired rows corrected =>
      if s.queues[q].repairLeft < rows then s.sweepOut q
      else
        let s := s.setQueue q fun x => { x with
          repairLeft := x.repairLeft - rows, sweepRepair := x.sweepRepair + rows, sweepCorr := satAdd 16 x.sweepCorr corrected }
        match queueKind q with
        | .launch _ => s.raise 47 26
        | _ => s
  else s

/-- R140: QUEUE_SWEEP_END; replies that waited for sweeps follow. -/
def execQueueSweepEnd (dt : Nat) (queue : Fin 43) (result : SweepResult) (s : State) : Host.Outcome State Fault Refusal :=
  commit dt (fun s => ((s.sweepQueue queue result).answerBist).answerWakes) s

end Sys2Proof.Machine
end

