-- ==== Sys2Proof/Machine/ConfRows.lean ====
section
/-!
DEFINITION. The commands of Confluence (R283 to R300) and the failed checks of held state (R166, R190, R135).
-/
namespace Sys2Proof.Machine

/-- R273, R289: the first view row on a runnel's path reaches Confluence. -/
def State.arriveRow (s : State) (r : Fin 8) : State :=
  match s.runnels[r].path with
  | [] => s
  | q :: rest =>
    let d := s.rowDeadline q.row
    let late := decide (d ≤ s.clock.ext) && !s.inThisTick d
    let s := s.setRunnel r fun x => { x with path := rest, lateRows := if late then satInc 16 x.lateRows else x.lateRows }
    let s := if late then s.raiseCorr r q.view 22 else s
    (s.acceptRow q).answerStops

/-- R289: VIEW_ROW_ARRIVAL. -/
def execViewRowArrival (dt : Nat) (runnel : Fin 8) (s : State) : Host.Outcome State Fault Refusal :=
  commit dt (fun s => s.arriveRow runnel) s

/-- R285: the rows whose deadline has come are sealed. -/
def State.deadlineSeal (s : State) : State :=
  if s.cf.state = 0 then s else (s.sealDue s.cf.oldest (s.sealTop - s.cf.oldest + 1).toNat).sealComplete

/-- R285: ROW_DEADLINE_SEAL. -/
def execRowDeadlineSeal (dt : Nat) (s : State) : Host.Outcome State Fault Refusal := commit dt (fun s => s.deadlineSeal) s

/-- R287: ROW_RELEASE. -/
def execRowRelease (dt : Nat) (ecc : List (Nat × Nat)) (corrected : Nat) (s : State) : Host.Outcome State Fault Refusal :=
  commit dt (fun s => if s.cf.state = 0 then s else (s.releaseRow ecc corrected).causeGone 46 28) s

/-- R296: a released row has waited more than 25 µs for the Weir. -/
def State.stallOut (s : State) : State :=
  match s.cf.out with
  | [] => s
  | m :: _ => s.raiseIf (decide (m.at_ + ticksOfUs 25 < s.now)) 46 12

/-- R296: STALL_OUT. -/
def execStallOut (dt : Nat) (s : State) : Host.Outcome State Fault Refusal := commit dt (fun s => s.stallOut) s

/-- R300: an expected view has delivered nothing for 1,024 rows. -/
def State.viewSilent (s : State) (v : Fin 64) : State :=
  if 1024 ≤ s.cf.quiet[v] ∧ s.cf.silent.getLsbD v.val = false then
    (s.setCf fun f => { f with silent := f.silent ||| (1#64 <<< v.val) }).raiseHeld 46 17
  else s

/-- R300: VIEW_SILENT. -/
def execViewSilent (dt : Nat) (view : Fin 64) (s : State) : Host.Outcome State Fault Refusal :=
  commit dt (fun s => s.viewSilent view) s

/-- R293: blocks drain from the staging buffer into their slots, oldest first. -/
def State.drainStaging (s : State) (n : Nat) : State :=
  let s := (s.cf.staged.take n).foldl State.drainBlock s
  s.setCf fun f => { f with staged := f.staged.drop n }

/-- R293: BASIN_STAGING_DRAIN. -/
def execBasinStagingDrain (dt : Nat) (rows : Nat) (s : State) : Host.Outcome State Fault Refusal :=
  commit dt (fun s => s.drainStaging rows) s

/-- R531, R532, R540: an error in an MRAM word at its window offset: corrected, or uncorrectable in one copy, which the
device rewrites from the other. -/
def State.mramError (s : State) (off : BitVec 23) (corrected : Bool) : State :=
  if corrected then
    (s.setNvm fun n => { n with eccCorr := satInc 16 n.eccCorr, eccAddr := off.setWidth 32 }).raise 52 24
  else
    (s.setNvm fun n => { n with eccUncorr := satInc 16 n.eccUncorr, eccAddr := 0x80000000 + off.setWidth 32 }).raise 52 25

/-- A check of held state finds an error: its source, and what the spec says follows. -/
def State.parityError (s : State) (w : ParityPlace) : State :=
  match w with
  | .bank r => s.raise (32 + r.val) 9
  | .resampler r =>
    let s := { s with views := updAll s.views fun v x => { x with spoiled := x.spoiled || (x.active && s.boundTo v r) } }
    s.raiseHeld (32 + r.val) 23
  | .mapEntry r true => s.setRunnel r fun x => { x with cacheCorr := satInc 16 x.cacheCorr }
  | .mapEntry r false => s.raise (32 + r.val) 17
  | .lutEntry r true => s.setRunnel r fun x => { x with lutCorr := satInc 16 x.lutCorr }
  | .lutEntry r false => s.raise (32 + r.val) 18
  | .queueWord q => s.setQueue q fun x => { x with serviceCorr := satInc 16 x.serviceCorr }
  | .routing => s.raise 50 22
  | .merge => s.raiseHeld 46 28
  | .weights => s.raise 46 29
  | .rowHeader => s.raise 46 30
  | .background => s.raiseHeld 47 10
  | .spans => s.raiseHeld 47 11
  | .format => s.raiseHeld 47 12
  | .descriptor q => (s.requestFlush (32 + q.val)).raiseHeld 47 29
  | .link => s.raiseHeld 48 31
  | .twin => s.raise 49 31
  | .controller m => s.raiseHeld (40 + m.val) 15
  | .dmaSet => s.raiseHeld 51 27
  | .dmaCount => s.raiseHeld 51 29
  | .dmaBuffer c =>
    ((s.nextFree).dmaHalt c (Config.freeWord s.freeCtr).toNat true false 4).raiseHeld 51 26
  | .events => s.raise 52 31
  | .seal => s.raiseHeld 46 31
  | .basinFence => s.raiseHeld 46 16
  | .launchOrder q => (s.setLaunch q fun x => { x with orderBad := true }).raiseHeld 47 30
  | .earlyLaunch => s.raise 47 31
  | .bufferWord => s.raise 51 25
  | .arbiter => s.raiseHeld 51 28
  | .residue => s.raiseHeld 51 30
  | .fabric => s.raise 52 28
  | .mramWord off corrected => s.mramError off corrected
  | .joinLate b => s.raiseIf (s.twinPair && s.sluice.buses[b].busy) 50 21

/-- R166: PARITY_ERROR. -/
def execParityError (dt : Nat) (where_ : ParityPlace) (s : State) : Host.Outcome State Fault Refusal :=
  commit dt (fun s => s.parityError where_) s

end Sys2Proof.Machine
end

