-- ==== Sys2Proof/Machine/InletCmds.lean ====
section
/-!
DEFINITION. The image packets of a camera port: FRAME_START and LINE_PACKET, with the captures a pair exchanges (R417) and
the planned load after a boundary (R448).
-/
namespace Sys2Proof.Machine

/-- R417: the frame that a frame start opened is a capture. -/
def State.captureFrame (s : State) (port vc : Fin 32) (before : State) : State :=
  match if vc.val < 16 then s.ctxAt port vc else none with
  | none => s
  | some c =>
    let x := s.ctxs[c]
    if x.frameOpen && (x.frame != before.ctxs[c].frame || x.started != before.ctxs[c].started) then
      s.capture 2 c x.frame.toNat (time32 x.fsTime) 0
    else s

/-- R448: a boundary that changed the active records may change the planned load. -/
def State.replan (s : State) (before : State) : State :=
  if s.recs.frames.length = before.recs.frames.length then s else s.refreshPlan

/-- R110: FRAME_START. -/
def execFrameStart (dt : Nat) (port vc : Fin 32) (fn : Half) (s : State) : Host.Outcome State Fault Refusal :=
  commit dt (fun s => ((s.frameStart port vc fn).captureFrame port vc s).replan s) s

/-- R107: LINE_PACKET. -/
def execLinePacket (dt : Nat) (port : Fin 32) (pkt : LinePacket) (s : State) : Host.Outcome State Fault Refusal :=
  commit dt (fun s => ((s.endLine port pkt).captureLines port s.inlets[port].queue.length).replan s) s

end Sys2Proof.Machine
end

