-- ==== Sys2Proof/Machine/RegRead.lean ====
section
/-!
DEFINITION. Reads of the block registers (R7, R58 to R60), block by block: RC fields clear, latches are taken and
acquiring reads of semaphores take effect. An offset that names no register reads 0.
-/
namespace Sys2Proof.Machine

/-- A register of two 16-bit fields. -/
def two (hi lo : Nat) : Word := BitVec.ofNat 32 (hi % 65536 * 65536 + lo % 65536)

/-- A register word from a number. -/
def w32 (n : Nat) : Word := BitVec.ofNat 32 n

/-- The number of an entry of a table of registers from an offset, when the offset lies in the table. -/
def entryAt (base n off : Nat) : Option Nat :=
  if base ≤ off ∧ off < base + 4 * n then some ((off - base) / 4) else none

/-- Kibibytes of a number of bytes, rounded up. -/
def kib (n : Nat) : Nat := ceilDiv n 1024

/-! ### Blocks 0 to 31 -/

/-- R125: CAMPORTn. -/
def State.readCamport (s : State) (p : Fin 32) (off : Nat) : State × Word :=
  let x := s.inlets[p]
  let mode := s.au 0x0203 p 0 1
  match entryAt 0x10 4 off with
  | some i => (s, two (x.eyes.toList.getD i 0) (if mode = 2 then 0 else x.taps.toList.getD i 0))
  | none =>
    match off with
    | 0x000 => (s, w32 ((if mode = 0 then 0 else s.au 0x0203 p 1 1) * 65536 + mode * 256 + p.val))
    | 0x004 => (s, w32 (x.deskew * 1024 + bit 9 x.ulps + bit 8 x.clkActive + x.laneStop.toNat * 16 + x.lock.toNat))
    | 0x008 => (s.setInlet p fun x => { x with vcSeen := 0 }, w32 x.vcSeen.toNat)
    | 0x020 => (s, w32 (x.skew % 65536))
    | 0x024 => (s.setInlet p fun x => { x with hdrBad := 0, eccCorr := 0 }, two x.hdrBad x.eccCorr)
    | 0x028 => (s.setInlet p fun x => { x with wcBad := 0, crcBad := 0 }, two x.wcBad x.crcBad)
    | 0x02C => (s.setInlet p fun x => { x with vcUnmapped := 0, dtBad := 0 }, two x.vcUnmapped x.dtBad)
    | 0x030 => (s.setInlet p fun x => { x with dropped := 0, gaps := 0 }, two x.dropped x.gaps)
    | 0x034 =>
      let fill := s.queues[inletQueue p].used
      (s.setInlet p fun x => { x with peak := fill }, two (kib x.peak) (kib fill))
    | 0x038 => (s, x.lastFs)
    | _ => (s, 0)

/-! ### Blocks 32 to 39 -/

/-- R165: the slot of a runnel: a bound context, and whether it carries the odd strips of a gang. -/
def State.slotWord (s : State) (r : Fin 8) (i : Nat) : Nat :=
  match (s.slotsOf r)[i]? with
  | none => 0
  | some c =>
    let area := !s.lineScan c
    let pend := (s.inlets[s.itemPort c].waiting.filter fun t => t.ctx == c.val).length
    pend * 65536 + bit 13 (area && s.ganged c && s.au 0x0301 c 0 1 + 1 == r.val) + bit 12 area + 64 + c.val

/-- R165: RN_INFO. -/
def State.runnelInfo (s : State) (r : Fin 8) : Nat :=
  let slots := s.slotsOf r
  let area := slots.find? fun (c : Fin 64) => !s.lineScan c.val
  slots.length * 65536 + r.val +
    (match area with | some c => bit 12 (s.ganged c) + c.val * 64 + 32 | none => 0)

/-- R271: the store of a runnel's views, and what an accepted REC_APPLY that waits for its boundary brings in. -/
def State.rsStores (s : State) (r : Fin 8) : Nat × Nat :=
  let size (m : List Host.Cell) (v : Nat) : Nat :=
    recU m 0x0703 v 6 2 * (4 + 36 * recU m 0x0202 (recU m 0x0201 v 4 2) 1 1)
  let views (m : List Host.Cell) : List Nat := (enabledViews m).filter fun v => recBound m v r
  let used := (views s.recs.active).foldl (fun n v => n + size s.recs.active v) 0
  (kib used, kib (s.rsIncoming r.val))

/-- R165, R197, R275: RUNNELr. -/
def State.readRunnel (s : State) (r : Fin 8) (off : Nat) : State × Word :=
  let x := s.runnels[r]
  match entryAt 0x40 16 off, entryAt 0x240 16 off with
  | some i, _ => (s, w32 (s.slotWord r i))
  | none, some i =>
    (s, match (s.slotsOf r)[i]? with
      | some v => match s.views[v].next with | some k => BitVec.ofInt 32 k | none => 0
      | none => 0)
  | none, none =>
    match off with
    | 0x000 => (s, w32 (s.runnelInfo r))
    | 0x004 =>
      let ctx := match x.cur with | some i => i.ctx.val | none => match x.lastCtx with | some c => c.val | none => 0
      let gap := match x.cur with | some i => i.gap | none => x.lastGap
      (s, w32 (bit 14 gap + ctx * 256 + (if s.au 0x0302 r 0 1 = 0 then 5 else x.state)))
    | 0x008 => (s, x.curDl)
    | 0x00C =>
      let l := plannedLoad s.recs.active r
      (s.setRunnel r fun x => { x with peakBusy := 0 }, two x.peakBusy (min 65535 (l.1 * 1000 / l.2)))
    | 0x010 => (s.setRunnel r fun x => { x with minSlack := 0x7FFFFFFF }, BitVec.ofInt 32 x.minSlack)
    | 0x014 => (s.setRunnel r fun x => { x with switches := 0 }, w32 x.switches)
    | 0x018 => (s.setRunnel r fun x => { x with misses := 0, mapTimeouts := 0 }, two x.misses x.mapTimeouts)
    | 0x01C => (s.setRunnel r fun x => { x with stallCycles := 0 }, w32 x.stallCycles)
    | 0x100 => (s.setRunnel r fun x => { x with nrh := 0 }, w32 x.nrh)
    | 0x104 => (s.setRunnel r fun x => { x with sat := 0 }, w32 x.sat)
    | 0x108 => (s.setRunnel r fun x => { x with clipped := 0 }, w32 x.clipped)
    | 0x10C => (s.setRunnel r fun x => { x with replaced := 0 }, w32 x.replaced)
    | 0x110 => (s.setRunnel r fun x => { x with unrepaired := 0, bandGap := 0 }, two x.unrepaired x.bandGap)
    | 0x114 => (s.setRunnel r fun x => { x with cacheCorr := 0, lutCorr := 0 }, two x.cacheCorr x.lutCorr)
    | 0x118 => (s, w32 (x.corrCtx % 64 * 256 + x.corrBit % 32))
    | 0x11C =>
      let cs := (s.slotsOf r).take 16
      (s, w32 ((List.range cs.length).foldl (fun n i =>
        n + bit i (match cs[i]? with | some c => s.carries[c].histValid | none => false)) 0))
    | 0x200 => let u := s.rsStores r; (s, w32 (u.2 % 2048 * 65536 + u.1 % 2048))
    | 0x204 => let l := rsLoads s.recs.active r; (s, two l.2 l.1)
    | 0x208 => (s.setRunnel r fun x => { x with colRange := 0, rowRange := 0 }, two x.colRange x.rowRange)
    | 0x20C => (s.setRunnel r fun x => { x with rows := 0 }, w32 x.rows)
    | 0x210 => (s.setRunnel r fun x => { x with lateRows := 0, gapRows := 0 }, two x.lateRows x.gapRows)
    | _ => (s, 0)

/-! ### Blocks 40 to 47 -/

/-- R449: MCm. The peak busy fraction is a free value of at most 1,000. -/
def State.readMc (s : State) (m : Fin 6) (off : Nat) : State × Word :=
  let x := s.mem.ctls[m]
  match off with
  | 0x000 => (s, w32 (s.mem.capMib % 65536 * 65536 + s.mem.rate % 16 * 256 + s.mem.ranks % 4 * 64 + m.val))
  | 0x004 => (s, w32 (bit 8 x.derated + bit 7 x.repairPending + bit 3 x.inUse + x.state))
  | 0x008 => (s, w32 x.mr4.toNat)
  | 0x00C => (s.setMc m fun x => { x with uncorr := 0, corr := 0 }, two x.uncorr x.corr)
  | 0x010 => (s, w32 (bit 31 x.eccUncorr + x.eccWord % 2 ^ 30))
  | 0x014 =>
    (s.setMc m fun x => { x with passes := 0 }, two x.passes (if s.mcLines = 0 then 0 else x.line * 1000 / s.mcLines))
  | 0x018 => (s.nextFree, two ((Config.freeWord s.freeCtr).toNat % 1001) s.mem.planned)
  | 0x01C => (s.setMc m fun x => { x with slices := 0, maxStall := 0 }, two x.slices x.maxStall)
  | _ => (s, 0)

/-- R299: CF_CHANk. -/
def State.chanWord (s : State) (k : Nat) : Nat :=
  let on := s.cf.lastMask.testBit k
  s.cf.chanMissing.toList.getD k 0 % 65536 * 65536 + (if s.au 0x0802 k 0 1 = 1 then s.au 0x0802 k 3 1 % 16 * 16 else 0) +
    bit 2 (s.cf.lastIdle.testBit k) + bit 1 (s.au 0x0802 k 1 1 == 1) + bit 0 on

/-- R276, R299: CONFLUENCE. -/
def State.readConfluence (s : State) (off : Nat) : State × Word :=
  let f := s.cf
  match entryAt 0x40 16 off, entryAt 0x100 64 off with
  | some k, _ =>
    (s.setCf fun f => { f with chanMissing := upd f.chanMissing (Fin.ofNat 16 k) fun _ => 0 }, w32 (s.chanWord k))
  | none, some v => (s, f.viewLast.toList.getD v 0)
  | none, none =>
    let stitch := s.holds isStitch
    let rows := basinRows s.recs.active
    let slot := slotOf s.recs.active
    match off with
    | 0x000 => (s, w32 (bit 4 stitch + bit 3 (decide (slot != 0 ∧ rows * slot ≤ s.au 0x0801 65535 12 4 * 1024)) + f.state))
    | 0x004 => (s, BitVec.ofInt 32 f.first)
    | 0x008 => (s, BitVec.ofInt 32 f.oldest)
    | 0x00C => (s, two (slot / 1024) rows)
    | 0x010 =>
      let bw := ceilDiv (2 * basinBytes s.recs.active * 2560) s.tRow
      (s.setCf fun f => { f with peakStaging := kib s.stagingFill }, two bw f.peakStaging)
    | 0x014 => (s.setCf fun f => { f with missingRows := 0 }, w32 f.missingRows)
    | 0x018 => (s.setCf fun f => { f with lateDiscard := 0, ahead := 0 }, two f.lateDiscard f.ahead)
    | 0x01C => (s.setCf fun f => { f with lateTies := 0, nearSeal := 0 }, two f.lateTies f.nearSeal)
    | 0x020 => (s.setCf fun f => { f with conflicts := 0 }, w32 f.conflicts)
    | 0x024 => (s.setCf fun f => { f with uncorr := 0, corr := 0 }, two f.uncorr f.corr)
    | 0x800 =>
      ({ s with grid := { s.grid with
          latchHi := BitVec.ofInt 16 (s.grid.row / 4294967296), latchTref := time32 (s.tref s.grid.row) } },
       if s.grid.valid then s.rowNo else 0)
    | 0x804 => (s, w32 s.grid.latchHi.toNat)
    | 0x808 => (s, s.grid.latchTref)
    | 0x80C => ({ s with grid := { s.grid with stepped := false } }, w32 (bit 1 s.grid.stepped + bit 0 s.grid.valid))
    | _ => (s, 0)

/-- R322: the streams that run. -/
def State.runningStreams (s : State) : Nat := (List.range 8).foldl (fun n q => n + bit q (s.streamRuns q)) 0

/-- R322, R395: WEIR_SPILLWAY. -/
def State.readWeir (s : State) (off : Nat) : State × Word :=
  let w := s.weir
  let cell := (w.bg.getD w.selSlot []).getD w.selCol (0, false)
  match entryAt 0x40 8 off, entryAt 0x60 8 off, entryAt 0x100 8 off, entryAt 0x120 8 off, entryAt 0x140 8 off with
  | some i, _, _, _, _ => (s, w.seqs[Fin.ofNat 8 i])
  | _, some i, _, _, _ =>
    (s.setWeir fun w => { w with bytes := upd w.bytes (Fin.ofNat 8 i) fun _ => 0 }, w32 (w.bytes[Fin.ofNat 8 i] / 64))
  | _, _, some i, _, _ =>
    let q : Fin 8 := Fin.ofNat 8 i
    let x := s.spill[q]
    (s, w32 (x.pieces.length % 128 * 2 ^ 24 + kib s.queues[launchQueue q].used % 2048 * 2048 + bit 1 (s.queueBlocked q) +
      s.au 0x0A01 i 0 1 % 2))
  | _, _, _, some i, _ =>
    (s, match s.spill[Fin.ofNat 8 i].pieces with | p :: _ => time32 p.launch | [] => 0)
  | _, _, _, _, some i =>
    let q : Fin 8 := Fin.ofNat 8 i
    (s.setLaunch q fun x => { x with maxSlip := 0, late := 0 }, two s.spill[q].maxSlip s.spill[q].late)
  | none, none, none, none, none =>
    match off with
    | 0x000 => (s, w32 (w.learnLeft % 65536 * 65536 + s.runningStreams * 8 + bit 2 w.blind + w.state))
    | 0x008 => (s, w32 (w.lastSpans % 2048 * 65536 + w.lastOcc % 32768))
    | 0x00C => (s, w32 (bit 31 cell.2 + w.selSlot * 65536 + w.selCol))
    | 0x010 => (s, w32 cell.1)
    | 0x014 => (s.setWeir fun w => { w with rows := 0 }, w32 w.rows)
    | 0x018 => (s.setWeir fun w => { w with occSum := 0 }, w32 w.occSum)
    | 0x01C => (s.setWeir fun w => { w with capped := 0, limited := 0 }, two w.capped w.limited)
    | 0x020 => (s.setWeir fun w => { w with blindRows := 0, stuck := 0 }, two w.blindRows w.stuck)
    | 0x024 => (s.setWeir fun w => { w with clamped := 0 }, w32 w.clamped)
    | 0x160 => ({ s with launched := 0 }, w32 s.launched)
    | _ => (s, 0)

/-! ### Blocks 48 to 51 -/

/-- R361: UL_STATUS. -/
def State.linkStatusWord (s : State) : Nat :=
  let t := s.link.tr
  bit 24 t.lateTie + (match s.link.rot with | some r => r.logical % 16 * 2 ^ 20 + 2 ^ 19 | none => 0) +
    bit 18 s.link.txIdle + s.link.rate % 4 * 65536 + t.width % 32 * 256 + t.failStage % 16 * 16 + t.state % 16

/-- R361: UL_LQp. -/
def State.laneWord (s : State) (p : Nat) : Nat :=
  let x := s.link.tr.lanes.toList.getD p {}
  bit 23 (s.link.spares.getLsbD p) + bit 22 x.bad + bit 21 x.lol + bit 20 x.los + x.eyeMv % 1024 * 1024 + x.eyeMui % 1024

/-- One lane of the Uahorn link changed. -/
def State.setLane (s : State) (p : Nat) (f : SLane → SLane) : State :=
  s.setTrainer false fun t => { t with lanes := upd t.lanes (Fin.ofNat 18 p) f }

/-- R358: the checker of a lane runs: its count is what the line gives, a free value. -/
def State.laneTested (s : State) (p : Nat) : Bool :=
  match s.link.test with
  | some r => decide (1 ≤ r.mode.toNat ∧ r.mode.toNat ≤ 3) && r.lanes.getLsbD p
  | none => false

/-- R361: UAHORN. -/
def State.readUahorn (s : State) (off : Nat) : State × Word :=
  let l := s.link
  let lane (p : Nat) : SLane := l.tr.lanes.toList.getD p {}
  match entryAt 0x40 9 off, entryAt 0x80 8 off, entryAt 0x100 18 off, entryAt 0x180 18 off, entryAt 0x200 18 off,
    entryAt 0x280 4 off with
  | some c, _, _, _, _, _ => (s, BitVec.ofInt 32 (l.available (Fin.ofNat 9 c)))
  | _, some q, _, _, _, _ =>
    (s.setLink fun l => { l with qdrops := upd l.qdrops (Fin.ofNat 8 q) fun _ => 0 }, w32 l.qdrops[Fin.ofNat 8 q])
  | _, _, some p, _, _, _ => (s, w32 (s.laneWord p))
  | _, _, _, some p, _, _ =>
    (s.setLane p fun x => { x with lockLosses := 0, bipErr := 0 }, two (lane p).lockLosses (lane p).bipErr)
  | _, _, _, _, some p, _ =>
    if s.laneTested p then ((s.setLane p fun x => { x with prbs := 0 }).nextFree, Config.freeWord s.freeCtr)
    else (s.setLane p fun x => { x with prbs := 0 }, w32 (lane p).prbs)
  | _, _, _, _, _, some i =>
    let at_ (k : Nat) : Nat := l.tr.map.getD (4 * i + k) 255 % 256
    (s, w32 (at_ 0 + at_ 1 * 256 + at_ 2 * 65536 + at_ 3 * 16777216))
  | none, none, none, none, none, none =>
    match off with
    | 0x000 => (s.setTrainer false fun t => { t with lateTie := false }, w32 s.linkStatusWord)
    | 0x004 => (s, w32 l.tr.common.toNat)
    | 0x008 => (s, w32 l.spares.toNat)
    | 0x00C => (s, two l.tr.partner.toNat l.session.toNat)
    | 0x010 => (s, two l.nextTx.toNat (match l.replay with | f :: _ => f.lseq.toNat | [] => l.nextTx.toNat))
    | 0x014 => (s, w32 (l.skew % 65536))
    | 0x018 => (s.setLink fun l => { l with attempts := 0, retrains := 0 }, two l.attempts l.retrains)
    | 0x01C => (s.setLink fun l => { l with replays := 0, rxBad := 0 }, two l.replays l.rxBad)
    | _ => (s, 0)

/-- R432: TWIN. -/
def State.readTwin (s : State) (off : Nat) : State × Word :=
  let t := s.twin
  match off with
  | 0x000 =>
    (s.setTwin fun t => { t with lateTie := false },
     w32 (bit 24 t.lateTie + bit 23 t.deciding + bit 22 t.aloneCfg + bit 21 t.hbAlive + bit 20 t.gelainUp +
       bit 19 t.realign.isSome + (if t.gelainUp then s.gl.width % 8 else 0) * 65536 + t.partnerState.getD 0 % 8 * 256 +
       t.state.code))
  | 0x004 => (s, two s.nvm.epoch.toNat t.epoch.toNat)
  | 0x008 => (s, two t.partnerIdent.toNat t.partnerEpoch.toNat)
  | 0x00C => (s, t.cmpRow)
  | 0x010 => (s.setTwin fun t => { t with diverged := 0, sealEdge := 0 }, two t.diverged t.sealEdge)
  | 0x014 => (s.setTwin fun t => { t with uncompared := 0, tagMiss := 0 }, two t.uncompared t.tagMiss)
  | 0x018 => (s, if s.followsLead then BitVec.ofInt 32 t.timeOfs else 0)
  | 0x01C => (s.setTwin fun t => { t with dropped := 0, mirrored := 0 }, two t.dropped t.mirrored)
  | _ => (s, 0)

/-- R249: SL_BUSn. -/
def State.busWord (s : State) (b : Fin 32) : Nat :=
  let x := s.sluice.buses[b]
  x.posted % 32 * 2 ^ 24 + bit 16 (!x.holdLeft.isEmpty) + x.lastCode % 256 * 256 + bit 5 x.stuck + bit 4 (s.semHeld b) +
    bit 3 x.busy + bit 2 (s.twinPair && x.mode != 0) + x.mode

/-- R249: the state of a port's fetch slot. -/
def PortState.fetchCode (p : PortState) : Nat :=
  match p.fetch with
  | none => 0
  | some f => match f.result with | none => 1 | some (0, _) => 2 | some _ => 3

/-- R225, R249: SLUICE. -/
def State.readSluice (s : State) (off : Nat) : State × Word :=
  let x := s.sluice
  match entryAt 0x000 32 off, entryAt 0x400 64 off, entryAt 0x500 64 off with
  | some b, _, _ => (s, w32 (s.busWord (Fin.ofNat 32 b)))
  | _, some c, _ =>
    let e := s.expo.ctxs[Fin.ofNat 64 c]
    (s, two e.inForce.toNat (match e.sets with | q :: _ => q.id.toNat | [] => 0))
  | _, _, some c => (s, match s.expo.ctxs[Fin.ofNat 64 c].sets with | q :: _ => q.applied | [] => 0)
  | none, none, none =>
    match off with
    | 0x100 => (s, w32 (x.plogNext.toNat * 65536 + x.plogLost % 256 * 256 + x.plog.length % 32))
    | 0x108 => (s, w32 (realPorts.foldl (fun n p => n + (s.port p).fetchCode * 256 ^ p.toNat) 0))
    | 0x10C => ({ s with sluice := { x with transfers := 0 } }, w32 x.transfers)
    | 0x110 => ({ s with sluice := { x with nacks := 0, timeouts := 0 } }, two x.nacks x.timeouts)
    | 0x600 => ({ s with expo := { s.expo with missed := 0, lateAck := 0 } }, two s.expo.missed s.expo.lateAck)
    | 0x604 => ({ s with expo := { s.expo with failed := 0, unmatched := 0 } }, two s.expo.failed s.expo.unmatched)
    | _ => (s, 0)

/-- R468: the channel and register of a DMA offset. -/
def dmaPlace (off : Nat) : Option (Fin 32 × Nat) :=
  if 0x400 ≤ off ∧ off < 0xC00 then some (Fin.ofNat 32 ((off - 0x400) / 64), (off - 0x400) % 64) else none

/-- R468: DMA. -/
def State.readDma (s : State) (off : Nat) : State × Word :=
  let d := s.dma
  match dmaPlace off with
  | some (c, k) =>
    let x := d.chans[c]
    (s, if k < 0x14 then x.act.getWord (k / 4)
        else if k < 0x28 then x.shadow.getWord ((k - 0x14) / 4)
        else match k with
          | 0x28 => w32 x.statusWord
          | 0x2C => w32 x.residue
          | 0x30 => w32 x.errAddr
          | 0x34 => w32 x.errInfo
          | _ => 0)
  | none =>
    match off with
    | 0x000 => (s, w32 (96 * 256 + 32))
    | 0x004 => ({ s with dma := { d with results := 0 } }, d.results)
    | 0x008 => (s, w32 ((List.range 32).foldl (fun n i => n + bit i (d.chans[Fin.ofNat 32 i].state == 6)) 0))
    | 0x010 => ({ s with dma := { d with preempts := 0, drops := 0 } }, two d.preempts d.drops)
    | _ => (s, 0)

/-! ### Blocks 52 to 57 -/

/-- R524: the type of the calibration part in progress. -/
def State.calRunning (s : State) : Nat :=
  match s.nvm.runs_.find? fun x => x.began with
  | some x => match x.todo with | p :: _ => p.type | [] => x.type
  | none => if s.link.rot.isSome then 2 else if s.calBusy then 3 else 0

/-- R540: CAL_STATUS. -/
def State.calStatus (s : State) : Nat :=
  let n := s.nvm
  n.stored.serial.toNat % 65536 * 65536 + s.calRunning % 256 * 256 + n.stored.origin % 4 * 4 +
    bit 1 (n.working.bytes != n.stored.bytes) + bit 0 s.calWriting

/-- R540: NVM_STATUS. -/
def State.nvmStatus (s : State) : Nat :=
  let n := s.nvm
  n.session.toNat * 65536 + n.activeSlot % 256 * 256 + bit 7 n.trial + bit 6 s.pwr.pfHold +
    bit 5 (!n.jobs.isEmpty && !s.pwr.pfHold) + (if 3 < n.bootSet then 7 else n.bootSet)

/-- R493, R540, R577: SYSTEM. -/
def State.readSystem (s : State) (off : Nat) : State × Word :=
  let n := s.nvm
  match off with
  | 0x000 => ({ s with ev := { s.ev with summaryHi := w32 (s.summary / 2 ^ 32) } }, w32 s.summary)
  | 0x004 => (s, s.ev.summaryHi)
  | 0x008 => ({ s with ev := { s.ev with fsummaryHi := w32 (s.fsummary / 2 ^ 32) } }, w32 s.fsummary)
  | 0x00C => (s, s.ev.fsummaryHi)
  | 0x010 => (s, w32 s.sysFault)
  | 0x014 => (s, w32 (s.au 0x0E02 65535 1 1 % 8))
  | 0x018 => ({ s with ev := { s.ev with late := 0 } }, w32 s.ev.late)
  | 0x100 => (s, w32 (s.sys.failStep % 16 * 2 ^ 24 + s.sys.wdCount % 16 * 4096 + s.sys.cause % 16))
  | 0x104 => (s, s.sys.readyUs)
  | 0x200 => (s, w32 s.calStatus)
  | 0x204 => (s, w32 n.changes)
  | 0x208 =>
    (s, w32 (n.last.1 % 256 * 2 ^ 24 + n.last.2.1 % 256 * 65536 + n.last.2.2.1 % 256 * 256 + n.last.2.2.2 % 256))
  | 0x20C => (s, n.lastTime)
  | 0x210 => (s.setNvm fun n => { n with rejects := 0, runs := 0 }, two n.rejects n.runs)
  | 0x300 => (s, w32 s.nvmStatus)
  | 0x304 => (s.setNvm fun n => { n with eccUncorr := 0, eccCorr := 0 }, two n.eccUncorr n.eccCorr)
  | 0x308 => (s, n.eccAddr)
  | 0x30C => (s.setNvm fun n => { n with pages := 0 }, w32 n.pages)
  | _ => (s, 0)

/-- R394: TB_STATUS. -/
def State.tbStatus (s : State) : Nat :=
  let k := s.clock
  k.holdCause % 4 * 256 + bit 4 k.stepped + bit 3 k.lateTie + bit 2 k.beaconSeen + bit 1 s.syncMode + bit 0 k.holdover

/-- R394: TIMEBASE. -/
def State.readTimebase (s : State) (off : Nat) : State × Word :=
  let k := s.clock
  match entryAt 0x100 48 off, entryAt 0x200 48 off, entryAt 0x300 8 off, entryAt 0x320 8 off with
  | some i, _, _, _ =>
    let o : Fin 48 := Fin.ofNat 48 i
    let x := s.trig.outs[o]
    (s.setOut o fun x => { x with dropped := 0 },
     w32 (x.dropped % 65536 * 65536 + x.oneShots.length % 32 * 16 + bit 3 x.pulse.isSome + bit 2 x.armed + x.mode % 4))
  | _, some i, _, _ => (s, match s.nextEdge (Fin.ofNat 48 i) with | some t => time32 t | none => 0)
  | _, _, some i, _ =>
    let e : Fin 8 := Fin.ofNat 8 i
    let x := s.trig.evins[e]
    (s.setEvin e fun x => { x with overwritten := 0 }, w32 (x.overwritten % 65536 * 65536 + bit 7 x.level + x.ring.length % 128))
  | _, _, _, some i => (s, s.trig.evins[Fin.ofNat 8 i].next)
  | none, none, none, none =>
    match off with
    | 0x000 => (s.setClock fun k => { k with fracLatch := k.frac }, s.time)
    | 0x004 => (s, w32 (k.fracLatch % 2 ^ 24))
    | 0x008 => (s, k.incr)
    | 0x00C => (s.setClock fun k => { k with stepped := false, lateTie := false }, w32 s.tbStatus)
    | 0x010 => (s, k.bcnCap)
    | 0x014 => (s, k.bcnMaster)
    | 0x018 => (s, w32 (k.bcnSeq.toNat * 65536 + k.bcnFrac.toNat * 256))
    | 0x01C => (s.setClock fun k => { k with beacons := 0, jumps := 0 }, two k.beacons k.jumps)
    | 0x020 => (s, BitVec.ofInt 32 k.lastStep)
    | _ => (s, 0)

/-- R514: PWR_DOMn. -/
def State.domainWord (s : State) (d : Nat) : Nat :=
  let x := s.pwr.doms[Fin.ofNat 22 d]
  x.grant % 65536 * 65536 + bit 2 (decide (d < 4) && x.grant != 0) + x.state.code

/-- R514: POWER. -/
def State.readPower (s : State) (off : Nat) : State × Word :=
  let p := s.pwr
  match entryAt 0x100 22 off with
  | some d => (s, w32 (s.domainWord d))
  | none =>
    match off with
    | 0x000 => (s, w32 (s.budget % 65536))
    | 0x004 => (s, two s.standingUnits s.grantedUnits)
    | 0x008 =>
      (s, match p.queue with
        | r :: _ => w32 (r.cost % 65536 * 65536 + r.kind % 16 * 4096 + r.prio % 8 * 256 + p.queue.length)
        | [] => 0)
    | 0x00C => ({ s with pwr := { p with denied := 0, grantCount := 0 } }, two p.denied p.grantCount)
    | 0x010 => (s, w32 (bit 1 p.pfSafe + bit 0 p.pfActive))
    | 0x014 => ({ s with pwr := { p with maxWait := 0 } }, w32 p.maxWait)
    | _ => (s, 0)

/-- R507: TEMP_DRIFT. -/
def State.tempDrift (s : State) : Nat := (s.tmax - s.wh.tref).natAbs

/-- R515: WELLHEAD. -/
def State.readWellhead (s : State) (off : Nat) : State × Word :=
  let x := s.wh
  match entryAt 0x000 24 off, entryAt 0x0A0 7 off with
  | some i, _ => (s, w32 (bit 31 (s.tempExclude.testBit i) + wrapOf 16 (x.temps.toList.getD i 0)))
  | none, some i => (s, w32 (wrapOf 16 (x.rails.toList.getD i 0)))
  | none, none =>
    match off with
    | 0x080 => (s, two s.tempDrift (wrapOf 16 s.tmax))
    | 0x084 => (s, w32 (wrapOf 16 x.tref))
    | 0x0C0 => (s, w32 (bit 2 s.twin.hbAlive + x.pins.toNat % 4))
    | 0x0C4 => (s, x.active)
    | 0x0C8 => ({ s with wh := { x with fired := 0 } }, x.fired)
    | _ => (s, 0)

/-- R96: MB_STATn. -/
def Chan.statWord (c : Chan) : Nat :=
  let full := (List.range c.slots.length).foldl (fun n i => n + bit i (c.slots.getD i {}).full) 0
  c.lastSeq.toNat * 65536 + bit 11 c.peerReset + bit 10 c.lateTie + bit 9 c.timedOut + bit 8 c.overrun +
    c.slots.length * 16 + full

/-- R92: an acquiring read of a semaphore by an owner code. -/
def State.semAcquire (s : State) (n : Fin 64) (owner : Byte) : State × Word :=
  let now := s.mb.sems[n]
  if now = 0 then ({ s with mb := { s.mb with sems := upd s.mb.sems n fun _ => owner } }, w32 (256 + owner.toNat))
  else (s, w32 now.toNat)

/-- R96: MAILBOX_SEM, read under an owner code. -/
def State.readMailbox (s : State) (owner : Byte) (off : Nat) : State × Word :=
  match entryAt 0x000 10 off, entryAt 0x100 64 off, entryAt 0x200 64 off with
  | some n, _, _ =>
    let ch : Fin 10 := Fin.ofNat 10 n
    (s.setChan ch fun c => { c with peerReset := false, lateTie := false, timedOut := false, overrun := false },
     w32 s.mb.chans[ch].statWord)
  | _, some n, _ => s.semAcquire (Fin.ofNat 64 n) owner
  | _, _, some n => (s, w32 s.mb.sems[Fin.ofNat 64 n].toNat)
  | none, none, none =>
    match off with
    | 0x040 => (s, w32 s.mb.limit.toNat)
    | 0x308 =>
      ({ s with mb := { s.mb with semNotOwner := false } }, w32 (s.mb.semErrIndex % 64 * 256 + bit 0 s.mb.semNotOwner))
    | _ => (s, 0)

/-- R141: FABRIC. -/
def State.readFabric (s : State) (off : Nat) : State × Word :=
  match entryAt 0x400 43 off, entryAt 0x500 43 off with
  | some n, _ =>
    let q : Fin 43 := Fin.ofNat 43 n
    let x := s.queues[q]
    (s.setQueue q fun x => { x with flushed := 0 },
     w32 (x.flushed % 65536 * 65536 + x.repairLeft % 8 * 256 + bit 7 x.checkFail + x.state % 8))
  | none, some n =>
    let q : Fin 43 := Fin.ofNat 43 n
    (s.setQueue q fun x => { x with sweepCorr := 0, serviceCorr := 0 }, two s.queues[q].sweepCorr s.queues[q].serviceCorr)
  | none, none => (s, 0)

/-! ### All blocks -/

/-- R492: the event registers of a block; a read of EV_CNT clears it. -/
def State.readEvent (s : State) (k : Fin 53) (i : Nat) : State × Word :=
  (if i = 7 then { s with ev := { s.ev with blocks := upd s.ev.blocks k fun b => { b with count := 0 } } } else s, s.evWord k i)

/-- R59, R60: one word of the register space, read under an owner code of R91. -/
def State.readReg (s : State) (owner : Byte) (block off : Nat) : State × Word :=
  match entryAt 0xF00 8 off with
  | some i => if h : block < 53 then s.readEvent ⟨block, h⟩ i else (s, 0)
  | none =>
    if h : block < 32 then s.readCamport ⟨block, h⟩ off
    else if block < 40 then s.readRunnel (Fin.ofNat 8 (block - 32)) off
    else if block < 46 then s.readMc (Fin.ofNat 6 (block - 40)) off
    else match block with
      | 46 => s.readConfluence off
      | 47 => s.readWeir off
      | 48 => s.readUahorn off
      | 49 => s.readTwin off
      | 50 => s.readSluice off
      | 51 => s.readDma off
      | 52 => s.readSystem off
      | 53 => s.readTimebase off
      | 54 => s.readPower off
      | 55 => s.readWellhead off
      | 56 => s.readMailbox owner off
      | 57 => s.readFabric off
      | _ => (s, 0)

/-- R60: words read in ascending order. -/
def State.readRegs (s : State) (owner : Byte) (block off : Nat) : Nat → State × List Word
  | 0 => (s, [])
  | n + 1 =>
    let a := s.readReg owner block off
    let b := a.1.readRegs owner block (off + 4) n
    (b.1, a.2 :: b.2)

end Sys2Proof.Machine
end

