-- ==== Sys2Proof/Machine/RegWrite.lean ====
section
/-!
DEFINITION. Writes of the block registers (R7, R58 to R61, R90), the commands REG_READ and REG_WRITE, and the semaphores.
-/
namespace Sys2Proof.Machine

/-! ### Semaphores -/

/-- R94: a release by its owner; from anyone else it changes nothing and sets NOT_OWNER. -/
def State.semRelease (s : State) (owner : Byte) (n : Fin 64) : State :=
  if s.mb.sems[n] = owner ∧ owner ≠ 0 then { s with mb := { s.mb with sems := upd s.mb.sems n fun _ => 0 } }
  else { s with mb := { s.mb with semErrIndex := n.val, semNotOwner := true } }

/-- R94, R491: a release by firmware, with SEM_FORCED. -/
def State.semForce (s : State) (n : Fin 64) : State :=
  ({ s with mb := { s.mb with sems := upd s.mb.sems n fun _ => 0 } }).raise 52 29

/-- R91: the owner code under which a port's register commands act. -/
def portOwner (p : Port) : Byte :=
  match p with
  | .p0 => 0x50 | .p1 => 0x11 | .p2 | .lead _ => 0x10 | .p3 => 0x13

/-! ### Writes -/

/-- R468: CMD of a DMA channel: CLEAR, then ABORT, then START. -/
def State.dmaCmd (s : State) (c : Fin 32) (v : Word) : State :=
  let s := if v.getLsbD 2 then (((s.dmaClear c).causeGone 51 26).causeGone 51 27).causeGone 51 30 else s
  let s := if v.getLsbD 1 then s.dmaAbort c else s
  if v.getLsbD 0 then s.dmaStart c else s

/-- R468: a write to the DMA block. -/
def State.writeDma (s : State) (off : Nat) (v : Word) : State :=
  match dmaPlace off with
  | some (c, k) =>
    if k < 0x14 then s.dmaWriteSet c false (k / 4) v
    else if k < 0x28 then s.dmaWriteSet c true ((k - 0x14) / 4) v
    else if k = 0x38 then s.dmaCmd c v
    else s
  | none =>
    match off with
    | 0x00C => s.dmaSwreq (bitsOf v.toNat 7 0) (bitsOf v.toNat 15 8)
    | 0x014 => s.dmaSwreqHost (bitsOf v.toNat 3 0) (bitsOf v.toNat 15 8)
    | _ => s

/-- R96: a write to the MAILBOX_SEM block under an owner code. -/
def State.writeMailbox (s : State) (owner : Byte) (off : Nat) (v : Word) : State :=
  match off with
  | 0x040 => { s with mb := { s.mb with limit := v.setWidth 16 } }
  | 0x300 => s.semRelease owner (Fin.ofNat 64 (bitsOf v.toNat 5 0))
  | 0x304 => s.semForce (Fin.ofNat 64 (bitsOf v.toNat 5 0))
  | _ => s

/-- R310: RELEARN. -/
def State.relearn (s : State) : State := (s.setWeir fun w => { w with relearn := true }).raise 47 8

/-- R7, R60: one word of the register space, written under an owner code of R91. RO and RC fields ignore what is
written. -/
def State.writeReg (s : State) (owner : Byte) (block off : Nat) (v : Word) : State :=
  if off = 0xF00 then (if h : block < 53 then s.evtClear ⟨block, h⟩ v else s)
  else if h : block < 32 then
    if off = 0x00C then
      let s := if v.getLsbD 1 then s.clearCounters ⟨block, h⟩ else s
      if v.getLsbD 0 then s.requestDeskew ⟨block, h⟩ else s
    else s
  else match block with
    | 47 =>
      if off = 0x004 then (if v.getLsbD 0 then s.relearn else s)
      else if off = 0x00C then
        s.setWeir fun w => { w with selSlot := bitsOf v.toNat 17 16, selCol := bitsOf v.toNat 13 0 }
      else s
    | 50 => if off = 0x104 then s.ackPlog (v.setWidth 16) else s
    | 51 => s.writeDma off v
    | 52 => if off = 0x100 then { s with sys := { s.sys with wdCount := bitsOf v.toNat 15 12 } } else s
    | 56 => s.writeMailbox owner off v
    | 57 =>
      match entryAt 0x400 43 off with
      | some q => s.setQueue (Fin.ofNat 43 q) fun x => { x with checkFail := v.getLsbD 7 }
      | none => if off = 0x600 then s.requestFlush (bitsOf v.toNat 5 0) else s
    | _ => s

/-- R60: words written in ascending order. -/
def State.writeRegs (s : State) (owner : Byte) (block off : Nat) : List Word → State
  | [] => s
  | v :: vs => (s.writeReg owner block off v).writeRegs owner block (off + 4) vs

/-! ### The commands -/

/-- R58, R580: an OFFSET that is misaligned, reserved, or begins a range that leaves its block. -/
def badOffset (offset : Word) (count : Nat) : Bool :=
  let o := offset.toNat
  decide (o % 4 != 0 ∨ 58 ≤ o / 2 ^ 20) || decide (2 ^ 20 < o % 2 ^ 20 + 4 * count)

/-- R90: a range of block 56 that touches a firmware-only semaphore: in the acquire or the peek window. -/
def touchesFirmwareSem (off count : Nat) : Bool :=
  rangesMeet off (off + 4 * count) 0x140 0x200 || rangesMeet off (off + 4 * count) 0x240 0x300

/-- R61, R90, R141, R451, R468: a REG_WRITE touches a field that is firmware only. -/
def firmwareOnly (block off : Nat) (words : List Word) : Bool :=
  let hits (a b : Nat) : Bool := rangesMeet off (off + 4 * words.length) a b
  (block == 56 && (hits 0x304 0x308 || touchesFirmwareSem off words.length ||
    (hits 0x300 0x304 && decide (16 ≤ bitsOf (words.getD ((0x300 - off) / 4) 0).toNat 5 0)))) ||
  (block == 57 && hits 0x600 0x604) || (block == 51 && (hits 0x00C 0x010 || hits 0x400 0xA00))

/-- R58 to R60: REG_READ: the address, then the words. -/
def State.runRegRead (s : State) (c : Cmd) (offset count : Word) : State :=
  let block := offset.toNat / 2 ^ 20
  let off := offset.toNat % 2 ^ 20
  if badOffset offset count.toNat then s.bad c 16
  else if count.toNat < 1 ∨ 32 < count.toNat then s.bad c 20
  else if (c.h.port == .p0 || c.h.port == .p1) && block == 56 && touchesFirmwareSem off count.toNat then
    s.fail c 3 c.h.port.toNat
  else
    let r := s.readRegs (portOwner c.h.port) block off count.toNat
    r.1.ok c (leWord offset ++ r.2.flatMap leWord)

/-- R90: a REG_WRITE from P1 other than a single-word write to SEM_RELEASE. -/
def writeDenied (p : Port) (offset : Word) (words : List Word) : Bool :=
  p == .p1 && (offset != 0x03800300 || words.length != 1)

/-- R58 to R61: REG_WRITE. -/
def State.runRegWrite (s : State) (c : Cmd) (offset : Word) (words : List Word) : State :=
  let block := offset.toNat / 2 ^ 20
  let off := offset.toNat % 2 ^ 20
  if words.length < 1 ∨ 16 < words.length then s.bad c 2
  else if badOffset offset words.length then s.bad c 16
  else if firmwareOnly block off words && !(c.h.port == .p3 && s.sys.factoryTest) then s.fail c 3 c.h.port.toNat
  else (s.writeRegs (portOwner c.h.port) block off words).ok c []

/-! ### Rows -/

/-- R7: a plain register write by firmware, at an offset of the register space. -/
def execRegisterWritePlain (dt : Nat) (offset value : Word) (s : State) : Host.Outcome State Fault Refusal :=
  commit dt (fun s =>
    if badOffset offset 1 then s else s.writeReg 0x10 (offset.toNat / 2 ^ 20) (offset.toNat % 2 ^ 20) value) s

/-- R92: an acquiring read of SEMn under an owner code; the value read is driven out. -/
def execSemAcquire (dt : Nat) (owner : Byte) (sem : Fin 64) (s : State) : Host.Outcome State Fault Refusal :=
  commit dt (fun s => let r := s.semAcquire sem owner; { r.1 with out := { r.1.out with sem := r.2 } }) s

/-- R94: a write of an index to SEM_RELEASE under an owner code. -/
def execSemRelease (dt : Nat) (owner : Byte) (index : Fin 64) (s : State) : Host.Outcome State Fault Refusal :=
  commit dt (fun s => s.semRelease owner index) s

/-- R94: a write of an index to SEM_FORCE. -/
def execSemForce (dt : Nat) (index : Fin 64) (s : State) : Host.Outcome State Fault Refusal :=
  commit dt (fun s => s.semForce index) s

/-- R81: an outbound slot has stayed full for longer than the timeout. -/
def State.mbTimeout (s : State) (ch : Fin 10) (i : Nat) : State :=
  let x := s.mb.chans[ch].slots.getD i {}
  if outbound ch && x.full && !x.timedOut && decide (x.since + s.mbTicks ≤ s.now) then
    ((s.setSlot ch i fun x => { x with timedOut := true }).setChan ch fun c => { c with timedOut := true }).raiseHeld 52 3
  else s

/-- R81: MAILBOX_TIMEOUT. -/
def execMailboxTimeout (dt : Nat) (chan : Fin 10) (slot : Fin 2) (s : State) : Host.Outcome State Fault Refusal :=
  commit dt (fun s => s.mbTimeout chan slot.val) s

end Sys2Proof.Machine
end

