-- ==== Sys2Proof/Machine/DmaRows.lean ====
section
/-!
DEFINITION. The moving of data by the DMA engine (R457, R459 to R466): bursts, completion and errors. The data of a burst
moves when the burst ends.
-/
namespace Sys2Proof.Machine

/-- R59: the first address of the block registers. -/
def regBase : Nat := 0xFF0000000

/-- R435: an address lies in LPDDR6. -/
def inLpddr (a : Nat) : Bool := decide (a < lpWindow)

/-! ### One burst -/

/-- R463: the words of a source in the register space, each read once under the channel's owner code (R91). -/
def State.dmaReadRegs (s : State) (c : Fin 32) (a : Nat) : Nat → State × List Byte
  | 0 => (s, [])
  | n + 1 =>
    let r := s.readReg (BitVec.ofNat 8 (0x20 + c.val)) ((a - regBase) / 2 ^ 20) ((a - regBase) % 2 ^ 20)
    let t := r.1.dmaReadRegs c (a + 4) n
    (t.1, leWord r.2 ++ t.2)

/-- Bytes of an on-chip memory whose contents the model does not hold: free values. -/
def State.freeBytes (s : State) : Nat → List Byte
  | 0 => []
  | n + 1 => (Config.freeWord (s.freeCtr + n)).setWidth 8 :: s.freeBytes n

/-- The bytes of a burst's source. -/
def State.dmaRead (s : State) (c : Fin 32) (a n : Nat) : State × List Byte :=
  if inLpddr a then (s, s.lpBytes a n)
  else if regBase ≤ a then s.dmaReadRegs c a (n / 4)
  else ({ s with freeCtr := s.freeCtr + n }, s.freeBytes n)

/-- Words written to the register space. -/
def State.dmaWriteRegs (s : State) (c : Fin 32) (a : Nat) : List Byte → Nat → State
  | _, 0 => s
  | bs, n + 1 =>
    (s.writeReg (BitVec.ofNat 8 (0x20 + c.val)) ((a - regBase) / 2 ^ 20) ((a - regBase) % 2 ^ 20) (word bs 0)).dmaWriteRegs c
      (a + 4) (bs.drop 4) n

/-- The bytes of a burst written to its destination; on-chip memories other than registers are not held. -/
def State.dmaWrite (s : State) (c : Fin 32) (a : Nat) (bs : List Byte) : State :=
  if inLpddr a then s.lpStore a bs
  else if regBase ≤ a then s.dmaWriteRegs c a bs (bs.length / 4)
  else s

/-- R457, R459: where a side of the burst in progress begins. -/
def DmaChan.place (x : DmaChan) (base : Nat) (hold : Bool) (len : Nat) : Nat :=
  if hold then base else if x.reversed then base + x.residue - len else base + (x.act.count.toNat - x.residue)

/-- The source and destination of the burst in progress. -/
def DmaChan.from_ (x : DmaChan) (len : Nat) : Nat := x.place x.act.source x.act.srcHold len
/-- The destination of the burst in progress. -/
def DmaChan.to_ (x : DmaChan) (len : Nat) : Nat := x.place x.act.dest x.act.dstHold len

/-- The source bytes of the burst in progress: those read ahead, or those read now. -/
def State.burstData (s : State) (c : Fin 32) (len : Nat) : State × List Byte :=
  match s.dma.chans[c].buf with
  | some bs => (s, bs)
  | none => s.dmaRead c (s.dma.chans[c].from_ len) len

/-- R459, R464: the burst in progress ends: its data is written, and an abort that waited for it takes effect. -/
def State.endBurst (s : State) (c : Fin 32) : State :=
  match s.dma.chans[c].burst with
  | none => s
  | some len =>
    let r := s.burstData c len
    let s := r.1.dmaWrite c (r.1.dma.chans[c].to_ len) r.2
    let s := s.setDma c fun x => { x with residue := x.residue - len, burst := none, buf := none, waitAt := none }
    let x := s.dma.chans[c]
    if x.abortAt.isSome then s.dmaAborted c
    else if x.residue = 0 then s.resumeDma
    else ((s.setDma c fun x => { x with state := if x.act.paced then 3 else 4 }).maybePrefetch c).resumeDma

/-! ### Arbitration -/

/-- R459, R461: a channel can start a burst: a request of its line is pending, or it runs back to back. -/
def State.canBurst (s : State) (c : Fin 32) : Bool :=
  let x := s.dma.chans[c]
  x.burst.isNone && x.abortAt.isNone && x.residue != 0 &&
    ((x.state == 3 && decide (0 < s.dma.lines.toList.getD x.act.req 0)) || (x.state == 4 && !x.act.paced))

/-- R461: the distance of a channel after the one served last. -/
def State.turn (s : State) (c : Fin 32) : Nat := (c.val + 31 - s.dma.last) % 32

/-- R461: another channel has the beat slot before this one. -/
def State.outbid (s : State) (c : Fin 32) : Bool :=
  (fins 32).any fun d => d != c && s.canBurst d &&
    (decide (s.dma.chans[c].act.prio < s.dma.chans[d].act.prio) ||
      (s.dma.chans[c].act.prio == s.dma.chans[d].act.prio && decide (s.turn d < s.turn c)))

/-- R461: bursts of the same or a higher priority, and the channel's own, have ended when it starts one. -/
def State.endBefore (s : State) (c : Fin 32) : State :=
  (fins 32).foldl (fun s d =>
    if d = c ∨ (s.dma.chans[d].state = 4 ∧ s.dma.chans[c].act.prio ≤ s.dma.chans[d].act.prio) then s.endBurst d else s) s

/-- R461: a lower channel with a burst in progress is pre-empted. -/
def State.preemptOthers (s : State) (c : Fin 32) : State :=
  (fins 32).foldl (fun s d =>
    let x := s.dma.chans[d]
    if d != c && x.state == 4 && x.burst.isSome then
      let s := s.setDma d fun x => { x with state := 5, waitAt := some s.now }
      { s with dma := { s.dma with preempts := satInc 16 s.dma.preempts } }
    else s) s

/-- R459: a burst starts; a paced one consumes a request. -/
def State.beginBurst (s : State) (c : Fin 32) : State :=
  let s := s.preemptOthers c
  let d := s.dma.chans[c].act
  let s := if h : d.paced = true ∧ d.req < 96 then
      { s with dma := { s.dma with lines := upd s.dma.lines ⟨d.req, h.2⟩ fun n => n - 1 } }
    else s
  let s := s.setDma c fun x => { x with
    state := 4, burst := some (min x.act.burstSize x.residue), burstAt := s.now, buf := x.prefetch, prefetch := none }
  { s with dma := { s.dma with last := c.val } }

/-- R459, R461: a channel starts a burst when the arbiter gives it the slot. -/
def State.startBurst (s : State) (c : Fin 32) : State :=
  let t := s.endBefore c
  if t.canBurst c && !t.outbid c && s.domOn 17 then t.beginBurst c else s

/-- R459: DMA_BURST. -/
def execDmaBurst (dt : Nat) (ch : Fin 32) (s : State) : Host.Outcome State Fault Refusal :=
  commit dt (fun s => s.startBurst ch) s

/-! ### Completion -/

/-- R459: the valid shadow becomes the active set. The pending count stays when both name the same line (R453). -/
def State.chainLoad (s : State) (c : Fin 32) : State :=
  let x := s.dma.chans[c]
  let keep := x.act.paced && x.shadow.paced && x.act.req == x.shadow.req
  let s := if keep then s else s.unbind c
  let s := s.setDma c fun x => { x with
    act := x.shadow, shadow := { x.shadow with ctrl := x.shadow.ctrl &&& ~~~1#32 }, loads := (x.loads + 1) % 65536, state := 2 }
  s.dmaLoad c

/-- R459: what follows a descriptor that is DONE. -/
def State.afterDone (s : State) (c : Fin 32) : State :=
  let x := s.dma.chans[c]
  if x.act.chain && x.shadow.valid then s.chainLoad c
  else if x.act.chain then (s.dmaStop c 0).raise 51 15
  else s.dmaStop c 0

/-- R459, R464: the last write of a descriptor is confirmed. -/
def State.dmaComplete (s : State) (c : Fin 32) : State :=
  let x := s.dma.chans[c]
  if x.burst != some x.residue ∨ x.state != 4 then s
  else
    let tie := x.abortAt == some s.now
    let s := if tie then s.setDma c fun x => { x with abortAt := none } else s
    if x.abortAt.isSome && !tie then s.endBurst c
    else
      let s := ((s.endBurst c).dmaResult c 1).raiseIf x.act.irqDone 51 (dmaGroup c)
      if tie then
        let s := s.setDma c fun x => { x with shadow := {}, shadowDropped := true }
        ((s.dmaStop c 0).raise 51 23).answerAbort c
      else s.afterDone c

/-- R459: DMA_COMPLETE. -/
def execDmaComplete (dt : Nat) (ch : Fin 32) (s : State) : Host.Outcome State Fault Refusal :=
  commit dt (fun s => s.dmaComplete ch) s

/-! ### Errors -/

/-- R465: bytes of the burst before the beat at an address, in transfer order, where the side begins at `a`. -/
def DmaChan.bytesBefore (x : DmaChan) (a len addr : Nat) : Nat :=
  let lo := addr / 64 * 64
  if x.reversed then min len (a + len - min (a + len) (lo + 64)) else min len (lo - min lo a)

/-- A run of bytes of the burst in transfer order: from the top when it runs descending. -/
def State.dmaWritePart (s : State) (c : Fin 32) (a len skip n : Nat) (bs : List Byte) : State :=
  let k := min n (len - min len skip)
  if s.dma.chans[c].reversed then s.dmaWrite c (a + (len - skip - k)) ((bs.drop (len - skip - k)).take k)
  else s.dmaWrite c (a + skip) ((bs.drop skip).take k)

/-- R435, R442, R445: what an error of a beat raises on the memory side. -/
def State.noteBeat (s : State) (addr kind : Nat) : State :=
  if !inLpddr addr then s
  else match kind with
    | 1 => s.addrRange addr
    | 2 => s.regionViolation addr
    | 3 =>
      if s.mem.n = 0 then s
      else s.noteEcc (Fin.ofNat 6 (s.channelOf addr).1) ((s.channelOf addr).2 / 8) true
    | _ => s

/-- R465: a beat of the burst in progress meets a bus error. After a write error up to 3 later beats have been written:
how many is free. -/
def State.busError (s : State) (c : Fin 32) (addr : Nat) (write tail : Bool) (kind : Nat) : State :=
  let x := s.dma.chans[c]
  match x.burst with
  | none => s
  | some len =>
    let k := x.bytesBefore (if write then x.to_ len else x.from_ len) len addr
    let later := if write then (Config.freeMeasure s.freeCtr) % 4 else 0
    let r := s.nextFree.burstData c len
    let s := r.1.dmaWritePart c (x.to_ len) len 0 k r.2
    let s := if write then s.dmaWritePart c (x.to_ len) len (k + 64) (64 * later) r.2 else s
    let issued := if write then min len (k + 64 + 64 * later) else k
    let s := s.setDma c fun x => { x with residue := if tail then 0 else x.residue - issued, buf := none }
    (s.noteBeat addr kind).dmaHalt c addr write tail kind

/-- R465: DMA_BUS_ERROR. -/
def execDmaBusError (dt : Nat) (ch : Fin 32) (addr : Nat) (write : Bool) (kind : Fin 8) (s : State) :
    Host.Outcome State Fault Refusal :=
  commit dt (fun s => s.busError ch addr write false kind.val) s

/-- R466: DMA_TAIL_ERROR: the confirmation of a write beat fails after COUNT has reached zero. -/
def execDmaTailError (dt : Nat) (ch : Fin 32) (addr : Nat) (kind : Fin 8) (s : State) : Host.Outcome State Fault Refusal :=
  commit dt (fun s =>
    let x := s.dma.chans[ch]
    if x.burst == some x.residue then s.busError ch addr true true kind.val else s) s

end Sys2Proof.Machine
end

