-- ==== Sys2Proof/Machine/Power.lean ====
section
/-!
DEFINITION. The power steward (R494 to R506): grants, refusals and wait limits, domains that wake, switch down and lose
their state, and standby.
-/
namespace Sys2Proof.Machine

/-! ### What leaving a domain without power loses -/

/-- R495: the queues of a domain that lost power are off and empty. -/
def State.queuesOff (s : State) (d : Fin 22) : State :=
  { s with queues := updAll s.queues fun q x => if queueDomain q = d then { x with state := 0, used := 0, freed := 0 } else x }

/-- R495: the state of a domain returns to its reset values and its SRAM contents are lost. -/
def State.loseDomain (s : State) (d : Fin 22) : State :=
  let s := s.queuesOff d
  let n := d.val
  if 4 ≤ n ∧ n ≤ 7 then { s with inlets := updAll s.inlets fun p x => if portDomain p = d then {} else x }
  else if 8 ≤ n ∧ n ≤ 11 then
    { s with runnels := updAll s.runnels fun r x => if r.val / 2 = n - 8 then {} else x
             carries := updAll s.carries fun c x => if s.ctxs[c].runnel / 2 = n - 8 then {} else x
             views := updAll s.views fun c x => if s.ctxs[c].runnel / 2 = n - 8 then {} else x }
  else match n with
    | 1 => { s with mb := { s.mb with chans := ({} : Mailbox).chans, limit := ({} : Mailbox).limit } }
    | 2 => { s with
        trig := {}, mb := { s.mb with sems := ({} : Mailbox).sems, semErrIndex := 0, semNotOwner := false }
        queues := updAll s.queues fun _ x => { x with state := 0, flushed := 0, sweepCorr := 0, serviceCorr := 0 } }
    | 12 => { s with cf := {}, weir := {}, spill := ({} : State).spill, launched := 0 }
    | 13 => { s with link := { ({} : Link) with session := s.link.session } }
    | 15 => { s with gl := {} }
    | 16 => { s with sluice := {} }
    | 17 => { s with dma := {} }.causeGone 51 28
    | 18 | 19 | 20 => { s with mem := { s.mem with ctls := updAll s.mem.ctls fun m x => if m.val / 2 = n - 18 then {} else x } }
    | 21 => { s with jtag := { s.jtag with writePtr := 0, readPtr := 0, lastOp := 0 } }
    | _ => s

/-- R46: MGMT_ON changes, with the DOMAIN cause. -/
def State.setMgmt (s : State) (on : Bool) : State :=
  if s.sys.mgmtOn = on then s
  else { s with sys := { s.sys with mgmtOn := on }, win := { s.win with cause := s.win.cause ||| 8 } }

/-- R506: BUDGET_HIGH follows the grants. -/
def State.refreshBudget (s : State) : State := s.raiseLevel (decide (s.budget * 9 < s.grantedUnits * 10)) 52 17

/-! ### Requests that end without a grant -/

/-- The command of a port answers BUSY_LEAVE with the time waited (R54), or as the Bool says RETRY for a full queue. -/
def State.busyLeave (s : State) (p : Port) (waited : Nat) (f : Waiting → Bool) : State :=
  match s.waitingFor p f with
  | some r => s.fail ⟨r.h, r.body⟩ 7 waited
  | none => s

/-- R438, R503: the training of a channel is not granted: the other requests are withdrawn, and the REC_APPLY ends when no
training began. -/
def State.dropTraining (s : State) (p : Port) (waited : Nat) : State :=
  let s := { s with pwr := { s.pwr with queue := s.pwr.queue.filter fun q => !isTraining q.who } }
  if s.holds isTraining then s
  else
    let s := { s with recs := { s.recs with
      scheduled := s.recs.scheduled.filter fun a => !(a.kind == 0 && a.port == p && a.pairs.contains (0x0110, 65535)) } }
    s.busyLeave p waited (· == .applyLeave)

/-- R503: what the requester does when its request ended without a grant. `waited` is in units of 100 µs. -/
def State.requestEnded (s : State) (r : LeaveReq) (waited : Nat) : State :=
  match r.who with
  | .domain d (some p) => s.busyLeave p waited (· == .domainWake d)
  | .training _ (some p) => s.dropTraining p waited
  | .lanes => s.failAttempt false 1
  | .context _ (some p) =>
    (s.dropStreams p).busyLeave p waited (fun w => match w with | .streamLeave .. => true | _ => false)
  | .context _ none => s.refuseJoin
  | .calibration (some p) => (s.dropRun (some p)).busyLeave p waited (· == .calRun)
  | .calibration none => (s.dropRun none).setNvm fun n => { n with calWait := true }
  | .nvm (some p) => s.busyLeave p waited (· == .nvm)
  | .dma c =>
    (s.dmaResult c 2).setDma c fun x => { x with state := 0, residue := x.act.count.toNat }
  | .stitch (some p) => (s.raise 46 26).busyLeave p waited (· == .applyLeave)
  | _ => s

/-- A request leaves the queue. -/
def State.unqueue (s : State) (r : LeaveReq) : State :=
  { s with pwr := { s.pwr with queue := s.pwr.queue.filter (· != r) } }

/-- R502: a request whose wait limit has ended is removed and ends with BUSY_LEAVE. -/
def State.expireRequest (s : State) (r : LeaveReq) : State :=
  if s.pwr.queue.contains r then ((s.unqueue r).denyLeave r 0 7).requestEnded r ((s.now - r.at_) / 40000 % 65536) else s

/-- R502: every request whose wait limit has ended. -/
def State.expireRequests (s : State) : State :=
  (s.pwr.queue.filter fun r => match r.limit with | some t => decide (t ≤ s.now) | none => false).foldl State.expireRequest s

/-- R502: LEAVE_WAIT_EXPIRY. -/
def execLeaveWaitExpiry (dt : Nat) (s : State) : Host.Outcome State Fault Refusal := commit dt (fun s => s.expireRequests) s

/-- R503, R504: a request that the budget can never cover is refused. -/
def State.refuseRequest (s : State) (r : LeaveReq) : State :=
  if s.pwr.queue.contains r then
    ((s.unqueue r).denyLeave r 1 (if r.limit.isSome then 7 else 0)).requestEnded r 0
  else s

/-- R504: requests that the budget can never cover. -/
def State.refuseRequests (s : State) : State :=
  (s.pwr.queue.filter fun r => decide (s.budget < r.cost + s.standingUnits)).foldl State.refuseRequest s

/-! ### Grants -/

/-- R18: the command of a port won a tie with its wait limit. -/
def State.noteTie (s : State) (p : Option Port) : State :=
  match p with
  | some p => s.setPort p fun q => { q with running := q.running.map fun r => { r with lateTie := true } }
  | none => s

/-- The port whose command made a request. -/
def Requester.port : Requester → Option Port
  | .domain _ p | .training _ p | .context _ p | .calibration p | .nvm p | .stitch p => p
  | _ => none

/-- R497, R502: a domain's wake begins with its grant. -/
def State.beginWake (s : State) (d : Fin 22) : State :=
  let off := s.pwr.doms[d].state == .off
  { s with pwr := { s.pwr with doms := upd s.pwr.doms d fun x => { x with
      state := .changing, grant := onCost d.val, wakeAt := s.now, fromOff := off } } }

/-- R499: what the requester begins when its leave is granted. -/
def State.granted (s : State) (who : Requester) : State :=
  match who with
  | .domain d _ => s.beginWake d
  | .training m _ => s.beginTraining m
  | .lanes => s
  | .context x p => s.grantContext x p
  | .move _ => s
  | .calibration p => s.grantRun p
  | .nvm p => s.grantWrite p
  | .dma c => (s.setDma c fun x => { x with state := 2 }).dmaLoad c
  | .stitch (some p) => (s.raise 46 25).resumeApply p
  | .stitch none => s

/-- R502: the head of the queue may be granted: it fits the budget, and kind 6 waits out a power failure (R512). -/
def State.headFits (s : State) (r : LeaveReq) : Bool :=
  decide (s.grantedUnits + r.cost ≤ s.budget) && !(s.pwr.pfActive && r.kind == 6)

/-- R502: one request is granted. A domain's grant is held with the domain. -/
def State.grantReq (s : State) (r : LeaveReq) : State :=
  let isDomain : Bool := match r.who with | .domain .. => true | _ => false
  let s := { s with pwr := { s.pwr with
    queue := s.pwr.queue.drop 1, grants := if isDomain then s.pwr.grants else s.pwr.grants ++ [r]
    grantCount := satInc 16 s.pwr.grantCount, maxWait := max s.pwr.maxWait ((s.now - r.at_) / 400) } }
  let s := if r.limit = some s.now then s.noteTie r.who.port else s
  (s.granted r.who).refreshBudget

/-- R502: heads are granted while they fit. -/
def State.grantHeads (s : State) : Nat → State
  | 0 => s
  | n + 1 => match s.pwr.queue with
    | r :: _ => if s.headFits r then (s.grantReq r).grantHeads n else s
    | [] => s

/-- R502: one cycle of the steward. -/
def State.stewardCycle (s : State) : State := (s.retryRound.refuseRequests.grantHeads 64).expireRequests

/-- R502: STEWARD_GRANT. -/
def execStewardGrant (dt : Nat) (s : State) : Host.Outcome State Fault Refusal := commit dt (fun s => s.stewardCycle) s

/-! ### Requests and releases of the device itself -/

/-- R497, R510: a domain that is off asks for leave without a wait limit. -/
def State.askWake (s : State) (d : Fin 22) : State :=
  let mine (w : Requester) : Bool := match w with | .domain k _ => k == d | _ => false
  if s.pwr.doms[d].state == .on || s.pwr.doms[d].state == .changing || s.asked mine then s
  else (s.askSelf (.domain d none) 1 (onCost d.val) 5).1

/-- R499: an operation that stands ready to begin asks for its leave, unless it has asked or holds it. -/
def State.ask (s : State) (a : LeaveAsk) : State :=
  match a with
  | .domain d => s.askWake d
  | .training m =>
    let mine (w : Requester) : Bool := match w with | .training k _ => k == m | _ => false
    if s.chEnabled m.val && s.mem.ctls[m].state == 0 && !s.holds mine && !s.asked mine then
      (s.askSelf (.training m none) 2 30 6).1
    else s
  | .lanes =>
    if s.linkU 0 1 = 1 ∧ s.link.tr.state = 1 ∧ s.holds (· == .lanes) = false ∧ s.asked (· == .lanes) = false then
      let r := s.askSelf .lanes 3 144 6
      if r.2 then r.1.setTrainer false fun t => { t with waitLeave := true } else r.1.failAttempt false 1
    else s
  | .context c => s.askMove (0x0301, c.val)
  | .calibration => if s.calRuleActive then s.askRound else s
  | .nvm => s.askAppend
  | .dma c => if s.dma.chans[c].act.heavy && s.dma.chans[c].state == 0 then s.dmaStart c else s
  | .stitch => s

/-- R502: LEAVE_REQUEST. -/
def execLeaveRequest (dt : Nat) (req : LeaveAsk) (s : State) : Host.Outcome State Fault Refusal :=
  commit dt (fun s => s.ask req) s

/-- R499: a grant whose operation has ended. -/
def State.leaveOver (s : State) (a : LeaveAsk) (w : Requester) : Bool :=
  match a, w with
  | .training m, .training k _ => k == m && s.mem.ctls[m].state != 1
  | .lanes, .lanes => s.linkU 0 1 == 0
  | .context c, .context k none | .context c, .move k => k == c && !s.streams c
  | .calibration, .calibration p => !s.nvm.runs_.any fun x => x.port == p
  | .nvm, .nvm _ => s.nvm.jobs.isEmpty
  | .dma c, .dma k => k == c && (s.dma.chans[c].state == 0 || s.dma.chans[c].state == 6)
  | .stitch, .stitch _ => stitching s.recs.active == 0
  | _, _ => false

/-- R502: an operation that has ended returns its leave; a domain holds what its state costs. -/
def State.giveBack (s : State) (a : LeaveAsk) : State :=
  let s := { s with pwr := { s.pwr with grants := s.pwr.grants.filter fun g => !s.leaveOver a g.who } }
  let s := match a with
    | .domain d => match s.pwr.doms[d].state with
      | .off => { s with pwr := { s.pwr with doms := upd s.pwr.doms d fun x => { x with grant := 0 } } }
      | .retain => { s with pwr := { s.pwr with doms := upd s.pwr.doms d fun x => { x with grant := (retainCost d.val).getD 0 } } }
      | _ => s
    | _ => s
  s.refreshBudget.retryRound

/-- R502: LEAVE_RELEASE. -/
def execLeaveRelease (dt : Nat) (req : LeaveAsk) (s : State) : Host.Outcome State Fault Refusal :=
  commit dt (fun s => s.giveBack req) s

/-! ### Domains -/

/-- R494: the domain a domain depends on is ON. -/
def State.footed (s : State) (d : Fin 22) : Bool :=
  match dependsOn d.val with | some k => s.domOn (Fin.ofNat 22 k) | none => true

/-- R501: every domain has returned to its state before standby. -/
def State.endStandby (s : State) : State :=
  match s.pwr.standby with
  | some old =>
    if (List.range 22).all fun i => old.getD i .off != .on || s.domOn (Fin.ofNat 22 i) then
      { s with pwr := { s.pwr with standby := none } }
    else s
  | none => s

/-- R501, R363: the timebase starts again at 0 with its reset increment. -/
def State.restartClock (s : State) : State :=
  let s := { s with clock := {} }
  if s.syncMode then s.enterHoldover 1 else s

/-- R495, R497: what a domain does when it is usable: memory channels are ready, queues are swept after a loss of power,
the timebase and the firmware start again. -/
def State.domainStarts (s : State) (d : Fin 22) (fromOff : Bool) : State :=
  let s := if fromOff then
      { s with queues := updAll s.queues fun q x => if queueDomain q = d then { x with state := if x.state = 5 then 5 else 1 } else x }
    else s
  let n := d.val
  if 18 ≤ n ∧ n ≤ 20 then
    { s with mem := { s.mem with ctls := updAll s.mem.ctls fun m x =>
        if m.val / 2 = n - 18 ∧ (x.state = 4 ∨ x.state = 0) ∧ s.chEnabled m.val = true then { x with state := 2 } else x } }
  else match n with
    | 1 => ({ s with sys := { s.sys with cmdReady := true, readyAt := s.now } }).setMgmt true
    | 2 => if s.pwr.standby.isSome then s.restartClock else s
    | _ => s

/-- R497: a domain that wakes is usable. -/
def State.domainUsable (s : State) (d : Fin 22) : State :=
  let x := s.pwr.doms[d]
  if x.state == .changing && s.footed d then
    let s := (s.setDomain d .on x.grant 0).causeGone 52 18
    (s.domainStarts d x.fromOff).endStandby.answerWakes
  else s

/-- R497: DOMAIN_USABLE. -/
def execDomainUsable (dt : Nat) (domain : Fin 22) (s : State) : Host.Outcome State Fault Refusal :=
  commit dt (fun s => s.domainUsable domain) s

/-- R497: a domain has missed its wake time by more than 100 %. -/
def State.wakeLate (s : State) (d : Fin 22) : State :=
  let x := s.pwr.doms[d]
  if x.state == .changing && decide (x.wakeAt + 2 * wakeTicks d.val x.fromOff < s.now) then s.raiseLevel true 52 18 else s

/-- R497: DOMAIN_WAKE_FAIL. -/
def execDomainWakeFail (dt : Nat) (domain : Fin 22) (s : State) : Host.Outcome State Fault Refusal :=
  commit dt (fun s => s.wakeLate domain) s

/-- R496: a domain is in use. -/
def State.inUse_ (s : State) (d : Fin 22) : Bool :=
  let n := d.val
  if n = 0 ∨ n = 1 ∨ n = 2 then true
  else if n = 3 then !s.nvm.jobs.isEmpty || s.pwr.pfActive || s.asked (fun w => match w with | .nvm _ => true | _ => false)
  else if n ≤ 7 then (List.range 8).any fun i => s.au 0x0203 (8 * (n - 4) + i) 0 1 != 0
  else if n ≤ 11 then (List.range 2).any fun i => s.au 0x0302 (2 * (n - 8) + i) 0 1 == 1
  else match n with
    | 12 => s.cf.state != 0 || (List.range 8).any fun q => s.au 0x0902 q 0 1 == 1
    | 13 | 14 => s.linkU 0 1 == 1
    | 15 => s.twinPair
    | 16 => (List.range 32).any fun b => s.busU (Fin.ofNat 32 b) 0 1 != 0
    | 17 => s.dma.chans.toList.any fun x => x.state != 0
    | 18 | 19 | 20 => (fins 6).any fun (m : Fin 6) => m.val / 2 == n - 18 && s.mem.ctls[m].inUse
    | _ => s.sys.factoryTest

/-- R494: a domain depends on this one and would lose its footing. -/
def State.carries_ (s : State) (d : Fin 22) (st : DomState) : Bool :=
  (fins 22).any fun (k : Fin 22) => dependsOn k.val == some d.val &&
    (match s.pwr.doms[k].state with | .off => false | .retain => st == .off | _ => true)

/-- R497: a domain is switched to RETAIN or OFF: its leave is reduced at once. -/
def State.switchDown (s : State) (d : Fin 22) (st : DomState) : State :=
  let s := s.setDomain d st (if st = .retain then (retainCost d.val).getD 0 else 0) 0
  let s := if st = .off then s.loseDomain d
    else { s with mem := { s.mem with ctls := updAll s.mem.ctls fun m x =>
      if 18 ≤ d.val ∧ m.val / 2 = d.val - 18 ∧ x.state = 2 then { x with state := 4 } else x } }
  let s := s.release fun w => match w with | .domain k _ => k == d | _ => false
  (s.answerWaiting (· == .domainWake d) fun s c => s.ok c (leBytes 1 st.code ++ leBytes 3 0)).refreshBudget.retryRound

/-- R501: standby may be entered. -/
def State.mayStandby (s : State) : Bool :=
  !s.anyStreams && s.cf.state == 0 && s.linkU 0 1 == 0 && s.dma.chans.toList.all fun x => x.state == 0 || x.state == 6

/-- R497, R501: PWR_DOMAIN. -/
def State.runPwrDomain (s : State) (c : Cmd) (domain state : Byte) : State :=
  let t := state.toNat
  let done (s : State) (st : DomState) : State := s.ok c (leBytes 1 st.code ++ leBytes 3 0)
  if domain = 0xFF then
    if t != 0 then s.bad c 17
    else if !s.mayStandby then s.bad c 16
    else done { s with pwr := { s.pwr with standbyAsked := true } } .off
  else if h : domain.toNat < 22 then
    let d : Fin 22 := ⟨domain.toNat, h⟩
    let now := s.pwr.doms[d].state
    match t with
    | 2 =>
      if now == .on then done s .on
      else if !s.footed d then s.bad c 16
      else if now == .changing then s.wait c (.domainWake d)
      else s.askFor c (.domain d (some c.h.port)) 1 (onCost d.val) 5 (.domainWake d)
    | 1 =>
      if now == .retain then done s .retain
      else if now == .off || (retainCost d.val).isNone || s.inUse_ d || s.carries_ d .retain then s.bad c 16
      else done (s.switchDown d .retain) .retain
    | 0 =>
      if now == .off then done s .off
      else if s.inUse_ d || s.carries_ d .off then s.bad c 16
      else done (s.switchDown d .off) .off
    | _ => s.bad c 17
  else s.bad c 16

/-- R505: PWR_BUDGET. -/
def State.runPwrBudget (s : State) (c : Cmd) (budget : Word) : State :=
  if budget.toNat < 200 ∨ 1240 < budget.toNat then s.bad c 16
  else if s.locked 0x0F01 65535 || (s.openFor 0x0F01 65535).isSome then s.retryOpen c
  else
    let s := (s.writeBoth 0x0F01 65535 0 (leBytes 2 budget.toNat)).refreshBudget.retryRound
    s.ok c (leBytes 4 s.budget)

/-- R505: PWR_STATUS. -/
def State.runPwrStatus (s : State) (c : Cmd) : State :=
  let p := s.pwr
  let head := p.queue.head?
  s.ok c (leBytes 2 s.budget ++ leBytes 2 s.grantedUnits ++ leBytes 2 s.standingUnits ++ leBytes 1 p.queue.length ++
    leBytes 1 (bit 0 p.pfActive + bit 1 p.pfSafe + bit 2 (decide (s.budget < s.grantedUnits))) ++ leBytes 4 p.deniedBoot ++
    leBytes 1 (match head with | some r => r.kind | none => 0) ++ leBytes 1 (match head with | some r => r.prio | none => 0) ++
    leBytes 2 (match head with | some r => r.cost | none => 0) ++ p.doms.toList.map (fun d => BitVec.ofNat 8 d.state.code) ++
    leBytes 2 0)

/-! ### Standby -/

/-- R89: the mailboxes and intakes are empty and no command is in execution. -/
def State.mgmtIdle (s : State) : Bool :=
  (s.mb.chans.toList.all fun c => c.slots.all fun x => !x.full) &&
    s.ports.toList.all fun p => p.intake.isNone && p.running.isNone && p.entryWait.isNone && p.outgoing.isEmpty

/-- R501: the state a domain takes in standby. -/
def State.standbyState (s : State) (d : Fin 22) : DomState :=
  let used (k : Nat) : Bool := (fins 6).any fun (m : Fin 6) => m.val / 2 == k && s.mem.ctls[m].inUse
  if d.val = 0 then .on
  else if d.val = 2 then (if (List.range 3).any used then .retain else .off)
  else if 18 ≤ d.val ∧ d.val ≤ 20 ∧ used (d.val - 18) = true then .retain
  else .off

/-- R501: one domain enters its standby state. -/
def State.toStandby (s : State) (d : Fin 22) : State :=
  let t := s.standbyState d
  if d.val = 0 ∨ s.pwr.doms[d].state = t then s
  else
    let s := s.setDomain d t (if t = .retain then (retainCost d.val).getD 0 else 0) 0
    if t = .off then s.loseDomain d
    else { s with mem := { s.mem with ctls := updAll s.mem.ctls fun m x =>
      if 18 ≤ d.val ∧ m.val / 2 = d.val - 18 ∧ x.state = 2 then { x with state := 4 } else x } }

/-- R501, R89: standby begins once the management domain is idle. -/
def State.enterStandby (s : State) : State :=
  if s.pwr.standbyAsked && s.mgmtIdle then
    let old := s.pwr.doms.toList.map (·.state)
    let s := (fins 22).reverse.foldl State.toStandby s
    ({ s with pwr := { s.pwr with standbyAsked := false, standby := some old }, sys := { s.sys with cmdReady := false } }).setMgmt false
  else s

/-- R501: STANDBY_ENTRY. -/
def execStandbyEntry (dt : Nat) (s : State) : Host.Outcome State Fault Refusal := commit dt (fun s => s.enterStandby) s

/-- R501: standby ends: PD01 to PD03 wake under standing grants, and the other domains return to the states they had. -/
def State.leaveStandby (s : State) : State :=
  match s.pwr.standby with
  | none => s
  | some old => (fins 22).foldl (fun s d =>
      let was := old.getD d.val .off
      if s.pwr.doms[d].state = was then s
      else if d.val = 1 ∨ d.val = 2 ∨ d.val = 3 then s.beginWake d
      else match was with
        | .on | .changing => s.askWake d
        | .retain => s.setDomain d .retain ((retainCost d.val).getD 0) 0
        | .off => s) s

end Sys2Proof.Machine
end

