-- ==== Sys2Proof/Machine/Wellhead.lean ====
section
/-!
DEFINITION. The Wellhead (R507 to R511) and power failure (R512).
-/
namespace Sys2Proof.Machine

/-- A field of a Wellhead rule. -/
def State.ruleU (s : State) (r off n : Nat) : Nat := s.au 0x0F02 r off n
/-- A signed field of a Wellhead rule. -/
def State.ruleS (s : State) (r off : Nat) : Int := s.as 0x0F02 r off 2

/-- R507: the value of an input, with pins as 0 or 1. -/
def State.inputValue (s : State) (i : Nat) : Int :=
  if i < 24 then s.wh.temps.toList.getD i 0
  else if i = 24 then s.tmax
  else if i = 25 then (s.tempDrift : Int)
  else if 32 ≤ i ∧ i ≤ 38 then s.wh.rails.toList.getD (i - 32) 0
  else match i with
    | 40 => if s.wh.pins.getLsbD 0 then 1 else 0
    | 41 => if s.wh.pins.getLsbD 1 then 1 else 0
    | 42 => if s.twin.hbAlive then 1 else 0
    | _ => 0

/-- R510: an input on which a rule stays inactive: a sensor that is not selected. -/
def State.inputDead (s : State) (i : Nat) : Bool := (decide (i < 24) && s.tempExclude.testBit i)

/-- R509, R510: the comparison of a rule holds, with its limits moved by a margin toward the safe side. -/
def State.compares (s : State) (r : Nat) (margin : Int) : Bool :=
  let y := s.inputValue (s.ruleU r 1 1)
  let lo := s.ruleS r 4
  let hi := s.ruleS r 6
  match s.ruleU r 2 1 with
  | 0 => decide (lo - margin < y)
  | 1 => decide (y < lo + margin)
  | 2 => decide (y < lo + margin) || decide (hi - margin < y)
  | _ => y != 0

/-- R510: the actions of a rule that becomes active. -/
def State.ruleActions (s : State) (r : Nat) : State :=
  let a := s.ruleU r 3 1
  let s := if a.testBit 0 then
      (match s.ruleU r 10 1 with
       | 0 => s.raise 52 19
       | 1 => s.raiseHeld 52 12
       | 2 => s.raiseHeld 52 13
       | 3 => s.raiseHeld 52 14
       | _ => s.raiseHeld 52 22)
    else s
  let s := if a.testBit 2 then
      (if s.pwr.standby.isSome then (if (s.ruleU r 16 4).testBit 1 then s.leaveStandby else s)
       else ((fins 22).filter fun (d : Fin 22) => (s.ruleU r 16 4).testBit d.val && s.pwr.doms[d].state == .off).foldl State.askWake s)
    else s
  if a.testBit 3 then s.askRound else s

/-- R510: a rule whose comparison has held for HOLD_US becomes active. -/
def State.activateRule (s : State) (r : Fin 32) : State :=
  match s.wh.since[r] with
  | some t =>
    if s.wh.active.getLsbD r.val = false ∧ t + ticksOfUs (s.ruleU r 12 4) ≤ s.now then
      let m : Word := 1#32 <<< r.val
      ({ s with wh := { s.wh with active := s.wh.active ||| m, fired := s.wh.fired ||| m } }).ruleActions r.val
    else s
  | none => s

/-- R510: a rule is evaluated at an update of its input. -/
def State.evalRule (s : State) (r : Fin 32) : State :=
  let live := s.ruleU r 0 1 == 1 && !s.inputDead (s.ruleU r 1 1)
  let holds := live && s.compares r.val 0
  let stays := live && s.compares r.val (s.ruleU r 8 2)
  let s := { s with wh := { s.wh with
    since := s.wh.since.set r (if holds then some (s.wh.since[r].getD s.now) else none)
    active := if stays then s.wh.active else s.wh.active &&& ~~~(1#32 <<< r.val) } }
  s.activateRule r

/-- R510: the rules that test one of the inputs. -/
def State.evalInputs (s : State) (is_ : List Nat) : State :=
  ((fins 32).filter fun (r : Fin 32) => is_.contains (s.ruleU r.val 1 1)).foldl State.evalRule s

/-- R508: the average of an input at a sample, rounded half up. -/
def average (y x : Int) (shift : Nat) : Int := roundDiv (y * 2 ^ shift + (x - y)) (2 ^ shift)

/-- R507, R508: a sample of an input. -/
def State.sample (s : State) (input : Nat) (value : Int) : State :=
  if h : input < 24 then
    let s := { s with wh := { s.wh with
      temps := upd s.wh.temps ⟨input, h⟩ fun y => average y value (s.au 0x0F01 65535 8 1)
      sampled := s.wh.sampled ||| BitVec.ofNat 24 (2 ^ input) } }
    s.evalInputs [input, 24, 25]
  else if h : 32 ≤ input ∧ input ≤ 38 then
    ({ s with wh := { s.wh with
      rails := upd s.wh.rails ⟨input - 32, by omega⟩ fun y => average y value (s.au 0x0F01 65535 9 1) } }).evalInputs [input]
  else if input = 41 then
    ({ s with wh := { s.wh with pins := (s.wh.pins &&& 5) ||| (if value = 0 then 0 else 2) } }).evalInputs [41]
  else s.evalInputs [input]

/-- R507: WELLHEAD_SAMPLE. -/
def execWellheadSample (dt : Nat) (input : Nat) (value : Int) (s : State) : Host.Outcome State Fault Refusal :=
  commit dt (fun s => s.sample input value) s

/-- R510: WELLHEAD_RULE_ACTIVE: a comparison has held for HOLD_US. -/
def execWellheadRuleActive (dt : Nat) (rule : Fin 32) (s : State) : Host.Outcome State Fault Refusal :=
  commit dt (fun s =>
    if s.ruleU rule 0 1 == 1 && s.compares rule.val 0 && !s.inputDead (s.ruleU rule 1 1) then s.activateRule rule else s) s

/-- R507, R510: WAKE_PIN: the third equal sample of WAKE. -/
def execWakePin (dt : Nat) (s : State) : Host.Outcome State Fault Refusal :=
  commit dt (fun s => s.sample 41 1) s

/-! ### Power failure -/

/-- R72, R512: the staged entries are in MRAM. -/
def State.storeEntries (s : State) (n : Nat) : State :=
  let done := (s.audit.staged.take n).map fun e => (e.1, e.2.2)
  let pages := (done.map fun e => e.1.toNat % 32768 / 2).eraseDups.length
  { s with
    nvm := { s.nvm with pages := satAdd 32 s.nvm.pages pages }
    audit := { s.audit with
      staged := s.audit.staged.drop n, ring := (done.reverse ++ s.audit.ring).take 32768, flushing := 0 } }

/-- R512: PWRFAIL_N is asserted. -/
def State.powerFails (s : State) : State :=
  if s.pwr.pfActive then s
  else
    let s := { s with
      pwr := { s.pwr with pfActive := true, pfSafe := false, pfHold := true }, wh := { s.wh with pins := s.wh.pins ||| 1 } }
    let s := s.raiseHeld 52 15
    ({ s with audit := { s.audit with flushing := s.audit.staged.length } }).evalInputs [40]

/-- R512: PWRFAIL_ASSERT. -/
def execPwrfailAssert (dt : Nat) (s : State) : Host.Outcome State Fault Refusal := commit dt (fun s => s.powerFails) s

/-- R512: PWRFAIL_N is released before power is lost. -/
def State.powerReturns (s : State) : State :=
  if s.pwr.pfActive then
    ({ s with pwr := { s.pwr with pfActive := false, pfSafe := false, pfHold := false }
              wh := { s.wh with pins := s.wh.pins &&& 6 } }).evalInputs [40]
  else s

/-- R512: PWRFAIL_RELEASE. -/
def execPwrfailRelease (dt : Nat) (s : State) : Host.Outcome State Fault Refusal := commit dt (fun s => s.powerReturns) s

end Sys2Proof.Machine
end

