-- ==== Sys2Proof/Machine/Boot.lean ====
section
/-!
DEFINITION. Resets and boot (R567 to R573, R533, R537, R538). A boot run is one command: its operand says how far it came
and what it met; its audit entries carry the device time of its end (log entry 30).
-/
namespace Sys2Proof.Machine

/-! ### What a reset keeps -/

/-- R71, R533: the serial after the newest entry of the ring. -/
def State.nextSerial (s : State) : Word :=
  match s.audit.ring with
  | e :: _ => e.1 + 1
  | [] => 0

/-- R534, R529: a stage that a reset cut off left the image's committed copy, or none. -/
def cutStage (committed : List Byte) (x : Image) : Image :=
  if x.state != 1 then x
  else if committed.isEmpty then {}
  else { state := 3, bytes := committed, version := word committed 4, length := word committed 12, bodyCrc := word committed 16 }

/-- R513, R529: what MRAM holds. -/
def Nvm.kept (n : Nvm) : Nvm :=
  { stored := n.stored, valid := n.valid, session := n.session, epoch := n.epoch, activeSlot := n.activeSlot
    trial := n.trial, bootSet := n.bootSet, slots := updAll n.slots fun _ x => cutStage [] x
    sets := updAll n.sets fun i x => cutStage n.committed[i] x, committed := n.committed }

/-- R567: the state at the start of a boot: MRAM is kept, RWS fields and the kept commands unless VDD_AO fell (`aoLost`).
The steward's standing grants are reserved (R500). -/
def State.resetState (s : State) (aoLost twinSel : Bool) (addrSel : Nat) : State :=
  { now := s.now, freeCtr := s.freeCtr, nvm := s.nvm.kept
    sys := { twinSel, addrSel, bootRef := s.now, wdCount := if aoLost then 0 else s.sys.wdCount }
    audit := { next := s.nextSerial, ring := s.audit.ring }
    mb := { toAbort := if aoLost then [] else s.mb.toAbort ++ s.mb.kept }
    queues := updAll s.queues fun i _ => { checkFail := !aoLost && s.queues[i].checkFail }
    twin := { state := if twinSel then .forming else .single }
    pwr := { doms := Vector.ofFn fun d => if d.val = 0 then { state := .on, grant := 4 } else { state := .off, grant := 0 }
             standing := if twinSel then 24 else 8 } }

/-! ### Boot steps -/

/-- A domain is powered without an entry: PD01 to PD03 under their standing grants (R500). -/
def State.powerUp (s : State) (d : Fin 22) : State :=
  { s with pwr := { s.pwr with doms := s.pwr.doms.set d { state := .on, grant := onCost d.val } } }

/-- R72: entries staged during boot are flushed before the staging fills. -/
def State.bootFlush (s : State) : State := if 16 ≤ s.audit.staged.length then s.storeEntries s.audit.staged.length else s

/-- R573: a step met a failure. -/
def State.failedAt (s : State) (step : Nat) : State := { s with sys := { s.sys with failStep := step } }

/-- R339, R573: the ROM increments SESSION, which skips 0, and loads the calibration copy. -/
def State.bootRom (s : State) : State :=
  let n : Half := if s.nvm.session + 1 = 0 then 1 else s.nvm.session + 1
  let s := ({ s with nvm := { s.nvm with session := n }, link := { s.link with session := n } }).powerUp 1
  if s.nvm.valid then s else (s.raiseHeld 52 25).failedAt 3

/-- R535, R537: a slot that may run. -/
def State.slotGood (s : State) (i : Nat) : Bool := [3, 4, 5].contains s.nvm.slots[Fin.ofNat 2 i].state

/-- R537, R570: the firmware slot that runs. -/
def State.bootSlot (s : State) : State :=
  let run (s : State) (i : Nat) : State := s.setNvm fun n => { n with running := i }
  let s := if 3 ≤ s.sys.wdCount then { (run s 255) with sys := { s.sys with romOnly := true } }
    else if s.slotGood s.nvm.activeSlot then run s s.nvm.activeSlot
    else if s.slotGood (1 - s.nvm.activeSlot) then (((run s (1 - s.nvm.activeSlot)).failedAt 4).raiseHeld 52 26).logFirmware
    else (run s 255).failedAt 4
  ({ s with sys := { s.sys with hbOut := true } }).setMgmt true

/-- R535: the record images of the profile library and of BOOT_SET, in image order. -/
def State.bootImages (s : State) : List (Nat × Nat × List Byte) :=
  let body (target i : Nat) : List (Nat × Nat × List Byte) :=
    let b := imageBody target s.nvm.committed[Fin.ofNat 5 i]
    (bodyRecords b.length b).getD []
  body 2 4 ++ (if s.sys.romOnly ∨ 4 ≤ s.nvm.bootSet then [] else body 1 s.nvm.bootSet)

/-- R538: a record that failed its checks is skipped, with an entry that names it; its CODE is open (log entry 31). -/
def State.skipImage (s : State) (id inst : Nat) : State :=
  ((s.nextFree.log (s.entry 0x10 0x0A ((Config.freeWord s.freeCtr).toNat % 65536) (BitVec.ofNat 64 (id + inst * 65536)))).failedAt 8)

/-- R279: stitching that begins at boot takes its leave when the budget covers it; the Bool tells. -/
def State.bootStitch (s : State) (k : Change) : State × Bool :=
  if stitching k.old = 0 ∧ 0 < stitching k.new ∧ s.holds isStitch = false then
    if s.grantedUnits + 40 ≤ s.budget then
      ({ s with pwr := { s.pwr with grants := s.pwr.grants ++ [{ who := .stitch none, kind := 8, cost := 40, prio := 4, at_ := s.now }] } }, true)
    else (s, false)
  else (s, true)

/-- R70, R538: a record of an image becomes active: an entry of kind 0x02 of firmware, with SEQ 0. -/
def State.activateImage (s : State) (p : Nat × Nat) : State :=
  let old := s.recs.active
  let row : Word := if s.grid.valid then s.rowNo else 0
  let s := { s with recs := { s.recs with active := activateRec s.recs p } }
  let s := (s.refreshLoad).log (s.entry 0x10 2 0x0203 (BitVec.ofNat 64 (p.1 + p.2 * 65536 + row.toNat * 2 ^ 32)))
  s.afterApply old [p]

/-- R538: a record image is applied as REC_WRITE and an immediate REC_APPLY would, or skipped. -/
def State.bootImage (s : State) (r : Nat × Nat × List Byte) : State :=
  let id := r.1
  let i := r.2.1
  let data := r.2.2
  let s := s.bootFlush
  if id = 0x0306 then
    if 128 ≤ i ∨ s.mapLength i < data.length ∨ s.memReady = false ∨ s.mapInUse i = true then s.skipImage id i
    else s.lpStore (s.mapBase i) data
  else if recExists id i = false ∨ recSize id < data.length ∨ (badField (fieldsOf id i) 0 data data.length).isSome = true ∨
      s.writeMapBad id i 0 data = true then s.skipImage id i
  else
    let before := s
    let s := s.writePending id i 0 data
    let k : Change := { old := s.recs.active, new := activateRec s.recs (id, i), pairs := [(id, i)] }
    if s.accepts k 0 0 (id, i) = false ∨ (s.inconsistent k).isSome = true ∨ s.applyBlocked k = 2 then s.skipImage id i
    else
      let g := s.bootStitch k
      if g.2 then g.1.activateImage (id, i) else before.skipImage id i

/-- R482, R368, R506, R571: the records that firmware applies in step 5, from the configuration set. -/
def earlyRecord (id : Nat) : Bool := [0x0E01, 0x0E02, 0x0D01, 0x0F01, 0x0110].contains id

/-- R569, step 5: the working calibration, the boot entry, the early records and the temperature check; TEMP_REF is then
TEMP_MAX (R507). -/
def State.bootFirmware (s : State) (cause : Nat) : State :=
  let s := s.setNvm fun n => { n with working := n.stored, inForce := n.stored.bytes }
  let s := { s with twin := { s.twin with epoch := s.nvm.epoch } }
  let s := s.log (s.entry 0x10 0x0A cause 0)
  let s := ((s.bootImages.filter fun r => earlyRecord r.1).foldl State.bootImage s).checkTemps
  { s with wh := { s.wh with tref := s.tmax } }

/-- R498: a domain wakes at boot under ordinary leave, or waits for it; one that missed its wake time stays changing. -/
def State.bootDomain (s : State) (fails : Bool) (d : Fin 22) : State :=
  let s := s.bootFlush
  if s.domOn d then s
  else if s.budget < s.grantedUnits + onCost d.val then s.askWake d
  else if fails then ((s.setDomain d .changing (onCost d.val) 0).failedAt 7).raiseHeld 52 18
  else s.setDomain d .on (onCost d.val) 0

/-- R436, R437: the enabled channels of the memory domains that are on train, and the interleave set is chosen. -/
def State.bootMemory (s : State) (b : BootRun) : State :=
  let s := { s with mem := { s.mem with capMib := b.capMib, ranks := b.ranks } }
  let used (m : Fin 6) : Bool := s.chEnabled m.val
  let s := ([18, 19, 20] : List (Fin 22)).foldl (fun s d =>
    if (fins 6).any fun (m : Fin 6) => m.val / 2 + 18 == d.val && used m then s.bootDomain (b.wakeFail.contains d) d else s) s
  let s := (fins 6).foldl (fun (s : State) (m : Fin 6) =>
    if used m && s.domOn (Fin.ofNat 22 (18 + m.val / 2)) then
      let bad := b.trainFail.getLsbD m.val
      let s := (s.setMc m fun x => { x with state := 1, retried := bad }).trainEnd m (!bad)
      if bad then s.failedAt 6 else s
    else s) s
  s.chooseSet.refreshPlan

/-- R139: every queue whose domain is on is swept. -/
def State.bootSweeps (s : State) (out : List (Fin 43)) : State :=
  (fins 43).foldl (fun (s : State) (q : Fin 43) =>
    if !s.domOn (queueDomain q) then s
    else if out.contains q then (s.sweepOut q).failedAt 7
    else s.sweepClean q 0) s

/-- R569, step 7: the domains of BOOT_DOMAINS, the sweeps and the start of twin operation. -/
def State.bootDomains (s : State) (b : BootRun) : State :=
  let mask := s.au 0x0F01 65535 4 4
  let s := ((fins 22).filter fun (d : Fin 22) => mask.testBit d.val && decide (4 ≤ d.val)).foldl
    (fun s d => s.bootDomain (b.wakeFail.contains d) d) s
  let s := s.bootSweeps b.queueOut
  if s.twinPair then
    let s := s.enter .forming s.twin.epoch
    let s := { s with twin := { s.twin with formAt := s.now } }
    if s.domOn 15 then s.beginAttempt true true else s
  else s

/-- R569, step 8, R571: the profile library and BOOT_SET, without the memory record; network time starts in holdover
(R376). -/
def State.bootRecords (s : State) : State :=
  let s := (s.bootImages.filter fun r => r.1 != 0x0110).foldl State.bootImage s
  if s.syncMode then s.enterHoldover 1 else s

/-- R568, R569, step 9: CMD_READY; the EVENT cause arises once when a source of severity 1 or above is set. -/
def State.bootReady (s : State) (us : Word) : State :=
  let s := { s with sys := { s.sys with cmdReady := true, readyAt := s.now, readyUs := us, wdCount := 0 } }
  let s := s.raise 52 0
  { s with ev := { s.ev with notify := s.summary != 0 } }

/-- R507: the averages of the Wellhead and TEMP_REF at boot. -/
def State.bootTemps (s : State) (b : BootRun) : State :=
  let s := { s with wh := { s.wh with
    temps := Vector.ofFn (fun i => b.temps.getD i.val 0), rails := Vector.ofFn (fun i => b.rails.getD i.val 0)
    sampled := BitVec.ofNat 24 (2 ^ min b.temps.length 24 - 1) } }
  { s with wh := { s.wh with tref := s.tmax } }

/-- R569: a boot run up to the last step that ended; `first` is what firmware reports first in step 5. -/
def State.boot (s : State) (cause : Nat) (b : BootRun) (first : State → State) : State :=
  let n := b.lastStep
  let s := { s with sys := { s.sys with cause } }
  let s := (if 1 ≤ n then s.powerUp 2 else s).advance (ticksOfUs b.readyUs.toNat)
  let s := s.bootTemps b
  let s := if 2 ≤ n then s.powerUp 3 else s
  let s := if 3 ≤ n then s.bootRom else s
  let s := if 4 ≤ n then s.bootSlot else s
  let s := if 5 ≤ n then first (s.bootFirmware cause) else s
  let s := if 6 ≤ n then s.bootMemory b else s
  let s := if 7 ≤ n then s.bootDomains b else s
  let s := if 8 ≤ n then s.bootRecords else s
  if 9 ≤ n then s.bootReady b.readyUs else s

/-! ### The resets -/

/-- R537: a watchdog or lockstep reset during a firmware trial marks the slot INVALID; the Bool tells. -/
def State.endTrial (s : State) : State × Bool :=
  if s.nvm.trial then
    (s.setNvm fun n => { n with trial := false, slots := upd n.slots (Fin.ofNat 2 n.activeSlot) fun x => { x with state := 6 } }, true)
  else (s, false)

/-- R567: a reset as RESET_N makes it, with a boot. -/
def State.warmReset (s : State) (cause : Nat) (b : BootRun) (first : State → State := id) : State :=
  (s.resetState false s.sys.twinSel s.sys.addrSel).boot cause b first

/-- R537, R570: a reset by a watchdog or by lockstep; `bit` is the source that firmware reports. -/
def State.faultReset (s : State) (cause : Nat) (b : BootRun) (source : Option Nat) : State :=
  let r := s.endTrial
  r.1.warmReset cause b fun s =>
    let s := match source with | some k => s.raise 52 k | none => s
    if r.2 then s.logFirmware else s

/-- R567: POWER_ON_RESET. -/
def execPowerOnReset (dt : Nat) (aoLost twinSel : Bool) (addrSel : Fin 8) (boot : BootRun) (s : State) :
    Host.Outcome State Fault Refusal :=
  commit dt (fun s => (s.resetState aoLost twinSel addrSel.val).boot 1 boot id) s

/-- R567: RESET_N. -/
def execResetN (dt : Nat) (boot : BootRun) (s : State) : Host.Outcome State Fault Refusal :=
  commit dt (fun s => s.warmReset 2 boot) s

/-- R570: BOOT_WATCHDOG: CMD_READY has not come within 200 ms of the reference instant. -/
def execBootWatchdog (dt : Nat) (boot : BootRun) (s : State) : Host.Outcome State Fault Refusal :=
  commit dt (fun s =>
    if s.sys.cmdReady = false ∧ s.pwr.standby = none ∧ s.sys.bootRef + ticksOfMs 200 ≤ s.now then
      ({ s with sys := { s.sys with wdCount := min 15 (s.sys.wdCount + 1) } }).faultReset 4 boot none
    else s) s

/-- R567: MANAGEMENT_WATCHDOG. -/
def execManagementWatchdog (dt : Nat) (boot : BootRun) (s : State) : Host.Outcome State Fault Refusal :=
  commit dt (fun s => s.faultReset 5 boot (some 1)) s

/-- R567, R491: LOCKSTEP. -/
def execLockstep (dt : Nat) (boot : BootRun) (s : State) : Host.Outcome State Fault Refusal :=
  commit dt (fun s => s.faultReset 6 boot (some 2)) s

/-! ### Resets that follow a reply (R65) -/

/-- R65: the reply that precedes the reset has been taken, or 10 ms have passed. -/
def State.replyTaken (s : State) (p : Port) (due : Nat) : Bool :=
  decide (due ≤ s.now) || (s.mb.chans[p.outChan].slots.all (fun x => !x.full) && (s.port p).outgoing.isEmpty &&
    (s.port p).entryWait.isNone)

/-- R88: a command in execution or in an intake is answered ABORTED by the firmware that restarts. -/
def State.abortPort (s : State) (p : Port) : State :=
  let s := match (s.port p).running with
    | some r => s.fail ⟨r.h, r.body⟩ 2 0
    | none => s
  match (s.port p).intake with
  | none => s
  | some i =>
    let s := s.setPort p fun q => { q with intake := none }
    match i with
    | .parsed h body => s.fail ⟨h, body⟩ 2 0
    | .packet _ bytes =>
      let h : Hdr := { port := p, seq := word bytes 4, epochCheck := false, active := false, leaveWait := 0, epoch := 0
                       check := word bytes (16 + field bytes 2 2), mirror := none }
      s.fail ⟨h, .unknown (half bytes 0) []⟩ 2 0

/-- R65, R88, R95, R488: the management processor restarts: commands end ABORTED, firmware's semaphores are released and
factory test mode ends. -/
def State.restartMgmt (s : State) : State :=
  let s := allPorts.foldl State.abortPort s
  let s := ((fins 64).filter fun (n : Fin 64) => [0x10, 0x11, 0x13].contains s.mb.sems[n].toNat).foldl (fun s n => s.semForce n) s
  let s := if s.sys.factoryTest then s.leaveTest else s
  { s with sys := { s.sys with restarting := true } }

/-- R65: a reset that an answered command asked for begins. -/
def State.beginReset (s : State) (b : BootRun) : State :=
  match s.sys.resetDue with
  | some (cause, p, due) =>
    if s.replyTaken p due then
      let s := { s with sys := { s.sys with resetDue := none } }
      if cause = 0 then s.restartMgmt else s.warmReset cause b
    else s
  | none => s

/-- R65: SYS_RESET_BEGIN. -/
def execSysResetBegin (dt : Nat) (boot : BootRun) (s : State) : Host.Outcome State Fault Refusal :=
  commit dt (fun s => s.beginReset boot) s

/-- R88: MGMT_RESTART_DONE: firmware accepts commands again. -/
def execMgmtRestartDone (dt : Nat) (s : State) : Host.Outcome State Fault Refusal :=
  commit dt (fun s => { s with sys := { s.sys with restarting := false } }) s

/-- R65: SYS_RESET: the reply, and then the reset. -/
def State.runSysReset (s : State) (c : Cmd) (scope : Word) : State :=
  if scope = 0 then (s.resetAfter 3 c.h.port).ok c []
  else if scope = 1 then (s.resetAfter 0 c.h.port).ok c []
  else s.bad c 16

end Sys2Proof.Machine
end

