-- ==== Sys2Proof/Machine/Packet.lean ====
section
/-!
DEFINITION. Command packets (R50 to R53): the payload of every opcode as its chapter lays it out, read and written. Reserved
fields are ignored when read and written as 0.
-/
namespace Sys2Proof.Machine

/-! ### Payloads written -/

/-- A byte as a list. -/
def leByte (b : Byte) : List Byte := leBytes 1 b.toNat

/-- R380: the payload of TRIG_SCHEDULE. -/
def trigReqBytes (r : TrigReq) : List Byte :=
  leHalf r.output ++ leByte r.mode ++ leByte r.flags ++ leWord r.start ++ leWord r.periodNs ++ leHalf r.periodFrac ++
    leHalf r.context ++ leWord r.width ++ leWord r.count ++ leByte r.source ++ leBytes 3 0 ++ leWord r.offset

/-- R358: the payload of LINK_TEST. -/
def testReqBytes (r : TestReq) : List Byte :=
  leByte r.mode ++ leByte r.pattern ++ leByte r.inject ++ leByte r.burstLen ++ leWord r.lanes ++ leWord r.duration ++
    leWord r.injectPeriod

/-- The payload of a command. -/
def payloadOf : Body → List Byte
  | .sysInfo | .streamStatus | .fwStatus | .twinStatus | .twinAdmit | .timeRead | .logStatus | .pwrStatus | .linkStatus => []
  | .sysReset scope => leWord scope
  | .regRead offset count => leWord offset ++ leWord count
  | .regWrite offset words => leWord offset ++ words.flatMap leWord
  | .recWrite id inst offset first last data =>
    leHalf id ++ leHalf inst ++ leWord offset ++ leBytes 1 (bit 0 first + bit 1 last) ++ leBytes 3 0 ++ data
  | .recRead id inst offset count => leHalf id ++ leHalf inst ++ leWord offset ++ leWord count
  | .recApply kind ctx boundary pairs =>
    leByte kind ++ leBytes 1 pairs.length ++ leHalf ctx ++ leWord boundary ++ pairs.flatMap fun p => leHalf p.1 ++ leHalf p.2
  | .streamStart mask | .streamStop mask | .logMark mask => leBytes 8 mask.toNat
  | .expoSet ctx kind target ns gain =>
    leHalf ctx ++ leByte kind ++ leBytes 1 0 ++ leWord target ++ leWord ns ++ leWord gain
  | .statsRead ctx what serial offset count =>
    leHalf ctx ++ leByte what ++ leBytes 1 0 ++ leWord serial ++ leWord offset ++ leWord count
  | .sensWrite sensor reg data => leHalf sensor ++ leHalf reg ++ leBytes 1 data.length ++ leBytes 3 0 ++ pad4 data
  | .sensRead sensor reg count => leHalf sensor ++ leHalf reg ++ leByte count ++ leBytes 3 0
  | .sensSeq sensor flags writes =>
    leHalf sensor ++ leBytes 1 writes.length ++ leByte flags ++
      writes.flatMap fun w => leHalf w.reg ++ leByte w.size ++ leBytes 1 0 ++ leWord w.data
  | .sensErrlog start count | .logRead start count => leWord start ++ leWord count
  | .calRun type target => leByte type ++ leByte target ++ leBytes 2 0
  | .calCommit flags => leWord flags
  | .calExport which offset count => leByte which ++ leBytes 3 0 ++ leWord offset ++ leWord count
  | .calImport flags offset data => leByte flags ++ leBytes 3 0 ++ leWord offset ++ data
  | .fwStage target index flags offset data =>
    leByte target ++ leByte index ++ leByte flags ++ leBytes 1 0 ++ leWord offset ++ data
  | .fwActivate target index scope => leByte target ++ leByte index ++ leByte scope ++ leBytes 1 0
  | .roleSwap row => leWord row
  | .timeSet mode flags value at_ => leByte mode ++ leByte flags ++ leBytes 2 0 ++ leWord value ++ leWord at_
  | .timeIncr incr flags => leWord incr ++ leWord flags
  | .trigSchedule r => trigReqBytes r
  | .evinRead input start count => leByte input ++ leBytes 3 0 ++ leWord start ++ leWord count
  | .evtStatus block => leByte block ++ leBytes 3 0
  | .evtClear block mask => leByte block ++ leBytes 3 0 ++ leWord mask
  | .evtSeverity block b severity => leByte block ++ leByte b ++ leByte severity ++ leBytes 1 0
  | .evtInject block b mode hold => leByte block ++ leByte b ++ leByte mode ++ leBytes 1 0 ++ leWord hold
  | .pwrBudget budget => leWord budget
  | .pwrDomain domain state => leByte domain ++ leByte state ++ leBytes 2 0
  | .dmaStatus first count => leByte first ++ leByte count ++ leBytes 2 0
  | .dmaAbort channel => leByte channel ++ leBytes 3 0
  | .linkRetrain flags => leWord flags
  | .linkTest r => testReqBytes r
  | .testMode mode => leByte mode ++ leBytes 3 0
  | .testBist targets => leWord targets
  | .badLength _ p => p
  | .unknown _ p => p

/-! ### Payloads read -/

/-- `n` words from an offset upward. -/
def wordsAt (p : List Byte) (off n : Nat) : List Word := (List.range n).map fun i => word p (off + 4 * i)

/-- R62, R57: the CONF class. -/
def parseConf (o : Nat) (p : List Byte) : Option Body :=
  let n := p.length
  match o with
  | 0x0201 => if 16 ≤ n then
      let f := byteAt p 8
      some (.recWrite (half p 0) (half p 2) (word p 4) (f.getLsbD 0) (f.getLsbD 1) (p.drop 12)) else none
  | 0x0202 => if n = 12 then some (.recRead (half p 0) (half p 2) (word p 4) (word p 8)) else none
  | 0x0203 =>
    let k := (byteAt p 1).toNat
    if n = 8 + 4 * k then
      some (.recApply (byteAt p 0) (half p 2) (word p 4)
        ((List.range k).map fun i => (half p (8 + 4 * i), half p (10 + 4 * i)))) else none
  | _ => none

/-- R232, R236, R244: the SENS class. -/
def parseSens (o : Nat) (p : List Byte) : Option Body :=
  let n := p.length
  match o with
  | 0x0501 =>
    let k := (byteAt p 4).toNat
    if n = 8 + (k + 3) / 4 * 4 then some (.sensWrite (half p 0) (half p 2) ((p.drop 8).take k)) else none
  | 0x0502 => if n = 8 then some (.sensRead (half p 0) (half p 2) (byteAt p 4)) else none
  | 0x0503 =>
    let k := (byteAt p 2).toNat
    if n = 4 + 8 * k then
      some (.sensSeq (half p 0) (byteAt p 3) ((List.range k).map fun i =>
        { reg := half p (4 + 8 * i), size := byteAt p (6 + 8 * i), data := word p (8 + 8 * i) })) else none
  | 0x0504 => if n = 8 then some (.sensErrlog (word p 0) (word p 4)) else none
  | _ => none

/-- R64, R65, R58, R574 to R576, R209, R223: the SYS, STREAM and EXPO classes. -/
def parseSys (o : Nat) (p : List Byte) : Option Body :=
  let n := p.length
  match o with
  | 0x0101 => if n = 0 then some .sysInfo else none
  | 0x0102 => if n = 4 then some (.sysReset (word p 0)) else none
  | 0x0110 => if n = 8 then some (.regRead (word p 0) (word p 4)) else none
  | 0x0111 => if 4 ≤ n then some (.regWrite (word p 0) (wordsAt p 4 ((n - 4) / 4))) else none
  | 0x0301 => if n = 8 then some (.streamStart (BitVec.ofNat 64 (field p 0 8))) else none
  | 0x0302 => if n = 8 then some (.streamStop (BitVec.ofNat 64 (field p 0 8))) else none
  | 0x0303 => if n = 0 then some .streamStatus else none
  | 0x0401 => if n = 16 then some (.expoSet (half p 0) (byteAt p 2) (word p 4) (word p 8) (word p 12)) else none
  | 0x0402 => if n = 16 then some (.statsRead (half p 0) (byteAt p 2) (word p 4) (word p 8) (word p 12)) else none
  | _ => none

/-- R524 to R527, R534 to R539: the CAL and NVM classes. -/
def parseCal (o : Nat) (p : List Byte) : Option Body :=
  let n := p.length
  match o with
  | 0x0601 => if n = 4 then some (.calRun (byteAt p 0) (byteAt p 1)) else none
  | 0x0602 => if n = 4 then some (.calCommit (word p 0)) else none
  | 0x0603 => if n = 12 then some (.calExport (byteAt p 0) (word p 4) (word p 8)) else none
  | 0x0604 => if 12 ≤ n ∧ n ≤ 232 then some (.calImport (byteAt p 0) (word p 4) (p.drop 8)) else none
  | 0x0701 => if 12 ≤ n ∧ n ≤ 232 then some (.fwStage (byteAt p 0) (byteAt p 1) (byteAt p 2) (word p 4) (p.drop 8)) else none
  | 0x0702 => if n = 4 then some (.fwActivate (byteAt p 0) (byteAt p 1) (byteAt p 2)) else none
  | 0x0703 => if n = 0 then some .fwStatus else none
  | _ => none

/-- R431, R426, R428, R367 to R388: the TWIN and TIME classes. -/
def parseTime (o : Nat) (p : List Byte) : Option Body :=
  let n := p.length
  match o with
  | 0x0801 => if n = 0 then some .twinStatus else none
  | 0x0802 => if n = 4 then some (.roleSwap (word p 0)) else none
  | 0x0803 => if n = 0 then some .twinAdmit else none
  | 0x0901 => if n = 12 then some (.timeSet (byteAt p 0) (byteAt p 1) (word p 4) (word p 8)) else none
  | 0x0902 => if n = 8 then some (.timeIncr (word p 0) (word p 4)) else none
  | 0x0903 => if n = 32 then some (.trigSchedule {
      output := half p 0, mode := byteAt p 2, flags := byteAt p 3, start := word p 4, periodNs := word p 8
      periodFrac := half p 12, context := half p 14, width := word p 16, count := word p 20, source := byteAt p 24
      offset := word p 28 }) else none
  | 0x0904 => if n = 0 then some .timeRead else none
  | 0x0905 => if n = 12 then some (.evinRead (byteAt p 0) (word p 4) (word p 8)) else none
  | _ => none

/-- R73, R578, R478 to R490, R497, R505: the LOG, EVT and PWR classes. -/
def parseLog (o : Nat) (p : List Byte) : Option Body :=
  let n := p.length
  match o with
  | 0x0A01 => if n = 8 then some (.logRead (word p 0) (word p 4)) else none
  | 0x0A02 => if n = 8 then some (.logMark (BitVec.ofNat 64 (field p 0 8))) else none
  | 0x0A03 => if n = 0 then some .logStatus else none
  | 0x0B01 => if n = 4 then some (.evtStatus (byteAt p 0)) else none
  | 0x0B02 => if n = 8 then some (.evtClear (byteAt p 0) (word p 4)) else none
  | 0x0B03 => if n = 4 then some (.evtSeverity (byteAt p 0) (byteAt p 1) (byteAt p 2)) else none
  | 0x0B04 => if n = 8 then some (.evtInject (byteAt p 0) (byteAt p 1) (byteAt p 2) (word p 4)) else none
  | 0x0C01 => if n = 4 then some (.pwrBudget (word p 0)) else none
  | 0x0C02 => if n = 4 then some (.pwrDomain (byteAt p 0) (byteAt p 1)) else none
  | 0x0C03 => if n = 0 then some .pwrStatus else none
  | _ => none

/-- R467, R464, R358, R359, R488, R489: the DMA, LINK and TEST classes. -/
def parseDma (o : Nat) (p : List Byte) : Option Body :=
  let n := p.length
  match o with
  | 0x0D01 => if n = 4 then some (.dmaStatus (byteAt p 0) (byteAt p 1)) else none
  | 0x0D02 => if n = 4 then some (.dmaAbort (byteAt p 0)) else none
  | 0x0E01 => if n = 0 then some .linkStatus else none
  | 0x0E02 => if n = 4 then some (.linkRetrain (word p 0)) else none
  | 0x0E03 => if n = 16 then some (.linkTest {
      mode := byteAt p 0, pattern := byteAt p 1, inject := byteAt p 2, burstLen := byteAt p 3, lanes := word p 4
      duration := word p 8, injectPeriod := word p 12 }) else none
  | 0x0F01 => if n = 4 then some (.testMode (byteAt p 0)) else none
  | 0x0F02 => if n = 4 then some (.testBist (word p 0)) else none
  | _ => none

/-- R57: the ports an opcode of the table may come from: bit p for port p. None for an opcode the table does not list. -/
def portMask (o : Nat) : Option Nat :=
  match o with
  | 0x0101 | 0x0201 | 0x0202 | 0x0203 | 0x0301 | 0x0302 | 0x0303 | 0x0401 | 0x0501 | 0x0503 | 0x0801 | 0x0901 | 0x0902
  | 0x0903 | 0x0904 | 0x0B01 => some 15
  | 0x0110 | 0x0111 | 0x0402 | 0x0502 | 0x0703 | 0x0905 | 0x0A01 | 0x0A02 | 0x0A03 | 0x0C03 | 0x0E01 => some 11
  | 0x0601 | 0x0802 | 0x0803 => some 13
  | 0x0102 | 0x0504 | 0x0602 | 0x0603 | 0x0604 | 0x0701 | 0x0702 | 0x0B02 | 0x0B03 | 0x0C01 | 0x0C02 | 0x0D01 | 0x0D02
  | 0x0E02 | 0x0E03 => some 9
  | 0x0B04 | 0x0F01 | 0x0F02 => some 8
  | _ => none

/-- R53, R57, R580: the command that an opcode and its payload spell. -/
def parseBody (opcode : Half) (p : List Byte) : Body :=
  let o := opcode.toNat
  if (portMask o).isNone then .unknown opcode p
  else
    let r := match o / 256 with
      | 1 | 3 | 4 => parseSys o p
      | 2 => parseConf o p
      | 5 => parseSens o p
      | 6 | 7 => parseCal o p
      | 8 | 9 => parseTime o p
      | 10 | 11 | 12 => parseLog o p
      | _ => parseDma o p
    r.getD (.badLength opcode p)

/-! ### Packets -/

/-- R50: the packet of a command, with the CHECK of its bytes. -/
def packetOf (h : Hdr) (b : Body) : List Byte :=
  let p := payloadOf b
  let bytes := leHalf b.opcode ++ leBytes 2 p.length ++ leWord h.seq ++ leBytes 1 1 ++
    leBytes 1 (bit 0 h.epochCheck + bit 1 h.active) ++ leHalf h.leaveWait ++ leHalf h.epoch ++ leBytes 2 0 ++ p
  bytes ++ leWord (crc32c bytes)

/-- R50, R53: a packet as a port received it: its command, and the failure of checks 1 to 3. -/
def parsePacket (p : Port) (mirror : Option Mirror) (b : List Byte) : Cmd × Option (Nat × Nat) :=
  let len := field b 2 2
  let misfits := decide (236 < len) || len % 4 != 0
  let n := if misfits then 0 else len
  let check := word b (16 + n)
  let flags := byteAt b 9
  let h : Hdr := { port := p, seq := word b 4, epochCheck := flags.getLsbD 0, active := flags.getLsbD 1
                   leaveWait := half b 10, epoch := half b 12, check, mirror }
  let early : Option (Nat × Nat) :=
    if misfits then some (5, 2)
    else if check ≠ crc32c (padTo (16 + n) b) then some (6, 0)
    else if byteAt b 8 ≠ 1 then some (5, 8)
    else none
  (⟨h, parseBody (half b 0) (padTo n (b.drop 16))⟩, early)

end Sys2Proof.Machine
end

