-- ==== Sys2Proof/Machine/LinkCmds.lean ====
section
/-!
DEFINITION. The LINK commands (R358, R359) and the rows of a link test.
-/
namespace Sys2Proof.Machine

/-! ### LINK_STATUS and LINK_RETRAIN -/

/-- R359: the 116 bytes of LINK_STATUS. -/
def State.linkStatusBytes (s : State) : List Byte :=
  let l := s.link
  leBytes 1 l.tr.state ++ leBytes 1 l.tr.width ++ leBytes 1 l.rate ++
    leBytes 1 (bit 0 (l.tr.partner != 0) + bit 1 l.rot.isSome + bit 2 l.txIdle) ++ leBytes 4 l.tr.common.toNat ++
    leBytes 4 l.spares.toNat ++ ((List.range 16).flatMap fun i => leBytes 1 (l.tr.map.getD i 255)) ++ leHalf l.session ++
    leHalf l.tr.partner ++ leBytes 2 l.skew ++ leBytes 2 0 ++ leBytes 4 l.retrainsTotal ++ leBytes 4 l.replaysTotal ++
    (List.range 18).flatMap fun p => leBytes 4 (s.laneWord p)

/-- R359: LINK_STATUS. -/
def State.runLinkStatus (s : State) (c : Cmd) : State := s.ok c s.linkStatusBytes

/-- R359: CLEAR_BAD: every lane mark is cleared. -/
def State.clearMarks (s : State) : State :=
  s.setTrainer false fun t => { t with lanes := updAll t.lanes fun _ l => { l with bad := false, old := false } }

/-- R334, R341: the attempt of an accepted LINK_RETRAIN; from ACTIVE or EIDLE it is a retrain. -/
def State.retrainNow (s : State) (full : Bool) : State :=
  if s.linkOpen then
    let s := s.setLink fun l => { l with retrains := satInc 16 l.retrains, retrainsTotal := l.retrainsTotal + 1 }
    let s := (s.raise 48 11).raiseHeld 48 1
    (s.beginAttempt false full).raiseHeld 48 19
  else s.beginAttempt false full

/-- R359: LINK_RETRAIN; its reply is written when the attempt ends. -/
def State.runLinkRetrain (s : State) (c : Cmd) (flags : Word) : State :=
  if s.linkEnabled false = false then s.notReady c 3
  else if 3 < flags.toNat then s.bad c 16
  else
    let s := if flags.getLsbD 0 then s.clearMarks else s
    (s.wait c .retrain).retrainNow (flags.getLsbD 1)

/-! ### LINK_TEST -/

/-- R358: the test's checkers count errors. -/
def TestChecks (r : TestReq) : Bool := decide (1 ≤ r.mode.toNat ∧ r.mode.toNat ≤ 3)

/-- R358: errored bits of one lane, saturating. -/
def State.addErrors (s : State) (p : Nat) (n : Nat) : State :=
  s.setLane p fun x => { x with prbs := satAdd 32 x.prbs n }

/-- R358: an injection: in a loopback the checkers of the lanes under test see its bits. -/
def State.injectErrors (s : State) (r : TestReq) : State :=
  let n := if r.inject = 1 then 1 else r.burstLen.toNat
  let s := s.setLink fun l => { l with injectAt := some s.now }
  if r.mode = 2 ∨ r.mode = 3 then (lanesOf r.lanes.toNat).foldl (fun s p => s.addErrors p n) s else s

/-- R358: what the checkers counted on the line, a free value for each lane. -/
def State.countLines (s : State) (r : TestReq) : State :=
  if TestChecks r then
    (lanesOf r.lanes.toNat).foldl (fun s p => (s.addErrors p (Config.freeWord s.freeCtr).toNat).nextFree) s
  else s

/-- R358: the reply of a test: the checkers in lock, a free value within the lanes under test, and the counts. -/
def State.testReply (s : State) (c : Cmd) (r : TestReq) : State :=
  let locked : Word := if TestChecks r then Config.freeWord s.freeCtr &&& r.lanes else 0
  s.nextFree.ok c (leWord locked ++ s.link.tr.lanes.toList.flatMap fun x => leBytes 4 x.prbs)

/-- R358: a LINK_TEST whose test is over is answered. -/
def State.answerTests (s : State) (r : TestReq) : State :=
  s.answerWaiting (· == .linkTest) fun s c => s.testReply c r

/-- R358: the test in progress ends, and a training attempt starts. -/
def State.endTest (s : State) (r : TestReq) : State :=
  ((s.countLines r).setLink fun l => { l with test := none, injectAt := none }).beginAttempt false true

/-- R358, R359: the link leaves its state for TEST; an attempt that a LINK_RETRAIN waits for has ended. -/
def State.enterTest (s : State) (r : TestReq) : State :=
  let s := (if s.link.rot.isSome then s.rotationEnded 2 else s).setLink fun l => { l with
    test := some r, injectAt := none, rot := none, round := [], txIdle := false, rxIdle := false
    tr := { l.tr with state := 9, width := 0, hello := none } }
  let s := ((s.raiseHeld 48 29).raiseHeld 48 19).answerRetrain
  if r.inject = 0 then s else s.injectErrors r

/-- R358: the fields of LINK_TEST in their ranges. -/
def testBad (r : TestReq) : Option Nat :=
  if 4 < r.mode.toNat then some 16
  else if 2 < r.pattern.toNat then some 17
  else if 2 < r.inject.toNat then some 18
  else if r.burstLen.toNat < 2 ∨ 64 < r.burstLen.toNat then some 19
  else if r.lanes = 0 ∨ 2 ^ 18 ≤ r.lanes.toNat then some 20
  else if 1000000 < r.duration.toNat then some 24
  else if 1000000 < r.injectPeriod.toNat then some 28
  else none

/-- R358: LINK_TEST. -/
def State.runLinkTest (s : State) (c : Cmd) (r : TestReq) : State :=
  if r.mode ≠ 0 ∧ (s.linkEnabled false = false ∨ s.holds (fun w => w == .lanes) = false) then s.notReady c 3
  else match testBad r with
  | some off => s.bad c off
  | none =>
    if r.mode = 0 then
      match s.link.test with
      | some t => ((s.endTest t).answerTests t).testReply c t
      | none => s.testReply c r
    else
      let s := match s.link.test with | some t => (s.countLines t).answerTests t | none => s
      let s := s.enterTest r
      if r.duration = 0 then s.testReply c r else s.wait c .linkTest

/-- R358: a LINK_TEST whose DURATION has passed. -/
def State.testEnds (s : State) : State :=
  realPorts.foldl (fun s p => match s.waitingFor p (· == .linkTest) with
    | some w => match w.body with
      | .linkTest r =>
        if w.since + ticksOfUs r.duration.toNat ≤ s.now then
          (if s.link.test = some r then s.endTest r else s).testReply ⟨w.h, w.body⟩ r
        else s
      | _ => s
    | none => s) s

/-- R358: LINK_TEST_END. -/
def execLinkTestEnd (dt : Nat) (s : State) : Host.Outcome State Fault Refusal := commit dt (fun s => s.testEnds) s

/-- R358: the injection period has elapsed. -/
def State.injectDue (s : State) : State :=
  match s.link.test, s.link.injectAt with
  | some r, some t =>
    if r.inject ≠ 0 ∧ r.injectPeriod ≠ 0 ∧ t + ticksOfUs r.injectPeriod.toNat ≤ s.now then s.injectErrors r else s
  | _, _ => s

/-- R358: LINK_TEST_INJECT. -/
def execLinkTestInject (dt : Nat) (s : State) : Host.Outcome State Fault Refusal := commit dt (fun s => s.injectDue) s

end Sys2Proof.Machine
end

