-- ==== Sys2Proof/Machine/LogCmds.lean ====
section
/-!
DEFINITION. SYS_INFO (R64), STATS_READ (R223, R224) and the LOG commands (R73, R578).
-/
namespace Sys2Proof.Machine

/-- R64: SYS_INFO. -/
def State.runSysInfo (s : State) (c : Cmd) : State :=
  let n := s.nvm
  let version : Word := if n.running < 2 then n.slots[Fin.ofNat 2 n.running].version else 0
  s.ok c (leBytes 2 0x7316 ++ leBytes 1 Config.siliconRev.toNat ++ leBytes 1 (bit 3 s.sys.twinSel + s.sys.addrSel % 8) ++
    leWord Config.romVersion ++ leBytes 1 n.running ++ leBytes 3 0 ++ leWord version ++ leBytes 2 s.ident ++
    leHalf s.twin.epoch ++ leBytes 4 ((s.now - s.sys.readyAt) / 400000))

/-! ### STATS_READ -/

/-- R224: the bytes of a non-image buffer. -/
def nonImageBytes (b : NonImage) : List Byte :=
  leWord b.frame ++ leHalf b.fn ++ leBytes 2 b.emb.length ++ leBytes 2 b.gen.length ++ leBytes 6 0 ++ padTo 256 b.emb ++
    padTo 256 b.gen

/-- R223: what a STATS_READ reads: its SERIAL and its bytes; none when the store holds no such record. -/
def State.statsSource (s : State) (x : Fin 64) (what : Nat) (serial : Word) : Option (Word × List Byte) :=
  let k := s.stats[x]
  let held (r : Option StatsRec) : Option (Word × List Byte) := r.map fun r => (r.serial, r.bytes)
  match what with
  | 0 => held k.latest
  | 1 => held k.previous
  | 2 => held (([k.latest, k.previous].filterMap id).find? fun r => r.serial == serial)
  | _ => some (s.ctxs[x].buffer.frame, nonImageBytes s.ctxs[x].buffer)

/-- R53, R223: the power domain of the context's runnel. -/
def State.statsDomain (s : State) (ctx : Half) : Fin 22 :=
  Fin.ofNat 22 (8 + s.au 0x0301 (ctx.toNat % 64) 0 1 / 2 % 4)

/-- R223: STATS_READ. -/
def State.runStatsRead (s : State) (c : Cmd) (ctx : Half) (what : Byte) (serial offset count : Word) : State :=
  if 64 ≤ ctx.toNat then s.bad c 16
  else if 3 < what.toNat then s.bad c 18
  else
    let n := count.toNat
    match s.statsSource (Fin.ofNat 64 ctx.toNat) what.toNat serial with
    | none => if n < 4 ∨ 224 < n ∨ n % 4 ≠ 0 then s.bad c 28 else s.ok c (leWord serial ++ leBytes 2 1 ++ leBytes 2 0)
    | some (k, bytes) =>
      let off := offset.toNat
      if bytes.length ≤ off then s.bad c 24
      else if n < 4 ∨ 224 < n ∨ n % 4 ≠ 0 then s.bad c 28
      else s.ok c (leWord k ++ leBytes 2 (bit 1 (decide (bytes.length ≤ off + n))) ++ leBytes 2 0 ++ (bytes.drop off).take n)

/-! ### The audit log -/

/-- R69: the bytes of an entry, with its CHECK. -/
def entryBytes (e : Entry) : List Byte :=
  let b := leWord e.time ++ leHalf e.wrap ++ leBytes 1 e.origin.toNat ++ leBytes 1 e.kind.toNat ++ leHalf e.code ++
    leBytes 1 e.status.toNat ++ leBytes 1 e.aflags.toNat ++ leWord e.seq ++ leHalf e.originId ++ leHalf e.epoch ++
    leBytes 8 e.detail.toNat
  b ++ leWord (crc32c b)

/-- R73: the entries held, in serial order: the ring's, then the staged ones. -/
def State.heldEntries (s : State) : List (Word × Entry) :=
  s.audit.ring.reverse ++ s.audit.staged.map fun e => (e.1, e.2.2)

/-- R73: LOG_READ. -/
def State.runLogRead (s : State) (c : Cmd) (start count : Word) : State :=
  if count.toNat = 0 ∨ 7 < count.toNat then s.bad c 20
  else
    let all := s.heldEntries
    let oldest : Word := match all with | e :: _ => e.1 | [] => s.audit.next
    let fromOldest := start == 0xFFFFFFFF
    let older := !fromOldest && start != oldest && behind 32 start.toNat oldest.toNat
    let rest := if fromOldest || older then all else all.filter fun e => behind 32 start.toNat e.1.toNat
    let out := rest.take count.toNat
    let first : Word := match out with | e :: _ => e.1 | [] => start
    let newest := decide (rest.length ≤ count.toNat)
    s.ok c (leWord first ++ leBytes 4 out.length ++ leBytes 4 (bit 0 (older && !out.isEmpty) + bit 1 newest) ++
      out.flatMap fun e => entryBytes e.2)

/-- R578: LOG_MARK: the entry that the reply writes is the mark. -/
def State.runLogMark (s : State) (c : Cmd) : State := s.ok c (leWord s.audit.next)

/-- R578: LOG_STATUS. -/
def State.runLogStatus (s : State) (c : Cmd) : State :=
  let oldest : Word := match s.audit.ring.getLast? with
    | some e => e.1
    | none => match s.audit.staged with | e :: _ => e.1 | [] => s.audit.next
  s.ok c (leWord oldest ++ leWord (s.audit.next - 1) ++ leBytes 4 s.audit.staged.length ++ leBytes 4 s.audit.overflow)

end Sys2Proof.Machine
end

