-- ==== Sys2Proof/Machine/TwinCmds.lean ====
section
/-!
DEFINITION. The TWIN commands (R426, R428, R431).
-/
namespace Sys2Proof.Machine

/-- R431: the 32 bytes of TWIN_STATUS. -/
def State.twinStatusBytes (s : State) : List Byte :=
  let t := s.twin
  let row : Word := match t.swap, t.admitRow with | some w, _ => w.row | none, some a => a | none, none => 0
  leBytes 1 t.state.code ++ leBytes 1 (t.partnerState.getD 255) ++ leHalf t.epoch ++ leHalf t.partnerEpoch ++
    leHalf t.partnerIdent ++
    leBytes 1 (bit 0 t.gelainUp + bit 1 t.hbAlive + bit 2 t.aloneCfg + bit 3 t.deciding + bit 4 t.realign.isSome) ++
    leBytes 1 s.gl.width ++ leBytes 2 0 ++ leWord t.cmpRow ++ leWord row ++
    leBytes 4 (if s.followsLead then wrapOf 32 t.timeOfs else 0) ++ leBytes 4 t.divergedBoot ++ leBytes 4 t.sealBoot

/-- R431: TWIN_STATUS. -/
def State.runTwinStatus (s : State) (c : Cmd) : State := s.ok c s.twinStatusBytes

/-- R426, R488: a swap may be asked for. -/
def State.maySwap (s : State) : Bool :=
  s.twin.state == .lead && s.twin.partnerState == some 4 && s.twin.realign.isNone && decide (256 ≤ s.twin.cleanRows) &&
    s.twin.swap.isNone && !s.sys.factoryTest

/-- R426: ROLE_SWAP at the lead. -/
def State.runRoleSwap (s : State) (c : Cmd) (row : Word) : State :=
  if s.maySwap = false then s.notReady c 3
  else
    let target : Word := if row = 0 then s.rowNo + BitVec.ofNat 32 (s.twinU 4 2) else row
    if (target - s.rowNo).toInt < 4 then s.bad c 16
    else (s.wait c .roleSwap).startSwap target false (some c.h.port)

/-- R428, R488: an admission may begin. -/
def State.mayAdmit (s : State) : Bool :=
  s.twin.state == .leadAlone && s.twin.partnerState == some 6 && s.twin.gelainUp && s.twin.hbAlive && !s.twin.admitting &&
    !s.sys.factoryTest

/-- R428: TWIN_ADMIT. -/
def State.runTwinAdmit (s : State) (c : Cmd) : State :=
  if s.mayAdmit then (s.wait c .admission).beginAdmission c.h.leaveWait else s.notReady c 3

end Sys2Proof.Machine
end

