-- ==== Sys2Proof/Machine/Commands.lean ====
section
/-!
DEFINITION. The acceptance of commands (R37, R38, R53, R56, R72, R77), what the twin adds to it (R398, R424, R425), and their
execution.
-/
namespace Sys2Proof.Machine

/-! ### The opcodes -/

/-- R57: an accepted command executes. -/
def State.run (s : State) (c : Cmd) : State :=
  match c.body with
  | .sysInfo => s.runSysInfo c
  | .sysReset scope => s.runSysReset c scope
  | .regRead offset count => s.runRegRead c offset count
  | .regWrite offset words => s.runRegWrite c offset words
  | .recWrite id inst offset first last data => s.runRecWrite c id inst offset first last data
  | .recRead id inst offset count => s.runRecRead c id inst offset count
  | .recApply kind ctx boundary pairs => s.runRecApply c kind ctx boundary pairs
  | .streamStart mask => s.runStreamStart c mask
  | .streamStop mask => s.runStreamStop c mask
  | .streamStatus => s.runStreamStatus c
  | .expoSet ctx kind target ns gain => s.runExpoSet c ctx kind target ns gain
  | .statsRead ctx what serial offset count => s.runStatsRead c ctx what serial offset count
  | .sensWrite sensor reg data => s.runSensWrite c sensor reg data
  | .sensRead sensor reg count => s.runSensRead c sensor reg count
  | .sensSeq sensor flags writes => s.runSensSeq c sensor flags writes
  | .sensErrlog start count => s.runSensErrlog c start count
  | .calRun type target => s.runCalRun c type target
  | .calCommit flags => s.runCalCommit c flags
  | .calExport which offset count => s.runCalExport c which offset count
  | .calImport flags offset data => s.runCalImport c flags offset data
  | .fwStage target index flags offset data => s.runFwStage c target index flags offset data
  | .fwActivate target index scope => s.runFwActivate c target index scope
  | .fwStatus => s.runFwStatus c
  | .twinStatus => s.runTwinStatus c
  | .roleSwap row => s.runRoleSwap c row
  | .twinAdmit => s.runTwinAdmit c
  | .timeSet mode flags value at_ => s.runTimeSet c mode flags value at_
  | .timeIncr incr flags => s.runTimeIncr c incr flags
  | .trigSchedule req => s.runTrig c req
  | .timeRead => s.runTimeRead c
  | .evinRead input start count => s.runEvinRead c input start count
  | .logRead start count => s.runLogRead c start count
  | .logMark _ => s.runLogMark c
  | .logStatus => s.runLogStatus c
  | .evtStatus block => s.runEvtStatus c block
  | .evtClear block mask => s.runEvtClear c block mask
  | .evtSeverity block b severity => s.runEvtSeverity c block b severity
  | .evtInject block b mode hold => s.runEvtInject c block b mode hold
  | .pwrBudget budget => s.runPwrBudget c budget
  | .pwrDomain domain state => s.runPwrDomain c domain state
  | .pwrStatus => s.runPwrStatus c
  | .dmaStatus first count => s.runDmaStatus c first count
  | .dmaAbort channel => s.runDmaAbort c channel
  | .linkStatus => s.runLinkStatus c
  | .linkRetrain flags => s.runLinkRetrain c flags
  | .linkTest req => s.runLinkTest c req
  | .testMode mode => s.runTestMode c mode
  | .testBist targets => s.runTestBist c targets
  | .badLength o p =>
    if o = 0x0203 ∧ byteAt p 0 = 1 ∧ s.grid.valid = false then s.notReady c 3 else s.bad c 2
  | .unknown .. => s.fail c 4 0

/-! ### Checks 4 to 8 of R53 -/

/-- R53, R57, R489: an opcode that does not exist, or is unavailable in the configuration or mode. -/
def State.noOpcode (s : State) (o : Nat) : Bool :=
  (portMask o).isNone || ((o == 0x0802 || o == 0x0803) && !s.sys.twinSel) ||
    ((o == 0x0B04 || o == 0x0F02) && !s.sys.factoryTest)

/-- R57, R90, R424: the command's port may not issue it; a command of the twin is checked against its port of origin where
it is mirrored. -/
def portDenied (c : Cmd) (p : Port) : Bool :=
  !((portMask c.body.opcode.toNat).getD 0).testBit p.toNat ||
    match c.body with
    | .regWrite offset words => writeDenied p offset words
    | _ => false

/-- R59, R494: the power domain of a register block. -/
def blockDomain (b : Nat) : Nat :=
  if b < 32 then 4 + b / 8
  else if b < 40 then 8 + (b - 32) / 2
  else if b < 46 then 18 + (b - 40) / 2
  else ([12, 12, 13, 2, 16, 17, 1, 2, 0, 0, 1, 2] : List Nat).getD (b - 46) 0

/-- R495: the domains in which the target of a command lies. -/
def State.targetDomains (s : State) (b : Body) : List Nat :=
  match b with
  | .regRead offset _ | .regWrite offset _ => [blockDomain (offset.toNat / 2 ^ 20)]
  | .expoSet .. | .sensWrite .. | .sensRead .. | .sensSeq .. | .sensErrlog .. => [16]
  | .statsRead ctx .. => [(s.statsDomain ctx).val]
  | .streamStart mask => (maskCtxs mask).flatMap fun (c : Fin 64) =>
      [4 + s.au 0x0201 c 1 1 / 8 % 4, 8 + s.au 0x0301 c 0 1 / 2 % 4, 12]
  | .calRun .. | .calCommit .. | .calExport .. | .calImport .. | .fwStage .. | .fwActivate .. | .fwStatus => [3]
  | .dmaStatus .. | .dmaAbort .. => [17]
  | .linkStatus | .linkRetrain .. | .linkTest .. => [13]
  | .testBist .. => [21]
  | _ => []

/-- R495: the first of the target's domains that is not ON. -/
def State.domainOff (s : State) (b : Body) : Option Nat :=
  (s.targetDomains b).find? fun d => !s.domOn (Fin.ofNat 22 d)

/-- R398, R424: the command is mirrored: its opcode is, and it does not concern per-unit records only. -/
def mirrored (b : Body) : Bool :=
  match b with
  | .recWrite id .. => !perUnit id.toNat
  | .recApply _ _ _ pairs => pairs.isEmpty || pairs.any fun p => !perUnit p.1.toNat
  | .streamStart .. | .streamStop .. | .expoSet .. | .sensWrite .. | .sensRead .. | .sensSeq .. | .timeSet ..
  | .timeIncr .. | .trigSchedule .. => true
  | _ => false

/-- R424: the command is one that the lead decided, on its way into a shadow. -/
def Cmd.isDecided (c : Cmd) : Bool := c.h.port == .p2 && (c.h.mirror.any fun m => m.decided.isSome)

/-- R425, R424: a mirrored opcode this unit can neither execute, decide nor forward. -/
def State.cannotMirror (s : State) (c : Cmd) : Bool :=
  mirrored c.body && match s.twin.state with
    | .forming | .quarantine | .admitting => true
    | .shadowDetached => !c.isDecided && !(s.twin.gelainUp && c.h.port != .p2)
    | .shadow => !c.isDecided && c.h.port == .p2
    | .single | .lead | .leadAlone => c.isDecided

/-- R53, R574: STREAM_START finds its target, or the way it came, not ready: the reason. -/
def State.targetNotReady (s : State) (c : Cmd) : Nat :=
  match c.body with
  | .streamStart mask => s.startBlocked c.h (maskCtxs mask)
  | .badLength o _ => if o = 0x0301 then s.startBlocked c.h [] else 0
  | _ => 0

/-- R53: checks 4 to 8: status and DETAIL of the first failure. -/
def State.checkCmd (s : State) (c : Cmd) : Option (Nat × Nat) :=
  let p := if mirrored c.body then fetchPort c.h else c.h.port
  if s.noOpcode c.body.opcode.toNat then some (4, 0)
  else if portDenied c p then some (3, p.toNat)
  else if c.h.epochCheck && c.h.epoch != s.twin.epoch then some (11, s.twin.epoch.toNat)
  else if s.cannotMirror c then some (9, 3)
  else if s.targetNotReady c ≠ 0 then some (9, s.targetNotReady c)
  else (s.domainOff c.body).map fun d => (10, d)

/-! ### Mirroring (R424) -/

/-- R424, R247, R415, R574: the instant that the lead fixes before it executes a mirrored command. -/
def State.fixOutcome (s : State) (c : Cmd) : Word :=
  match c.body with
  | .sensWrite .. | .sensRead .. | .sensSeq .. => match s.bookAt c.h with | some t => time32 t | none => 0
  | .streamStart .. | .streamStop .. => time32 (s.streamInstant c.h)
  | .timeSet _ flags _ at_ =>
    match s.mirrorInstant c.h (if flags.getLsbD 1 then some at_ else none) with | some t => time32 t | none => 0
  | .timeIncr .. => match s.mirrorInstant c.h none with | some t => time32 t | none => 0
  | _ => 0

/-- R424: the mirror of a command is decided though its reply is still to come; a REC_APPLY's boundary is not. -/
def State.decideLate (s : State) (c : Cmd) (m : MirrorWait) : MirrorWait :=
  match c.body with
  | .recApply .. => m
  | .expoSet ctx .. => match s.expo.ctxs[Fin.ofNat 64 ctx.toNat].sets.getLast? with
    | some q => { m with ready := true, decided := q.applied }
    | none => { m with ready := true }
  | _ => { m with ready := true }

/-- R424: the lead executes a mirrored command and sends it to the shadow once its outcome is decided. -/
def State.runMirrored (s : State) (c : Cmd) : State :=
  let m : MirrorWait := { port := c.h.port, seq := c.h.seq, packet := packetOf c.h c.body
                          word := BitVec.ofNat 32 ((fetchPort c.h).toNat + 4), decided := s.fixOutcome c, ready := false }
  let s := ((s.wait c (.twinReply c.h.seq)).setTwin fun t => { t with mirrors := t.mirrors ++ [m] }).run c
  s.setTwin fun t => { t with mirrors := t.mirrors.map fun x => if x = m then s.decideLate c x else x }

/-- R424: a shadow forwards a command to the lead, whose reply it will pass on. -/
def State.forward (s : State) (c : Cmd) : State :=
  let m : MirrorWait := { port := c.h.port, seq := c.h.seq, packet := packetOf c.h c.body
                          word := BitVec.ofNat 32 c.h.port.toNat, decided := 0, ready := true }
  (s.wait c (.twinReply c.h.seq)).setTwin fun t => { t with mirrors := t.mirrors ++ [m] }

/-- R425: a unit that leads alone has executed a mirrored command. -/
def State.noteAlone (s : State) (c : Cmd) : State :=
  let done := (s.port c.h.port).running.isSome || match (s.port c.h.port).kept with
    | some k => k.seq == c.h.seq && !c.undone k.status (field k.bytes 10 2)
    | none => false
  if done then (s.setTwin fun t => { t with aloneCfg := true }).raiseHeld 49 20 else s

/-- R424: the command as the lead decided it. -/
def State.decidedBody (s : State) (b : Body) (d : Word) : Body :=
  match b with
  | .recApply kind ctx _ pairs => .recApply kind ctx d pairs
  | .expoSet ctx kind target ns gain =>
    if s.streams (Fin.ofNat 64 ctx.toNat) && s.trigMode (Fin.ofNat 64 ctx.toNat) != 2 then .expoSet ctx 1 d ns gain
    else .expoSet ctx kind target ns gain
  | _ => b

/-- R424: what the lead decided lies behind this unit already. -/
def State.decidedPast (s : State) (b : Body) (d : Word) : Bool :=
  match b with
  | .recApply kind ctx boundary pairs =>
    (kind == 1 && (s.rowBoundary boundary (pairs.map fun p => (p.1.toNat, p.2.toNat))).2) ||
      (kind == 2 && (s.frameBoundary ctx.toNat boundary).2)
  | .sensWrite .. | .sensRead .. | .sensSeq .. | .streamStart .. | .streamStop .. | .timeSet .. | .timeIncr .. =>
    decide (s.extend d < s.clock.ext)
  | .expoSet ctx kind target .. => kind == 1 && s.badTarget (Fin.ofNat 64 ctx.toNat) target
  | _ => false

/-- R424: the shadow cannot execute a command as decided: FAR_ERROR, whose code the spec does not give, and QUARANTINE. -/
def State.refuseDecided (s : State) (c : Cmd) : State :=
  (s.nextFree.mirrorFails).fail c 8 ((Config.freeWord s.freeCtr).toNat % 65536)

/-- R424: the outcome of a decided command on the executor `p` is still open, or as decided. -/
def State.acceptable (s : State) (p : Port) : Bool :=
  (s.port p).running.isSome || match (s.port p).kept with
    | some k => k.status == 0 || k.status == 1 || k.status == 8
    | none => true

/-- R424: the shadow accepts a decided command, which then runs by itself, or refuses it. -/
def State.acceptDecided (s : State) (c : Cmd) (d : Word) : State :=
  match leadPorts.find? fun p => (s.port p).running.isNone with
  | none => s.refuseDecided c
  | some p =>
    let body := s.decidedBody c.body d
    if s.decidedPast body d then s.refuseDecided c
    else
      let s := (s.setPort p fun q => { q with kept := none }).run ⟨{ c.h with port := p }, body⟩
      if s.acceptable p then s.ok c []
      else s.nextFree.fail c 8 ((Config.freeWord s.freeCtr).toNat % 65536)

/-- R424 to R426: an accepted command executes, is mirrored, or is forwarded. -/
def State.execute (s : State) (c : Cmd) : State :=
  let swap := match c.body with | .roleSwap _ => true | _ => false
  if mirrored c.body then
    match s.twin.state with
    | .lead => s.runMirrored c
    | .leadAlone => (s.run c).noteAlone c
    | .shadow | .shadowDetached => s.forward c
    | _ => s.run c
  else if swap && s.twin.state == .shadow && c.h.port != .p2 then s.forward c
  else s.run c

/-! ### Acceptance -/

/-- R56: the kept reply goes out again, with REPLAYED. -/
def replayBytes (b : List Byte) : List Byte :=
  let n := 16 + field b 2 2
  let x := (b.take 9 ++ [byteAt b 9 ||| 4] ++ b.drop 10).take n
  x ++ leWord (crc32c x)

/-- R56, R68: a replay; an accepted LOG_MARK writes no second mark. -/
def State.replay (s : State) (c : Cmd) (k : Kept) : State :=
  let bytes := replayBytes k.bytes
  let mark := match c.body with | .logMark _ => k.status == 0 | _ => false
  if mark then s.send c k.status bytes
  else s.answer c k.status (byteAt bytes 9).toNat (word bytes 20) bytes

/-- R37, R53: a refused command is answered; CMD_REJECT reports a bad CHECK or a denied port, EPOCH_FENCE a newer epoch. -/
def State.refuse (s : State) (c : Cmd) (status detail : Nat) : State :=
  let s := s.raiseIf (status == 6 || status == 3) 52 27
  let s := if status = 11 then s.fenceByCommand c.h.epoch else s
  if status = 6 || !c.isDecided || !(s.twin.state == .shadow || s.twin.state == .shadowDetached) then s.fail c status detail
  else s.refuseDecided c

/-- R72: a state-changing command waits while 24 entries are staged, and LOG_WAIT is raised. -/
def State.launchCmd (s : State) (c : Cmd) : State :=
  match c.isDecided, c.h.mirror.bind (·.decided) with
  | true, some d => s.acceptDecided c d
  | _, _ =>
    if !c.body.readOnly && decide (24 ≤ s.audit.staged.length) then (s.wait c .auditSpace).raise 52 5 else s.execute c

/-- R37, R53, R56: a command is accepted; `early` is the failure of checks 1 to 3. -/
def State.acceptCmd (s : State) (c : Cmd) (early : Option (Nat × Nat)) : State :=
  let s := { s with lastPort := c.h.port.toNat }
  let fresh (s : State) : State :=
    match early.or (s.checkCmd c) with
    | some e => s.refuse c e.1 e.2
    | none => s.launchCmd c
  match (s.port c.h.port).kept with
  | some k => if k.seq = c.h.seq ∧ k.check = c.h.check ∧ k.status ≠ 1 then s.replay c k else fresh s
  | none => fresh s

/-- R37: the port has no command in execution and its last reply is written. -/
def State.portFree (s : State) (p : Port) : Bool :=
  (s.port p).running.isNone && (s.port p).entryWait.isNone && (s.port p).outgoing.isEmpty

/-- R84: a command of P1 or P2 is kept until it is answered. -/
def State.keepCmd (s : State) (c : Cmd) : State :=
  let ch := c.h.port.inChan
  if ch = 2 ∨ ch = 4 then
    { s with mb := { s.mb with kept := s.mb.kept ++ [{ chan := ch, opcode := c.body.opcode, seq := c.h.seq }] } }
  else s

/-- R77: a command that finds the intake full stays in its slot. -/
def State.leaveInSlot (s : State) (c : Cmd) : State :=
  let ch := c.h.port.inChan
  match freeSlot s.mb.chans[ch] with
  | none => s.overrun ch
  | some i =>
    let m : Option (Word × Word) := c.h.mirror.map fun m =>
      (BitVec.ofNat 32 (m.origin.toNat + bit 2 m.decided.isSome), m.decided.getD 0)
    (s.fillSlot ch i (packetOf c.h c.body)).setSlot ch i fun x => { x with mirror := m }

/-- A command that reaches a port (R37, R77): accepted, put into the intake or left in its slot; answered by the mailbox
hardware while firmware accepts none (R49, R88). A command of an executor's own does not exist. -/
def State.submit (s : State) (h : Hdr) (body : Body) : State :=
  match h.port with
  | .lead _ => s
  | p =>
    let c : Cmd := ⟨if p = .p2 then h else { h with mirror := none }, body⟩
    if s.accepting = false then s.deliver p (s.hwReply (packetOf h body))
    else if (s.port p).intake.isSome then s.leaveInSlot c
    else
      let s := s.keepCmd c
      if s.portFree p then s.acceptCmd c none else s.setPort p fun q => { q with intake := some (.parsed c.h body) }

/-! ### Intake -/

/-- R424: the mirror word of a command in MB4. -/
def mirrorOfSlot (x : Slot) : Option Mirror :=
  x.mirror.map fun w =>
    let origin : Port := match w.1.toNat % 4 with | 0 => .p0 | 1 => .p1 | 2 => .p2 | _ => .p3
    { origin, decided := if w.1.getLsbD 2 then some w.2 else none }

/-- R424: a reply of the twin in MB7: the acceptance of a mirrored command, or the lead's reply to a forwarded one. -/
def State.takeReply (s : State) (b : List Byte) : State :=
  match s.twin.mirrors.find? fun m => m.sentAt.isSome && m.seq == word b 4 && half m.packet 0 == half b 0 with
  | none => s
  | some m =>
    if m.word.getLsbD 2 then s.endMirror m
    else
      let s := s.setTwin fun t => { t with mirrors := t.mirrors.filter fun x => x != m }
      match s.waitingFor m.port (fun w => w == .twinReply m.seq) with
      | some r => s.answer ⟨r.h, r.body⟩ (byteAt b 8).toNat (byteAt b 9).toNat (word b 20) b
      | none => s

/-- R78: firmware reads the oldest full slot of an inbound channel, unless the port's intake is full. -/
def State.readInbound (s : State) (ch : Fin 10) (p : Option Port) : State :=
  match oldestSlot s.mb.chans[ch] with
  | none => s
  | some i =>
    let x := s.mb.chans[ch].slots.getD i {}
    match p with
    | none => (s.readSlot ch i).takeReply x.bytes
    | some p =>
      if (s.port p).intake.isSome then s
      else (s.readSlot ch i).setPort p fun q => { q with intake := some (.packet (mirrorOfSlot x) x.bytes) }

/-- R78: INBOUND_SLOT_READ; WIN_TX is left alone while a hardware reply is due (R49). -/
def execInboundSlotRead (dt : Nat) (chan : InChan) (s : State) : Host.Outcome State Fault Refusal :=
  commit dt (fun s =>
    if s.accepting = false then s
    else match chan with
      | .mb0 => if s.win.hwWait then s else s.readInbound 0 (some .p0)
      | .mb2 => s.readInbound 2 (some .p1)
      | .mb4 => s.readInbound 4 (some .p2)
      | .mb7 => s.readInbound 7 none
      | .mb8 => s.readInbound 8 (some .p3)) s

/-- R38: the ports in turn, beginning after the one accepted last. -/
def State.portTurn (s : State) : List Port :=
  match s.lastPort with
  | 0 => [.p1, .p2, .p3, .p0]
  | 1 => [.p2, .p3, .p0, .p1]
  | 2 => [.p3, .p0, .p1, .p2]
  | _ => [.p0, .p1, .p2, .p3]

/-- R37, R38: the next waiting command is accepted. -/
def State.acceptNext (s : State) : State :=
  match s.portTurn.find? fun p => s.portFree p && (s.port p).intake.isSome with
  | none => s
  | some p =>
    let t := s.setPort p fun q => { q with intake := none }
    match (s.port p).intake with
    | some (.parsed h body) => t.acceptCmd ⟨h, body⟩ none
    | some (.packet m b) => let x := parsePacket p m b; t.acceptCmd x.1 x.2
    | none => s

/-- R37: COMMAND_INTAKE_ACCEPT. -/
def execCommandIntakeAccept (dt : Nat) (s : State) : Host.Outcome State Fault Refusal :=
  commit dt (fun s => if s.accepting then s.acceptNext else s) s

/-! ### Audit flushes (R72) -/

/-- R72: a flush is due. -/
def State.flushDue (s : State) : Bool :=
  s.audit.flushing == 0 && match s.audit.staged with
    | [] => false
    | e :: _ => decide (16 ≤ s.audit.staged.length) || decide (e.2.1 + ticksOfMs 5 ≤ s.now) || s.pwr.pfActive

/-- R72: AUDIT_FLUSH_START. -/
def execAuditFlushStart (dt : Nat) (s : State) : Host.Outcome State Fault Refusal :=
  commit dt (fun s =>
    if s.flushDue then { s with audit := { s.audit with flushing := s.audit.staged.length } } else s) s

/-- R72, R69: the overflow entry takes the first place; its ORIGIN and CODE are open. -/
def State.stageOverflow (s : State) : State :=
  if s.audit.merged = 0 then s
  else
    let e := s.entry ((Config.freeWord s.freeCtr).toNat % 256) 0x0F ((Config.freeWord s.freeCtr).toNat / 256 % 65536)
      (BitVec.ofNat 64 s.audit.merged)
    ({ s.nextFree with audit := { s.audit with merged := 0 } }).stage e

/-- R72: a reply that waited for its entry's place. -/
def State.stageWaiting (s : State) (p : Port) : State :=
  match (s.port p).entryWait with
  | some (e, bytes) =>
    if s.audit.staged.length < 32 then
      ((s.stage e).setPort p fun q => { q with entryWait := none }).deliver p bytes
    else s
  | none => s

/-- R72: a command that waited for audit staging space executes. -/
def State.resumeCmd (s : State) (p : Port) : State :=
  if 24 ≤ s.audit.staged.length then s
  else match s.waitingFor p (· == .auditSpace) with
    | some r => s.execute ⟨r.h, r.body⟩
    | none => s

/-- R72: places are free: the overflow entry, waiting entries and waiting commands take them in this order. -/
def State.placesFree (s : State) : State :=
  realPorts.foldl State.resumeCmd (realPorts.foldl State.stageWaiting s.stageOverflow)

/-- R72: a flush completes. -/
def State.flushEnd (s : State) : State :=
  if s.audit.flushing = 0 then s else (s.storeEntries s.audit.flushing).placesFree

/-- R72: AUDIT_FLUSH_END. -/
def execAuditFlushEnd (dt : Nat) (s : State) : Host.Outcome State Fault Refusal := commit dt (fun s => s.flushEnd) s

/-- R512: the emergency flush is complete: every staged entry and a pending epoch write are in MRAM. -/
def State.pfDone (s : State) : State :=
  if s.pwr.pfActive && !s.pwr.pfSafe then
    let s := s.storeEntries s.audit.staged.length
    let s := match s.audit.epochWrite with
      | some e => { s with audit := { s.audit with epochWrite := none }, nvm := { s.nvm with epoch := e, pages := satAdd 32 s.nvm.pages 3 } }
      | none => s
    ({ s with pwr := { s.pwr with pfSafe := true } }).placesFree
  else s

/-- R512: PF_SAFE. -/
def execPfSafe (dt : Nat) (s : State) : Host.Outcome State Fault Refusal := commit dt (fun s => s.pfDone) s

end Sys2Proof.Machine
end

