-- ==== Sys2Proof/Machine/CmdRows.lean ====
section
/-!
DEFINITION. The meanings of the Oante opcodes (R57): each reaches its port as a packet past checks 1 to 3 of R53 and is taken
as every command is.
-/
namespace Sys2Proof.Machine

/-- R64: SYS_INFO. -/
def execSysInfo (dt : Nat) (h : Hdr) (s : State) : Host.Outcome State Fault Refusal :=
  commit dt (fun s => s.submit h .sysInfo) s

/-- R65: SYS_RESET. -/
def execSysReset (dt : Nat) (h : Hdr) (scope : Word) (s : State) : Host.Outcome State Fault Refusal :=
  commit dt (fun s => s.submit h (.sysReset scope)) s

/-- R58: REG_READ. -/
def execRegRead (dt : Nat) (h : Hdr) (offset count : Word) (s : State) : Host.Outcome State Fault Refusal :=
  commit dt (fun s => s.submit h (.regRead offset count)) s

/-- R58: REG_WRITE. -/
def execRegWrite (dt : Nat) (h : Hdr) (offset : Word) (words : List Word) (s : State) :
    Host.Outcome State Fault Refusal :=
  commit dt (fun s => s.submit h (.regWrite offset words)) s

/-- R10: REC_WRITE. -/
def execRecWrite (dt : Nat) (h : Hdr) (recId inst : Half) (offset : Word) (first last : Bool) (data : List Byte) (s : State) :
    Host.Outcome State Fault Refusal :=
  commit dt (fun s => s.submit h (.recWrite recId inst offset first last data)) s

/-- R64: REC_READ. -/
def execRecRead (dt : Nat) (h : Hdr) (recId inst : Half) (offset count : Word) (s : State) :
    Host.Outcome State Fault Refusal :=
  commit dt (fun s => s.submit h (.recRead recId inst offset count)) s

/-- R11: REC_APPLY. -/
def execRecApply (dt : Nat) (h : Hdr) (kind : Byte) (ctx : Half) (boundary : Word) (pairs : List (Half × Half)) (s : State) :
    Host.Outcome State Fault Refusal :=
  commit dt (fun s => s.submit h (.recApply kind ctx boundary pairs)) s

/-- R574: STREAM_START. -/
def execStreamStart (dt : Nat) (h : Hdr) (mask : Wide) (s : State) : Host.Outcome State Fault Refusal :=
  commit dt (fun s => s.submit h (.streamStart mask)) s

/-- R575: STREAM_STOP. -/
def execStreamStop (dt : Nat) (h : Hdr) (mask : Wide) (s : State) : Host.Outcome State Fault Refusal :=
  commit dt (fun s => s.submit h (.streamStop mask)) s

/-- R576: STREAM_STATUS. -/
def execStreamStatus (dt : Nat) (h : Hdr) (s : State) : Host.Outcome State Fault Refusal :=
  commit dt (fun s => s.submit h .streamStatus) s

/-- R209: EXPO_SET. -/
def execExpoSet (dt : Nat) (h : Hdr) (ctx : Half) (targetKind : Byte) (target exposureNs gain : Word) (s : State) :
    Host.Outcome State Fault Refusal :=
  commit dt (fun s => s.submit h (.expoSet ctx targetKind target exposureNs gain)) s

/-- R223: STATS_READ. -/
def execStatsRead (dt : Nat) (h : Hdr) (ctx : Half) (what : Byte) (serial offset count : Word) (s : State) :
    Host.Outcome State Fault Refusal :=
  commit dt (fun s => s.submit h (.statsRead ctx what serial offset count)) s

/-- R232: SENS_WRITE. -/
def execSensWrite (dt : Nat) (h : Hdr) (sensor reg : Half) (data : List Byte) (s : State) :
    Host.Outcome State Fault Refusal :=
  commit dt (fun s => s.submit h (.sensWrite sensor reg data)) s

/-- R233: SENS_READ. -/
def execSensRead (dt : Nat) (h : Hdr) (sensor reg : Half) (count : Byte) (s : State) : Host.Outcome State Fault Refusal :=
  commit dt (fun s => s.submit h (.sensRead sensor reg count)) s

/-- R236: SENS_SEQ. -/
def execSensSeq (dt : Nat) (h : Hdr) (sensor : Half) (sflags : Byte) (writes : List SeqWrite) (s : State) :
    Host.Outcome State Fault Refusal :=
  commit dt (fun s => s.submit h (.sensSeq sensor sflags writes)) s

/-- R244: SENS_ERRLOG. -/
def execSensErrlog (dt : Nat) (h : Hdr) (start count : Word) (s : State) : Host.Outcome State Fault Refusal :=
  commit dt (fun s => s.submit h (.sensErrlog start count)) s

/-- R524: CAL_RUN. -/
def execCalRun (dt : Nat) (h : Hdr) (type target : Byte) (s : State) : Host.Outcome State Fault Refusal :=
  commit dt (fun s => s.submit h (.calRun type target)) s

/-- R525: CAL_COMMIT. -/
def execCalCommit (dt : Nat) (h : Hdr) (flags : Word) (s : State) : Host.Outcome State Fault Refusal :=
  commit dt (fun s => s.submit h (.calCommit flags)) s

/-- R526: CAL_EXPORT. -/
def execCalExport (dt : Nat) (h : Hdr) (which : Byte) (offset count : Word) (s : State) :
    Host.Outcome State Fault Refusal :=
  commit dt (fun s => s.submit h (.calExport which offset count)) s

/-- R527: CAL_IMPORT. -/
def execCalImport (dt : Nat) (h : Hdr) (flags : Byte) (offset : Word) (data : List Byte) (s : State) :
    Host.Outcome State Fault Refusal :=
  commit dt (fun s => s.submit h (.calImport flags offset data)) s

/-- R534: FW_STAGE. -/
def execFwStage (dt : Nat) (h : Hdr) (target index flags : Byte) (offset : Word) (data : List Byte) (s : State) :
    Host.Outcome State Fault Refusal :=
  commit dt (fun s => s.submit h (.fwStage target index flags offset data)) s

/-- R536: FW_ACTIVATE. -/
def execFwActivate (dt : Nat) (h : Hdr) (target index scope : Byte) (s : State) : Host.Outcome State Fault Refusal :=
  commit dt (fun s => s.submit h (.fwActivate target index scope)) s

/-- R539: FW_STATUS. -/
def execFwStatus (dt : Nat) (h : Hdr) (s : State) : Host.Outcome State Fault Refusal :=
  commit dt (fun s => s.submit h .fwStatus) s

/-- R431: TWIN_STATUS. -/
def execTwinStatus (dt : Nat) (h : Hdr) (s : State) : Host.Outcome State Fault Refusal :=
  commit dt (fun s => s.submit h .twinStatus) s

/-- R426: ROLE_SWAP. -/
def execRoleSwap (dt : Nat) (h : Hdr) (row : Word) (s : State) : Host.Outcome State Fault Refusal :=
  commit dt (fun s => s.submit h (.roleSwap row)) s

/-- R428: TWIN_ADMIT. -/
def execTwinAdmit (dt : Nat) (h : Hdr) (s : State) : Host.Outcome State Fault Refusal :=
  commit dt (fun s => s.submit h .twinAdmit) s

/-- R372: TIME_SET. -/
def execTimeSet (dt : Nat) (h : Hdr) (mode flags : Byte) (value at_ : Word) (s : State) :
    Host.Outcome State Fault Refusal :=
  commit dt (fun s => s.submit h (.timeSet mode flags value at_)) s

/-- R371: TIME_INCR. -/
def execTimeIncr (dt : Nat) (h : Hdr) (incr flags : Word) (s : State) : Host.Outcome State Fault Refusal :=
  commit dt (fun s => s.submit h (.timeIncr incr flags)) s

/-- R380: TRIG_SCHEDULE. -/
def execTrigSchedule (dt : Nat) (h : Hdr) (req : TrigReq) (s : State) : Host.Outcome State Fault Refusal :=
  commit dt (fun s => s.submit h (.trigSchedule req)) s

/-- R367: TIME_READ. -/
def execTimeRead (dt : Nat) (h : Hdr) (s : State) : Host.Outcome State Fault Refusal :=
  commit dt (fun s => s.submit h .timeRead) s

/-- R388: EVIN_READ. -/
def execEvinRead (dt : Nat) (h : Hdr) (input : Byte) (start count : Word) (s : State) :
    Host.Outcome State Fault Refusal :=
  commit dt (fun s => s.submit h (.evinRead input start count)) s

/-- R73: LOG_READ. -/
def execLogRead (dt : Nat) (h : Hdr) (start count : Word) (s : State) : Host.Outcome State Fault Refusal :=
  commit dt (fun s => s.submit h (.logRead start count)) s

/-- R578: LOG_MARK. -/
def execLogMark (dt : Nat) (h : Hdr) (mark : Wide) (s : State) : Host.Outcome State Fault Refusal :=
  commit dt (fun s => s.submit h (.logMark mark)) s

/-- R578: LOG_STATUS. -/
def execLogStatus (dt : Nat) (h : Hdr) (s : State) : Host.Outcome State Fault Refusal :=
  commit dt (fun s => s.submit h .logStatus) s

/-- R487: EVT_STATUS. -/
def execEvtStatus (dt : Nat) (h : Hdr) (block : Byte) (s : State) : Host.Outcome State Fault Refusal :=
  commit dt (fun s => s.submit h (.evtStatus block)) s

/-- R478: EVT_CLEAR. -/
def execEvtClear (dt : Nat) (h : Hdr) (block : Byte) (mask : Word) (s : State) : Host.Outcome State Fault Refusal :=
  commit dt (fun s => s.submit h (.evtClear block mask)) s

/-- R483: EVT_SEVERITY. -/
def execEvtSeverity (dt : Nat) (h : Hdr) (block bit severity : Byte) (s : State) : Host.Outcome State Fault Refusal :=
  commit dt (fun s => s.submit h (.evtSeverity block bit severity)) s

/-- R490: EVT_INJECT. -/
def execEvtInject (dt : Nat) (h : Hdr) (block bit mode : Byte) (holdUs : Word) (s : State) :
    Host.Outcome State Fault Refusal :=
  commit dt (fun s => s.submit h (.evtInject block bit mode holdUs)) s

/-- R505: PWR_BUDGET. -/
def execPwrBudget (dt : Nat) (h : Hdr) (budget : Word) (s : State) : Host.Outcome State Fault Refusal :=
  commit dt (fun s => s.submit h (.pwrBudget budget)) s

/-- R497: PWR_DOMAIN. -/
def execPwrDomain (dt : Nat) (h : Hdr) (domain state : Byte) (s : State) : Host.Outcome State Fault Refusal :=
  commit dt (fun s => s.submit h (.pwrDomain domain state)) s

/-- R505: PWR_STATUS. -/
def execPwrStatus (dt : Nat) (h : Hdr) (s : State) : Host.Outcome State Fault Refusal :=
  commit dt (fun s => s.submit h .pwrStatus) s

/-- R467: DMA_STATUS. -/
def execDmaStatus (dt : Nat) (h : Hdr) (first count : Byte) (s : State) : Host.Outcome State Fault Refusal :=
  commit dt (fun s => s.submit h (.dmaStatus first count)) s

/-- R464: DMA_ABORT. -/
def execDmaAbort (dt : Nat) (h : Hdr) (channel : Byte) (s : State) : Host.Outcome State Fault Refusal :=
  commit dt (fun s => s.submit h (.dmaAbort channel)) s

/-- R359: LINK_STATUS. -/
def execLinkStatus (dt : Nat) (h : Hdr) (s : State) : Host.Outcome State Fault Refusal :=
  commit dt (fun s => s.submit h .linkStatus) s

/-- R359: LINK_RETRAIN. -/
def execLinkRetrain (dt : Nat) (h : Hdr) (flags : Word) (s : State) : Host.Outcome State Fault Refusal :=
  commit dt (fun s => s.submit h (.linkRetrain flags)) s

/-- R358: LINK_TEST. -/
def execLinkTest (dt : Nat) (h : Hdr) (req : TestReq) (s : State) : Host.Outcome State Fault Refusal :=
  commit dt (fun s => s.submit h (.linkTest req)) s

/-- R488: TEST_MODE. -/
def execTestMode (dt : Nat) (h : Hdr) (mode : Byte) (s : State) : Host.Outcome State Fault Refusal :=
  commit dt (fun s => s.submit h (.testMode mode)) s

/-- R489: TEST_BIST. -/
def execTestBist (dt : Nat) (h : Hdr) (targets : Word) (s : State) : Host.Outcome State Fault Refusal :=
  commit dt (fun s => s.submit h (.testBist targets)) s

end Sys2Proof.Machine
end

