-- ==== Sys2Proof/Machine/LinkRows.lean ====
section
/-!
DEFINITION. The meanings of the Uahorn link's commands (R329 to R362): training, frames and control blocks of the receiver,
launches, rotation and electrical idle; the training rows serve the Gelain link too (R405).
-/
namespace Sys2Proof.Machine

/-! ### The framer -/

/-- R355: FRAMER_SEND. -/
def execFramerSend (dt : Nat) (s : State) : Host.Outcome State Fault Refusal :=
  commit dt (fun s => s.framerSend.refreshStarved) s

/-- R391: LAUNCH_TIME_REACHED: the head is eligible from now on. -/
def execLaunchTimeReached (dt : Nat) (queue : Fin 8) (s : State) : Host.Outcome State Fault Refusal :=
  commit dt (fun s => (s.refreshEligible queue).refreshStarved) s

/-- R356: a queue has held an eligible piece for DRAIN_LIMIT. -/
def State.drainOut (s : State) (q : Fin 8) : State :=
  match s.spill[q].eligibleAt with
  | some t =>
    if t + ticksOfUs (s.linkU 16 4) ≤ s.now then (s.setLaunch q fun x => { x with drained := true }).raiseHeld 48 19 else s
  | none => s

/-- R356: DRAIN_LIMIT. -/
def execDrainLimit (dt : Nat) (queue : Fin 8) (s : State) : Host.Outcome State Fault Refusal :=
  commit dt (fun s => s.drainOut queue) s

/-- R349, R351: a STATUS frame falls due, or is skipped for want of credit. -/
def State.statusPeriod (s : State) : State :=
  let p := s.linkU 14 2
  if p ≠ 0 ∧ s.linkOpen = true ∧ s.link.statusAt + ticksOfUs p ≤ s.now then
    let s := s.setLink fun l => { l with statusAt := s.now }
    if s.credit 8 32 then s.setLink fun l => { l with statusDue := true } else s.raise 48 21
  else s

/-- R351: STATUS_PERIOD. -/
def execStatusPeriod (dt : Nat) (s : State) : Host.Outcome State Fault Refusal := commit dt (fun s => s.statusPeriod) s

/-- R362: a class with a frame waiting has lacked credit for DRAIN_LIMIT. -/
def State.starve (s : State) (c : Fin 9) : State :=
  match s.refreshStarved.link.starved[c] with
  | some t => if t + ticksOfUs (s.linkU 16 4) ≤ s.now then s.refreshStarved.raiseHeld 48 18 else s.refreshStarved
  | none => s.refreshStarved

/-- R362: CREDIT_STARVED. -/
def execCreditStarved (dt : Nat) (cls : Fin 9) (s : State) : Host.Outcome State Fault Refusal :=
  commit dt (fun s => s.starve cls) s

/-! ### Control blocks -/

/-- R353: UAHORN_ACK. -/
def execUahornAck (dt : Nat) (lseq : Nat) (s : State) : Host.Outcome State Fault Refusal :=
  commit dt (fun s => if s.linkOpen then s.releaseFrames (BitVec.ofNat 16 lseq) else s) s

/-- R353: UAHORN_NAK. -/
def execUahornNak (dt : Nat) (lseq : Nat) (s : State) : Host.Outcome State Fault Refusal :=
  commit dt (fun s => if s.linkOpen then (s.releaseFrames (BitVec.ofNat 16 lseq)).startReplay else s) s

/-- R353: the oldest frame has waited REPLAY_TIMEOUT since it was last sent. -/
def State.replayTimeout (s : State) : State :=
  match s.link.replay with
  | f :: _ =>
    if s.linkOpen && decide (s.link.resend < s.link.replay.length) && decide (f.sentAt + ticksOfNs (s.linkU 6 2) ≤ s.now)
    then s.startReplay else s
  | [] => s

/-- R353: REPLAY_TIMEOUT. -/
def execReplayTimeout (dt : Nat) (s : State) : Host.Outcome State Fault Refusal := commit dt (fun s => s.replayTimeout) s

/-- R351: a CREDIT block; a limit below the one in force is ignored. -/
def State.takeCredit (s : State) (c : Fin 9) (limit : Word) : State :=
  if s.linkOpen && decide (0 ≤ (limit - s.link.limits[c]).toInt) then
    (s.setLink fun l => { l with limits := l.limits.set c limit }).refreshStarved
  else s

/-- R351: UAHORN_CREDIT. -/
def execUahornCredit (dt : Nat) (cls : Fin 9) (limit : Word) (s : State) : Host.Outcome State Fault Refusal :=
  commit dt (fun s => s.takeCredit cls limit) s

/-- R331: ALIGN_MARKER: a BIP-8 mismatch is counted for its lane. -/
def execAlignMarker (dt : Nat) (lane : Fin 18) (mismatch : Bool) (s : State) : Host.Outcome State Fault Refusal :=
  commit dt (fun s =>
    if mismatch && s.linkOpen && s.link.tr.active lane then
      (s.setTrainer false fun t => { t with lanes := upd t.lanes lane fun l => { l with bipErr := satInc 16 l.bipErr } }).raise 48 10
    else s) s

/-- R329, R346: EIDLE_BLOCK: the partner's transmitter idles. -/
def execEidleBlock (dt : Nat) (s : State) : Host.Outcome State Fault Refusal :=
  commit dt (fun s => if s.linkOpen then s.setLink fun l => { l with rxIdle := true } else s) s

/-! ### Frames of the receiver -/

/-- R357: a command packet for an MB2 slot. -/
def State.takeCmd (s : State) (slot : Nat) (packet : List Byte) : State :=
  if (s.mb.chans[2].slots.getD slot {}).full then (s.overrun 2).raise 48 28
  else (s.fillSlot 2 slot packet).hwAnswer 2 slot

/-- R357: UAHORN_CMD. -/
def execUahornCmd (dt : Nat) (lseq : Nat) (slot : Fin 2) (packet : List Byte) (s : State) : Host.Outcome State Fault Refusal :=
  commit dt (fun s => s.acceptSeq lseq fun s => s.takeCmd slot packet) s

/-- R357, R76: the receiver has read an MB3 slot. -/
def State.takeMboxAck (s : State) (channel slot : Nat) : State :=
  if channel = 3 ∧ s.link.replySent.contains slot = true then
    (s.setLink fun l => { l with replySent := l.replySent.filter (· != slot) }).clearSlot 3 slot
  else s

/-- R357: UAHORN_MBOX_ACK. -/
def execUahornMboxAck (dt : Nat) (lseq channel : Nat) (slot : Fin 2) (s : State) : Host.Outcome State Fault Refusal :=
  commit dt (fun s => s.acceptSeq lseq fun s => s.takeMboxAck channel slot) s

/-- R369: UAHORN_BEACON. -/
def execUahornBeacon (dt : Nat) (masterTime : Wide) (seq : Half) (s : State) : Host.Outcome State Fault Refusal :=
  commit dt (fun s => if s.linkOpen then s.takeBeacon masterTime seq else s) s

/-- R348, R350, R352: a frame that is not accepted. -/
def State.badFrame (s : State) (k : BadFrame) : State :=
  if s.linkOpen = false then s
  else
    let count (s : State) : State := (s.setLink fun l => { l with rxBad := satInc 16 l.rxBad }).raise 48 13
    match k with
    | .crc | .badLength | .malformedBlock => (count s).sendNak
    | .reservedType => s.raise 48 14
    | .gap => s.sendNak
    | .duplicate => s
    | .beacon => (count s).raise 48 27

/-- R350: UAHORN_BAD_FRAME. -/
def execUahornBadFrame (dt : Nat) (kind : BadFrame) (s : State) : Host.Outcome State Fault Refusal :=
  commit dt (fun s => s.badFrame kind) s

/-- R338: UAHORN_HELLO. -/
def execUahornHello (dt : Nat) (hello : Hello) (s : State) : Host.Outcome State Fault Refusal :=
  commit dt (fun s => s.takeHello false hello) s

/-! ### Training -/

/-- R334: TRAINING_ATTEMPT: the attempt that ENABLE or a change of the link record makes due. -/
def execTrainingAttempt (dt : Nat) (s : State) : Host.Outcome State Fault Refusal :=
  commit dt (fun s => if s.link.tr.state = 0 ∧ s.linkEnabled false = true then s.beginAttempt false true else s) s

/-- R334: LINK_LEAVE_GRANT. -/
def execLinkLeaveGrant (dt : Nat) (s : State) : Host.Outcome State Fault Refusal :=
  commit dt (fun s =>
    if s.link.tr.waitLeave && s.holds (fun w => w == .lanes) then
      (s.setTrainer false fun t => { t with waitLeave := false }).firstStage false (!s.link.tr.retrain)
    else s) s

/-- R335, R336: the ending condition of a stage is met before its timeout, or in its tick. -/
def State.stageEnd (s : State) (g : Bool) (rs : List LaneResult) (hello : Option Hello) : State :=
  let t := s.trainer g
  let limit := t.stageAt + stageTicks t.state
  if t.state < 2 ∨ 6 < t.state ∨ limit < s.now then s
  else
    let tie (s : State) : State := s.setTrainer g fun t => { t with lateTie := t.lateTie || s.now == limit }
    match t.state with
    | 2 => ((tie s).setTrainer g fun t => { t with pllLocked := true }).enterStage g 3
    | 6 => match hello with
      | some h => s.takeHello g h
      | none => s
    | _ =>
      let s := s.noteLanes g rs
      if (s.trainer g).allReady g then (tie s).stageOn g else s

/-- R335: TRAINING_STAGE_END. -/
def execTrainingStageEnd (dt : Nat) (gelain : Bool) (lanes : List LaneResult) (hello : Option Hello) (s : State) :
    Host.Outcome State Fault Refusal :=
  commit dt (fun s => s.stageEnd gelain lanes hello) s

/-- R335: a stage has lasted its time. -/
def State.stageTimeout (s : State) (g : Bool) (rs : List LaneResult) : State :=
  let t := s.trainer g
  if t.state < 2 ∨ 6 < t.state ∨ s.now < t.stageAt + stageTicks t.state then s
  else match t.state with
    | 2 =>
      let s := if g then s else s.raiseHeld 48 4
      s.failAttempt g 2
    | 6 => s.failAttempt g 6
    | _ => ((s.noteLanes g rs).markUnready g).stageOn g

/-- R335: TRAINING_STAGE_TIMEOUT. -/
def execTrainingStageTimeout (dt : Nat) (gelain : Bool) (lanes : List LaneResult) (s : State) :
    Host.Outcome State Fault Refusal :=
  commit dt (fun s => s.stageTimeout gelain lanes) s

/-- R335: BIT_LOCK ends after 500 µs in which every lane shows LOS. -/
def State.partnerAbsent (s : State) (g : Bool) : State :=
  let t := s.trainer g
  if t.state = 3 ∧ t.stageAt + ticksOfUs 500 ≤ s.now then
    (s.setTrainer g fun t => { t with lanes := updAll t.lanes fun _ l => { l with los := true } }).failAttempt g 3
  else s

/-- R335: PARTNER_ABSENT. -/
def execPartnerAbsent (dt : Nat) (gelain : Bool) (s : State) : Host.Outcome State Fault Refusal :=
  commit dt (fun s => s.partnerAbsent gelain) s

/-- R340, R405: the retry interval, in ms. -/
def State.retryMs (s : State) (g : Bool) : Nat := if g then 1 else s.linkU 4 2

/-- R340: RETRY_INTERVAL. -/
def execRetryInterval (dt : Nat) (gelain : Bool) (s : State) : Host.Outcome State Fault Refusal :=
  commit dt (fun s =>
    let t := s.trainer gelain
    if t.state = 1 ∧ t.waitLeave = false ∧ s.linkEnabled gelain = true ∧ t.attemptAt + ticksOfMs (s.retryMs gelain) ≤ s.now
    then s.beginAttempt gelain true else s) s

/-- R340: SIGNAL_SEEN. -/
def execSignalSeen (dt : Nat) (gelain : Bool) (s : State) : Host.Outcome State Fault Refusal :=
  commit dt (fun s =>
    let t := s.trainer gelain
    if t.state = 1 ∧ t.waitLeave = false ∧ s.linkEnabled gelain = true then
      let s := s.setTrainer gelain fun t => { t with lanes := t.lanes.set 0 { t.lanes[0] with los := false } }
      s.beginAttempt gelain true
    else s) s

/-- R333: the lane carries traffic, or takes part in a rotation. -/
def State.inUse (s : State) (p : Nat) : Bool :=
  s.link.tr.active p || match s.link.rot with
    | some r => r.phys == p || r.spare == p
    | none => false

/-- R333, R341: LOS. -/
def execLos (dt : Nat) (lane : Fin 18) (allLanes : Bool) (s : State) : Host.Outcome State Fault Refusal :=
  commit dt (fun s =>
    if s.linkOpen && s.inUse lane then
      let s := s.setTrainer false fun t => { t with lanes := updAll t.lanes fun i l =>
        if i = lane || (allLanes && t.active i) then { l with los := true } else l }
      (s.raise 48 8).retrainLink (if allLanes then none else some lane.val)
    else s) s

/-- R333, R341: LOL. -/
def execLol (dt : Nat) (lane : Fin 18) (s : State) : Host.Outcome State Fault Refusal :=
  commit dt (fun s =>
    if s.linkOpen && s.inUse lane then
      let s := s.setTrainer false fun t => { t with lanes := upd t.lanes lane fun l =>
        { l with lol := true, lockLosses := satInc 16 l.lockLosses } }
      (s.raise 48 9).retrainLink (some lane.val)
    else s) s

/-! ### Rotation -/

/-- R344: a round is due: its period has elapsed, or the calibration scheduler called for one. -/
def State.roundDue (s : State) : Bool :=
  let p := s.linkU 8 4
  s.link.roundAsked || (p != 0 && decide (s.link.roundAt + ticksOfMs (1000 * p) ≤ s.now))

/-- R344: ROTATION_ROUND. -/
def execRotationRound (dt : Nat) (s : State) : Host.Outcome State Fault Refusal :=
  commit dt (fun s => if s.canRotate && s.roundDue then s.startRound else s) s

/-- R343: a step of the rotation begins. -/
def State.rotateStep (s : State) (r : Rotation) (step : Nat) : State :=
  s.setLink fun l => { l with rot := some { r with step, since := s.now } }

/-- R343: both sides are ready: the device sends SWITCH. -/
def execRotateReady (dt : Nat) (s : State) : Host.Outcome State Fault Refusal :=
  commit dt (fun s => match s.link.rot with
    | some r => if r.step = 1 then s.rotateStep r 3
      else if r.step = 5 then s.setLink fun l => { l with rot := some { r with step := 6 } } else s
    | none => s) s

/-- R343: ROTATE_SWITCH: ℓ moves to S, or back to L, and the next lane follows. -/
def execRotateSwitch (dt : Nat) (s : State) : Host.Outcome State Fault Refusal :=
  commit dt (fun s => match s.link.rot with
    | some r =>
      if r.step = 3 then (s.carryOn r.logical r.spare).rotateStep r 4
      else if r.step = 6 then (s.carryOn r.logical r.phys).rotateNext
      else s
    | none => s) s

/-- R343: the results of L are known on both sides. -/
def State.rotateDone (s : State) (x : RotResult) : State :=
  match s.link.rot with
  | some r =>
    if r.step = 4 then
      match x with
      | .good mui mv =>
        let s := s.noteEye r.phys mui mv
        if mui < s.linkU 20 2 ∨ mv < s.linkU 22 2 then s.rejectLane r
        else (s.setLink fun l => { l with roundElems := l.roundElems ++ [{ element := r.logical, eyeMui := mui, eyeMv := mv }] }).rotateStep r 5
      | .failed => s.rejectLane r
    else s
  | none => s

/-- R343: ROTATE_DONE. -/
def execRotateDone (dt : Nat) (result : RotResult) (s : State) : Host.Outcome State Fault Refusal :=
  commit dt (fun s => s.rotateDone result) s

/-- R343: the limit of a step in ticks; the marker of step 3 has none. -/
def rotateLimit (step : Nat) : Option Nat :=
  match step with
  | 1 => some (ticksOfUs 200)
  | 4 => some (ticksOfUs 1000)
  | 5 | 6 => some (ticksOfUs 400)
  | _ => none

/-- R343: a step times out and the device sends CANCEL. -/
def State.rotateTimeout (s : State) : State :=
  match s.link.rot with
  | some r => match rotateLimit r.step with
    | some n =>
      if r.since + n ≤ s.now then
        let s := if r.step = 1 then s else s.setLink fun l => { l with
          spares := (l.spares &&& ~~~laneBit r.spare) ||| laneBit r.phys }
        (s.raise 48 23).rotateNext
      else s
    | none => s
  | none => s

/-- R343: ROTATE_STEP_TIMEOUT. -/
def execRotateStepTimeout (dt : Nat) (s : State) : Host.Outcome State Fault Refusal :=
  commit dt (fun s => s.rotateTimeout) s

/-! ### Electrical idle -/

/-- R346: nothing has been to send for IDLE_AFTER. -/
def State.idleDue (s : State) : Bool :=
  s.linkU 3 1 == 1 && s.link.tr.state == 7 && s.link.replay.isEmpty && !s.trafficDue &&
    s.spill.toList.all (fun q => q.pieces.isEmpty) && decide (s.link.trafficAt + ticksOfUs (s.linkU 12 2) ≤ s.now)

/-- R346: EIDLE_ENTRY. -/
def execEidleEntry (dt : Nat) (s : State) : Host.Outcome State Fault Refusal :=
  commit dt (fun s =>
    if s.idleDue then
      ((s.setLink fun l => { l with txIdle := true }).setTrainer false fun t => { t with state := 8 }).raise 48 25
    else s) s

/-- R346: FAST_EXIT. -/
def execFastExit (dt : Nat) (s : State) : Host.Outcome State Fault Refusal :=
  commit dt (fun s =>
    if s.link.tr.state = 8 ∧ s.trafficDue = true then
      (s.setLink fun l => { l with txIdle := false, exitAt := some s.now, trafficAt := s.now }).setTrainer false
        fun t => { t with state := 7 }
    else s) s

/-- R346: FAST_EXIT_FAIL. -/
def execFastExitFail (dt : Nat) (s : State) : Host.Outcome State Fault Refusal :=
  commit dt (fun s => if s.linkOpen then (s.raise 48 26).retrainLink none else s) s

end Sys2Proof.Machine
end

