-- ==== Sys2Proof/Machine/MemRows.lean ====
section
/-!
DEFINITION. The commands of the memory controllers, but for training, which ends a boot or a REC_APPLY.
-/
namespace Sys2Proof.Machine

/-- The channel is ready for traffic. -/
def State.mcOn (s : State) (m : Fin 6) : Bool := let x := s.mem.ctls[m]; x.state == 2 || x.state == 3

/-- R439: PER_BANK_REFRESH: one bank is refreshed; a request to it waits, and no register changes. -/
def execPerBankRefresh (dt : Nat) (mc : Fin 6) (s : State) : Host.Outcome State Fault Refusal :=
  commit dt (fun s => if s.mcOn mc then s else s) s

/-- R439, R440: WCK_TRACKING: tracking stalls the channel; drift beyond the limit calls for a retraining. -/
def State.trackWck (s : State) (mc : Fin 6) (drift : Half) : State :=
  if !s.mcOn mc then s
  else
    let s := s.stall mc 150
    if s.calU 9752 2 < drift.toNat then (s.raiseHeld (40 + mc.val) 10).callRetrain mc else s

/-- R439: WCK_TRACKING. -/
def execWckTracking (dt : Nat) (mc : Fin 6) (drift : Half) (s : State) : Host.Outcome State Fault Refusal :=
  commit dt (fun s => s.trackWck mc drift) s

/-- R439: ZQ_LATCH. -/
def execZqLatch (dt : Nat) (mc : Fin 6) (s : State) : Host.Outcome State Fault Refusal :=
  commit dt (fun s => if s.mcOn mc then s.stall mc 50 else s) s

/-- R441: MR4_REPORT. -/
def State.mr4 (s : State) (mc : Fin 6) (code : Byte) (means : Mr4) : State :=
  let s := s.setMc mc fun x => { x with mr4 := code, derated := means != .normal }
  let s := s.raiseLevel (means != .normal) (40 + mc.val) 7
  s.raiseLevel (means == .beyond) (40 + mc.val) 8

/-- R441: MR4_REPORT. -/
def execMr4Report (dt : Nat) (mc : Fin 6) (code : Byte) (means : Mr4) (s : State) : Host.Outcome State Fault Refusal :=
  commit dt (fun s => if s.mcOn mc then s.mr4 mc code means else s) s

/-- R442, R443: the scrubber reads one line. -/
def State.scrub (s : State) (mc : Fin 6) (result : EccResult) : State :=
  let x := s.mem.ctls[mc]
  if !s.mcOn mc || decide (s.mcLines ≤ x.line) then s
  else
    let s := s.setMc mc fun y => { y with line := y.line + 1 }
    match result with
    | .clean => s
    | .corrected w => s.scrubCorr mc (x.line * 8 + w.val)
    | .uncorrectable w => s.noteEcc mc (x.line * 8 + w.val) true

/-- R443: PATROL_SCRUB. -/
def execPatrolScrub (dt : Nat) (mc : Fin 6) (result : EccResult) (s : State) : Host.Outcome State Fault Refusal :=
  commit dt (fun s => s.scrub mc result) s

/-- R443: a pass that has read every line ends; one that takes longer than SCRUB_HOURS is late. -/
def State.scrubPass (s : State) (mc : Fin 6) : State :=
  let x := s.mem.ctls[mc]
  let late := decide (x.passAt + s.scrubTicks < s.now)
  if !s.mcOn mc then s
  else if s.mcLines ≤ x.line then
    let s := s.setMc mc fun y => { y with line := 0, passAt := s.now, passes := satInc 16 y.passes, lastErrs := y.errs, errs := [] }
    let s := s.raise (40 + mc.val) 5
    if late then s else s.causeGone (40 + mc.val) 6
  else if late then s.raiseLevel true (40 + mc.val) 6
  else s

/-- R443: SCRUB_PASS_END. -/
def execScrubPassEnd (dt : Nat) (mc : Fin 6) (s : State) : Host.Outcome State Fault Refusal :=
  commit dt (fun s => s.scrubPass mc) s

end Sys2Proof.Machine
end

