-- ==== Sys2Proof/Machine/SluiceRows.lean ====
section
/-!
DEFINITION. The meanings of the Sluice's events (R227 to R248): what is due on a bus, how a transaction ends, bus faults, the
semaphores, address assignment, and the posted-write log and fetches.
-/
namespace Sys2Proof.Machine

/-- R244, R245: SL_PLOG_ACK. -/
def execSlPlogAck (dt : Nat) (serial : Half) (s : State) : Host.Outcome State Fault Refusal :=
  commit dt (fun s => s.ackPlog serial) s

/-- R234: the hold of a port's fetch has ended. -/
def State.expireFetch (s : State) (p : Port) : State :=
  match (s.port p).fetch with
  | some f => if f.result.isSome && decide (f.doneAt + ticksOfMs 10 ≤ s.now) then
      (s.setPort p fun q => { q with fetch := none }).raise 50 13 else s
  | none => s

/-- R234: FETCH_HOLD_EXPIRY. -/
def execFetchHoldExpiry (dt : Nat) (port : Port) (s : State) : Host.Outcome State Fault Refusal :=
  commit dt (fun s => s.expireFetch port) s

/-- R231: work may start on the bus now. -/
def State.busIdle (s : State) (b : Fin 32) : Bool :=
  let x := s.sluice.buses[b]
  s.sluiceRuns && x.cur.isNone && !x.busy && x.semWait.isNone && s.domOn 16

/-- R231: a booked piece of work that is due: its gate is open, or it has missed its window. -/
def State.dueBooking (s : State) (b : Fin 32) : Option (Work × Gate) :=
  (s.sluice.buses[b].queue.filter (·.booked)).findSome? fun w =>
    match s.workGate b w with
    | .wait => none
    | g => some (w, g)

/-- R205, R231, R210: booked work that is due starts; a sequence that missed its window takes the next; the releasing write
of a sequence that waits for its window starts in it. -/
def State.bookingDue (s : State) (b : Fin 32) : State :=
  let x := s.sluice.buses[b]
  match x.cur with
  | some w =>
    if x.busy || x.retryAt.isSome || !s.sluiceRuns then s
    else match s.workGate b w, w.kind with
      | .go, _ => s.startTxn b 2
      | .missed, .expo c id => s.replace c id
      | _, _ => s
  | none =>
    if s.busIdle b then
      match s.dueBooking b with
      | some (w, .go) => s.startWork b w
      | some (w, .missed) => match w.kind with | .expo c id => s.replace c id | _ => s
      | _ => s
    else s

/-- R231: SLUICE_BOOKING_DUE. -/
def execSluiceBookingDue (dt : Nat) (bus : Fin 32) (s : State) : Host.Outcome State Fault Refusal :=
  commit dt (fun s => (s.bookingDue bus).finishApplies) s

/-- R231: the booking that the work, accepted after it, would be carried past. -/
def State.guardedBy (s : State) (b : Fin 32) (w : Work) : Bool :=
  let before := s.sluice.buses[b].queue.takeWhile (· != w)
  before.any fun q => q.booked && match s.bookingOf q with
    | some t => decide (t < s.clock.ext + s.workNs b w)
    | none => false

/-- R231: the next work in order of acceptance starts, or is put off for a booking. -/
def State.startNext (s : State) (b : Fin 32) : State :=
  let x := s.sluice.buses[b]
  if s.busIdle b then
    match x.queue.find? fun w => !w.booked with
    | none => s
    | some w =>
      if s.workGate b w != .go then s
      else if s.guardedBy b w then
        if w.deferred then s
        else (s.setBus b fun x => { x with
          queue := x.queue.map fun q => if q = w then { w with deferred := true } else q }).raise 50 18
      else s.startWork b w
  else s

/-- R231: SLUICE_TRANSACTION_START. -/
def execSluiceTransactionStart (dt : Nat) (bus : Fin 32) (s : State) : Host.Outcome State Fault Refusal :=
  commit dt (fun s => s.startNext bus) s

/-- The transaction fails; under TAIL_ON_FAIL the last write follows. -/
def State.failNow (s : State) (b : Fin 32) (code : Nat) : State :=
  let r := s.failTxn b code
  if r.2 then r.1.startTxn b 2 else r.1

/-- R232, R240, R241: how the transaction on the bus ended. -/
def State.endTxn (s : State) (b : Fin 32) (r : BusResult) : State :=
  let x := s.sluice.buses[b]
  if x.busy then
    let s := { s with sluice := { s.sluice with transfers := satInc 32 s.sluice.transfers } }
    let nack (s : State) : State := { s with sluice := { s.sluice with nacks := satInc 16 s.sluice.nacks } }
    match r with
    | .ack data => s.nextTxn b data
    | .addrNack =>
      if x.repeats < s.busU b 2 1 then
        (nack s).setBus b fun x => { x with busy := false, repeats := x.repeats + 1
                                            retryAt := some (s.now + ticksOfUs (s.busU b 10 2)) }
      else (nack s).failNow b 1
    | .dataNack _ => (nack s).failNow b 2
    | .parity => s.failNow b 6
    | .arbitration | .sdaLow =>
      if s.twinPair then (s.raise 50 20).failNow b 3
      else if x.arbLost then s.failNow b 3
      else s.setBus b fun x => { x with arbLost := true, since := s.now }
  else s

/-- R232: SLUICE_TRANSACTION_END. -/
def execSluiceTransactionEnd (dt : Nat) (bus : Fin 32) (result : BusResult) (s : State) : Host.Outcome State Fault Refusal :=
  commit dt (fun s => (s.endTxn bus result).finishApplies) s

/-- R241: the NACK_GAP has ended and the transaction is repeated. -/
def State.repeatTxn (s : State) (b : Fin 32) : State :=
  match s.sluice.buses[b].retryAt with
  | some t => if t ≤ s.now ∧ s.sluiceRuns = true then
      (if s.sluice.buses[b].stuck then s.failNow b 5
       else s.setBus b fun x => { x with busy := true, retryAt := none, since := s.now })
    else s
  | none => s

/-- R241: NACK_GAP_REPEAT. -/
def execNackGapRepeat (dt : Nat) (bus : Fin 32) (s : State) : Host.Outcome State Fault Refusal :=
  commit dt (fun s => (s.repeatTxn bus).finishApplies) s

/-- R241: SCL was held low beyond STRETCH_LIMIT. -/
def State.stretched (s : State) (b : Fin 32) : State :=
  let x := s.sluice.buses[b]
  if x.busy && decide (x.since + ticksOfUs (s.busU b 12 4) < s.now) then s.failNow b 4 else s

/-- R241: STRETCH_TIMEOUT. -/
def execStretchTimeout (dt : Nat) (bus : Fin 32) (s : State) : Host.Outcome State Fault Refusal :=
  commit dt (fun s => (s.stretched bus).finishApplies) s

/-- R241: the bus is suspended; the transaction on it fails. -/
def State.stickBus (s : State) (b : Fin 32) : State :=
  let s := ({ s with sluice := { s.sluice with timeouts := satInc 16 s.sluice.timeouts } }).setBus b fun x => { x with stuck := true }
  let s := s.raiseHeld 50 4
  if s.sluice.buses[b].busy then s.failNow b 5 else s

/-- R241: BUS_STUCK. -/
def execBusStuck (dt : Nat) (bus : Fin 32) (s : State) : Host.Outcome State Fault Refusal :=
  commit dt (fun s => (s.stickBus bus).finishApplies) s

/-- R241: BUS_RESUME. -/
def execBusResume (dt : Nat) (bus : Fin 32) (s : State) : Host.Outcome State Fault Refusal :=
  commit dt (fun s => s.setBus bus fun x => { x with stuck := false }) s

/-- R241: SDA_RECOVERY: SCL is clocked and a STOP sent; SDA that is released is a recovery. -/
def execSdaRecovery (dt : Nat) (bus : Fin 32) (released : Bool) (s : State) : Host.Outcome State Fault Refusal :=
  commit dt (fun s => s.raiseIf (released && s.sluice.buses[bus].mode != 0) 50 5) s

/-- R237: the Sluice reads the semaphore it waits for and starts its work when it is granted. -/
def State.grantSem (s : State) (b : Fin 32) : State :=
  let x := s.sluice.buses[b]
  if x.semWait.isSome && s.semFree b then
    let s := s.setBus b fun x => { x with semWait := none, semLong := false }
    match (s.dueBooking b).map (·.1) |>.or (x.queue.find? fun w => !w.booked) with
    | some w => if s.workGate b w = .go ∧ s.busIdle b = true then s.startWork b w else s.bookingDue b
    | none => s
  else s

/-- R237: SLUICE_SEM_GRANT. -/
def execSluiceSemGrant (dt : Nat) (bus : Fin 32) (s : State) : Host.Outcome State Fault Refusal :=
  commit dt (fun s => s.grantSem bus) s

/-- R237: a wait longer than 100 µs. -/
def State.semLate (s : State) (b : Fin 32) : State :=
  let x := s.sluice.buses[b]
  match x.semWait with
  | some t => if !x.semLong && decide (t + ticksOfUs 100 < s.now) then
      (s.setBus b fun x => { x with semLong := true }).raise 50 16 else s
  | none => s

/-- R237: SEM_WAIT_LONG. -/
def execSemWaitLong (dt : Nat) (bus : Fin 32) (s : State) : Host.Outcome State Fault Refusal :=
  commit dt (fun s => s.semLate bus) s

/-- R230: the addresses of an I3C bus: SETDASA for entries of kind 1, ENTDAA for the targets found. -/
def State.assignAddrs (s : State) (b : Fin 32) (found : List (BitVec 48)) : State :=
  let pid (i : Fin 128) : Nat := s.route i 8 4 + s.route i 12 2 * 2 ^ 32
  let mine (i : Fin 128) : Bool := s.routed i && s.busOf i == b
  let addrs := updAll s.sluice.addrs fun i a =>
    if !mine i then a
    else match s.route i 2 1 with
      | 1 => some (s.route i 4 1)
      | 2 => if found.any fun p => p.toNat == pid i then some (s.route i 4 1) else none
      | _ => none
  let unknown := found.any fun p => !(fins 128).any fun i => mine i && s.route i 2 1 == 2 && pid i == p.toNat
  let s := ({ s with sluice := { s.sluice with addrs } }).setBus b fun x => { x with daaDue := false }
  let s := s.raiseIf unknown 50 7
  let lacks := (fins 128).any fun i => mine i && s.route i 2 1 != 0 && addrs[i].isNone
  if lacks then s.raiseHeld 50 8 else s

/-- R230: DAA_PROCEDURE, under the bus's semaphore and only on an idle I3C bus that asks for it. -/
def execDaaProcedure (dt : Nat) (bus : Fin 32) (found : List (BitVec 48)) (s : State) : Host.Outcome State Fault Refusal :=
  commit dt (fun s =>
    let s := s.refreshBus bus
    let x := s.sluice.buses[bus]
    if x.daaDue && x.mode == 2 && x.cur.isNone && s.semFree bus then s.assignAddrs bus found else s) s

/-- R227: SCB_IBI_REQUEST: an in-band interrupt or hot-join of an I3C bus is refused and counted. -/
def execScbIbiRequest (dt : Nat) (bus : Fin 32) (s : State) : Host.Outcome State Fault Refusal :=
  commit dt (fun s => s.raiseIf (s.sluice.buses[bus].mode == 2) 50 9) s

end Sys2Proof.Machine
end

