-- ==== Sys2Proof/Machine/TimeRows.lean ====
section
/-!
DEFINITION. The meanings of the timebase's and the trigger generator's events (R363 to R388, R415).
-/
namespace Sys2Proof.Machine

/-- R373: TIME_STEP_AT: the first tick with TIME at or after AT_TIME. -/
def execTimeStepAt (dt : Nat) (s : State) : Host.Outcome State Fault Refusal :=
  commit dt (fun s => match s.clock.pendingSet with
    | some (x, t) => if t ≤ s.clock.ext then (s.setClock fun c => { c with pendingSet := none }).doChange x else s
    | none => s) s

/-- R415: MIRRORED_TIME_INSTANT. -/
def execMirroredTimeInstant (dt : Nat) (s : State) : Host.Outcome State Fault Refusal :=
  commit dt (fun s => match s.clock.mirrored with
    | (x, t) :: rest => if t ≤ s.clock.ext then (s.setClock fun c => { c with mirrored := rest }).doChange x else s
    | [] => s) s

/-- R366: TIME passes from 0xFFFF_FFFF to 0. -/
def State.countWrap (s : State) : State :=
  if s.clock.counted < s.clock.ext / 2 ^ 32 then s.setClock fun c => { c with counted := c.counted + 1, wrap := c.wrap + 1 }
  else s

/-- R366: TIME_WRAP. -/
def execTimeWrap (dt : Nat) (s : State) : Host.Outcome State Fault Refusal := commit dt (fun s => s.countWrap) s

/-- R376, R415: no good beacon has arrived for BEACON_TIMEOUT. -/
def State.beaconTimeout (s : State) : State :=
  if s.syncMode && !s.followsLead && !s.clock.holdover &&
      decide (s.clock.beaconAt + ticksOfUs (s.au 0x0D01 65535 4 4) ≤ s.now) then s.enterHoldover 2
  else s

/-- R376: BEACON_TIMEOUT. -/
def execBeaconTimeout (dt : Nat) (s : State) : Host.Outcome State Fault Refusal := commit dt (fun s => s.beaconTimeout) s

/-- R382, R417: the due edges of an output, and the tag of its pulse record. -/
def State.pulseStart (s : State) (o : Fin 48) : State :=
  let was := s.trig.outs[o].pulse.isSome
  let s := s.trigEdge o
  match s.trig.outs[o].pulse with
  | some p =>
    if !was && s.trig.outs[o].expo && decide (o.val < 32) then
      let q := s.expo.pulses[Fin.ofNat 32 o.val]
      s.capture 4 o (q.base + q.recs.length - 1) (time32 p.1) (BitVec.ofInt 32 (p.2 - p.1))
    else s
  | none => s

/-- R382: TRIG_EDGE. -/
def execTrigEdge (dt : Nat) (out : Fin 48) (s : State) : Host.Outcome State Fault Refusal :=
  commit dt (fun s => s.pulseStart out) s

/-- R382: TRIG_PULSE_END. -/
def execTrigPulseEnd (dt : Nat) (out : Fin 48) (s : State) : Host.Outcome State Fault Refusal :=
  commit dt (fun s => s.pulseEnd out) s

/-- R387, R417: an edge of an input, and its tag. -/
def State.evinCapture (s : State) (i : Fin 8) (rising : Bool) : State :=
  let n := s.trig.evins[i].next
  let s := s.evinEdge i rising
  if s.trig.evins[i].next = n then s
  else match s.trig.evins[i].ring.getLast? with
    | some k => s.capture 3 i k.serial.toNat k.time 0
    | none => s

/-- R387: EVIN_EDGE. -/
def execEvinEdge (dt : Nat) (input : Fin 8) (rising : Bool) (s : State) : Host.Outcome State Fault Refusal :=
  commit dt (fun s => s.evinCapture input rising) s

end Sys2Proof.Machine
end

