-- ==== Sys2Proof/Machine/Window.lean ====
section
/-!
DEFINITION. The I3C target and its register window (R40 to R49, R579), and the JTAG test port (R66, R67).
-/
namespace Sys2Proof.Machine

/-- The window's own registers changed. -/
def State.setWin (s : State) (f : Window → Window) : State := { s with win := f s.win }

/-! ### Doorbell of P0 -/

/-- R49: the window hardware answers the packet in WIN_TX when WIN_RX is empty; else the packet waits. -/
def State.winHardware (s : State) : State :=
  if s.rxFull then s.setWin fun w => { w with hwWait := true }
  else
    let b := s.mbBytes 0 0
    let r := s.hwReply b
    (((s.clearSlot 0 0).fillSlot 1 0 r).noteReply .p0).setWin fun w => { w with hwWait := false }

/-- R47, R49, R75: RING: the packet in WIN_TX is submitted. -/
def State.ringWindow (s : State) : State :=
  if s.txFull then (s.overrun 0).setWin fun w => { w with err := w.err ||| 1 }
  else
    let s := s.fillSlot 0 0 (s.mbBytes 0 0)
    if s.accepting then s else s.winHardware

/-- R49: WIN_DOORBELL_RING. -/
def execWinDoorbellRing (dt : Nat) (s : State) : Host.Outcome State Fault Refusal := commit dt (fun s => s.ringWindow) s

/-- R49: a ring that waited is answered once RX_FULL has cleared, or left to firmware. -/
def State.winDeferred (s : State) : State :=
  if s.win.hwWait && !s.rxFull then
    if s.accepting then s.setWin fun w => { w with hwWait := false } else s.winHardware
  else s

/-- R49: HW_REPLY_DEFERRED. -/
def execHwReplyDeferred (dt : Nat) (s : State) : Host.Outcome State Fault Refusal := commit dt (fun s => s.winDeferred) s

/-! ### Registers of the window (R47) -/

/-- R47: the value of the window register at a word offset. -/
def State.winReg (s : State) (k : Nat) : Word :=
  BitVec.ofNat 32 (match k with
    | 0 => 0x7316 * 65536 + Config.siliconRev.toNat * 256 + 1
    | 1 => bit 9 s.sys.twinSel + bit 8 s.win.dynAddr.isNone + bit 5 (s.summary != 0) + bit 4 s.sys.faultLow +
        bit 3 s.rxFull + bit 2 s.txFull + bit 1 s.sys.mgmtOn + bit 0 (s.sys.cmdReady && !s.sys.restarting)
    | 2 => s.win.ctrl.toNat
    | 4 => s.win.cause.toNat
    | 5 => s.twin.epoch.toNat * 65536 + s.ident
    | 6 => s.win.err.toNat
    | _ => 0)

/-- R43: the RC fields of a register clear when its snapshot is taken. -/
def State.winClear (s : State) (k : Nat) : State :=
  match k with
  | 4 => s.setWin fun w => { w with cause := 0 }
  | 6 => s.setWin fun w => { w with err := 0 }
  | _ => s

/-- R43: a 32-bit write of a window register. -/
def State.winWrite (s : State) (k : Nat) (v : Word) : State :=
  match k with
  | 2 => s.setWin fun w => { w with ctrl := v.setWidth 4 }
  | 3 => if v.getLsbD 0 then s.ringWindow else s
  | _ => s

/-- The byte of a register word. -/
def wordByte (w : Word) (i : Nat) : Byte := BitVec.ofNat 8 (w.toNat / 256 ^ i)

/-- R42: an access outside the mapped offsets. -/
def State.offsetBad (s : State) : State := s.setWin fun w => { w with err := w.err ||| 4 }

/-- R48: the last byte of the reply in WIN_RX. -/
def replyLast (b : List Byte) : Nat := 19 + field b 2 2

/-- R42, R43, R48: one byte read at an offset; `snap` is the snapshot of the register that was begun at its byte 0. -/
def State.winReadByte (s : State) (off : Nat) (snap : Option (Nat × Word)) : State × Option (Nat × Word) × Byte :=
  if off < 0x1C then
    let k := off / 4
    if off % 4 = 0 then
      let v := s.winReg k
      (s.winClear k, some (k, v), wordByte v 0)
    else match snap with
      | some (j, v) => if j = k then (s, snap, wordByte v (off % 4)) else (s, none, wordByte (s.winReg k) (off % 4))
      | none => (s, none, wordByte (s.winReg k) (off % 4))
  else if 0x100 ≤ off ∧ off < 0x200 then (s, none, byteAt (s.mbBytes 0 0) (off - 0x100))
  else if 0x200 ≤ off ∧ off < 0x300 then
    if s.rxFull then
      let b := s.mbBytes 1 0
      (if off - 0x200 = replyLast b then s.clearSlot 1 0 else s, none, byteAt b (off - 0x200))
    else (s.setWin fun w => { w with err := w.err ||| 2 }, none, 0)
  else (s.offsetBad, none, 0)

/-- R42: bytes read upward from the read pointer. -/
def State.winRead (s : State) (snap : Option (Nat × Word)) : Nat → State × List Byte
  | 0 => (s, [])
  | n + 1 =>
    let r := s.winReadByte s.win.readPtr snap
    let rest := (r.1.setWin fun w => { w with readPtr := w.readPtr + 1 }).winRead r.2.1 n
    (rest.1, r.2.2 :: rest.2)

/-- R42, R47: a byte written to WIN_TX; while TX_FULL is set it is ignored. -/
def State.winTx (s : State) (i : Nat) (v : Byte) : State :=
  if s.txFull then s.setWin fun w => { w with err := w.err ||| 1 }
  else s.setSlot 0 0 fun x => { x with bytes := putByte x.bytes i v }

/-- R43: the word that a write of byte 3 writes: the bytes the private write carried since `start`, the register's current
value elsewhere. `got` holds the carried bytes, the latest first. -/
def State.winWord (s : State) (off start : Nat) (got : List Byte) : Word :=
  let base := off - 3
  let cur := s.winReg (off / 4)
  BitVec.ofNat 32 (leNat ((List.range 4).map fun i => if start ≤ base + i then got.getD (3 - i) 0 else wordByte cur i))

/-- R42, R43: bytes written upward; a register is written with its byte 3. -/
def State.winWriteBytes (s : State) (start off : Nat) (got : List Byte) : List Byte → State
  | [] => s
  | v :: vs =>
    let got := v :: got
    let s :=
      if off < 0x1C then (if off % 4 = 3 then s.winWrite (off / 4) (s.winWord off start got) else s)
      else if 0x100 ≤ off ∧ off < 0x200 then s.winTx (off - 0x100) v
      else if 0x200 ≤ off ∧ off < 0x300 then s
      else s.offsetBad
    s.winWriteBytes start (off + 1) got vs

/-- R42, R579: a private write; bytes beyond the maximum write length are discarded. -/
def State.privateWrite (s : State) (bytes : List Byte) : State :=
  let s := if s.win.maxWrite < bytes.length then s.setWin fun w => { w with protoError := true } else s
  match bytes.take s.win.maxWrite with
  | a :: b :: [] => s.setWin fun w => { w with readPtr := a.toNat + 256 * b.toNat }
  | a :: b :: data => s.winWriteBytes (a.toNat + 256 * b.toNat) (a.toNat + 256 * b.toNat) [] data
  | _ => s

/-- What the target drove: the bytes read, and whether it acknowledged. -/
def State.drive (s : State) (ack : Bool) (bytes : List Byte) : State := { s with out := { s.out with i3c := bytes, i3cAck := ack } }

/-- R42, R579: a private read, which the target ends after the maximum read length. -/
def State.privateRead (s : State) (count : Nat) : State :=
  let r := s.winRead none (min count s.win.maxRead)
  r.1.drive true r.2

/-! ### Transfers -/

/-- R44: an SDR transfer follows the exit pattern that ends HDR-DDR mode. -/
def State.sdr (s : State) : State := s.setWin fun w => { w with hdrDdr := false }

/-- R40: a transfer or direct CCC at the dynamic address; without one the target takes no part. -/
def State.addressed (s : State) (f : State → State) : State := if s.win.dynAddr.isSome then f s.sdr else s

/-- R42: I3C_PRIVATE_WRITE: at the dynamic address. -/
def execI3cPrivateWrite (dt : Nat) (bytes : List Byte) (s : State) : Host.Outcome State Fault Refusal :=
  commit dt (fun s => s.addressed fun s => (s.privateWrite bytes).drive true []) s

/-- R43: I3C_PRIVATE_READ: at the dynamic address. -/
def execI3cPrivateRead (dt : Nat) (count : Nat) (s : State) : Host.Outcome State Fault Refusal :=
  commit dt (fun s => s.addressed fun s => s.privateRead count) s

/-- R41, R579: a legacy I2C transfer: a write, a read, or both; bytes beyond the maximum write length are NACKed. -/
def State.legacyTransfer (s : State) (write : List Byte) (readCount : Nat) : State :=
  if s.win.dynAddr.isSome then s
  else
    let ack := decide (write.length ≤ s.win.maxWrite)
    let s := if write.isEmpty then s else s.privateWrite write
    if readCount = 0 then s.drive ack []
    else
      let r := s.winRead none (min readCount s.win.maxRead)
      r.1.drive ack r.2

/-- R41: LEGACY_I2C_TRANSFER. -/
def execLegacyI2cTransfer (dt : Nat) (write : List Byte) (readCount : Nat) (s : State) : Host.Outcome State Fault Refusal :=
  commit dt (fun s => s.legacyTransfer write readCount) s

/-- R44: HDR_DDR_WRITE: command code 0x20; its first data word is the offset. -/
def execHdrDdrWrite (dt : Nat) (code : Byte) (bytes : List Byte) (s : State) : Host.Outcome State Fault Refusal :=
  commit dt (fun s =>
    if s.win.hdrDdr && s.win.dynAddr.isSome then (if code = 0x20 then (s.privateWrite bytes).drive true [] else s.drive false []) else s) s

/-- R44: HDR_DDR_READ: command code 0xA0. -/
def execHdrDdrRead (dt : Nat) (code : Byte) (count : Nat) (s : State) : Host.Outcome State Fault Refusal :=
  commit dt (fun s => if s.win.hdrDdr && s.win.dynAddr.isSome then (if code = 0xA0 then s.privateRead count else s.drive false []) else s) s

/-! ### Common command codes (R45) -/

/-- R40: the static address. -/
def State.staticAddr (s : State) : Nat := 0x30 + s.sys.addrSel % 8

/-- R45: ENEC: the target-interrupt enable; bits of hot-join and controller role are ignored. -/
def execEnec (dt : Nat) (events : Byte) (s : State) : Host.Outcome State Fault Refusal :=
  commit dt (fun s => (if events.getLsbD 0 then s.sdr.setWin fun w => { w with irqEnabled := true } else s.sdr).drive true []) s

/-- R45: DISEC. -/
def execDisec (dt : Nat) (events : Byte) (s : State) : Host.Outcome State Fault Refusal :=
  commit dt (fun s => (if events.getLsbD 0 then s.sdr.setWin fun w => { w with irqEnabled := false } else s.sdr).drive true []) s

/-- R41, R45: RSTDAA: the dynamic address is cleared, and legacy transfers are answered again. -/
def execRstdaa (dt : Nat) (s : State) : Host.Outcome State Fault Refusal :=
  commit dt (fun s => (s.sdr.setWin fun w => { w with dynAddr := none }).drive true []) s

/-- R40: an address is assigned: P0 leaves legacy I2C mode (R41). -/
def State.assign (s : State) (a : BitVec 7) : State :=
  (s.sdr.setWin fun w => { w with dynAddr := some a }).drive true []

/-- R40: ENTDAA: a target without a dynamic address takes part and takes the address it is given. -/
def execEntdaa (dt : Nat) (addr : BitVec 7) (s : State) : Host.Outcome State Fault Refusal :=
  commit dt (fun s => if s.win.dynAddr.isNone then s.assign addr else s) s

/-- R40: SETDASA through the static address. -/
def execSetdasa (dt : Nat) (static addr : BitVec 7) (s : State) : Host.Outcome State Fault Refusal :=
  commit dt (fun s => if s.win.dynAddr.isNone && static.toNat == s.staticAddr then s.assign addr else s) s

/-- R45: SETNEWDA at the dynamic address. -/
def execSetnewda (dt : Nat) (addr : BitVec 7) (s : State) : Host.Outcome State Fault Refusal :=
  commit dt (fun s => if s.win.dynAddr.isSome then s.assign addr else s) s

/-- R579: a length in its range is taken; another one is acknowledged, ignored and sets GETSTATUS bit 5. -/
def State.setLength (s : State) (lo v : Nat) (f : Window → Window) : State :=
  (if lo ≤ v ∧ v ≤ 1024 then s.setWin f else s.setWin fun w => { w with protoError := true }).drive true []

/-- R45, R579: SETMWL. -/
def execSetmwl (dt : Nat) (value : Half) (s : State) : Host.Outcome State Fault Refusal :=
  commit dt (fun s => s.addressed fun s => s.setLength 258 value.toNat fun w => { w with maxWrite := value.toNat }) s

/-- R45, R579: SETMRL. -/
def execSetmrl (dt : Nat) (value : Half) (s : State) : Host.Outcome State Fault Refusal :=
  commit dt (fun s => s.addressed fun s => s.setLength 256 value.toNat fun w => { w with maxRead := value.toNat }) s

/-- The bytes of a number, most significant first, as CCC data are sent. -/
def beBytes (n x : Nat) : List Byte := (leBytes n x).reverse

/-- R45: GETMWL. -/
def execGetmwl (dt : Nat) (s : State) : Host.Outcome State Fault Refusal :=
  commit dt (fun s => s.addressed fun s => s.drive true (beBytes 2 s.win.maxWrite)) s

/-- R45: GETMRL, with the IBI payload length. -/
def execGetmrl (dt : Nat) (s : State) : Host.Outcome State Fault Refusal :=
  commit dt (fun s => s.addressed fun s => s.drive true (beBytes 2 s.win.maxRead ++ beBytes 1 1)) s

/-- R45: the provisioned ID. -/
def State.pid (s : State) : Nat :=
  0x03A7 * 2 ^ 33 + 0x7316 * 2 ^ 16 + s.sys.addrSel % 8 * 2 ^ 12 + Config.siliconRev.toNat

/-- R45: GETPID. -/
def execGetpid (dt : Nat) (s : State) : Host.Outcome State Fault Refusal := commit dt (fun s => s.addressed fun s => s.drive true (beBytes 6 s.pid)) s

/-- R45: GETBCR. -/
def execGetbcr (dt : Nat) (s : State) : Host.Outcome State Fault Refusal := commit dt (fun s => s.addressed fun s => s.drive true [0x26]) s

/-- R45: GETDCR. -/
def execGetdcr (dt : Nat) (s : State) : Host.Outcome State Fault Refusal := commit dt (fun s => s.addressed fun s => s.drive true [0x00]) s

/-- R45, R579: GETSTATUS clears its bit 5. -/
def execGetstatus (dt : Nat) (s : State) : Host.Outcome State Fault Refusal :=
  commit dt (fun s => s.addressed fun s => (s.setWin fun w => { w with protoError := false }).drive true
    (beBytes 2 (bit 5 s.win.protoError + bit 0 s.win.ibiPending))) s

/-- R45: GETMXDS: no limit on either direction (log entry 32). -/
def execGetmxds (dt : Nat) (s : State) : Host.Outcome State Fault Refusal := commit dt (fun s => s.addressed fun s => s.drive true [0, 0]) s

/-- R45: GETCAPS: HDR-DDR only (log entry 32). -/
def execGetcaps (dt : Nat) (s : State) : Host.Outcome State Fault Refusal := commit dt (fun s => s.addressed fun s => s.drive true [1]) s

/-- R45: ENTHDR0: HDR-DDR mode. -/
def execEnthdr0 (dt : Nat) (s : State) : Host.Outcome State Fault Refusal :=
  commit dt (fun s => (s.setWin fun w => { w with hdrDdr := true }).drive true []) s

/-- R45, R579: RSTACT. -/
def State.rstact (s : State) (defining : Byte) : State :=
  if defining = 0 then s.drive true []
  else if defining = 1 then
    (s.setWin fun w => { w with irqEnabled := true, maxWrite := 258, maxRead := 256, protoError := false, hdrDdr := false, readPtr := 0 }).drive true []
  else s.drive false []

/-- R579: RSTACT. -/
def execRstact (dt : Nat) (defining : Byte) (s : State) : Host.Outcome State Fault Refusal := commit dt (fun s => s.sdr.rstact defining) s

/-- R46: a pending in-band interrupt is delivered with WIN_IBI_CAUSE as its data byte, and the delivered bits clear. -/
def State.deliverIbi (s : State) : State :=
  if s.win.ibiPending then
    ({ s with out := { s.out with ibi := some (s.win.cause.setWidth 8) } }).setWin fun w => { w with cause := 0 }
  else s

/-- R46: IBI_DELIVERY. -/
def execIbiDelivery (dt : Nat) (s : State) : Host.Outcome State Fault Refusal := commit dt (fun s => s.deliverIbi) s

/-! ### The test access port (R66, R67) -/

/-- The test port's state changed. -/
def State.setJtag (s : State) (f : Jtag → Jtag) : State := { s with jtag := f s.jtag }

/-- R66: OANTE_INSTRUCTION: 0x2C selects the command data register, every other code the bypass register. -/
def execOanteInstruction (dt : Nat) (code : Byte) (s : State) : Host.Outcome State Fault Refusal :=
  commit dt (fun s => s.setJtag fun j => { j with ir := code }) s

/-- R67: MB8 or MB9 is full. -/
def State.mbFull (s : State) (ch : Fin 10) : Bool := (s.mb.chans[ch].slots.getD 0 {}).full

/-- R67: the STATUS word. -/
def State.jtagStatus (s : State) : Word :=
  BitVec.ofNat 32 (bit 0 (s.sys.cmdReady && !s.sys.restarting) + bit 1 s.sys.mgmtOn + bit 2 s.sys.factoryTest + bit 3 (s.mbFull 8) +
    bit 4 (s.mbFull 9) + (if s.mbFull 9 then (20 + field (s.mbBytes 9 0) 2 2) * 65536 else 0))

/-- R67: the capture returns a reply word: the preceding update carried OP 2 and MB9 is full. -/
def State.jtagReply (s : State) : Bool := s.jtag.lastOp == 2 && s.mbFull 9

/-- R66, R67: what a scan captures. -/
def State.jtagCapture (s : State) : BitVec 36 :=
  if !s.domOn 21 then 0
  else
    let data : Nat := if s.jtagReply then (word (s.mbBytes 9 0) s.jtag.readPtr).toNat else s.jtagStatus.toNat
    BitVec.ofNat 36 (data + bit 34 (s.mbFull 8) + bit 35 (s.mbFull 9))

/-- R66, R67: a scan of the command data register with an OP: the capture, then the update; ignored while PD21 is off. -/
def State.scan (s : State) (op : Nat) (f : State → State) : State :=
  if s.jtag.ir != 0x2C then s
  else
    let s := { s with out := { s.out with jtag := s.jtagCapture } }
    if s.domOn 21 then (f s).setJtag fun j => { j with lastOp := op } else s

/-- R67: JTAG_STATUS: OP 0. -/
def execJtagStatus (dt : Nat) (s : State) : Host.Outcome State Fault Refusal := commit dt (fun s => s.scan 0 id) s

/-- R67: OP 1 writes a word into MB8 at the write pointer. -/
def State.jtagWrite (s : State) (data : Word) : State :=
  if s.mbFull 8 then s.overrun 8
  else if 252 < s.jtag.writePtr then s
  else
    let s := s.setSlot 8 0 fun x => { x with
      bytes := (List.range 4).foldl (fun b i => putByte b (s.jtag.writePtr + i) (wordByte data i)) x.bytes }
    s.setJtag fun j => { j with writePtr := j.writePtr + 4 }

/-- R67: JTAG_WRITE. -/
def execJtagWrite (dt : Nat) (data : Word) (s : State) : Host.Outcome State Fault Refusal :=
  commit dt (fun s => s.scan 1 fun s => s.jtagWrite data) s

/-- R67: OP 2 advances the read pointer past the word that the same scan captured; past the last byte the slot clears. -/
def State.jtagRead (s : State) : State :=
  if s.jtagReply then
    let last := replyLast (s.mbBytes 9 0)
    let s := s.setJtag fun j => { j with readPtr := j.readPtr + 4 }
    if last < s.jtag.readPtr then (s.setJtag fun j => { j with readPtr := 0 }).clearSlot 9 0 else s
  else s

/-- R67: JTAG_READ. -/
def execJtagRead (dt : Nat) (s : State) : Host.Outcome State Fault Refusal := commit dt (fun s => s.scan 2 fun s => s.jtagRead) s

/-- R67: REWIND. -/
def State.jtagRewind (s : State) : State := s.setJtag fun j => { j with writePtr := 0, readPtr := 0 }

/-- R67: ACK clears MB9. -/
def State.jtagAck (s : State) : State := (s.setJtag fun j => { j with readPtr := 0 }).clearSlot 9 0

/-- R67, R75: RING rings MB8's doorbell. -/
def State.jtagRing (s : State) : State :=
  let s := s.setJtag fun j => { j with writePtr := 0 }
  if s.mbFull 8 then s.overrun 8 else (s.fillSlot 8 0 (s.mbBytes 8 0)).hwAnswer 8 0

/-- R67: JTAG_RING: OP 3 with RING: REWIND, then ACK, then RING. -/
def execJtagRing (dt : Nat) (ack rewind : Bool) (s : State) : Host.Outcome State Fault Refusal :=
  commit dt (fun s => s.scan 3 fun s =>
    let s := if rewind then s.jtagRewind else s
    (if ack then s.jtagAck else s).jtagRing) s

/-- R67: JTAG_ACK: OP 3 with ACK and without RING. -/
def execJtagAck (dt : Nat) (rewind : Bool) (s : State) : Host.Outcome State Fault Refusal :=
  commit dt (fun s => s.scan 3 fun s => (if rewind then s.jtagRewind else s).jtagAck) s

/-- R67: JTAG_REWIND: OP 3 with REWIND alone. -/
def execJtagRewind (dt : Nat) (s : State) : Host.Outcome State Fault Refusal := commit dt (fun s => s.scan 3 fun s => s.jtagRewind) s

end Sys2Proof.Machine
end

