-- ==== Sys2Proof/Machine/Dispatch.lean ====
section
/-!
DEFINITION. The dispatch of every command to its meaning: one arm per constructor of `Instr`.
-/
namespace Sys2Proof.Machine

/-- The effect of one command on everything but the queue. -/
def exec (i : Instr) (s : State) : Host.Outcome State Fault Refusal :=
  match i with
  | .powerOnReset dt aoLost twinSel addrSel boot => Sys2Proof.Machine.execPowerOnReset dt aoLost twinSel addrSel boot s
  | .resetN dt boot => Sys2Proof.Machine.execResetN dt boot s
  | .bootWatchdog dt boot => Sys2Proof.Machine.execBootWatchdog dt boot s
  | .managementWatchdog dt boot => Sys2Proof.Machine.execManagementWatchdog dt boot s
  | .lockstep dt boot => Sys2Proof.Machine.execLockstep dt boot s
  | .fwTrialConfirm dt => Sys2Proof.Machine.execFwTrialConfirm dt s
  | .sysInfo dt h => Sys2Proof.Machine.execSysInfo dt h s
  | .sysReset dt h scope => Sys2Proof.Machine.execSysReset dt h scope s
  | .sysResetBegin dt boot => Sys2Proof.Machine.execSysResetBegin dt boot s
  | .mgmtRestartDone dt => Sys2Proof.Machine.execMgmtRestartDone dt s
  | .regRead dt h offset count => Sys2Proof.Machine.execRegRead dt h offset count s
  | .regWrite dt h offset words => Sys2Proof.Machine.execRegWrite dt h offset words s
  | .registerWritePlain dt offset value => Sys2Proof.Machine.execRegisterWritePlain dt offset value s
  | .recWrite dt h recId inst offset first last data => Sys2Proof.Machine.execRecWrite dt h recId inst offset first last data s
  | .recRead dt h recId inst offset count => Sys2Proof.Machine.execRecRead dt h recId inst offset count s
  | .recApply dt h kind ctx boundary pairs => Sys2Proof.Machine.execRecApply dt h kind ctx boundary pairs s
  | .recordOpenTimeout dt recId inst => Sys2Proof.Machine.execRecordOpenTimeout dt recId inst s
  | .gridRowAdvance dt => Sys2Proof.Machine.execGridRowAdvance dt s
  | .streamStart dt h mask => Sys2Proof.Machine.execStreamStart dt h mask s
  | .streamStartTick dt => Sys2Proof.Machine.execStreamStartTick dt s
  | .streamStop dt h mask => Sys2Proof.Machine.execStreamStop dt h mask s
  | .streamStatus dt h => Sys2Proof.Machine.execStreamStatus dt h s
  | .expoSet dt h ctx targetKind target exposureNs gain => Sys2Proof.Machine.execExpoSet dt h ctx targetKind target exposureNs gain s
  | .statsRead dt h ctx what serial offset count => Sys2Proof.Machine.execStatsRead dt h ctx what serial offset count s
  | .sensWrite dt h sensor reg data => Sys2Proof.Machine.execSensWrite dt h sensor reg data s
  | .sensRead dt h sensor reg count => Sys2Proof.Machine.execSensRead dt h sensor reg count s
  | .sensSeq dt h sensor sflags writes => Sys2Proof.Machine.execSensSeq dt h sensor sflags writes s
  | .sensErrlog dt h start count => Sys2Proof.Machine.execSensErrlog dt h start count s
  | .slPlogAck dt serial => Sys2Proof.Machine.execSlPlogAck dt serial s
  | .fetchHoldExpiry dt port => Sys2Proof.Machine.execFetchHoldExpiry dt port s
  | .calRun dt h type target => Sys2Proof.Machine.execCalRun dt h type target s
  | .calCommit dt h flags => Sys2Proof.Machine.execCalCommit dt h flags s
  | .calExport dt h which offset count => Sys2Proof.Machine.execCalExport dt h which offset count s
  | .calImport dt h flags offset data => Sys2Proof.Machine.execCalImport dt h flags offset data s
  | .importIdleTimeout dt => Sys2Proof.Machine.execImportIdleTimeout dt s
  | .fwStage dt h target index flags offset data => Sys2Proof.Machine.execFwStage dt h target index flags offset data s
  | .fwActivate dt h target index scope => Sys2Proof.Machine.execFwActivate dt h target index scope s
  | .fwStatus dt h => Sys2Proof.Machine.execFwStatus dt h s
  | .twinStatus dt h => Sys2Proof.Machine.execTwinStatus dt h s
  | .roleSwap dt h row => Sys2Proof.Machine.execRoleSwap dt h row s
  | .twinAdmit dt h => Sys2Proof.Machine.execTwinAdmit dt h s
  | .timeSet dt h mode flags value at_ => Sys2Proof.Machine.execTimeSet dt h mode flags value at_ s
  | .timeStepAt dt => Sys2Proof.Machine.execTimeStepAt dt s
  | .timeIncr dt h incr flags => Sys2Proof.Machine.execTimeIncr dt h incr flags s
  | .trigSchedule dt h req => Sys2Proof.Machine.execTrigSchedule dt h req s
  | .timeRead dt h => Sys2Proof.Machine.execTimeRead dt h s
  | .evinRead dt h input start count => Sys2Proof.Machine.execEvinRead dt h input start count s
  | .logRead dt h start count => Sys2Proof.Machine.execLogRead dt h start count s
  | .logMark dt h mark => Sys2Proof.Machine.execLogMark dt h mark s
  | .logStatus dt h => Sys2Proof.Machine.execLogStatus dt h s
  | .evtStatus dt h block => Sys2Proof.Machine.execEvtStatus dt h block s
  | .evtClear dt h block mask => Sys2Proof.Machine.execEvtClear dt h block mask s
  | .evtSeverity dt h block bit severity => Sys2Proof.Machine.execEvtSeverity dt h block bit severity s
  | .evtInject dt h block bit mode holdUs => Sys2Proof.Machine.execEvtInject dt h block bit mode holdUs s
  | .injectHoldEnd dt block bit => Sys2Proof.Machine.execInjectHoldEnd dt block bit s
  | .pwrBudget dt h budget => Sys2Proof.Machine.execPwrBudget dt h budget s
  | .pwrDomain dt h domain state => Sys2Proof.Machine.execPwrDomain dt h domain state s
  | .pwrStatus dt h => Sys2Proof.Machine.execPwrStatus dt h s
  | .dmaStatus dt h first count => Sys2Proof.Machine.execDmaStatus dt h first count s
  | .dmaAbort dt h channel => Sys2Proof.Machine.execDmaAbort dt h channel s
  | .linkStatus dt h => Sys2Proof.Machine.execLinkStatus dt h s
  | .linkRetrain dt h flags => Sys2Proof.Machine.execLinkRetrain dt h flags s
  | .linkTest dt h req => Sys2Proof.Machine.execLinkTest dt h req s
  | .linkTestEnd dt => Sys2Proof.Machine.execLinkTestEnd dt s
  | .linkTestInject dt => Sys2Proof.Machine.execLinkTestInject dt s
  | .testMode dt h mode => Sys2Proof.Machine.execTestMode dt h mode s
  | .testBist dt h targets => Sys2Proof.Machine.execTestBist dt h targets s
  | .i3cPrivateWrite dt bytes => Sys2Proof.Machine.execI3cPrivateWrite dt bytes s
  | .i3cPrivateRead dt count => Sys2Proof.Machine.execI3cPrivateRead dt count s
  | .legacyI2cTransfer dt write readCount => Sys2Proof.Machine.execLegacyI2cTransfer dt write readCount s
  | .hdrDdrWrite dt code bytes => Sys2Proof.Machine.execHdrDdrWrite dt code bytes s
  | .hdrDdrRead dt code count => Sys2Proof.Machine.execHdrDdrRead dt code count s
  | .enec dt events => Sys2Proof.Machine.execEnec dt events s
  | .disec dt events => Sys2Proof.Machine.execDisec dt events s
  | .rstdaa dt => Sys2Proof.Machine.execRstdaa dt s
  | .entdaa dt addr => Sys2Proof.Machine.execEntdaa dt addr s
  | .setdasa dt static addr => Sys2Proof.Machine.execSetdasa dt static addr s
  | .setnewda dt addr => Sys2Proof.Machine.execSetnewda dt addr s
  | .setmwl dt value => Sys2Proof.Machine.execSetmwl dt value s
  | .getmwl dt => Sys2Proof.Machine.execGetmwl dt s
  | .setmrl dt value => Sys2Proof.Machine.execSetmrl dt value s
  | .getmrl dt => Sys2Proof.Machine.execGetmrl dt s
  | .getpid dt => Sys2Proof.Machine.execGetpid dt s
  | .getbcr dt => Sys2Proof.Machine.execGetbcr dt s
  | .getdcr dt => Sys2Proof.Machine.execGetdcr dt s
  | .getstatus dt => Sys2Proof.Machine.execGetstatus dt s
  | .getmxds dt => Sys2Proof.Machine.execGetmxds dt s
  | .getcaps dt => Sys2Proof.Machine.execGetcaps dt s
  | .enthdr0 dt => Sys2Proof.Machine.execEnthdr0 dt s
  | .rstact dt defining => Sys2Proof.Machine.execRstact dt defining s
  | .ibiDelivery dt => Sys2Proof.Machine.execIbiDelivery dt s
  | .winDoorbellRing dt => Sys2Proof.Machine.execWinDoorbellRing dt s
  | .hwReplyDeferred dt => Sys2Proof.Machine.execHwReplyDeferred dt s
  | .oanteInstruction dt code => Sys2Proof.Machine.execOanteInstruction dt code s
  | .jtagStatus dt => Sys2Proof.Machine.execJtagStatus dt s
  | .jtagWrite dt data => Sys2Proof.Machine.execJtagWrite dt data s
  | .jtagRead dt => Sys2Proof.Machine.execJtagRead dt s
  | .jtagRing dt ack rewind => Sys2Proof.Machine.execJtagRing dt ack rewind s
  | .jtagAck dt rewind => Sys2Proof.Machine.execJtagAck dt rewind s
  | .jtagRewind dt => Sys2Proof.Machine.execJtagRewind dt s
  | .inboundSlotRead dt chan => Sys2Proof.Machine.execInboundSlotRead dt chan s
  | .commandIntakeAccept dt => Sys2Proof.Machine.execCommandIntakeAccept dt s
  | .mailboxTimeout dt chan slot => Sys2Proof.Machine.execMailboxTimeout dt chan slot s
  | .semAcquire dt owner sem => Sys2Proof.Machine.execSemAcquire dt owner sem s
  | .semRelease dt owner index => Sys2Proof.Machine.execSemRelease dt owner index s
  | .semForce dt index => Sys2Proof.Machine.execSemForce dt index s
  | .frameStart dt port vc fn => Sys2Proof.Machine.execFrameStart dt port vc fn s
  | .frameEnd dt port vc fn => Sys2Proof.Machine.execFrameEnd dt port vc fn s
  | .lineStartPacket dt port vc ln => Sys2Proof.Machine.execLineStartPacket dt port vc ln s
  | .linePacket dt port pkt => Sys2Proof.Machine.execLinePacket dt port pkt s
  | .pendingGapWrite dt port => Sys2Proof.Machine.execPendingGapWrite dt port s
  | .nonimagePacket dt port vc dataType bytes good => Sys2Proof.Machine.execNonimagePacket dt port vc dataType bytes good s
  | .genericShortPacket dt port vc dataType value => Sys2Proof.Machine.execGenericShortPacket dt port vc dataType value s
  | .skewSequence dt port initial => Sys2Proof.Machine.execSkewSequence dt port initial s
  | .deskewSweepEnd dt port taps eyes => Sys2Proof.Machine.execDeskewSweepEnd dt port taps eyes s
  | .deskewReq dt port => Sys2Proof.Machine.execDeskewReq dt port s
  | .cntClear dt port => Sys2Proof.Machine.execCntClear dt port s
  | .lockLost dt port lanes => Sys2Proof.Machine.execLockLost dt port lanes s
  | .ulpsEntry dt port => Sys2Proof.Machine.execUlpsEntry dt port s
  | .ulpsExit dt port => Sys2Proof.Machine.execUlpsExit dt port s
  | .phyFault dt port tripped => Sys2Proof.Machine.execPhyFault dt port tripped s
  | .noData dt ctx => Sys2Proof.Machine.execNoData dt ctx s
  | .pointerCrossing dt queue toReader => Sys2Proof.Machine.execPointerCrossing dt queue toReader s
  | .queueCheckFail dt queue => Sys2Proof.Machine.execQueueCheckFail dt queue s
  | .queueFlush dt queue => Sys2Proof.Machine.execQueueFlush dt queue s
  | .qFlush dt index => Sys2Proof.Machine.execQFlush dt index s
  | .queueSweepEnd dt queue result => Sys2Proof.Machine.execQueueSweepEnd dt queue result s
  | .runnelDecision dt runnel => Sys2Proof.Machine.execRunnelDecision dt runnel s
  | .itemStart dt runnel => Sys2Proof.Machine.execItemStart dt runnel s
  | .itemEnd dt runnel => Sys2Proof.Machine.execItemEnd dt runnel s
  | .runnelWatchdog dt runnel => Sys2Proof.Machine.execRunnelWatchdog dt runnel s
  | .stripLineArrival dt runnel => Sys2Proof.Machine.execStripLineArrival dt runnel s
  | .mapBlockComplete dt runnel => Sys2Proof.Machine.execMapBlockComplete dt runnel s
  | .mapTimeout dt runnel => Sys2Proof.Machine.execMapTimeout dt runnel s
  | .contextMove dt ctx => Sys2Proof.Machine.execContextMove dt ctx s
  | .statsPublish dt runnel => Sys2Proof.Machine.execStatsPublish dt runnel s
  | .rsCheck dt view => Sys2Proof.Machine.execRsCheck dt view s
  | .viewRowArrival dt runnel => Sys2Proof.Machine.execViewRowArrival dt runnel s
  | .rowDeadlineSeal dt => Sys2Proof.Machine.execRowDeadlineSeal dt s
  | .rowRelease dt ecc corrected => Sys2Proof.Machine.execRowRelease dt ecc corrected s
  | .stallOut dt => Sys2Proof.Machine.execStallOut dt s
  | .viewSilent dt view => Sys2Proof.Machine.execViewSilent dt view s
  | .basinStagingDrain dt rows => Sys2Proof.Machine.execBasinStagingDrain dt rows s
  | .weirRow dt => Sys2Proof.Machine.execWeirRow dt s
  | .pieceReserve dt stream => Sys2Proof.Machine.execPieceReserve dt stream s
  | .weirStall dt => Sys2Proof.Machine.execWeirStall dt s
  | .learnEnd dt => Sys2Proof.Machine.execLearnEnd dt s
  | .relearn dt => Sys2Proof.Machine.execRelearn dt s
  | .framerSend dt => Sys2Proof.Machine.execFramerSend dt s
  | .launchTimeReached dt queue => Sys2Proof.Machine.execLaunchTimeReached dt queue s
  | .drainLimit dt queue => Sys2Proof.Machine.execDrainLimit dt queue s
  | .statusPeriod dt => Sys2Proof.Machine.execStatusPeriod dt s
  | .uahornAck dt lseq => Sys2Proof.Machine.execUahornAck dt lseq s
  | .uahornNak dt lseq => Sys2Proof.Machine.execUahornNak dt lseq s
  | .replayTimeout dt => Sys2Proof.Machine.execReplayTimeout dt s
  | .uahornCredit dt cls limit => Sys2Proof.Machine.execUahornCredit dt cls limit s
  | .uahornCmd dt lseq slot packet => Sys2Proof.Machine.execUahornCmd dt lseq slot packet s
  | .uahornMboxAck dt lseq channel slot => Sys2Proof.Machine.execUahornMboxAck dt lseq channel slot s
  | .uahornBeacon dt masterTime seq => Sys2Proof.Machine.execUahornBeacon dt masterTime seq s
  | .uahornBadFrame dt kind => Sys2Proof.Machine.execUahornBadFrame dt kind s
  | .uahornHello dt hello => Sys2Proof.Machine.execUahornHello dt hello s
  | .alignMarker dt lane mismatch => Sys2Proof.Machine.execAlignMarker dt lane mismatch s
  | .eidleBlock dt => Sys2Proof.Machine.execEidleBlock dt s
  | .trainingAttempt dt => Sys2Proof.Machine.execTrainingAttempt dt s
  | .linkLeaveGrant dt => Sys2Proof.Machine.execLinkLeaveGrant dt s
  | .trainingStageEnd dt gelain lanes hello => Sys2Proof.Machine.execTrainingStageEnd dt gelain lanes hello s
  | .trainingStageTimeout dt gelain lanes => Sys2Proof.Machine.execTrainingStageTimeout dt gelain lanes s
  | .partnerAbsent dt gelain => Sys2Proof.Machine.execPartnerAbsent dt gelain s
  | .retryInterval dt gelain => Sys2Proof.Machine.execRetryInterval dt gelain s
  | .signalSeen dt gelain => Sys2Proof.Machine.execSignalSeen dt gelain s
  | .los dt lane allLanes => Sys2Proof.Machine.execLos dt lane allLanes s
  | .lol dt lane => Sys2Proof.Machine.execLol dt lane s
  | .rotationRound dt => Sys2Proof.Machine.execRotationRound dt s
  | .rotateReady dt => Sys2Proof.Machine.execRotateReady dt s
  | .rotateSwitch dt => Sys2Proof.Machine.execRotateSwitch dt s
  | .rotateDone dt result => Sys2Proof.Machine.execRotateDone dt result s
  | .rotateStepTimeout dt => Sys2Proof.Machine.execRotateStepTimeout dt s
  | .eidleEntry dt => Sys2Proof.Machine.execEidleEntry dt s
  | .fastExit dt => Sys2Proof.Machine.execFastExit dt s
  | .fastExitFail dt => Sys2Proof.Machine.execFastExitFail dt s
  | .trigEdge dt out => Sys2Proof.Machine.execTrigEdge dt out s
  | .trigPulseEnd dt out => Sys2Proof.Machine.execTrigPulseEnd dt out s
  | .evinEdge dt input rising => Sys2Proof.Machine.execEvinEdge dt input rising s
  | .timeWrap dt => Sys2Proof.Machine.execTimeWrap dt s
  | .beaconTimeout dt => Sys2Proof.Machine.execBeaconTimeout dt s
  | .sluiceBookingDue dt bus => Sys2Proof.Machine.execSluiceBookingDue dt bus s
  | .sluiceTransactionStart dt bus => Sys2Proof.Machine.execSluiceTransactionStart dt bus s
  | .sluiceTransactionEnd dt bus result => Sys2Proof.Machine.execSluiceTransactionEnd dt bus result s
  | .nackGapRepeat dt bus => Sys2Proof.Machine.execNackGapRepeat dt bus s
  | .stretchTimeout dt bus => Sys2Proof.Machine.execStretchTimeout dt bus s
  | .busStuck dt bus => Sys2Proof.Machine.execBusStuck dt bus s
  | .busResume dt bus => Sys2Proof.Machine.execBusResume dt bus s
  | .sdaRecovery dt bus released => Sys2Proof.Machine.execSdaRecovery dt bus released s
  | .sluiceSemGrant dt bus => Sys2Proof.Machine.execSluiceSemGrant dt bus s
  | .semWaitLong dt bus => Sys2Proof.Machine.execSemWaitLong dt bus s
  | .daaProcedure dt bus found => Sys2Proof.Machine.execDaaProcedure dt bus found s
  | .gelainHeart dt heart => Sys2Proof.Machine.execGelainHeart dt heart s
  | .gelainDigest dt entries => Sys2Proof.Machine.execGelainDigest dt entries s
  | .gelainTag dt entries => Sys2Proof.Machine.execGelainTag dt entries s
  | .tagWaitExpiry dt ctx => Sys2Proof.Machine.execTagWaitExpiry dt ctx s
  | .gelainCmd dt mirror decided slot packet => Sys2Proof.Machine.execGelainCmd dt mirror decided slot packet s
  | .gelainReply dt slot packet => Sys2Proof.Machine.execGelainReply dt slot packet s
  | .gelainMboxAck dt channel slot => Sys2Proof.Machine.execGelainMboxAck dt channel slot s
  | .swapAt dt row epoch => Sys2Proof.Machine.execSwapAt dt row epoch s
  | .confirm dt row epoch => Sys2Proof.Machine.execConfirm dt row epoch s
  | .quarantineYou dt epoch => Sys2Proof.Machine.execQuarantineYou dt epoch s
  | .admitBegin dt epoch arg => Sys2Proof.Machine.execAdmitBegin dt epoch arg s
  | .admitRow dt row epoch frames => Sys2Proof.Machine.execAdmitRow dt row epoch frames s
  | .realign dt row epoch => Sys2Proof.Machine.execRealign dt row epoch s
  | .abort dt epoch arg => Sys2Proof.Machine.execAbort dt epoch arg s
  | .gelainState dt chunk => Sys2Proof.Machine.execGelainState dt chunk s
  | .realignFail dt => Sys2Proof.Machine.execRealignFail dt s
  | .uncompared dt row => Sys2Proof.Machine.execUncompared dt row s
  | .mirrorAcceptTimeout dt => Sys2Proof.Machine.execMirrorAcceptTimeout dt s
  | .hbInAlive dt => Sys2Proof.Machine.execHbInAlive dt s
  | .hbInLost dt => Sys2Proof.Machine.execHbInLost dt s
  | .hbOutStop dt => Sys2Proof.Machine.execHbOutStop dt s
  | .gelainLost dt => Sys2Proof.Machine.execGelainLost dt s
  | .decisionTimer dt => Sys2Proof.Machine.execDecisionTimer dt s
  | .formWait dt => Sys2Proof.Machine.execFormWait dt s
  | .swapRowReached dt => Sys2Proof.Machine.execSwapRowReached dt s
  | .admissionRowReached dt => Sys2Proof.Machine.execAdmissionRowReached dt s
  | .epochWrite dt => Sys2Proof.Machine.execEpochWrite dt s
  | .evStatusW1c dt block value => Sys2Proof.Machine.execEvStatusW1c dt block value s
  | .auditFlushStart dt => Sys2Proof.Machine.execAuditFlushStart dt s
  | .auditFlushEnd dt => Sys2Proof.Machine.execAuditFlushEnd dt s
  | .mramWriteDone dt ok => Sys2Proof.Machine.execMramWriteDone dt ok s
  | .repairAppend dt => Sys2Proof.Machine.execRepairAppend dt s
  | .driftRoundEnd dt => Sys2Proof.Machine.execDriftRoundEnd dt s
  | .driftRoundRepeat dt => Sys2Proof.Machine.execDriftRoundRepeat dt s
  | .channelTraining dt mc ok => Sys2Proof.Machine.execChannelTraining dt mc ok s
  | .perBankRefresh dt mc => Sys2Proof.Machine.execPerBankRefresh dt mc s
  | .wckTracking dt mc drift => Sys2Proof.Machine.execWckTracking dt mc drift s
  | .zqLatch dt mc => Sys2Proof.Machine.execZqLatch dt mc s
  | .retrainingSlice dt mc ok => Sys2Proof.Machine.execRetrainingSlice dt mc ok s
  | .mr4Report dt mc code means => Sys2Proof.Machine.execMr4Report dt mc code means s
  | .patrolScrub dt mc result => Sys2Proof.Machine.execPatrolScrub dt mc result s
  | .scrubPassEnd dt mc => Sys2Proof.Machine.execScrubPassEnd dt mc s
  | .dmaStart dt ch => Sys2Proof.Machine.execDmaStart dt ch s
  | .dmaCmdAbort dt ch => Sys2Proof.Machine.execDmaCmdAbort dt ch s
  | .dmaCmdClear dt ch => Sys2Proof.Machine.execDmaCmdClear dt ch s
  | .dmaSetWrite dt ch shadow reg value => Sys2Proof.Machine.execDmaSetWrite dt ch shadow reg value s
  | .dmaSwreq dt line count => Sys2Proof.Machine.execDmaSwreq dt line count s
  | .dmaSwreqHost dt index count => Sys2Proof.Machine.execDmaSwreqHost dt index count s
  | .dmaRequest dt line => Sys2Proof.Machine.execDmaRequest dt line s
  | .dmaBurst dt ch => Sys2Proof.Machine.execDmaBurst dt ch s
  | .dmaComplete dt ch => Sys2Proof.Machine.execDmaComplete dt ch s
  | .dmaBusError dt ch addr write kind => Sys2Proof.Machine.execDmaBusError dt ch addr write kind s
  | .dmaTailError dt ch addr kind => Sys2Proof.Machine.execDmaTailError dt ch addr kind s
  | .preemptLong dt ch => Sys2Proof.Machine.execPreemptLong dt ch s
  | .dmaWatchdog dt ch => Sys2Proof.Machine.execDmaWatchdog dt ch s
  | .haltWait dt ch => Sys2Proof.Machine.execHaltWait dt ch s
  | .leaveRequest dt req => Sys2Proof.Machine.execLeaveRequest dt req s
  | .stewardGrant dt => Sys2Proof.Machine.execStewardGrant dt s
  | .leaveRelease dt req => Sys2Proof.Machine.execLeaveRelease dt req s
  | .leaveWaitExpiry dt => Sys2Proof.Machine.execLeaveWaitExpiry dt s
  | .domainUsable dt domain => Sys2Proof.Machine.execDomainUsable dt domain s
  | .domainWakeFail dt domain => Sys2Proof.Machine.execDomainWakeFail dt domain s
  | .standbyEntry dt => Sys2Proof.Machine.execStandbyEntry dt s
  | .wellheadSample dt input value => Sys2Proof.Machine.execWellheadSample dt input value s
  | .wellheadRuleActive dt rule => Sys2Proof.Machine.execWellheadRuleActive dt rule s
  | .pwrfailAssert dt => Sys2Proof.Machine.execPwrfailAssert dt s
  | .pfSafe dt => Sys2Proof.Machine.execPfSafe dt s
  | .pwrfailRelease dt => Sys2Proof.Machine.execPwrfailRelease dt s
  | .wakePin dt => Sys2Proof.Machine.execWakePin dt s
  | .heartPeriod dt => Sys2Proof.Machine.execHeartPeriod dt s
  | .scbIbiRequest dt bus => Sys2Proof.Machine.execScbIbiRequest dt bus s
  | .creditStarved dt cls => Sys2Proof.Machine.execCreditStarved dt cls s
  | .deskewRunTimeout dt => Sys2Proof.Machine.execDeskewRunTimeout dt s
  | .mirroredTimeInstant dt => Sys2Proof.Machine.execMirroredTimeInstant dt s
  | .parityError dt where_ => Sys2Proof.Machine.execParityError dt where_ s

end Sys2Proof.Machine
end

