-- ==== Sys2Proof/Safety.lean ====
section
/-!
DEFINITION. What counts as a safe run: every step answers a next state, and what the outside can see of the event state
agrees with it; and the terms in which statements say what a command leaves alone.
-/
namespace Sys2Proof.Machine

/-- A step answers a next state. -/
def goesOn (o : Host.Outcome State Fault Refusal) : Bool :=
  match o with
  | .next _ => true
  | .fault _ => false
  | .refused _ => false

/-- R475, R476, R46: FAULT_N, IRQ_N and the in-band interrupt stand as the event state says. -/
def State.pinsAgree (s : State) : Prop :=
  s.sys.faultLow = s.faultLevel ∧ s.sys.irqLow = s.irqLevel ∧ s.win.ibiPending = s.ibiLevel

/-- The state after `dt` ticks, before a command takes effect: the outputs of the command before it are gone. -/
def State.ticked (s : State) (dt : Nat) : State := { s with out := {} }.advance dt

/-- The state without what the reports of a step hold: event bits and causes, staged audit entries, the outputs of the step,
the queue, FAULT_N, IRQ_N and the interrupt causes, and the twin's state, channel to the partner and pins, which answer an
escalation. -/
def State.quiet (s : State) : State :=
  { s with
    ev := { s.ev with blocks := Vector.replicate 53 {}, escalate := false, notify := false }
    audit := {}, out := {}, pending := [], twin := {}
    sys := { s.sys with faultLow := false, irqLow := false }
    win := { s.win with cause := 0, ibiPending := false }
    mb := { s.mb with rings := 0, chans := s.mb.chans.set 6 { slots := [] } }
    sluice := { s.sluice with released := false } }

/-- The quiet state without the ports, the mailboxes and the list of replies handed to the link: what is left when a command
was answered. -/
def State.still (s : State) : State :=
  { s.quiet with ports := Vector.replicate 20 {}, lastPort := 0, mb := {}, link := { s.link with replySent := [] } }

/-- Bit `b` of EV_STATUS of block `k`. -/
def State.statusBit (s : State) (k : Fin 53) (b : Nat) : Bool := s.ev.blocks[k].status.getLsbD b

/-- The sources that report on a step itself: LOG_OVERFLOW, and what the twin's answer to an escalation raises. -/
def reportSource (k b : Nat) : Bool := [(52, 4), (49, 0), (49, 10), (49, 23), (49, 30), (50, 23)].contains (k, b)

/-- From `s` to `t` the sources of the list became set, and no other but those that report on the step. -/
def newlySet (s t : State) (l : List (Nat × Nat)) : Prop :=
  ∀ (k : Fin 53) (b : Nat), reportSource k.val b = false → t.statusBit k b = (s.statusBit k b || l.contains (k.val, b))

/-- `t` is `e` but for what the reports of the step hold, and from `u` the sources of the list became set. -/
def becomes (u e t : State) (l : List (Nat × Nat)) : Prop := t.quiet = e.quiet ∧ newlySet u t l

/-- R209: the work is an exposure sequence. -/
def WorkKind.isExpo : WorkKind → Bool
  | .expo .. => true
  | _ => false

/-- A packet on a virtual channel of a port that receives, of a streaming context. -/
abbrev State.hears (s : State) (port vc : Fin 32) (c : Fin 64) : Prop :=
  s.inletOn port = true ∧ vc.val < 16 ∧ s.ctxAt port vc = some c ∧ s.streams c = true

/-- Bit `b` of EV_STATUS of block `k`, by number. -/
def State.source (s : State) (k b : Nat) : Bool := s.statusBit (Fin.ofNat 53 k) b

/-- A line of a streaming line-scan context that passes the checks 1 to 4 of R107, between deskew sweeps, with no boundary
scheduled, none of its GAP records waiting, and no line number skipped. -/
abbrev State.lineComes (u : State) (port : Fin 32) (c : Fin 64) (k : LinePacket) : Prop :=
  u.hears port k.vc c ∧ u.lineScan c = true ∧ u.twin.state = .single ∧ u.trigMode c ≠ 2 ∧ u.recs.scheduled = [] ∧
    k.sotGood = true ∧ k.header.val = 0 ∧ imageType k.dataType = true ∧ k.dataType.val = u.au 0x0201 c 3 1 ∧
    k.wordCount * 8 = u.au 0x0201 c 8 2 * bitsPerPixel (u.au 0x0201 c 3 1) ∧
    u.ctxs[c].startAt + k.footTicks < u.now ∧ u.ctxs[c].jump = 0 ∧ u.inSweep port k.footTicks = false ∧
    u.inlets[port].waiting = [] ∧ u.inlets[port].deskewAsked = false

/-- What a packet of one port and context leaves alone: every other inlet, context and queue, and what lies past the inlets. -/
def State.keptApart (s t : State) (p : Fin 32) (c : Fin 64) : Prop :=
  (∀ q : Fin 32, q ≠ p → t.inlets[q] = s.inlets[q]) ∧ (∀ d : Fin 64, d ≠ c → t.ctxs[d] = s.ctxs[d]) ∧
    (∀ q : Fin 43, q ≠ inletQueue p → t.queues[q] = s.queues[q]) ∧ t.recs = s.recs ∧ t.lpddr = s.lpddr ∧ t.nvm = s.nvm ∧
    t.runnels = s.runnels ∧ t.views = s.views ∧ t.cf = s.cf ∧ t.weir = s.weir ∧ t.spill = s.spill ∧ t.link = s.link ∧
    t.mem = s.mem ∧ t.dma = s.dma ∧ t.pwr = s.pwr

/-- A port hands a command to firmware at once: it accepts commands, nothing of the port waits, the packet is no repetition, and
audit staging has room. -/
abbrev State.receives (s : State) (h : Hdr) : Prop :=
  (h.port = .p0 ∨ h.port = .p1 ∨ h.port = .p3) ∧ h.mirror = none ∧ s.accepting = true ∧ (s.port h.port).intake = none ∧
    s.portFree h.port = true ∧
    (∀ k ∈ (s.port h.port).kept, ¬(k.seq = h.seq ∧ k.check = h.check ∧ k.status ≠ 1)) ∧
    s.audit.staged.length < 24

/-- A port hands a command to a unit that stands alone, without a partner in the way. -/
abbrev State.takes (s : State) (h : Hdr) : Prop := s.receives h ∧ s.twin.state = .single ∧ s.twin.mirrors = []

/-- A command that is taken and passes the checks 4 to 8 of R53. -/
abbrev State.runs (s : State) (h : Hdr) (b : Body) : Prop := s.takes h ∧ s.checkCmd ⟨h, b⟩ = none

/-- No port has a command in execution. -/
abbrev State.idlePorts (s : State) : Prop := ∀ p ∈ allPorts, (s.port p).running = none

/-- R11, R63: a piece of a record that REC_WRITE takes. -/
abbrev State.writable (s : State) (p : Port) (id inst off : Nat) (first : Bool) (data : List Byte) : Prop :=
  id ≠ 0x0306 ∧ recExists id inst = true ∧ off % 4 = 0 ∧ off + data.length ≤ recSize id ∧
    (first = true ∨ s.openFor id inst = some p) ∧ s.locked id inst = false ∧
    (∀ q ∈ s.openFor id inst, q = p) ∧ s.writeMapBad id inst off data = false

/-- R11, R64: a REC_APPLY of these records passes every check of its own and needs no leave. -/
abbrev State.applies (s : State) (kind ctx : Nat) (pairs : List (Nat × Nat)) : Prop :=
  let k : Change := { old := s.recs.active, new := activated s.recs pairs, pairs }
  (kind = 1 → s.grid.valid = true) ∧ kind ≤ 2 ∧ 1 ≤ pairs.length ∧ pairs.length ≤ 48 ∧ (kind = 2 → ctx < 64) ∧
    (∀ p ∈ pairs, recExists p.1 p.2 = true ∧ s.acceptsKind k kind p = true ∧ s.accepts k kind ctx p = true ∧
      s.locked p.1 p.2 = false ∧ s.openFor p.1 p.2 = none) ∧
    (stitching k.new = 0 ∨ 0 < stitching k.old) ∧ s.applyBlocked k = 0

/-- The reply to a command, without RFLAGS. -/
def State.replyTo (s : State) (h : Hdr) (b : Body) (status detail : Nat) (payload : List Byte) : List Byte :=
  replyBytes b.opcode h.seq status 0 detail s.twin.epoch.toNat s.ident payload

/-- The command of a port is answered: its reply is kept for a repetition, it stands in an outbound slot when one was empty,
the port is free of it, and the other ports stay. -/
def State.answered (u t : State) (h : Hdr) (b : Body) (status detail : Nat) (payload : List Byte) : Prop :=
  (t.port h.port).running = none ∧
    (t.port h.port).kept = some { seq := h.seq, check := h.check, status, bytes := u.replyTo h b status detail payload } ∧
    (∀ i, freeSlot u.mb.chans[h.port.outChan] = some i → ∃ x, t.mb.chans[h.port.outChan].slots[i]? = some x ∧
      x.full = true ∧ x.bytes = u.replyTo h b status detail payload) ∧
    ∀ p, p ≠ h.port → t.port p = u.port p

/-- The command of a port stays in execution and waits; nothing is answered yet. -/
def State.waits (u t : State) (h : Hdr) (b : Body) (w : Waiting) : Prop :=
  (t.port h.port).running = some { h, body := b, wait := w, since := u.now } ∧
    (t.port h.port).kept = (u.port h.port).kept ∧ ∀ p, p ≠ h.port → t.port p = u.port p

/-- The steward's next cycle grants the only request that waits, of a port's command `r` that writes MRAM, and nothing else
falls due in it. -/
abbrev State.granting (u : State) (h : Hdr) (r : Running) (q : LeaveReq) : Prop :=
  u.pwr.queue = [q] ∧ u.nvm.calWait = false ∧ u.nvm.runs_ = [] ∧ u.pwr.pfActive = false ∧ q.limit ≠ some u.now ∧
    q.cost + u.standingUnits ≤ u.budget ∧ u.grantedUnits + q.cost ≤ u.budget ∧
    (h.port = .p0 ∨ h.port = .p1 ∨ h.port = .p3) ∧ (u.port h.port).running = some r ∧ r.h = h ∧ r.wait = .nvm ∧
    r.lateTie = false ∧ u.twin.mirrors = [] ∧ u.audit.staged.length < 32

end Sys2Proof.Machine

namespace Sys2Proof

open Machine in
/-- The row of the opcode table that sends a body as a command. -/
def Body.row (dt : Nat) (h : Hdr) : Body → Option Instr
  | .sysInfo => some (.sysInfo dt h)
  | .sysReset scope => some (.sysReset dt h scope)
  | .regRead offset count => some (.regRead dt h offset count)
  | .regWrite offset words => some (.regWrite dt h offset words)
  | .recWrite recId inst offset first last data => some (.recWrite dt h recId inst offset first last data)
  | .recRead recId inst offset count => some (.recRead dt h recId inst offset count)
  | .recApply kind ctx boundary pairs => some (.recApply dt h kind ctx boundary pairs)
  | .streamStart mask => some (.streamStart dt h mask)
  | .streamStop mask => some (.streamStop dt h mask)
  | .streamStatus => some (.streamStatus dt h)
  | .expoSet ctx targetKind target exposureNs gain => some (.expoSet dt h ctx targetKind target exposureNs gain)
  | .statsRead ctx what serial offset count => some (.statsRead dt h ctx what serial offset count)
  | .sensWrite sensor reg data => some (.sensWrite dt h sensor reg data)
  | .sensRead sensor reg count => some (.sensRead dt h sensor reg count)
  | .sensSeq sensor sflags writes => some (.sensSeq dt h sensor sflags writes)
  | .sensErrlog start count => some (.sensErrlog dt h start count)
  | .calRun type target => some (.calRun dt h type target)
  | .calCommit flags => some (.calCommit dt h flags)
  | .calExport which offset count => some (.calExport dt h which offset count)
  | .calImport flags offset data => some (.calImport dt h flags offset data)
  | .fwStage target index flags offset data => some (.fwStage dt h target index flags offset data)
  | .fwActivate target index scope => some (.fwActivate dt h target index scope)
  | .fwStatus => some (.fwStatus dt h)
  | .twinStatus => some (.twinStatus dt h)
  | .roleSwap row => some (.roleSwap dt h row)
  | .twinAdmit => some (.twinAdmit dt h)
  | .timeSet mode flags value at_ => some (.timeSet dt h mode flags value at_)
  | .timeIncr incr flags => some (.timeIncr dt h incr flags)
  | .trigSchedule req => some (.trigSchedule dt h req)
  | .timeRead => some (.timeRead dt h)
  | .evinRead input start count => some (.evinRead dt h input start count)
  | .logRead start count => some (.logRead dt h start count)
  | .logMark mark => some (.logMark dt h mark)
  | .logStatus => some (.logStatus dt h)
  | .evtStatus block => some (.evtStatus dt h block)
  | .evtClear block mask => some (.evtClear dt h block mask)
  | .evtSeverity block bit severity => some (.evtSeverity dt h block bit severity)
  | .evtInject block bit mode holdUs => some (.evtInject dt h block bit mode holdUs)
  | .pwrBudget budget => some (.pwrBudget dt h budget)
  | .pwrDomain domain state => some (.pwrDomain dt h domain state)
  | .pwrStatus => some (.pwrStatus dt h)
  | .dmaStatus first count => some (.dmaStatus dt h first count)
  | .dmaAbort channel => some (.dmaAbort dt h channel)
  | .linkStatus => some (.linkStatus dt h)
  | .linkRetrain flags => some (.linkRetrain dt h flags)
  | .linkTest req => some (.linkTest dt h req)
  | .testMode mode => some (.testMode dt h mode)
  | .testBist targets => some (.testBist dt h targets)
  | .badLength .. | .unknown .. => none

end Sys2Proof
end

