-- ==== Sys2Proof/WellFormed.lean ====
section
/-!
DEFINITION. Well-formed commands: operands in the ranges that a packet, a frame or the block's pins can carry. No meaning
relies on it; an ill-formed term stands for nothing that arrives at the device.
-/
namespace Sys2Proof

/-- R36: a command port of the device. -/
def Port.real : Port → Bool
  | .p0 | .p1 | .p2 | .p3 => true
  | .lead _ => false

/-- R424: a port on which a command is first accepted. -/
def Port.first : Port → Bool
  | .p0 | .p1 | .p3 => true
  | .p2 | .lead _ => false

/-- R36, R424: a header of one of the four ports; commands of P2, and only they, carry a mirror word. -/
def Hdr.wf (h : Hdr) : Bool :=
  h.port.real &&
    match h.mirror with
    | some m => h.port == .p2 && m.origin.first
    | none => h.port != .p2

/-- R50, R580: whether a payload's length suits an opcode of the table in R57; none for an opcode the table does not list.
The first bytes of the payload matter where the payload counts its own entries. -/
def lengthSuits (o : Nat) (p : List Byte) : Option Bool :=
  let n := p.length
  let k (i : Nat) : Nat := (p.getD i 0).toNat
  match o with
  | 0x0101 | 0x0303 | 0x0703 | 0x0801 | 0x0803 | 0x0904 | 0x0A03 | 0x0C03 | 0x0E01 => some (decide (n = 0))
  | 0x0102 | 0x0601 | 0x0602 | 0x0702 | 0x0802 | 0x0B01 | 0x0B03 | 0x0C01 | 0x0C02 | 0x0D01 | 0x0D02 | 0x0E02 | 0x0F01
  | 0x0F02 => some (decide (n = 4))
  | 0x0110 | 0x0301 | 0x0302 | 0x0502 | 0x0504 | 0x0902 | 0x0A01 | 0x0A02 | 0x0B02 | 0x0B04 => some (decide (n = 8))
  | 0x0202 | 0x0603 | 0x0901 | 0x0905 => some (decide (n = 12))
  | 0x0401 | 0x0402 | 0x0E03 => some (decide (n = 16))
  | 0x0903 => some (decide (n = 32))
  | 0x0111 => some (decide (4 ≤ n))
  | 0x0201 => some (decide (16 ≤ n))
  | 0x0604 | 0x0701 => some (decide (12 ≤ n ∧ n ≤ 232))
  | 0x0203 => some (decide (n = 8 + 4 * k 1))
  | 0x0501 => some (decide (n = 8 + (k 4 + 3) / 4 * 4))
  | 0x0503 => some (decide (n = 4 + 8 * k 2))
  | _ => none

/-- R50: a payload length that a packet can carry. -/
def lengthFits (n : Nat) : Bool := decide (n ≤ 236) && n % 4 == 0

/-- R50, R580: a body whose operands its payload can carry. -/
def Body.fits : Body → Bool
  | .regWrite _ ws => decide (ws.length ≤ 58)
  | .recWrite _ _ _ _ _ data => decide (4 ≤ data.length ∧ data.length ≤ 224) && data.length % 4 == 0
  | .recApply _ _ _ pairs => decide (pairs.length ≤ 57)
  | .sensWrite _ _ data => decide (data.length ≤ 228)
  | .sensSeq _ _ ws => decide (ws.length ≤ 29)
  | .calImport _ _ data | .fwStage _ _ _ _ data => decide (4 ≤ data.length ∧ data.length ≤ 224) && data.length % 4 == 0
  | .badLength o p => lengthFits p.length && lengthSuits o.toNat p == some false
  | .unknown o p => lengthFits p.length && lengthSuits o.toNat p == none
  | .sysInfo | .sysReset .. | .regRead .. | .recRead .. | .streamStart .. | .streamStop .. | .streamStatus | .expoSet ..
  | .statsRead .. | .sensRead .. | .sensErrlog .. | .calRun .. | .calCommit .. | .calExport .. | .fwActivate .. | .fwStatus
  | .twinStatus | .roleSwap .. | .twinAdmit | .timeSet .. | .timeIncr .. | .trigSchedule .. | .timeRead | .evinRead ..
  | .logRead .. | .logMark .. | .logStatus | .evtStatus .. | .evtClear .. | .evtSeverity .. | .evtInject .. | .pwrBudget ..
  | .pwrDomain .. | .pwrStatus | .dmaStatus .. | .dmaAbort .. | .linkStatus | .linkRetrain .. | .linkTest .. | .testMode ..
  | .testBist .. => true

/-- R434, R507, R569: a boot run that the device can have. -/
def BootRun.wf (b : BootRun) : Bool :=
  decide (b.lastStep ≤ 9) && decide (b.temps.length = 24) && decide (b.rails.length = 7) &&
    [2048, 4096, 8192].contains b.capMib && (b.ranks == 1 || b.ranks == 2)

/-- R97, R99: a long image packet. -/
def LinePacket.wf (k : LinePacket) : Bool :=
  decide (k.wordCount < 65536) && decide (k.codes.length < 65536) && k.codes.all fun c => decide (c < 2 ^ 24)

/-- R335: one of the 18 lanes. -/
def LaneResult.wf (r : LaneResult) : Bool := decide (r.lane < 18)

/-- R338: a HELLO frame. -/
def Hello.wf (h : Hello) : Bool :=
  decide (h.version < 256 ∧ h.rate < 256 ∧ h.widthMax < 256) && decide (h.limits.length = 9)

/-- R406: a HEART frame. -/
def Heart.wf (h : Heart) : Bool := decide (h.state < 256 ∧ h.holdCause < 256)

/-- R417: a tag entry. -/
def TagEntry.wf (e : TagEntry) : Bool := decide (e.kind < 256 ∧ e.index < 256 ∧ e.num < 65536)

/-- R232, R233: the data that a bus transaction can bring. -/
def BusResult.wf : BusResult → Bool
  | .ack data => decide (data.length ≤ 256)
  | .addrNack | .dataNack .. | .parity | .arbitration | .sdaLow => true

/-- R406, R428: a STATE chunk carries at most 16,256 data bytes. -/
def StateChunk.wf (k : StateChunk) : Bool :=
  match k.item with
  | .memory _ bytes => decide (bytes.length ≤ 16256)
  | .records .. | .exposure .. | .trigger .. | .evin .. | .time .. | .weir .. => true


/-- Well-formed commands: the operands lie in the ranges that their packets, frames and pins can carry. -/
def Instr.wf : Instr → Bool
  | .powerOnReset _ _ _ _ boot => boot.wf
  | .resetN _ boot | .bootWatchdog _ boot | .managementWatchdog _ boot | .lockstep _ boot | .sysResetBegin _ boot
    => boot.wf
  | .sysInfo _ h | .streamStatus _ h | .fwStatus _ h | .twinStatus _ h | .twinAdmit _ h | .timeRead _ h
  | .logStatus _ h | .pwrStatus _ h | .linkStatus _ h => h.wf
  | .sysReset _ h _ | .streamStart _ h _ | .streamStop _ h _ | .calCommit _ h _ | .roleSwap _ h _
  | .trigSchedule _ h _ | .logMark _ h _ | .evtStatus _ h _ | .pwrBudget _ h _ | .dmaAbort _ h _ | .linkRetrain _ h _
  | .linkTest _ h _ | .testMode _ h _ | .testBist _ h _ => h.wf
  | .regRead _ h _ _ | .sensErrlog _ h _ _ | .calRun _ h _ _ | .timeIncr _ h _ _ | .logRead _ h _ _
  | .evtClear _ h _ _ | .pwrDomain _ h _ _ | .dmaStatus _ h _ _ => h.wf
  | .regWrite _ h offset words => h.wf && (Body.regWrite offset words).fits
  | .recWrite _ h recId inst offset first last data => h.wf && (Body.recWrite recId inst offset first last data).fits
  | .recRead _ h _ _ _ _ | .timeSet _ h _ _ _ _ | .evtInject _ h _ _ _ _ => h.wf
  | .recApply _ h kind ctx boundary pairs => h.wf && (Body.recApply kind ctx boundary pairs).fits
  | .expoSet _ h _ _ _ _ _ | .statsRead _ h _ _ _ _ _ => h.wf
  | .sensWrite _ h sensor reg data => h.wf && (Body.sensWrite sensor reg data).fits
  | .sensRead _ h _ _ _ | .calExport _ h _ _ _ | .fwActivate _ h _ _ _ | .evinRead _ h _ _ _ | .evtSeverity _ h _ _ _
    => h.wf
  | .sensSeq _ h sensor sflags writes => h.wf && (Body.sensSeq sensor sflags writes).fits
  | .fetchHoldExpiry _ port => port.real
  | .calImport _ h flags offset data => h.wf && (Body.calImport flags offset data).fits
  | .fwStage _ h target index flags offset data => h.wf && (Body.fwStage target index flags offset data).fits
  | .linePacket _ _ pkt => pkt.wf
  | .deskewSweepEnd _ _ taps eyes => decide (taps.length ≤ 4) && decide (eyes.length ≤ 4)
  | .uahornAck _ lseq | .uahornNak _ lseq => decide (lseq < 65536)
  | .uahornCmd _ lseq _ packet => decide (lseq < 65536) && decide (packet.length ≤ 256)
  | .uahornMboxAck _ lseq channel _ => decide (lseq < 65536) && decide (channel < 10)
  | .uahornHello _ hello => hello.wf
  | .trainingStageEnd _ _ lanes hello => lanes.all LaneResult.wf && hello.all Hello.wf
  | .trainingStageTimeout _ _ lanes => lanes.all LaneResult.wf
  | .sluiceTransactionEnd _ _ result => result.wf
  | .gelainHeart _ heart => heart.wf
  | .gelainDigest _ entries => decide (1 ≤ entries.length ∧ entries.length ≤ 32)
  | .gelainTag _ entries => decide (1 ≤ entries.length ∧ entries.length ≤ 64) && entries.all TagEntry.wf
  | .gelainCmd _ _ _ _ packet => decide (packet.length ≤ 256)
  | .gelainReply _ _ packet => decide (packet.length ≤ 256)
  | .gelainState _ chunk => chunk.wf
  | .wellheadSample _ input _ => decide (input < 42)
  | .fwTrialConfirm .. | .mgmtRestartDone .. | .registerWritePlain .. | .recordOpenTimeout .. | .gridRowAdvance ..
  | .streamStartTick .. | .slPlogAck .. | .importIdleTimeout .. | .timeStepAt .. | .injectHoldEnd ..
  | .linkTestEnd .. | .linkTestInject .. | .i3cPrivateWrite .. | .i3cPrivateRead .. | .legacyI2cTransfer ..
  | .hdrDdrWrite .. | .hdrDdrRead .. | .enec .. | .disec .. | .rstdaa .. | .entdaa .. | .setdasa .. | .setnewda ..
  | .setmwl .. | .getmwl .. | .setmrl .. | .getmrl .. | .getpid .. | .getbcr .. | .getdcr .. | .getstatus ..
  | .getmxds .. | .getcaps .. | .enthdr0 .. | .rstact .. | .ibiDelivery .. | .winDoorbellRing ..
  | .hwReplyDeferred .. | .oanteInstruction .. | .jtagStatus .. | .jtagWrite .. | .jtagRead .. | .jtagRing ..
  | .jtagAck .. | .jtagRewind .. | .inboundSlotRead .. | .commandIntakeAccept .. | .mailboxTimeout ..
  | .semAcquire .. | .semRelease .. | .semForce .. | .frameStart .. | .frameEnd .. | .lineStartPacket ..
  | .pendingGapWrite .. | .nonimagePacket .. | .genericShortPacket .. | .skewSequence .. | .deskewReq ..
  | .cntClear .. | .lockLost .. | .ulpsEntry .. | .ulpsExit .. | .phyFault .. | .noData .. | .pointerCrossing ..
  | .queueCheckFail .. | .queueFlush .. | .qFlush .. | .queueSweepEnd .. | .runnelDecision .. | .itemStart ..
  | .itemEnd .. | .runnelWatchdog .. | .stripLineArrival .. | .mapBlockComplete .. | .mapTimeout .. | .contextMove ..
  | .statsPublish .. | .rsCheck .. | .viewRowArrival .. | .rowDeadlineSeal .. | .rowRelease .. | .stallOut ..
  | .viewSilent .. | .basinStagingDrain .. | .weirRow .. | .pieceReserve .. | .weirStall .. | .learnEnd ..
  | .relearn .. | .framerSend .. | .launchTimeReached .. | .drainLimit .. | .statusPeriod .. | .replayTimeout ..
  | .uahornCredit .. | .uahornBeacon .. | .uahornBadFrame .. | .alignMarker .. | .eidleBlock .. | .trainingAttempt ..
  | .linkLeaveGrant .. | .partnerAbsent .. | .retryInterval .. | .signalSeen .. | .los .. | .lol ..
  | .rotationRound .. | .rotateReady .. | .rotateSwitch .. | .rotateDone .. | .rotateStepTimeout .. | .eidleEntry ..
  | .fastExit .. | .fastExitFail .. | .trigEdge .. | .trigPulseEnd .. | .evinEdge .. | .timeWrap ..
  | .beaconTimeout .. | .sluiceBookingDue .. | .sluiceTransactionStart .. | .nackGapRepeat .. | .stretchTimeout ..
  | .busStuck .. | .busResume .. | .sdaRecovery .. | .sluiceSemGrant .. | .semWaitLong .. | .daaProcedure ..
  | .tagWaitExpiry .. | .gelainMboxAck .. | .swapAt .. | .confirm .. | .quarantineYou .. | .admitBegin ..
  | .admitRow .. | .realign .. | .abort .. | .realignFail .. | .uncompared .. | .mirrorAcceptTimeout ..
  | .hbInAlive .. | .hbInLost .. | .hbOutStop .. | .gelainLost .. | .decisionTimer .. | .formWait ..
  | .swapRowReached .. | .admissionRowReached .. | .epochWrite .. | .evStatusW1c .. | .auditFlushStart ..
  | .auditFlushEnd .. | .mramWriteDone .. | .repairAppend .. | .driftRoundEnd .. | .driftRoundRepeat ..
  | .channelTraining .. | .perBankRefresh .. | .wckTracking .. | .zqLatch .. | .retrainingSlice .. | .mr4Report ..
  | .patrolScrub .. | .scrubPassEnd .. | .dmaStart .. | .dmaCmdAbort .. | .dmaCmdClear .. | .dmaSetWrite ..
  | .dmaSwreq .. | .dmaSwreqHost .. | .dmaRequest .. | .dmaBurst .. | .dmaComplete .. | .dmaBusError ..
  | .dmaTailError .. | .preemptLong .. | .dmaWatchdog .. | .haltWait .. | .leaveRequest .. | .stewardGrant ..
  | .leaveRelease .. | .leaveWaitExpiry .. | .domainUsable .. | .domainWakeFail .. | .standbyEntry ..
  | .wellheadRuleActive .. | .pwrfailAssert .. | .pfSafe .. | .pwrfailRelease .. | .wakePin .. | .heartPeriod ..
  | .scbIbiRequest .. | .creditStarved .. | .deskewRunTimeout .. | .mirroredTimeInstant .. | .parityError .. => true

end Sys2Proof
end

