-- ==== Sys2Proof/Certificates/Slice0/Obligations.lean ====
section
/-!
DEFINITION. The statements for the provers, each over every state and every operand that its hypotheses allow. `u` is the state
after the ticks that precede the command. Most conclusions say that a command answers a next state and what that state is: with
`becomes`, it is a named state but for the reports of the step, and exactly the event sources listed became set; with `answered`,
the command's reply has this status, DETAIL and payload; with `still`, nothing but ports and mailboxes changed.
-/
open Sys2Proof Sys2Proof.Machine

/-! ### The block as a whole -/

/-- A step takes the command at the front of the queue and answers what it answers with the rest of the queue; on an empty
queue the block idles, which is the model's choice (log entry 1). -/
def Obligations.StepRunsTheFrontCommand : Prop :=
(∀ (c : Instr) (cs : List Instr) (s : State), s.pending = c :: cs → step s = exec c { s with pending := cs }) ∧
    ∀ s : State, s.pending = [] → step s = .next s

/-- Every command of every sender completes in every state: no step ends in a fault or a refusal, and a command leaves the
commands that wait behind it as they are. -/
def Obligations.EveryCommandCompletes : Prop :=
∀ (c : Instr) (s : State), ∃ t, exec c s = .next t ∧ t.pending = s.pending

/-- R46, R475, R476: after every step FAULT_N, IRQ_N and the in-band interrupt stand as the event state says, whatever the
command was. -/
def Obligations.PinsFollowTheEvents : Prop :=
∀ s t : State, s.pinsAgree → step s = .next t → t.pinsAgree

/-- What reset leaves, by the reset columns of the register tables: no event is set, no semaphore is owned, the mailboxes
are empty and their limit is 1,000 µs, the time increment is 2.5 ns, the transfer lengths are 258 and 256, the epoch is 0,
nothing streams, no command waits, and memory is empty. FAULT_N, IRQ_N and the in-band interrupt of the state after reset
stand as its event state says. -/
def Obligations.ResetValues : Prop :=
  ((∀ (k : Fin 53) (b : Nat), State.reset.statusBit k b = false) ∧ (∀ n : Fin 64, State.reset.mb.sems[n] = 0) ∧
      (∀ (c : Fin 10) (i : Nat), (State.reset.mb.chans[c].slots.getD i {}).full = false) ∧ State.reset.mb.limit = 1000 ∧
      State.reset.clock.incr = 0x02800000 ∧ State.reset.win.maxWrite = 258 ∧ State.reset.win.maxRead = 256 ∧
      State.reset.win.dynAddr = none ∧ State.reset.twin.epoch = 0 ∧ (∀ c : Fin 64, State.reset.ctxs[c].streaming = false) ∧
      State.reset.pending = [] ∧ State.reset.lpddr = [] ∧ State.reset.recs.active = [] ∧ State.reset.recs.pending = [] ∧
      (∀ c : Fin 32, State.reset.dma.chans[c].state = 0) ∧ State.reset.sys.cmdReady = false) ∧
  (State.reset.pinsAgree)

/-- A memory in canonical form stays so under every write, and a write changes exactly the bytes written: each of them reads
as written, and every other address reads as before. -/
def Obligations.MemoryWritesExactly : Prop :=
∀ (d : Nat → Byte) (m : List Host.Cell) (a : Nat) (vs : List Byte), Memory.wf d m = true →
    Memory.wf d (Memory.writeList d m a vs) = true ∧
      (∀ i : Nat, i < vs.length → Memory.read d (Memory.writeList d m a vs) (a + i) = vs.getD i 0) ∧
      (∀ b : Nat, b < a ∨ a + vs.length ≤ b → Memory.read d (Memory.writeList d m a vs) b = Memory.read d m b) ∧
      Memory.readList d (Memory.writeList d m a vs) a vs.length = vs

/-- R50 to R53, R57, R580: the packet of a command with operands that a packet can carry parses to that command, every
operand at its value, with the packet's CRC-32C as its CHECK and no early failure. -/
def Obligations.PacketsRoundTrip : Prop :=
∀ (h : Hdr) (b : Body), b.fits = true →
    ∃ check : Word, check = crc32c ((packetOf h b).take (16 + (payloadOf b).length)) ∧
      parsePacket h.port h.mirror (packetOf h b) = (⟨{ h with check }, b⟩, none)

/-! ### Rules stated whole -/

/-- R92: a read of SEMn acquires a free semaphore and returns GRANTED with the requester's code; one that is owned, by
another or by the requester itself, it leaves alone and returns its owner's code with GRANTED 0, as SEM_PEEKn does without
any effect. -/
def Obligations.SemaphoreReads : Prop :=
∀ (dt : Nat) (owner : Byte) (n : Fin 64) (s : State),
    let u := s.ticked dt
    owner ≠ 0 →
      (u.mb.sems[n] = 0 →
        ∃ t, exec (.semAcquire dt owner n) s = .next t ∧ t.out.sem = 256#32 + owner.setWidth 32 ∧
          t.mb.sems = u.mb.sems.set n owner ∧ t.still = u.still) ∧
      (u.mb.sems[n] ≠ 0 →
        ∃ t, exec (.semAcquire dt owner n) s = .next t ∧ t.out.sem = u.mb.sems[n].setWidth 32 ∧ t.mb.sems = u.mb.sems ∧
          t.still = u.still) ∧
      u.readReg owner 56 (0x200 + 4 * n.val) = (u, u.mb.sems[n].setWidth 32)

/-- R441: a temperature report of MR4 at which refresh must be raised sets DERATED and raises TEMP_DERATE; one beyond the
operating range raises TEMP_CRIT. A source whose cause stands already stays as it is. -/
def Obligations.TemperatureReports : Prop :=
∀ (dt : Nat) (mc : Fin 6) (code : Byte) (s : State),
    let u := s.ticked dt
    let k := 40 + mc.val
    let held (b : Nat) : Bool := u.ev.blocks[Fin.ofNat 53 k].held.getLsbD b
    u.mem.ctls[mc].state = 2 ∨ u.mem.ctls[mc].state = 3 →
      (∃ t, exec (.mr4Report dt mc code .raised) s = .next t ∧ t.mem.ctls[mc].derated = true ∧
        t.source k 7 = (u.source k 7 || !held 7)) ∧
      ∃ t, exec (.mr4Report dt mc code .beyond) s = .next t ∧ t.source k 8 = (u.source k 8 || !held 8)

/-- R81: an outbound slot that stays full for longer than MB_TIMEOUT.LIMIT is marked, its channel reports TIMED_OUT and the
mailbox service event is raised; the packet stays in its slot. -/
def Obligations.OutboundTimeouts : Prop :=
∀ (dt : Nat) (ch : Fin 10) (k : Fin 2) (s : State),
    let u := s.ticked dt
    let x : Slot := u.mb.chans[ch].slots.getD k.val {}
    ch = 1 ∨ ch = 3 ∨ ch = 5 ∨ ch = 6 ∨ ch = 9 → x.full = true → x.timedOut = false → u.twin.mirrors = [] →
    x.since + 400 * max 50 u.mb.limit.toNat < u.now →
      ∃ t, exec (.mailboxTimeout dt ch k) s = .next t ∧ t.mb.chans[ch].timedOut = true ∧ t.source 52 3 = true ∧
        t.mb.chans[ch].slots[k.val]? = some { x with timedOut := true }

/-! ### Command ports, registers and semaphores -/

/-- R53, R54: a command that fails one of the checks 4 to 8 is answered with the status and DETAIL of the first failure, and
changes nothing. Every row of the opcode table is covered. -/
def Obligations.RefusedCommandChangesNothing : Prop :=
∀ (dt : Nat) (h : Hdr) (b : Body) (i : Instr) (st d : Nat) (s : State),
    let u := s.ticked dt
    b.row dt h = some i → u.takes h → u.checkCmd ⟨h, b⟩ = some (st, d) →
      ∃ t, exec i s = .next t ∧ u.answered t h b st d [] ∧ t.still = u.still

/-- R56: a repetition of the last command of a port executes nothing: the kept reply goes out again with REPLAYED set. R37,
R49, R77, R88: while firmware accepts no command the mailbox hardware answers and nothing is kept; a command that finds its
port occupied waits in the intake, and is left in its slot when one waits there already. R72, R491: with 24 entries staged a
state-changing command waits before it executes, and LOG_WAIT is raised. -/
def Obligations.CommandsReachTheirPort : Prop :=
  (∀ (dt : Nat) (h : Hdr) (b : Body) (i : Instr) (k : Kept) (s : State),
      let u := s.ticked dt
      b.row dt h = some i → (h.port = .p0 ∨ h.port = .p1 ∨ h.port = .p3) → u.accepting = true →
      (u.port h.port).intake = none → u.portFree h.port = true → u.audit.staged.length < 32 →
      (u.port h.port).kept = some k → k.seq = h.seq → k.check = h.check → k.status ≠ 1 →
        ∃ t, exec i s = .next t ∧ t.still = u.still ∧ (t.port h.port).running = none ∧
          (t.port h.port).kept = some { k with bytes := replayBytes k.bytes } ∧ (∀ p, p ≠ h.port → t.port p = u.port p)) ∧
  (∀ (dt : Nat) (h : Hdr) (b : Body) (i : Instr) (s : State),
      let u := s.ticked dt
      b.row dt h = some i → (h.port = .p0 ∨ h.port = .p1 ∨ h.port = .p3) → h.mirror = none →
        (u.accepting = false → (∀ j, freeSlot u.mb.chans[h.port.outChan] = some j →
          ∃ t, exec i s = .next t ∧ t.still = u.still ∧ t.ports = u.ports ∧
            ∃ x, t.mb.chans[h.port.outChan].slots[j]? = some x ∧ x.full = true ∧
              x.bytes = replyBytes b.opcode h.seq (if u.sys.mgmtOn then 9 else 10) 0 (if u.sys.mgmtOn then 2 else 1)
                u.twin.epoch.toNat u.ident [])) ∧
        (u.accepting = true → (u.port h.port).intake = none → u.portFree h.port = false →
          ∃ t, exec i s = .next t ∧ t.still = u.still ∧ (t.port h.port).intake = some (.parsed h b) ∧
            (t.port h.port).running = (u.port h.port).running ∧ ∀ p, p ≠ h.port → t.port p = u.port p) ∧
        (u.accepting = true → (u.port h.port).intake.isSome = true →
          ∃ t, exec i s = .next t ∧ t.still = u.still ∧ t.ports = u.ports)) ∧
  (∀ (dt : Nat) (h : Hdr) (b : Body) (i : Instr) (s : State),
      let u := s.ticked dt
      b.row dt h = some i → (h.port = .p0 ∨ h.port = .p1 ∨ h.port = .p3) → h.mirror = none → u.accepting = true →
      (u.port h.port).intake = none → u.portFree h.port = true → (u.port h.port).kept = none →
      u.checkCmd ⟨h, b⟩ = none → b.readOnly = false → 24 ≤ u.audit.staged.length →
        ∃ t, exec i s = .next t ∧ t.still = u.still ∧ u.waits t h b .auditSpace ∧ t.source 52 5 = true)

/-- R64, R65: SYS_INFO reports the device; SYS_RESET with scope 0 or 1 is answered before its reset, which is due 10 ms
later at the latest; another scope is a bad parameter. R58, R90: REG_READ answers with the address and the words read in
ascending order, whose read effects are its only effects. A bad address, a count out of range, and firmware's semaphores
from P0 or P1 are refused with nothing read. -/
def Obligations.SystemCommandsAndReads : Prop :=
  (∀ (dt : Nat) (h : Hdr) (s : State),
      let u := s.ticked dt
      (u.runs h .sysInfo →
        ∃ t, exec (.sysInfo dt h) s = .next t ∧ t.still = u.still ∧ u.answered t h .sysInfo 0 0
          (leBytes 2 0x7316 ++ leBytes 1 Config.siliconRev.toNat ++ leBytes 1 (bit 3 u.sys.twinSel + u.sys.addrSel % 8) ++
            leWord Config.romVersion ++ leBytes 1 u.nvm.running ++ leBytes 3 0 ++
            leWord (if u.nvm.running < 2 then u.nvm.slots[Fin.ofNat 2 u.nvm.running].version else 0) ++
            leBytes 2 u.ident ++ leHalf u.twin.epoch ++ leBytes 4 ((u.now - u.sys.readyAt) / 400000))) ∧
      (∀ scope : Word, u.runs h (.sysReset scope) →
        (scope = 0 ∨ scope = 1 →
          ∃ t, exec (.sysReset dt h scope) s = .next t ∧ u.answered t h (.sysReset scope) 0 0 [] ∧
            t.still = ({ u with sys := { u.sys with
              resetDue := some (if scope = 0 then 3 else 0, h.port, u.now + 4000000) } }).still) ∧
        (scope ≠ 0 → scope ≠ 1 →
          ∃ t, exec (.sysReset dt h scope) s = .next t ∧ u.answered t h (.sysReset scope) 5 16 [] ∧ t.still = u.still))) ∧
  (∀ (dt : Nat) (h : Hdr) (offset count : Word) (s : State),
      let u := s.ticked dt
      let block := offset.toNat / 2 ^ 20
      let off := offset.toNat % 2 ^ 20
      let far := (h.port = .p0 ∨ h.port = .p1) ∧ block = 56 ∧ touchesFirmwareSem off count.toNat = true
      u.runs h (.regRead offset count) →
        (badOffset offset count.toNat = true →
          ∃ t, exec (.regRead dt h offset count) s = .next t ∧ u.answered t h (.regRead offset count) 5 16 [] ∧ t.still = u.still) ∧
        (badOffset offset count.toNat = false → count = 0 ∨ 32 < count.toNat →
          ∃ t, exec (.regRead dt h offset count) s = .next t ∧ u.answered t h (.regRead offset count) 5 20 [] ∧ t.still = u.still) ∧
        (badOffset offset count.toNat = false → 1 ≤ count.toNat → count.toNat ≤ 32 → far →
          ∃ t, exec (.regRead dt h offset count) s = .next t ∧
            u.answered t h (.regRead offset count) 3 h.port.toNat [] ∧ t.still = u.still) ∧
        (badOffset offset count.toNat = false → 1 ≤ count.toNat → count.toNat ≤ 32 → ¬far →
          ∃ t, exec (.regRead dt h offset count) s = .next t ∧
            u.answered t h (.regRead offset count) 0 0
              (leWord offset ++ (u.readRegs (portOwner h.port) block off count.toNat).2.flatMap leWord) ∧
            t.still = (u.readRegs (portOwner h.port) block off count.toNat).1.still))

/-- R7, R90, R125, R245: the host's register writes: a field of firmware only is refused with DENIED_PORT and nothing is
written; a write to a read-only register is accepted and changes nothing; SL_PLOG_ACK drops the entries up to a serial;
CNT_CLEAR zeroes the counters of its port. R7: a register write of firmware takes effect as such a write does, and one to a
reserved block or a misaligned offset does nothing. Q_STAT takes CHECK_FAIL; the boot register its watchdog count; the Weir
its background selection. -/
def Obligations.RegisterWrites : Prop :=
  (∀ (dt : Nat) (h : Hdr) (offset : Word) (v : Word) (s : State),
      let u := s.ticked dt
      let block := offset.toNat / 2 ^ 20
      let off := offset.toNat % 2 ^ 20
      let b : Body := .regWrite offset [v]
      u.runs h b → badOffset offset 1 = false →
        (firmwareOnly block off [v] = true → (h.port = .p3 → u.sys.factoryTest = false) →
          ∃ t, exec (.regWrite dt h offset [v]) s = .next t ∧ u.answered t h b 3 h.port.toNat [] ∧ t.still = u.still) ∧
        ((block = 53 ∨ block = 54 ∨ block = 55) → off ≠ 0xF00 →
          ∃ t, exec (.regWrite dt h offset [v]) s = .next t ∧ u.answered t h b 0 0 [] ∧ t.still = u.still) ∧
        (block = 50 → off = 0x104 →
          ∃ t, exec (.regWrite dt h offset [v]) s = .next t ∧ u.answered t h b 0 0 [] ∧
            t.still = ({ u with sluice := { u.sluice with
              plog := u.sluice.plog.filter fun e => !behind 16 e.serial.toNat (v.setWidth 16).toNat } }).still) ∧
        (∀ p : Fin 32, block = p.val → off = 0x00C → v = 2 →
          ∃ t, exec (.regWrite dt h offset [v]) s = .next t ∧ u.answered t h b 0 0 [] ∧
            t.still = (u.setInlet p fun x => { x with
              hdrBad := 0, eccCorr := 0, wcBad := 0, crcBad := 0, vcUnmapped := 0, dtBad := 0, dropped := 0, gaps := 0 }).still)) ∧
  (∀ (dt : Nat) (offset v : Word) (s : State),
      let u := s.ticked dt
      let block := offset.toNat / 2 ^ 20
      let off := offset.toNat % 2 ^ 20
      (badOffset offset 1 = true → ∃ t, exec (.registerWritePlain dt offset v) s = .next t ∧ becomes u u t []) ∧
      (∀ q : Fin 43, badOffset offset 1 = false → block = 57 → off = 0x400 + 4 * q.val →
        ∃ t, exec (.registerWritePlain dt offset v) s = .next t ∧
          becomes u (u.setQueue q fun x => { x with checkFail := v.getLsbD 7 }) t []) ∧
      (badOffset offset 1 = false → block = 52 → off = 0x100 →
        ∃ t, exec (.registerWritePlain dt offset v) s = .next t ∧
          becomes u { u with sys := { u.sys with wdCount := v.toNat / 4096 % 16 } } t []) ∧
      (badOffset offset 1 = false → block = 47 → off = 0x00C →
        ∃ t, exec (.registerWritePlain dt offset v) s = .next t ∧
          becomes u (u.setWeir fun w => { w with selSlot := v.toNat / 65536 % 4, selCol := v.toNat % 16384 }) t []))

/-- R92, R94: an acquiring read gives the owner it finds and takes a free semaphore for its owner; a release by the owner
frees it, one by another sets NOT_OWNER and the index; firmware's SEM_FORCE frees it and raises SEM_FORCED. The other
semaphores stay. -/
def Obligations.SemaphoresHaveOneOwner : Prop :=
∀ (dt : Nat) (owner : Byte) (n : Fin 64) (s : State),
    let u := s.ticked dt
    let others (t : State) : Prop := ∀ m : Fin 64, m ≠ n → t.mb.sems[m] = u.mb.sems[m]
    (owner ≠ 0 → u.mb.sems[n] = 0 →
      ∃ t, exec (.semAcquire dt owner n) s = .next t ∧ t.mb.sems[n] = owner ∧ others t ∧ t.still = u.still) ∧
    (u.mb.sems[n] ≠ 0 →
      ∃ t, exec (.semAcquire dt owner n) s = .next t ∧ t.mb.sems = u.mb.sems ∧ t.still = u.still) ∧
    (owner ≠ 0 → u.mb.sems[n] = owner →
      ∃ t, exec (.semRelease dt owner n) s = .next t ∧ t.mb.sems[n] = 0 ∧ others t ∧ t.still = u.still) ∧
    (u.mb.sems[n] ≠ owner →
      ∃ t, exec (.semRelease dt owner n) s = .next t ∧ t.mb.sems = u.mb.sems ∧ t.mb.semNotOwner = true ∧
        t.mb.semErrIndex = n.val ∧ t.still = u.still) ∧
    (∃ t, exec (.semForce dt n) s = .next t ∧ t.mb.sems[n] = 0 ∧ others t ∧ t.still = u.still ∧ t.source 52 29 = true)

/-- R37, R76, R78, R81: firmware reads the oldest full slot of an inbound channel into the port's intake and empties it; a
waiting command is accepted and executed; an outbound slot that stays full for longer than the limit is reported once. R47,
R49, R75: ringing with TX_FULL set is an overrun; while firmware accepts commands the packet becomes full in MB0; while it
does not, the window hardware empties WIN_TX and answers in WIN_RX, at once or when WIN_RX is empty again. -/
def Obligations.SlotsIntakesAndTheDoorbell : Prop :=
  (∀ (dt : Nat) (i : Nat) (p : Port) (h : Hdr) (s : State),
      let u := s.ticked dt
      let reset : Body := .sysReset 0
      (u.accepting = true →
        (u.win.hwWait = false → oldestSlot u.mb.chans[(0 : Fin 10)] = some i → (u.port .p0).intake = none →
          ∃ t, exec (.inboundSlotRead dt .mb0) s = .next t ∧
            (t.port .p0).intake = some (.packet (mirrorOfSlot (u.mb.chans[(0 : Fin 10)].slots.getD i {})) (u.mbBytes 0 i)) ∧
            t.mb.chans[(0 : Fin 10)].slots[i]? = some {}) ∧
        (oldestSlot u.mb.chans[(2 : Fin 10)] = some i → (u.port .p1).intake = none →
          ∃ t, exec (.inboundSlotRead dt .mb2) s = .next t ∧
            (t.port .p1).intake = some (.packet (mirrorOfSlot (u.mb.chans[(2 : Fin 10)].slots.getD i {})) (u.mbBytes 2 i)) ∧
            t.mb.chans[(2 : Fin 10)].slots[i]? = some {} ∧ t.link.acks = u.link.acks ++ [(i, word (u.mbBytes 2 i) 4)]) ∧
        (p = .p0 ∨ p = .p1 ∨ p = .p3 → h.port = p → h.mirror = none → u.twin.state = .single → u.twin.mirrors = [] →
          (∀ q ∈ allPorts, q ≠ p → (u.port q).intake = none) → (u.port p).intake = some (.parsed h reset) → u.portFree p = true →
          (u.port p).kept = none → u.audit.staged.length < 24 → u.checkCmd ⟨h, reset⟩ = none →
          ∃ t, exec (.commandIntakeAccept dt) s = .next t ∧ t.lastPort = p.toNat ∧ (t.port p).intake = none ∧
            t.sys.resetDue = some (3, p, u.now + 4000000) ∧ u.answered t h reset 0 0 [])) ∧
      (u.accepting = false → (∃ t, exec (.commandIntakeAccept dt) s = .next t ∧ becomes u u t []) ∧
        ∀ c, ∃ t, exec (.inboundSlotRead dt c) s = .next t ∧ becomes u u t []) ∧
      (∀ (ch : Fin 10) (k : Fin 2), outbound ch = true → (u.mb.chans[ch].slots.getD k.val {}).full = true →
        (u.mb.chans[ch].slots.getD k.val {}).timedOut = false →
        ((u.mb.chans[ch].slots.getD k.val {}).since + u.mbTicks ≤ u.now →
          ∃ t, exec (.mailboxTimeout dt ch k) s = .next t ∧
            becomes u ((u.setSlot ch k.val fun x => { x with timedOut := true }).setChan ch fun c => { c with timedOut := true }) t
              [(52, 3)]) ∧
        (u.now < (u.mb.chans[ch].slots.getD k.val {}).since + u.mbTicks →
          ∃ t, exec (.mailboxTimeout dt ch k) s = .next t ∧ becomes u u t []))) ∧
  (∀ (dt : Nat) (x y : Slot) (s : State),
      let u := s.ticked dt
      let b := u.mbBytes 0 0
      u.mb.chans[(0 : Fin 10)].slots = [x] → u.mb.chans[(1 : Fin 10)].slots = [y] →
        (x.full = true →
          ∃ t, exec (.winDoorbellRing dt) s = .next t ∧
            becomes u ((u.setChan 0 fun c => { c with overrun := true }).setWin fun w => { w with err := w.err ||| 1 }) t []) ∧
        (x.full = false → u.accepting = true →
          ∃ t, exec (.winDoorbellRing dt) s = .next t ∧ t.txFull = true ∧ t.mbBytes 0 0 = b ∧
            t.mb.chans[(0 : Fin 10)].lastSeq = half b 4 ∧ t.ports = u.ports ∧ t.mb.chans[(1 : Fin 10)] = u.mb.chans[(1 : Fin 10)]) ∧
        (x.full = false → u.accepting = false → y.full = false → (u.port .p0).outgoing = [] →
          ∃ t, exec (.winDoorbellRing dt) s = .next t ∧ t.txFull = false ∧ t.rxFull = true ∧ t.mbBytes 1 0 = u.hwReply b) ∧
        (x.full = false → u.accepting = false → y.full = true →
          ∃ t, exec (.winDoorbellRing dt) s = .next t ∧ t.txFull = true ∧ t.win.hwWait = true ∧ t.mbBytes 1 0 = u.mbBytes 1 0) ∧
        (u.win.hwWait = true → u.accepting = false → y.full = false →
          ∃ t, exec (.hwReplyDeferred dt) s = .next t ∧ t.txFull = false ∧ t.rxFull = true ∧ t.mbBytes 1 0 = u.hwReply b ∧
            t.win.hwWait = false) ∧
        (u.win.hwWait = false → ∃ t, exec (.hwReplyDeferred dt) s = .next t ∧ becomes u u t []))

/-! ### Records, streams and statistics -/

/-- R10, R13, R62, R63: a good piece goes into the pending copy, and into nothing else but the record's open state; a field
out of its range is named by its offset, and nothing is written. R64: REC_READ gives bytes of the pending copy, or of the
active one, and the CRC-32C of the whole copy. -/
def Obligations.RecordCopies : Prop :=
  (∀ (dt : Nat) (h : Hdr) (id inst : Half) (off : Word) (first last : Bool) (data : List Byte) (s : State),
      let u := s.ticked dt
      let b : Body := .recWrite id inst off first last data
      u.runs h b → u.writable h.port id.toNat inst.toNat off.toNat first data →
        (badField (fieldsOf id.toNat inst.toNat) off.toNat data data.length = none →
          ∃ t, exec (.recWrite dt h id inst off first last data) s = .next t ∧ u.answered t h b 0 0 [] ∧
            t.recs.pending = (u.writePending id.toNat inst.toNat off.toNat data).recs.pending ∧
            t.recs.active = u.recs.active ∧ t.openFor id.toNat inst.toNat = (if last then none else some h.port) ∧
            { t with recs := u.recs }.still = u.still) ∧
        (∀ a, badField (fieldsOf id.toNat inst.toNat) off.toNat data data.length = some a →
          ∃ t, exec (.recWrite dt h id inst off first last data) s = .next t ∧
            u.answered t h b 5 (28 + (a - off.toNat)) [] ∧ t.still = u.still)) ∧
  (∀ (dt : Nat) (h : Hdr) (id inst : Half) (off count : Word) (s : State),
      let u := s.ticked dt
      let b : Body := .recRead id inst off count
      let m := if h.active then u.recs.active else u.recs.pending
      u.runs h b → id ≠ 0x0306 → recExists id.toNat inst.toNat = true →
        (4 ≤ count.toNat → count.toNat ≤ 224 → count.toNat % 4 = 0 → off.toNat % 4 = 0 →
          off.toNat + count.toNat ≤ recSize id.toNat →
          ∃ t, exec (.recRead dt h id inst off count) s = .next t ∧ t.still = u.still ∧
            u.answered t h b 0 0 (recBytes m id.toNat inst.toNat off.toNat count.toNat ++
              leWord (crc32c (recBytes m id.toNat inst.toNat 0 (recSize id.toNat))))) ∧
        (4 ≤ count.toNat → count.toNat ≤ 224 → count.toNat % 4 = 0 →
          off.toNat % 4 ≠ 0 ∨ recSize id.toNat < off.toNat + count.toNat →
          ∃ t, exec (.recRead dt h id inst off count) s = .next t ∧ t.still = u.still ∧ u.answered t h b 5 20 []))

/-- R11 to R15, R64: an accepted REC_APPLY. At once, the pending contents of exactly its records become active together; for
a grid row or a frame or line it is scheduled, its records are locked, and what is active stays until the boundary. A
combination that is not consistent is refused at its first record. R63, R252: a record that got no piece for 100 ms closes,
and no other does; device time at the next row makes that row the current one, and before it nothing happens. -/
def Obligations.RecordsBecomeActive : Prop :=
  (∀ (dt : Nat) (h : Hdr) (kind : Byte) (ctx : Half) (boundary : Word) (pairs : List (Half × Half)) (s : State),
      let u := s.ticked dt
      let b : Body := .recApply kind ctx boundary pairs
      let ps := pairs.map fun p => (p.1.toNat, p.2.toNat)
      let k : Change := { old := u.recs.active, new := activated u.recs ps, pairs := ps }
      u.runs h b → u.applies kind.toNat ctx.toNat ps →
        (kind = 0 → u.inconsistent k = none → k.retrains = false → u.applyHeld ps = false →
          ∃ t, exec (.recApply dt h kind ctx boundary pairs) s = .next t ∧ t.recs.active = activated u.recs ps ∧
            t.recs.pending = u.recs.pending ∧ (t.port h.port).running = none ∧
            ∃ r, (t.port h.port).kept = some r ∧ r.seq = h.seq ∧ r.status = 0) ∧
        (kind = 1 → u.inconsistent k = none → (u.rowBoundary boundary ps).2 = false →
          ∃ t, exec (.recApply dt h kind ctx boundary pairs) s = .next t ∧ t.recs.active = u.recs.active ∧
            t.recs.pending = u.recs.pending ∧ (∀ p ∈ ps, t.locked p.1 p.2 = true) ∧
            u.answered t h b 0 0 (leBytes 2 1 ++ leBytes 2 0 ++ leBytes 4 (wrapOf 32 (u.rowBoundary boundary ps).1))) ∧
        (kind = 2 → u.inconsistent k = none → (u.frameBoundary ctx.toNat boundary).2 = false →
          ∃ t, exec (.recApply dt h kind ctx boundary pairs) s = .next t ∧ t.recs.active = u.recs.active ∧
            t.recs.pending = u.recs.pending ∧ (∀ p ∈ ps, t.locked p.1 p.2 = true) ∧
            u.answered t h b 0 0
              (leBytes 2 2 ++ leBytes 2 ctx.toNat ++ leBytes 4 (wrapOf 32 (u.frameBoundary ctx.toNat boundary).1))) ∧
        (∀ off, u.inconsistent k = some off →
          ∃ t, exec (.recApply dt h kind ctx boundary pairs) s = .next t ∧ t.recs = u.recs ∧ u.answered t h b 5 off [])) ∧
  (∀ (dt : Nat) (id inst : Half) (s : State),
      let u := s.ticked dt
      (∃ t, exec (.recordOpenTimeout dt id inst) s = .next t ∧
        becomes u { u with recs := { u.recs with
          opens := u.recs.opens.filter fun o =>
            !(o.id == id.toNat && o.inst == inst.toNat && decide (o.at_ + 40000000 ≤ u.now)) } } t []) ∧
      (u.grid.valid = true → u.tref (u.grid.row + 1) ≤ u.clock.ext → u.recs.scheduled = [] → u.recs.rows = [] →
        u.cf.state = 0 →
        ∃ t, exec (.gridRowAdvance dt) s = .next t ∧
          becomes u { u with grid := { u.grid with row := u.grid.row + 1 } } t []) ∧
      (u.clock.ext < u.tref (u.grid.row + 1) → ∃ t, exec (.gridRowAdvance dt) s = .next t ∧ becomes u u t []))

/-- R574: STREAM_START: a mask of no context, or of one that is not enabled, is a bad parameter; with every context
streaming already it is answered at once; otherwise it asks for leave and waits, and begins nothing before. R574: in a twin
pair the streams of a start that has its leave begin in the tick that was fixed, all together, and not before. -/
def Obligations.StreamsStart : Prop :=
  (∀ (dt : Nat) (h : Hdr) (mask : Wide) (c : Fin 64) (s : State),
      let u := s.ticked dt
      let b : Body := .streamStart mask
      (u.takes h → h.port = .p0 → h.epochCheck = false → u.win.dynAddr = none →
          ∃ t, exec (.streamStart dt h mask) s = .next t ∧ u.answered t h b 9 1 [] ∧ t.still = u.still) ∧
      (u.runs h b →
        (mask = 0 ∨ (maskCtxs mask).any (fun x => !u.ctxEnabled x) = true →
          ∃ t, exec (.streamStart dt h mask) s = .next t ∧ u.answered t h b 5 16 [] ∧ t.still = u.still) ∧
        (mask ≠ 0 → (∀ x ∈ maskCtxs mask, u.ctxEnabled x = true ∧ u.streams x = true) →
          ∃ t, exec (.streamStart dt h mask) s = .next t ∧ t.ctxs = u.ctxs ∧
            u.answered t h b 0 0 (leBytes 8 0 ++ leWord (if u.cf.state = 1 then BitVec.ofInt 32 u.cf.first else 0xFFFFFFFF) ++
              leWord u.rowNo)) ∧
        (mask = 1#64 <<< c.val → u.ctxEnabled c = true → u.streams c = false →
          u.twinPair = false → u.refuseLeave (u.contextCost c) = none →
          ∃ t, exec (.streamStart dt h mask) s = .next t ∧ t.ctxs = u.ctxs ∧
            u.waits t h b (.streamLeave mask [c] [] none) ∧
            ∃ r ∈ t.pwr.queue, r.who = .context c (some h.port) ∧ r.kind = 4 ∧ r.cost = u.contextCost c))) ∧
  (∀ (dt : Nat) (p : Port) (r : Running) (mask m : Wide) (at_ : Int) (s : State),
      let u := s.ticked dt
      (u.port p).running = some r → r.wait = .streamTick mask at_ → r.body = .streamStart m →
      (∀ q ∈ allPorts, q ≠ p → (u.port q).running = none) →
        (at_ ≤ u.clock.ext → (∀ x ∈ maskCtxs mask, u.lineScan x = true) →
          ∃ t, exec (.streamStartTick dt) s = .next t ∧ (∀ x ∈ maskCtxs mask, t.streams x = true) ∧
            ∀ x, x ∉ maskCtxs mask → t.streams x = u.streams x) ∧
        (u.clock.ext < at_ → ∃ t, exec (.streamStartTick dt) s = .next t ∧ becomes u u t []))

/-- R575, R576: STREAM_STOP stops a line-scan context and no other, and with nothing to stop is answered at once;
STREAM_STATUS reports what streams. R223: STATS_READ gives a piece of the record named, with its SERIAL and whether it is
the last piece; a record that is no longer held answers GONE. -/
def Obligations.StreamsStopAndReport : Prop :=
  (∀ (dt : Nat) (h : Hdr) (mask : Wide) (c : Fin 64) (s : State),
      let u := s.ticked dt
      (u.runs h (.streamStop 0) →
        ∃ t, exec (.streamStop dt h 0) s = .next t ∧ u.answered t h (.streamStop 0) 5 16 [] ∧ t.still = u.still) ∧
      (u.runs h (.streamStop mask) → mask ≠ 0 → (∀ x ∈ maskCtxs mask, u.streams x = false) → u.twinPair = false → u.idlePorts →
        ∃ t, exec (.streamStop dt h mask) s = .next t ∧ t.ctxs = u.ctxs ∧
          u.answered t h (.streamStop mask) 0 0 (leBytes 8 0 ++ leWord 0xFFFFFFFF)) ∧
      (u.runs h (.streamStop mask) → mask = 1#64 <<< c.val → u.streams c = true → u.lineScan c = true → u.twinPair = false →
        ∃ t, exec (.streamStop dt h mask) s = .next t ∧ t.streams c = false ∧ ∀ d : Fin 64, d ≠ c → t.streams d = u.streams d) ∧
      (u.runs h .streamStatus →
        ∃ t, exec (.streamStatus dt h) s = .next t ∧ t.still = u.still ∧ u.answered t h .streamStatus 0 0
          (leBytes 8 (ctxMask ((fins 64).filter fun x => u.streams x)).toNat ++ leBytes 1 u.cf.state ++ leBytes 1 u.weir.state ++
            leBytes 2 0 ++ leWord (if u.cf.state = 0 then 0xFFFFFFFF else BitVec.ofInt 32 u.cf.first) ++
            leWord (BitVec.ofInt 32 u.cf.oldest) ++ leWord u.rowNo ++
            (fins 8).flatMap fun q => leWord u.weir.seqs[q] ++ leWord u.weir.lastRows[q]))) ∧
  (∀ (dt : Nat) (h : Hdr) (ctx : Half) (what : Byte) (serial off count : Word) (s : State),
      let u := s.ticked dt
      let b : Body := .statsRead ctx what serial off count
      let n := count.toNat
      let source := u.statsSource (Fin.ofNat 64 ctx.toNat) what.toNat serial
      u.runs h b → ctx.toNat < 64 → what.toNat ≤ 3 → 4 ≤ n → n ≤ 224 → n % 4 = 0 →
        (source = none →
          ∃ t, exec (.statsRead dt h ctx what serial off count) s = .next t ∧ t.still = u.still ∧
            u.answered t h b 0 0 (leWord serial ++ leBytes 2 1 ++ leBytes 2 0)) ∧
        (∀ (k : Word) (bytes : List Byte), source = some (k, bytes) →
          (off.toNat < bytes.length →
            ∃ t, exec (.statsRead dt h ctx what serial off count) s = .next t ∧ t.still = u.still ∧
              u.answered t h b 0 0 (leWord k ++ leBytes 2 (if bytes.length ≤ off.toNat + n then 2 else 0) ++ leBytes 2 0 ++
                (bytes.drop off.toNat).take n)) ∧
          (bytes.length ≤ off.toNat →
            ∃ t, exec (.statsRead dt h ctx what serial off count) s = .next t ∧ t.still = u.still ∧ u.answered t h b 5 24 [])))

/-- R69, R73, R578: LOG_READ from the oldest gives the oldest entries held; LOG_MARK writes a mark with its 64 bits and
answers with the serial it takes; LOG_STATUS counts what is staged. R72, R512: a flush begins when 16 entries are staged or
the oldest is 5 ms old, and takes all that are staged; when it ends they are the newest of the ring; the emergency flush
stores every staged entry and the epoch that waits. -/
def Obligations.TheAuditLog : Prop :=
  (∀ (dt : Nat) (h : Hdr) (count : Word) (mark : Wide) (s : State),
      let u := s.ticked dt
      (u.runs h (.logRead 0xFFFFFFFF count) → 1 ≤ count.toNat → count.toNat ≤ 7 → ∀ x xs, u.heldEntries = x :: xs →
        ∃ t, exec (.logRead dt h 0xFFFFFFFF count) s = .next t ∧ t.still = u.still ∧
          u.answered t h (.logRead 0xFFFFFFFF count) 0 0
            (leWord x.1 ++ leBytes 4 (min count.toNat (x :: xs).length) ++
              leBytes 4 (if (x :: xs).length ≤ count.toNat then 2 else 0) ++
              ((x :: xs).take count.toNat).flatMap fun e => entryBytes e.2)) ∧
      (u.runs h (.logRead 0xFFFFFFFF count) → count = 0 ∨ 7 < count.toNat →
        ∃ t, exec (.logRead dt h 0xFFFFFFFF count) s = .next t ∧ t.still = u.still ∧
          u.answered t h (.logRead 0xFFFFFFFF count) 5 20 []) ∧
      (u.runs h (.logMark mark) →
        ∃ t, exec (.logMark dt h mark) s = .next t ∧ t.still = u.still ∧
          u.answered t h (.logMark mark) 0 0 (leWord u.audit.next) ∧
          ∃ e, (u.audit.next, u.now, e) ∈ t.audit.staged ∧ e.kind = 9 ∧ e.detail = mark ∧ e.seq = h.seq ∧ e.time = u.time) ∧
      (u.runs h .logStatus → ∀ x xs, u.heldEntries = x :: xs →
        ∃ t, exec (.logStatus dt h) s = .next t ∧ t.still = u.still ∧
          u.answered t h .logStatus 0 0 (leWord x.1 ++ leWord (u.audit.next - 1) ++ leBytes 4 u.audit.staged.length ++
            leBytes 4 u.audit.overflow))) ∧
  (∀ (dt : Nat) (s : State),
      let u := s.ticked dt
      let stored (n : Nat) : List (Word × Entry) :=
        (((u.audit.staged.take n).map fun e => (e.1, e.2.2)).reverse ++ u.audit.ring).take 32768
      let pages (n : Nat) : Nat := satAdd 32 u.nvm.pages (((u.audit.staged.take n).map fun e => e.1.toNat % 32768 / 2).eraseDups).length
      u.twin.state = .single →
        (∀ e es, u.audit.flushing = 0 → u.audit.staged = e :: es → 16 ≤ u.audit.staged.length ∨ e.2.1 + 2000000 ≤ u.now →
          ∃ t, exec (.auditFlushStart dt) s = .next t ∧ becomes u u t [] ∧
            t.audit = { u.audit with flushing := u.audit.staged.length }) ∧
        (u.audit.flushing ≠ 0 ∨ u.audit.staged = [] →
          ∃ t, exec (.auditFlushStart dt) s = .next t ∧ becomes u u t [] ∧ t.audit = u.audit) ∧
        (u.idlePorts → u.audit.merged = 0 → (∀ p ∈ allPorts, (u.port p).entryWait = none) →
          (u.audit.flushing ≠ 0 →
            ∃ t, exec (.auditFlushEnd dt) s = .next t ∧
              becomes u { u with nvm := { u.nvm with pages := pages u.audit.flushing } } t [] ∧
              t.audit = { u.audit with
                staged := u.audit.staged.drop u.audit.flushing, ring := stored u.audit.flushing, flushing := 0 }) ∧
          (u.pwr.pfActive = true → u.pwr.pfSafe = false → ∀ e, u.audit.epochWrite = some e →
            ∃ t, exec (.pfSafe dt) s = .next t ∧
              becomes u { u with
                nvm := { u.nvm with epoch := e, pages := satAdd 32 (pages u.audit.staged.length) 3 }, pwr := { u.pwr with pfSafe := true } } t [] ∧
              t.audit = { u.audit with staged := [], ring := stored u.audit.staged.length, flushing := 0, epochWrite := none })))

/-! ### Events and tests -/

/-- R478, R479: a clear, by EVT_CLEAR or by a write of EV_STATUS, clears exactly the masked bits whose cause is gone; a bit
whose cause is active stays set, and so does every other block. EVT_CLEAR answers with the masked bits still set. R481,
R483, R487: EVT_STATUS gives the event registers of a block or the summaries; EVT_SEVERITY writes one severity into both
copies of its record, and never takes a source of reset severity 3 below 2. -/
def Obligations.EventsClearAndReport : Prop :=
  (∀ (dt : Nat) (h : Hdr) (k : Fin 53) (mask : Word) (s : State),
      let u := s.ticked dt
      let cleared (t : State) : Prop := ∀ (j : Fin 53) (b : Nat), reportSource j.val b = false →
        t.statusBit j b = if j = k ∧ mask.getLsbD b = true ∧ (definedMask k).getLsbD b = true ∧
          (u.ev.blocks[k].cause).getLsbD b = false then false else u.statusBit j b
      (∃ t, exec (.evStatusW1c dt k mask) s = .next t ∧ t.quiet = u.quiet ∧ cleared t) ∧
      (u.runs h (.evtClear (BitVec.ofNat 8 k.val) mask) → mask &&& ~~~definedMask k = 0 →
        u.ev.blocks[k].status &&& mask &&& u.ev.blocks[k].cause = 0 →
        ∃ t, exec (.evtClear dt h (BitVec.ofNat 8 k.val) mask) s = .next t ∧ t.still = u.still ∧ cleared t ∧
          u.answered t h (.evtClear (BitVec.ofNat 8 k.val) mask) 0 0 (leWord 0)) ∧
      (u.runs h (.evtClear (BitVec.ofNat 8 k.val) mask) → mask &&& ~~~definedMask k = 0 →
        u.ev.blocks[k].status &&& mask &&& u.ev.blocks[k].cause ≠ 0 →
        ∃ t, exec (.evtClear dt h (BitVec.ofNat 8 k.val) mask) s = .next t ∧ t.still = u.still ∧ cleared t ∧
          u.answered t h (.evtClear (BitVec.ofNat 8 k.val) mask) 0 1
            (leWord (u.ev.blocks[k].status &&& mask &&& u.ev.blocks[k].cause))) ∧
      (u.runs h (.evtClear (BitVec.ofNat 8 k.val) mask) → mask &&& ~~~definedMask k ≠ 0 →
        ∃ t, exec (.evtClear dt h (BitVec.ofNat 8 k.val) mask) s = .next t ∧ t.still = u.still ∧
          u.answered t h (.evtClear (BitVec.ofNat 8 k.val) mask) 5 20 [])) ∧
  (∀ (dt : Nat) (h : Hdr) (k : Fin 53) (bit sev : Byte) (s : State),
      let u := s.ticked dt
      let kb : Byte := BitVec.ofNat 8 k.val
      let low := (resetSeverities k.val).getD bit.toNat 0 = 3 ∧ sev.toNat < 2
      (u.runs h (.evtStatus kb) →
        ∃ t, exec (.evtStatus dt h kb) s = .next t ∧ t.still = u.still ∧
          u.answered t h (.evtStatus kb) 0 0 ((List.range 8).flatMap fun i => leWord (u.evWord k i))) ∧
      (u.runs h (.evtStatus 0xFF) →
        ∃ t, exec (.evtStatus dt h 0xFF) s = .next t ∧ t.still = u.still ∧
          u.answered t h (.evtStatus 0xFF) 0 0 (leBytes 8 u.summary ++ leBytes 8 u.fsummary ++ leBytes 1 u.faultThresh ++
            leBytes 1 (u.sysFault % 16) ++ leBytes 2 0 ++ leBytes 4 u.ev.late)) ∧
      (u.runs h (.evtSeverity kb bit sev) → bit.toNat < (resetSeverities k.val).length →
        (sev.toNat ≤ 3 → ¬low → u.locked 0x0E01 k.val = false → u.openFor 0x0E01 k.val = none →
          ∃ t, exec (.evtSeverity dt h kb bit sev) s = .next t ∧ u.answered t h (.evtSeverity kb bit sev) 0 0 [] ∧
            t.severity ⟨k.val, bit.toNat⟩ = sev.toNat ∧
            t.still = (u.writeBoth 0x0E01 k.val bit.toNat [sev]).still) ∧
        (3 < sev.toNat ∨ low →
          ∃ t, exec (.evtSeverity dt h kb bit sev) s = .next t ∧ t.still = u.still ∧
            u.answered t h (.evtSeverity kb bit sev) 5 18 [])))

/-- R490, R472: in factory test mode EVT_INJECT makes a source occur; with a hold its cause stays active for HOLD_US and is
gone at the hold's end, not before. R488: TEST_MODE enters factory test mode from P3 alone, with no stream, the link
disabled, the unit in no pair's service and the test domain on, and raises FACTORY_TEST; it leaves it on any port; elsewhere
it answers NOT_READY and nothing changes. R489: TEST_BIST starts a sweep of exactly the queues of its targets and waits for
them; without a queue among its targets it is answered at once. What the other targets measure is open. -/
def Obligations.FactoryTests : Prop :=
  (∀ (dt : Nat) (h : Hdr) (k : Fin 53) (bit : Fin 32) (us : Word) (s : State),
      let u := s.ticked dt
      let kb : Byte := BitVec.ofNat 8 k.val
      let bb : Byte := BitVec.ofNat 8 bit.val
      let src : Src := ⟨k.val, bit.val⟩
      (u.runs h (.evtInject kb bb 0 us) → src.defined = true →
        ∃ t, exec (.evtInject dt h kb bb 0 us) s = .next t ∧ t.still = u.still ∧ t.statusBit k bit.val = true ∧
          u.answered t h (.evtInject kb bb 0 us) 0 0 []) ∧
      (u.runs h (.evtInject kb bb 1 us) → src.defined = true → 1 ≤ us.toNat → us.toNat ≤ 1000000 →
        ∃ t, exec (.evtInject dt h kb bb 1 us) s = .next t ∧ t.statusBit k bit.val = true ∧
          (t.ev.blocks[k].cause).getLsbD bit.val = true ∧ (src, u.now + 400 * us.toNat) ∈ t.ev.holds ∧
          u.answered t h (.evtInject kb bb 1 us) 0 0 []) ∧
      (∀ due, u.ev.holds.find? (·.1 == src) = some (src, due) →
        (due ≤ u.now →
          ∃ t, exec (.injectHoldEnd dt k bit) s = .next t ∧ (t.ev.blocks[k].injected).getLsbD bit.val = false ∧
            becomes u { u with ev := { u.ev with holds := u.ev.holds.filter (·.1 != src) } } t []) ∧
        (u.now < due → ∃ t, exec (.injectHoldEnd dt k bit) s = .next t ∧ becomes u u t []))) ∧
  (∀ (dt : Nat) (h : Hdr) (s : State),
      let u := s.ticked dt
      let may := (∀ c : Fin 64, u.streams c = false) ∧ u.au 0x0B01 65535 0 1 = 0 ∧ u.domOn 21 = true
      (u.runs h (.testMode 1) → h.port = .p3 → may →
        ∃ t, exec (.testMode dt h 1) s = .next t ∧ u.answered t h (.testMode 1) 0 0 (leBytes 4 1) ∧ t.source 52 30 = true ∧
          t.still = ({ u with sys := { u.sys with factoryTest := true } }).still) ∧
      (u.runs h (.testMode 1) → h.port ≠ .p3 ∨ ¬may →
        ∃ t, exec (.testMode dt h 1) s = .next t ∧ u.answered t h (.testMode 1) 9 3 [] ∧ t.still = u.still) ∧
      (u.runs h (.testMode 0) → u.ev.holds = [] →
        ∃ t, exec (.testMode dt h 0) s = .next t ∧ u.answered t h (.testMode 0) 0 0 (leBytes 4 0) ∧
          t.still = ({ u with sys := { u.sys with factoryTest := false } }).still)) ∧
  (∀ (dt : Nat) (h : Hdr) (targets : Word) (s : State),
      let u := s.ticked dt
      let b : Body := .testBist targets
      u.runs h b → u.sys.factoryTest = true → u.idlePorts → 1 ≤ targets.toNat → targets.toNat ≤ 63 →
        (targets.toNat % 8 ≠ 0 →
          ∃ t, exec (.testBist dt h targets) s = .next t ∧ u.waits t h b (.bist targets) ∧
            (∀ q ∈ bistQueues targets, t.queues[q].state = 1 ∧ t.queues[q].sweepCorr = 0) ∧
            ∀ q, q ∉ bistQueues targets → t.queues[q] = u.queues[q]) ∧
        (targets.toNat % 8 = 0 →
          ∃ t, exec (.testBist dt h targets) s = .next t ∧ t.queues = u.queues ∧ (t.port h.port).running = none ∧
            ∃ r, (t.port h.port).kept = some r ∧ r.seq = h.seq ∧ r.status = 0))

/-! ### Camera ports -/

/-- R110, R111, R115, R99: the short packets of a streaming line-scan context. A frame start opens a frame and takes note of
its time; a frame end closes it, and with none open raises FRAME_ERR; a line start remembers the number and the jump from
the last one, which raises LINE_NUM_GAP; a generic short packet is only noted. R99, R107, R120: a packet of a virtual
channel that no context has is counted and raises VC_UNMAPPED, whatever it is. -/
def Obligations.ShortPacketsAndUnmappedChannels : Prop :=
  (∀ (dt : Nat) (port vc : Fin 32) (c : Fin 64) (fn : Half) (s : State),
      let u := s.ticked dt
      let v := u.seeVc port vc
      u.hears port vc c → u.lineScan c = true → u.ctxs[c].stopping = false →
        (u.twin.state = .single → u.ctxs[c].frameOpen = false → u.ctxs[c].startAt < u.now →
          ∃ t, exec (.frameStart dt port vc fn) s = .next t ∧
            becomes u ((v.setInlet port fun x => { x with lastFs := time32 (u.captureTime port 0), lost := [] }).setCtx c fun x =>
              { x with
                frame := if x.started then x.frame + 1 else x.frame, started := true, frameOpen := true, inFrame := 0
                firstMark := true, sensorFn := fn, fsTime := u.captureTime port 0, moved := 0, pendingLn := none, jump := 0 }) t []) ∧
        (u.ctxs[c].frameOpen = true →
          ∃ t, exec (.frameEnd dt port vc fn) s = .next t ∧
            becomes u (v.setCtx c fun x => { x with frameOpen := false, jump := 0, pendingLn := none }) t []) ∧
        (u.ctxs[c].frameOpen = false →
          ∃ t, exec (.frameEnd dt port vc fn) s = .next t ∧ becomes u v t [(port.val, 9)]) ∧
        (u.au 0x0201 c 14 1 = 1 → ∀ l : Half, u.ctxs[c].lastLn = some l →
          ∃ t, exec (.lineStartPacket dt port vc fn) s = .next t ∧
            becomes u (v.setCtx c fun x =>
                { x with pendingLn := some fn, jump := if (fn - l - 1).toNat ≤ 256 then (fn - l - 1).toNat else 0 }) t
              (if fn = l + 1 then [] else [(port.val, 10)])) ∧
        (∀ d : Fin 64, ∃ t, exec (.genericShortPacket dt port vc d fn) s = .next t ∧ becomes u v t [])) ∧
  (∀ (dt : Nat) (port vc : Fin 32) (fn : Half) (s : State),
      let u := s.ticked dt
      u.inletOn port = true → (vc.val < 16 → u.ctxAt port vc = none) →
      let e := (u.seeVc port vc).setInlet port fun x => { x with vcUnmapped := satInc 16 x.vcUnmapped }
      (∃ t, exec (.frameEnd dt port vc fn) s = .next t ∧ becomes u e t [(port.val, 4)]) ∧
      (∃ t, exec (.lineStartPacket dt port vc fn) s = .next t ∧ becomes u e t [(port.val, 4)]) ∧
      (∀ (d : Fin 64) (bs : List Byte) (good : Bool), d.val ≠ 0x10 → d.val ≠ 0x11 →
        ∃ t, exec (.nonimagePacket dt port vc d bs good) s = .next t ∧ becomes u e t [(port.val, 4)]))

/-- R107 checks 1 and 2, R108: a long packet whose start or whose header is lost costs the port a line when a context of it
streams: it is counted, the line is dropped, and the reason waits for the next line of the port. R107, R115 to R119, R129,
R130: a good line enters the inlet queue with its tag and its cropped codes; with a bad checksum, or with no space for its
codes, it is dropped whole, counted, and a GAP record takes its place. Either way the line counter moves on, and the other
ports, contexts and queues stay. -/
def Obligations.LinesEnterOrLeaveGaps : Prop :=
  (∀ (dt : Nat) (port : Fin 32) (k : LinePacket) (s : State),
      let u := s.ticked dt
      u.inletOn port = true → u.inlets[port].deskewAsked = false → (∀ c : Fin 64, u.ctxs[c].stopping = false) →
      let cost (v : State) : State := if u.portStreams port then
          v.setInlet port fun x => { x with dropped := satInc 16 x.dropped, lost := x.lost ++ [2] } else v
      let also : List (Nat × Nat) := if u.portStreams port then [(port.val, 8)] else []
      (k.sotGood = false →
        ∃ t, exec (.linePacket dt port k) s = .next t ∧
          becomes u (cost (u.setInlet port fun x => { x with hdrBad := satInc 16 x.hdrBad })) t ((port.val, 1) :: also)) ∧
      (k.sotGood = true → k.header.val = 2 →
        ∃ t, exec (.linePacket dt port k) s = .next t ∧
          becomes u (cost (u.setInlet port fun x => { x with
            lock := u.laneMask port, laneStop := 0, clkActive := u.au 0x0203 port 0 1 == 1
            hdrBad := satInc 16 x.hdrBad })) t ((port.val, 3) :: also))) ∧
  (∀ (dt : Nat) (port : Fin 32) (c : Fin 64) (k : LinePacket) (s : State),
      let u := s.ticked dt
      let size := packetBytes (u.au 0x0201 c 12 2) (bitsPerPixel (u.au 0x0201 c 3 1)) false
      let queued (t : State) (g : LineTag) (codes : List Nat) (n : Nat) : Prop :=
        t.inlets[port].queue = u.inlets[port].queue ++ [{ tag := g, codes }] ∧
          t.queues[inletQueue port].used = u.queues[inletQueue port].used + n ∧
          g.ctx = c.val ∧ g.port = port.val ∧ g.line = u.ctxs[c].line ∧ g.frame = u.ctxs[c].frame ∧
          g.sol = u.captureTime port k.footTicks ∧ t.ctxs[c].line = u.ctxs[c].line + 1 ∧ u.keptApart t port c
      u.lineComes port c k →
        (k.crcGood = true → u.fits port size false = true →
          ∃ t g, exec (.linePacket dt port k) s = .next t ∧
            queued t g ((k.codes.drop (u.au 0x0201 c 10 2)).take (u.au 0x0201 c 12 2)) size ∧
            g.gap = false ∧ g.foot = u.captureTime port 0 ∧ t.inlets[port].dropped = u.inlets[port].dropped) ∧
        (k.crcGood = false → u.fits port 32 true = true →
          ∃ t g, exec (.linePacket dt port k) s = .next t ∧ queued t g [] 32 ∧ g.gap = true ∧ g.reason = 1 ∧
            t.inlets[port].dropped = satInc 16 u.inlets[port].dropped ∧
            t.inlets[port].crcBad = satInc 16 u.inlets[port].crcBad ∧
            t.source port 7 = true ∧ t.source port 8 = true) ∧
        (k.crcGood = true → u.fits port size false = false → u.fits port 32 true = true →
          ∃ t g, exec (.linePacket dt port k) s = .next t ∧ queued t g [] 32 ∧ g.gap = true ∧ g.reason = 4 ∧
            t.inlets[port].dropped = satInc 16 u.inlets[port].dropped ∧
            t.source port 12 = true ∧ t.source port 8 = true))

/-- R120, R107, R99: a non-image packet of a streaming context with a bad checksum is counted and raises CRC_BAD; an
embedded-data packet is kept, up to 256 bytes of them, where the context keeps them; null and blanking packets are ignored.
R98, R102, R103, R125, R126: what the sensor side and the register commands of a port do: a skew sequence starts a sweep on
a D-PHY port; a deskew request waits for the boundary of the port's line-scan context; CNT_CLEAR zeroes the counters and
nothing else; a lane that loses lock raises LOCK_LOST; ULPS entry and exit, and the physical monitor. -/
def Obligations.NonImagePacketsAndPortConditions : Prop :=
  (∀ (dt : Nat) (port vc : Fin 32) (c d : Fin 64) (bs : List Byte) (s : State),
      let u := s.ticked dt
      let v := u.seeVc port vc
      u.hears port vc c →
        (d.val ≠ 0x10 → d.val ≠ 0x11 → ∃ t, exec (.nonimagePacket dt port vc d bs false) s = .next t ∧
          becomes u (v.setInlet port fun x => { x with crcBad := satInc 16 x.crcBad }) t [(port.val, 7)]) ∧
        (d.val = 0x12 → (u.au 0x0201 c 15 1).testBit 0 = true → u.ctxs[c].buffer.frame = u.ctxs[c].frame →
          u.ctxs[c].buffer.fn = u.ctxs[c].sensorFn →
          ∃ t, exec (.nonimagePacket dt port vc d bs true) s = .next t ∧
            becomes u (v.setCtx c fun x => { x with buffer := { x.buffer with emb := (x.buffer.emb ++ bs).take 256 } }) t
              (if 256 < bs.length then [(50, 29)] else [])) ∧
        (d.val = 0x10 ∨ d.val = 0x11 → ∀ good,
          ∃ t, exec (.nonimagePacket dt port vc d bs good) s = .next t ∧ becomes u v t [])) ∧
  (∀ (dt : Nat) (port : Fin 32) (s : State),
      let u := s.ticked dt
      (∀ initial, u.inletOn port = true → u.au 0x0203 port 0 1 = 1 →
        ∃ t, exec (.skewSequence dt port initial) s = .next t ∧
          becomes u (u.setInlet port fun x => { x with deskew := 2, deskewAsked := false }) t []) ∧
      (∀ c : Fin 64, u.inlets[port].deskew ≠ 2 → u.portContext port = some c → u.au 0x0203 port 3 1 ≠ 0 →
        u.prof c 27 1 ≠ 0 → u.streams c = true → u.lineScan c = true →
        ∃ t, exec (.deskewReq dt port) s = .next t ∧
          becomes u (u.setInlet port fun x => { x with deskew := 1, deskewAsked := true }) t []) ∧
      (∃ t, exec (.cntClear dt port) s = .next t ∧
        becomes u (u.setInlet port fun x => { x with
          hdrBad := 0, eccCorr := 0, wcBad := 0, crcBad := 0, vcUnmapped := 0, dtBad := 0, dropped := 0, gaps := 0 }) t []) ∧
      (∀ lanes : BitVec 4, u.inletOn port = true → lanes &&& u.laneMask port ≠ 0 →
        ∃ t, exec (.lockLost dt port lanes) s = .next t ∧
          becomes u (u.setInlet port fun x => { x with lock := x.lock &&& ~~~(lanes &&& u.laneMask port) }) t [(port.val, 0)]) ∧
      (u.inletOn port = true →
        ∃ t, exec (.ulpsEntry dt port) s = .next t ∧
          becomes u (u.setInlet port fun x => { x with ulps := true, lock := 0, laneStop := 0, clkActive := false }) t
            (if u.portStreams port then [(port.val, 17)] else [])) ∧
      (u.inlets[port].ulps = true →
        ∃ t, exec (.ulpsExit dt port) s = .next t ∧
          becomes u (u.setInlet port fun x => { x with ulps := false, laneStop := u.laneMask port }) t []) ∧
      (∀ tripped, ∃ t, exec (.phyFault dt port tripped) s = .next t ∧
        t.quiet = (u.setInlet port fun x => { x with physFault := tripped }).quiet))

/-- R157, R123, R126: with space for a GAP record the one that waits enters the queue; a streaming context without a line
for STALL_TIMEOUT raises NO_DATA once. R102, R105: a deskew sweep ends. With every eye wide enough and every tap within its
limits the targets are taken, kept in the working calibration set, and approached step by step; otherwise the sweep failed
and nothing moves. -/
def Obligations.WaitingGapsAndSweeps : Prop :=
  (∀ (dt : Nat) (port : Fin 32) (c : Fin 64) (g : LineTag) (s : State),
      let u := s.ticked dt
      (u.inlets[port].waiting = [g] → g.gap = true → u.fits port 32 true = true →
        ∃ t, exec (.pendingGapWrite dt port) s = .next t ∧ t.inlets[port].waiting = [] ∧
          t.inlets[port].queue = u.inlets[port].queue ++ [{ tag := g }] ∧
          t.inlets[port].gaps = satInc 16 u.inlets[port].gaps ∧
          t.queues[inletQueue port].used = u.queues[inletQueue port].used + 32 ∧ u.keptApart t port c ∧ t.ctxs = u.ctxs) ∧
      (u.fits port 32 true = false → ∃ t, exec (.pendingGapWrite dt port) s = .next t ∧ becomes u u t []) ∧
      (u.streams c = true → u.ctxs[c].noData = false → u.au 0x0201 c 16 4 ≠ 0 →
        u.ctxs[c].lineAt + 400 * u.au 0x0201 c 16 4 ≤ u.now → u.portOf c < 32 →
        ∃ t, exec (.noData dt c) s = .next t ∧ becomes u (u.setCtx c fun x => { x with noData := true }) t [(u.portOf c, 15)]) ∧
      (u.now < u.ctxs[c].lineAt + 400 * u.au 0x0201 c 16 4 → ∃ t, exec (.noData dt c) s = .next t ∧ becomes u u t [])) ∧
  (∀ (dt : Nat) (port : Fin 32) (taps eyes : List Nat) (s : State),
      let u := s.ticked dt
      let skew := Config.freeMeasure u.freeCtr % 1024
      u.inlets[port].deskew = 2 → u.nvm.runs_ = [] →
        (u.sweepGood port taps eyes skew = true →
          ∃ t, exec (.deskewSweepEnd dt port taps eyes) s = .next t ∧ t.inlets[port].deskew = 3 ∧ t.inlets[port].skew = skew ∧
            (∀ i : Fin 4, i.val < u.au 0x0203 port 1 1 → t.inlets[port].targets[i] = taps.getD i.val 0 % 64) ∧
            t.inlets[port].taps = u.inlets[port].taps ∧ t.nvm.changes = u.nvm.changes + 1 ∧ t.source port 13 = true ∧
            (∀ q : Fin 32, q ≠ port → t.inlets[q] = u.inlets[q])) ∧
        (u.sweepGood port taps eyes skew = false →
          ∃ t, exec (.deskewSweepEnd dt port taps eyes) s = .next t ∧ t.inlets[port].deskew = 0 ∧
            t.inlets[port].targets = u.inlets[port].targets ∧ t.inlets[port].taps = u.inlets[port].taps ∧ t.nvm = u.nvm ∧
            t.source port 14 = true ∧ (∀ q : Fin 32, q ≠ port → t.inlets[q] = u.inlets[q])))

/-! ### Sensors and exposure -/

/-- R229, R232, R242, R248: SENS_WRITE to a sensor without a routing entry is a bad parameter, with its bus off or released
NOT READY; a posted write joins its bus's queue and is answered at once, and is refused when 16 wait; a blocking one joins
it and waits. R233, R234: the first SENS_READ starts a fetch and answers RETRY; while it runs a repetition answers RETRY;
once it has ended a repetition within 10 ms takes its bytes, or its failure, and empties the slot; the hold then ends by
itself. -/
def Obligations.SensorWritesAndReads : Prop :=
  (∀ (dt : Nat) (h : Hdr) (sensor reg : Half) (data : List Byte) (s : State),
      let u := s.ticked dt
      let b : Body := .sensWrite sensor reg data
      let bus := u.busOf sensor.toNat
      let work (k : WorkKind) : Work := { kind := k, sensor := sensor.toNat, txns := [{ reg, data }], at_ := none }
      u.runs h b → (u.port h.port).fetch = none → u.twinPair = false →
        (u.routed sensor.toNat = false →
          ∃ t, exec (.sensWrite dt h sensor reg data) s = .next t ∧ u.answered t h b 5 16 [] ∧ t.still = u.still) ∧
        (u.routed sensor.toNat = true → u.sluice.released = true ∨ u.busU bus 0 1 = 0 →
          ∃ t, exec (.sensWrite dt h sensor reg data) s = .next t ∧ u.answered t h b 9 3 [] ∧ t.still = u.still) ∧
        (u.routed sensor.toNat = true → u.sluice.released = false → u.busU bus 0 1 ≠ 0 → 1 ≤ data.length → data.length ≤ 64 →
          (u.busU bus 1 1 = 1 → u.sluice.buses[bus].posted < 16 →
            ∃ t, exec (.sensWrite dt h sensor reg data) s = .next t ∧ u.answered t h b 0 0 [] ∧
              t.still = (u.setBus bus fun x => { x with
                queue := x.queue ++ [work (.posted h.port h.seq false)] }).still) ∧
          (u.busU bus 1 1 = 1 → 16 ≤ u.sluice.buses[bus].posted →
            ∃ t, exec (.sensWrite dt h sensor reg data) s = .next t ∧ u.answered t h b 1 0x0503 [] ∧ t.still = u.still ∧
              t.source 50 12 = true) ∧
          (u.busU bus 1 1 ≠ 1 →
            ∃ t, exec (.sensWrite dt h sensor reg data) s = .next t ∧ u.waits t h b (.sluice bus) ∧
              t.still = (u.setBus bus fun x => { x with queue := x.queue ++ [work (.write h.port)] }).still))) ∧
  (∀ (dt : Nat) (h : Hdr) (sensor reg : Half) (count : Byte) (s : State),
      let u := s.ticked dt
      let b : Body := .sensRead sensor reg count
      let bus := u.busOf sensor.toNat
      let mine (f : Fetch) : Prop := f.seq = h.seq ∧ f.sensor = sensor.toNat ∧ f.reg = reg.toNat ∧ f.count = count.toNat
      (u.runs h b → u.routed sensor.toNat = true → u.sluice.released = false → u.busU bus 0 1 ≠ 0 → 1 ≤ count.toNat →
        count.toNat ≤ 64 → u.twinPair = false →
          ((u.port h.port).fetch = none →
            ∃ t f, exec (.sensRead dt h sensor reg count) s = .next t ∧ (t.port h.port).fetch = some f ∧ mine f ∧
              f.result = none ∧ (t.port h.port).kept = some { seq := h.seq, check := h.check, status := 1, bytes := u.replyTo h b 1 0x0501 [] } ∧
              t.still = (u.setBus bus fun x => { x with
                queue := x.queue ++ [{ kind := .fetch h.port, sensor := sensor.toNat, txns := [{ reg, read := count.toNat }] }] }).still) ∧
          (∀ f, (u.port h.port).fetch = some f → mine f → f.result = none →
            ∃ t, exec (.sensRead dt h sensor reg count) s = .next t ∧ u.answered t h b 1 0x0502 [] ∧ t.still = u.still) ∧
          (∀ f bytes, (u.port h.port).fetch = some f → mine f → f.result = some (0, bytes) → u.now < f.doneAt + 4000000 →
            ∃ t, exec (.sensRead dt h sensor reg count) s = .next t ∧ (t.port h.port).fetch = none ∧ t.still = u.still ∧
              u.answered t h b 0 0 (pad4 (padTo count.toNat bytes))) ∧
          (∀ f code bytes, code ≠ 0 → (u.port h.port).fetch = some f → mine f → f.result = some (code, bytes) →
            u.now < f.doneAt + 4000000 →
            ∃ t, exec (.sensRead dt h sensor reg count) s = .next t ∧ (t.port h.port).fetch = none ∧ t.still = u.still ∧
              u.answered t h b 8 code [])) ∧
      (∀ p f, (u.port p).fetch = some f → f.result.isSome = true → f.doneAt + 4000000 ≤ u.now →
        ∃ t, exec (.fetchHoldExpiry dt p) s = .next t ∧
          becomes u (u.setPort p fun q => { q with fetch := none }) t [(50, 13)]) ∧
      (∀ p, (u.port p).fetch = none → ∃ t, exec (.fetchHoldExpiry dt p) s = .next t ∧ becomes u u t []))

/-- R236, R244, R245: SENS_SEQ joins its bus as one guarded sequence and waits; SENS_ERRLOG gives the posted writes that
failed, and SL_PLOG_ACK drops those up to a serial. R209 to R212: EXPO_SET of a context whose template writes no register
and that does not stream comes into force at once, under the next set ID, and is answered; an exposure time out of range is
a bad parameter and takes no ID. -/
def Obligations.SensorSequencesAndExposure : Prop :=
  (∀ (dt : Nat) (h : Hdr) (sensor : Half) (flags : Byte) (writes : List SeqWrite) (count : Word) (serial : Half) (s : State),
      let u := s.ticked dt
      let b : Body := .sensSeq sensor flags writes
      let bus := u.busOf sensor.toNat
      (u.runs h b → (u.port h.port).fetch = none → u.routed sensor.toNat = true → u.sluice.released = false → u.busU bus 0 1 ≠ 0 →
        u.twinPair = false → 1 ≤ writes.length → writes.length ≤ 16 → flags.toNat ≤ 1 →
          ((∀ w ∈ writes, 1 ≤ w.size.toNat ∧ w.size.toNat ≤ 4) →
            ∃ t, exec (.sensSeq dt h sensor flags writes) s = .next t ∧ u.waits t h b (.sluice bus) ∧
              t.still = (u.setBus bus fun x => { x with queue := x.queue ++ [{
                kind := .seq h.port (flags == 1), sensor := sensor.toNat
                txns := writes.map fun w => { reg := w.reg, data := (leWord w.data).take w.size.toNat } }] }).still) ∧
          (∀ w ws, writes = w :: ws → 4 < w.size.toNat →
            ∃ t, exec (.sensSeq dt h sensor flags writes) s = .next t ∧ u.answered t h b 5 22 [] ∧ t.still = u.still)) ∧
      (u.runs h (.sensErrlog 0xFFFFFFFF count) → 1 ≤ count.toNat → count.toNat ≤ 13 → ∀ e es, u.sluice.plog = e :: es →
        ∃ t, exec (.sensErrlog dt h 0xFFFFFFFF count) s = .next t ∧ t.still = u.still ∧
          u.answered t h (.sensErrlog 0xFFFFFFFF count) 0 0
            (leHalf e.serial ++ leBytes 1 (e :: es).length ++ leBytes 1 u.sluice.plogLost ++ leHalf u.sluice.plogNext ++
              leBytes 1 (min count.toNat (e :: es).length) ++ leBytes 1 0 ++
              ((e :: es).take count.toNat).flatMap PlogEntry.bytes)) ∧
      (∃ t, exec (.slPlogAck dt serial) s = .next t ∧
        becomes u { u with sluice := { u.sluice with
          plog := u.sluice.plog.filter fun e => !behind 16 e.serial.toNat serial.toNat } } t [])) ∧
  (∀ (dt : Nat) (h : Hdr) (ctx : Fin 64) (ns gain : Word) (s : State),
      let u := s.ticked dt
      let cx : Half := BitVec.ofNat 16 ctx.val
      let b : Body := .expoSet cx 0 0 ns gain
      let unit := u.tmpl ctx 8 4
      let till := (u.safeNs ctx).2
      u.runs h b → till ≠ 0 → (u.safeNs ctx).1 ≤ till →
      u.expoTxns ctx (exposureCount unit ns.toNat) gain.toNat = [] →
        (100 ≤ ns.toNat → ns.toNat ≤ 100000000 → exposureCount unit ns.toNat ≤ u.tmpl ctx 12 4 → gain.toNat ≤ u.tmpl ctx 16 4 →
          u.sluice.released = false → u.routed (u.prof ctx 4 2) = false → u.expo.ctxs[ctx].sets = [] → u.streams ctx = false →
          u.trigMode ctx ≠ 2 → u.idlePorts →
          ∃ t, exec (.expoSet dt h cx 0 0 ns gain) s = .next t ∧
            t.expo.ctxs[ctx].baseId = u.expo.ctxs[ctx].nextId ∧
            t.expo.ctxs[ctx].baseE = quantisedE unit (exposureCount unit ns.toNat) ∧
            t.expo.ctxs[ctx].nextId = nextSetId u.expo.ctxs[ctx].nextId ∧ t.expo.ctxs[ctx].sets = [] ∧
            (∀ d : Fin 64, d ≠ ctx → t.expo.ctxs[d].baseId = u.expo.ctxs[d].baseId) ∧
            u.answered t h b 0 0 (leHalf u.expo.ctxs[ctx].nextId ++ [0, 0] ++ leWord 0 ++ leWord u.time)) ∧
        (ns.toNat < 100 ∨ 100000000 < ns.toNat →
          ∃ t, exec (.expoSet dt h cx 0 0 ns gain) s = .next t ∧ u.answered t h b 5 24 [] ∧ t.still = u.still))

/-- R231, R237, R239: on an idle bus the oldest work that is not booked starts, guarded work with the bus's semaphore taken
for the Sluice; without the semaphore it begins to wait; a booking that is due starts. R232, R240, R241: how a transaction
ends. Acknowledged, a posted write leaves the bus; an address NACK is repeated after NACK_GAP while repeats are left, and
then once more busy; a data NACK, a stretched clock and a bus that hangs fail it with their code, and the rest of its work
is not issued. -/
def Obligations.BusWork : Prop :=
  (∀ (dt : Nat) (bus : Fin 32) (w : Work) (ws : List Work) (s : State),
      let u := s.ticked dt
      let began (t : State) (sems : Prop) : Prop :=
        t.sluice.buses[bus].cur = some w ∧ t.sluice.buses[bus].busy = true ∧ t.sluice.buses[bus].queue = ws ∧ sems ∧
          (∀ d : Fin 32, d ≠ bus → t.sluice.buses[d] = u.sluice.buses[d]) ∧ t.ctxs = u.ctxs ∧ t.expo = u.expo
      u.idlePorts → u.busIdle bus = true → u.sluice.buses[bus].stuck = false → u.sluice.buses[bus].mode ≠ 2 →
      u.sluice.buses[bus].queue = w :: ws → w.kind.isExpo = false → w.at_ = none →
        (w.booked = false → w.kind.guarded = false →
          ∃ t, exec (.sluiceTransactionStart dt bus) s = .next t ∧ began t (t.mb.sems = u.mb.sems)) ∧
        (w.booked = false → w.kind.guarded = true → u.semFree bus = true →
          ∃ t, exec (.sluiceTransactionStart dt bus) s = .next t ∧
            began t (t.mb.sems[busSem bus] = 0x40 ∧ ∀ n, n ≠ busSem bus → t.mb.sems[n] = u.mb.sems[n])) ∧
        (w.booked = false → w.kind.guarded = true → u.semFree bus = false →
          ∃ t, exec (.sluiceTransactionStart dt bus) s = .next t ∧
            becomes u (u.setBus bus fun x => { x with semWait := some u.now }) t []) ∧
        (w.booked = true → w.kind.guarded = false →
          ∃ t, exec (.sluiceBookingDue dt bus) s = .next t ∧ began t (t.mb.sems = u.mb.sems))) ∧
  (∀ (dt : Nat) (bus : Fin 32) (w : Work) (p : Port) (seq : Word) (x : Txn) (s : State),
      let u := s.ticked dt
      let y := u.sluice.buses[bus]
      let ended (t : State) (code : Nat) : Prop :=
        t.sluice.buses[bus].cur = none ∧ t.sluice.buses[bus].busy = false ∧ t.sluice.buses[bus].lastCode = code ∧
          t.sluice.buses[bus].queue = y.queue ∧ (∀ d : Fin 32, d ≠ bus → t.sluice.buses[d] = u.sluice.buses[d])
      u.idlePorts → y.cur = some w → y.busy = true → w.kind = .posted p seq false → w.txns = [x] → w.done = 0 →
      w.failed = none → u.semHeld bus = false → y.mode = u.busU bus 0 1 →
        (∃ t, exec (.sluiceTransactionEnd dt bus (.ack [])) s = .next t ∧ ended t y.lastCode ∧
          t.sluice.transfers = satInc 32 u.sluice.transfers ∧ t.sluice.plog = u.sluice.plog) ∧
        (y.repeats < u.busU bus 2 1 →
          ∃ t, exec (.sluiceTransactionEnd dt bus .addrNack) s = .next t ∧
            becomes u ({ u with sluice := { u.sluice with
              transfers := satInc 32 u.sluice.transfers, nacks := satInc 16 u.sluice.nacks } }.setBus bus fun z => { z with
                busy := false, repeats := z.repeats + 1, retryAt := some (u.now + 400 * u.busU bus 10 2) }) t []) ∧
        (u.busU bus 2 1 ≤ y.repeats →
          ∃ t, exec (.sluiceTransactionEnd dt bus .addrNack) s = .next t ∧ ended t 1 ∧ t.source 50 0 = true ∧
            t.source 50 10 = true) ∧
        (y.since + 400 * u.busU bus 12 4 < u.now →
          ∃ t, exec (.stretchTimeout dt bus) s = .next t ∧ ended t 4 ∧ t.source 50 3 = true ∧
            t.sluice.timeouts = satInc 16 u.sluice.timeouts) ∧
        (u.now ≤ y.since + 400 * u.busU bus 12 4 → ∃ t, exec (.stretchTimeout dt bus) s = .next t ∧ becomes u u t []) ∧
        (∃ t, exec (.busStuck dt bus) s = .next t ∧ ended t 5 ∧ t.sluice.buses[bus].stuck = true ∧ t.source 50 4 = true))

/-- R241: after NACK_GAP the transaction is on the bus again, and not before; a bus whose lines are free again is resumed;
the recovery that frees SDA is reported. R230, R237: the semaphore that the Sluice waits for is taken when it is free; a
wait of more than 100 µs is reported once; address assignment gives static and discovered addresses to the entries of its
bus, and reports a target that no entry knows; an interrupt request of an I3C bus is refused and reported. -/
def Obligations.BusRecoveryAndSemaphores : Prop :=
  (∀ (dt : Nat) (bus : Fin 32) (s : State),
      let u := s.ticked dt
      let y := u.sluice.buses[bus]
      (∀ due, u.idlePorts → y.retryAt = some due → u.sluiceRuns = true → y.stuck = false →
        (due ≤ u.now →
          ∃ t, exec (.nackGapRepeat dt bus) s = .next t ∧
            becomes u (u.setBus bus fun x => { x with busy := true, retryAt := none, since := u.now }) t []) ∧
        (u.now < due → ∃ t, exec (.nackGapRepeat dt bus) s = .next t ∧ becomes u u t [])) ∧
      (∃ t, exec (.busResume dt bus) s = .next t ∧ becomes u (u.setBus bus fun x => { x with stuck := false }) t []) ∧
      (∀ released, ∃ t, exec (.sdaRecovery dt bus released) s = .next t ∧
        becomes u u t (if released && y.mode != 0 then [(50, 5)] else []))) ∧
  (∀ (dt : Nat) (bus : Fin 32) (s : State),
      let u := s.ticked dt
      let y := u.sluice.buses[bus]
      (∀ w ws since, y.semWait = some since → y.queue = w :: ws → w.booked = false → w.at_ = none → w.kind.guarded = true →
        w.kind.isExpo = false → y.cur = none → y.busy = false → u.sluiceRuns = true → y.stuck = false → y.mode ≠ 2 →
        (∀ q ∈ ws, q.booked = false) →
        (u.semFree bus = true →
          ∃ t, exec (.sluiceSemGrant dt bus) s = .next t ∧ t.sluice.buses[bus].cur = some w ∧
            t.sluice.buses[bus].semWait = none ∧ t.mb.sems[busSem bus] = 0x40) ∧
        (u.semFree bus = false → ∃ t, exec (.sluiceSemGrant dt bus) s = .next t ∧ becomes u u t [])) ∧
      (∀ since, y.semWait = some since → y.semLong = false →
        (since + 40000 < u.now →
          ∃ t, exec (.semWaitLong dt bus) s = .next t ∧
            becomes u (u.setBus bus fun x => { x with semLong := true }) t [(50, 16)]) ∧
        (u.now ≤ since + 40000 → ∃ t, exec (.semWaitLong dt bus) s = .next t ∧ becomes u u t [])) ∧
      (∀ found, y.daaDue = true → y.mode = 2 → u.busU bus 0 1 = 2 → y.cur = none → u.semFree bus = true →
        ∃ t, exec (.daaProcedure dt bus found) s = .next t ∧ t.sluice.buses[bus].daaDue = false ∧
          (∀ i : Fin 128, u.routed i = true → u.busOf i = bus → u.route i 2 1 = 1 →
            t.sluice.addrs[i] = some (u.route i 4 1)) ∧
          (∀ i : Fin 128, u.routed i = true → u.busOf i ≠ bus → t.sluice.addrs[i] = u.sluice.addrs[i])) ∧
      (∃ t, exec (.scbIbiRequest dt bus) s = .next t ∧ becomes u u t (if y.mode = 2 then [(50, 9)] else [])))

/-! ### Queues, runnels, views and the merge -/

/-- R132, R137, R140, R141: a crossing shows the reader what was committed, or gives the writer the storage that was
released; a flush is requested by index, and takes effect; a sweep that ends clean returns its queue to service empty, and
one without a repair row left takes it out of service, with its source held. R135, R136: a failed queue check holds its
source and flushes the queue, and recovery begins; a queue that is not in service is left alone. -/
def Obligations.QueuesCrossFlushAndFail : Prop :=
  (∀ (dt : Nat) (p : Fin 32) (q : Fin 43) (s : State),
      let u := s.ticked dt
      let i := inletQueue p
      (∃ t, exec (.pointerCrossing dt i true) s = .next t ∧ t.inlets[p].seen = u.inlets[p].queue.length ∧
        t.queues = u.queues ∧ t.ctxs = u.ctxs ∧ t.runnels = u.runnels) ∧
      (∃ t, exec (.pointerCrossing dt q false) s = .next t ∧
        t.quiet = (u.setQueue q fun x => { x with used := x.used - x.freed, freed := 0 }).quiet) ∧
      (∃ t, exec (.qFlush dt q.val) s = .next t ∧
        becomes u (u.setQueue q fun x => { x with state := if x.state = 2 then 3 else x.state }) t []) ∧
      ((∀ r : Fin 8, u.runnels[r].cur = none) → u.queues[i].state = 3 →
        ∃ t, exec (.queueFlush dt i) s = .next t ∧
          becomes u ((u.setInlet p fun x => { x with queue := [], seen := 0 }).setQueue i fun x => { x with
            state := 2, used := 0, freed := 0
            flushed := satAdd 16 x.flushed (u.inlets[p].queue.filter fun k => !k.taken).length }) t []) ∧
      (u.queues[q].state ≠ 3 → ∃ t, exec (.queueFlush dt q) s = .next t ∧ becomes u u t []) ∧
      (u.idlePorts → u.queues[q].state = 1 ∨ u.queues[q].state = 4 → ∀ corrected,
        ∃ t, exec (.queueSweepEnd dt q (.clean corrected)) s = .next t ∧
          becomes u (u.setQueue q fun x => { x with
            state := 2, used := 0, freed := 0, sweepCorr := satAdd 16 x.sweepCorr corrected }) t []) ∧
      (u.idlePorts → u.queues[i].state = 1 ∨ u.queues[i].state = 4 →
        ∃ t, exec (.queueSweepEnd dt i .outOfService) s = .next t ∧
          becomes u (u.setQueue i fun x => { x with state := 5, repairLeft := 0 }) t [(p.val, 18)])) ∧
  (∀ (dt : Nat) (p : Fin 32) (q : Fin 43) (s : State),
      let u := s.ticked dt
      let i := inletQueue p
      let failed (n : Nat) (x : PQueue) : PQueue :=
        { x with state := 4, checkFail := true, used := 0, freed := 0, flushed := satAdd 16 x.flushed n }
      ((∀ r : Fin 8, u.runnels[r].cur = none) → u.queues[i].state = 2 ∨ u.queues[i].state = 3 →
        ∃ t, exec (.queueCheckFail dt i) s = .next t ∧
          becomes u ((u.setInlet p fun x => { x with queue := [], seen := 0 }).setQueue i
            (failed (u.inlets[p].queue.filter fun k => !k.taken).length)) t [(p.val, 18)]) ∧
      (u.queues[(40 : Fin 43)].state = 2 ∨ u.queues[(40 : Fin 43)].state = 3 →
        ∃ t, exec (.queueCheckFail dt 40) s = .next t ∧
          becomes u ({ u with link := { u.link with replay := [], resend := 0 } }.setQueue 40 (failed u.link.replay.length)) t
            [(48, 30)]) ∧
      (u.queues[q].state ≠ 2 → u.queues[q].state ≠ 3 → ∃ t, exec (.queueCheckFail dt q) s = .next t ∧ becomes u u t []))

/-- R153: a runnel that has not decided yet takes, of all contexts with an item for it, one whose slack is the smallest;
with none, or with its record disabled, it decides nothing. R151, R155: the item chosen starts when the runnel is free: its
deadline is noted, a late start is counted and raises DEADLINE_MISS. R149: at its end the runnel is free. R166: an item of
more than 10 ms is reported once. -/
def Obligations.ItemsOfARunnel : Prop :=
  (∀ (dt : Nat) (r : Fin 8) (s : State),
      let u := s.ticked dt
      let v := u.markHeads
      (u.runnelOn r = true → u.runnels[r].next = none → ∀ (c : Fin 64) (k : InPacket) (ks : List InPacket),
        v.candidate r c = k :: ks →
        ∃ t i, exec (.runnelDecision dt r) s = .next t ∧ t.runnels[r].next = some i ∧ v.candidate r i.ctx ≠ [] ∧
          v.slack i.deadline ≤ v.slack (k.tag.deadline.getD (v.itemDeadline k.tag)) ∧
          t.runnels[r].cur = u.runnels[r].cur ∧ t.queues = u.queues ∧ ∀ w : Fin 8, w ≠ r → t.runnels[w] = u.runnels[w]) ∧
      (u.au 0x0302 r 0 1 ≠ 1 → ∃ t, exec (.runnelDecision dt r) s = .next t ∧ t.runnels = u.runnels ∧ t.queues = u.queues)) ∧
  (∀ (dt : Nat) (r : Fin 8) (i : Item) (s : State),
      let u := s.ticked dt
      let x := u.runnels[r]
      (x.next = some i → x.cur = none → i.area = false →
        ∃ t, exec (.itemStart dt r) s = .next t ∧ t.runnels[r].cur = some { i with startAt := u.now } ∧
          t.runnels[r].next = none ∧ t.runnels[r].lastCtx = some i.ctx ∧ t.runnels[r].curDl = time32 i.deadline ∧
          t.runnels[r].misses = (if u.slack i.deadline < 0 then satInc 16 x.misses else x.misses) ∧
          (u.slack i.deadline < 0 → t.source (32 + r.val) 1 = true) ∧
          t.inlets = u.inlets ∧ t.queues = u.queues ∧ t.ctxs = u.ctxs ∧ ∀ w : Fin 8, w ≠ r → t.runnels[w] = u.runnels[w]) ∧
      (u.idlePorts → x.cur = some i → x.state ≠ 4 → itemComplete (u.curPackets r) = true →
        ∃ t, exec (.itemEnd dt r) s = .next t ∧ t.runnels[r].cur = none ∧ t.runnels[r].watched = false) ∧
      (x.cur = some i → itemComplete (u.curPackets r) = false → ∃ t, exec (.itemEnd dt r) s = .next t ∧ becomes u u t []) ∧
      (x.cur = some i → i.startAt + ticksOfMs 10 < u.now → x.watched = false →
        ∃ t, exec (.runnelWatchdog dt r) s = .next t ∧
          becomes u (u.setRunnel r fun x => { x with watched := true }) t [(32 + r.val, 11)]) ∧
      (x.state = 3 → itemComplete (u.curPackets r) = true →
        ∃ t, exec (.stripLineArrival dt r) s = .next t ∧ becomes u (u.setRunnel r fun x => { x with state := 2 }) t []))

/-- R161, R146, R221, R273: a map block comes ahead of its strip, or too late for it, and then GAP lines replace the strip;
a context moves with leave, raising CARRY_LOST; a record in publication becomes the latest one; a resampler check spoils the
row of its view. -/
def Obligations.MapBlocksMovesAndRecords : Prop :=
∀ (dt : Nat) (r : Fin 8) (c : Fin 64) (s : State),
    let u := s.ticked dt
    let x := u.runnels[r]
    (x.state ≠ 4 →
      ∃ t, exec (.mapBlockComplete dt r) s = .next t ∧ becomes u (u.setRunnel r fun x => { x with mapReady := true }) t []) ∧
    (x.state = 4 → x.stallAt + ticksOfUs (u.au 0x0302 r 4 4) ≤ u.now →
      ∃ t, exec (.mapTimeout dt r) s = .next t ∧
        becomes u (u.setRunnel r fun x => { x with
          stallCycles := satAdd 32 x.stallCycles ((u.now - x.stallAt) * 3), state := 2
          cur := x.cur.map fun i => { i with replaced := true }, mapTimeouts := satInc 16 x.mapTimeouts }) t
          [(32 + r.val, 4)]) ∧
    (x.state = 4 → u.now < x.stallAt + ticksOfUs (u.au 0x0302 r 4 4) →
      ∃ t, exec (.mapTimeout dt r) s = .next t ∧ becomes u u t []) ∧
    (u.ctxs[c].moving = true → u.ctxs[c].runnel ≠ u.au 0x0301 c 0 1 → u.au 0x0301 c 0 1 < 8 →
      u.inlets[u.itemPort c].queue = [] → (∀ w : Fin 8, u.runnels[w].cur = none) →
      (u.holds fun w => match w with | .move d => d == c | _ => false) = true →
      ∃ t, exec (.contextMove dt c) s = .next t ∧ t.ctxs[c].runnel = u.au 0x0301 c 0 1 ∧ t.ctxs[c].moving = false ∧
        t.source (32 + u.au 0x0301 c 0 1) 8 = true ∧ t.carries[c].lostLines = 2 ∧
        ∀ d : Fin 64, d ≠ c → t.ctxs[d] = u.ctxs[d] ∧ t.carries[d] = u.carries[d]) ∧
    (∀ d k rest, x.publish = (d, k) :: rest →
      ∃ t, exec (.statsPublish dt r) s = .next t ∧
        becomes u { u.setRunnel r fun x => { x with publish := rest } with
          stats := upd u.stats d fun x => { x with previous := x.latest, latest := some k } } t []) ∧
    (u.runnelOf c = r.val →
      ∃ t, exec (.rsCheck dt c) s = .next t ∧
        becomes u { u.setRunnel r fun x => { x with corrCtx := c.val, corrBit := 23 } with
          views := upd u.views c fun x => { x with spoiled := x.active } } t [(32 + r.val, 23)])

/-- R283, R289, R291: the first view row of a runnel's path reaches Confluence: one that no enabled channel takes is
forgotten; one in time, in order and with space is staged with its arrival time, in its row that is still open or that it
completed. R285, R287, R295: the oldest row is sealed at its deadline with what has arrived, and is released when it is
sealed, not before; R296, R300: a released row that waits for the Weir and a view that delivers nothing are reported. R291,
R293, R297: a staged block drains to the bytes of its slot, and no other byte of the memory changes; R135, R166, R282: a
failed check of held state raises its source. -/
def Obligations.RowsOfTheGrid : Prop :=
  (∀ (dt : Nat) (r : Fin 8) (q : ViewRow) (rest : List ViewRow) (s : State),
      let u := s.ticked dt
      let block := blockBytes q.count (u.usedBands q.row q.view).length
      u.runnels[r].path = q :: rest → u.idlePorts → u.clock.ext < u.rowDeadline q.row →
        (u.feeds q.row q.view = false →
          ∃ t, exec (.viewRowArrival dt r) s = .next t ∧ becomes u (u.setRunnel r fun x => { x with path := rest }) t []) ∧
        (u.feeds q.row q.view = true → u.cf.state = 1 → u.cf.first ≤ q.row → q.row < u.cf.oldest + basinRows u.recs.active →
          u.cf.oldest ≤ q.row → u.isSealed q.row = false → (u.collected q.row).has q.view = false → q.odd = false →
          (∀ p, u.cf.prev[q.view] = some p → p < q.row) → u.stagingFill + block ≤ 4194304 →
          ∃ t, exec (.viewRowArrival dt r) s = .next t ∧ t.runnels[r].path = rest ∧
            t.cf.staged = u.cf.staged ++ [(q.view, q.row, block)] ∧ t.cf.prev[q.view] = some q.row ∧ t.lpddr = u.lpddr ∧
            ∃ a : Arrival, a.vr = q ∧ a.at_ = u.clock.ext ∧
              (a ∈ (t.collected q.row).arrivals ∨ ∃ w ∈ t.cf.sealed, w.row = q.row ∧ a ∈ w.arrivals))) ∧
  (∀ (dt : Nat) (v : Fin 64) (s : State),
      let u := s.ticked dt
      (u.cf.state = 1 → u.isSealed u.cf.oldest = false → u.rowDeadline u.cf.oldest ≤ u.clock.ext → u.cf.oldest ≤ u.cf.top →
        ∃ t w, exec (.rowDeadlineSeal dt) s = .next t ∧ w ∈ t.cf.sealed ∧ w.row = u.cf.oldest ∧ w.byDeadline = true ∧
          w.arrivals = (u.collected u.cf.oldest).arrivals ∧ t.cf.oldest = u.cf.oldest) ∧
      (∀ q : SealedRow, u.cf.state = 1 → (u.cf.sealed.find? fun q => q.row == u.cf.oldest) = some q →
        ∃ t, exec (.rowRelease dt [] 0) s = .next t ∧ t.cf.oldest = u.cf.oldest + 1 ∧
          t.cf.out = u.cf.out ++ [(u.mergeRow q []).1] ∧ t.cf.releasedAt = u.now ∧ t.lpddr = u.lpddr ∧ t.weir.held = u.weir.held) ∧
      (u.cf.state = 1 → (u.cf.sealed.find? fun q => q.row == u.cf.oldest) = none →
        ∃ t, exec (.rowRelease dt [] 0) s = .next t ∧ becomes u u t []) ∧
      (∀ m ms, u.cf.out = m :: ms → m.at_ + ticksOfUs 25 < u.now →
        ∃ t, exec (.stallOut dt) s = .next t ∧ becomes u u t [(46, 12)]) ∧
      (1024 ≤ u.cf.quiet[v] → u.cf.silent.getLsbD v.val = false →
        ∃ t, exec (.viewSilent dt v) s = .next t ∧
          becomes u (u.setCf fun f => { f with silent := f.silent ||| (1#64 <<< v.val) }) t [(46, 17)])) ∧
  (∀ (dt : Nat) (a : Arrival) (n : Nat) (es : List (Fin 64 × Int × Nat)) (r : Fin 8) (q : Fin 43) (s : State),
      let u := s.ticked dt
      let k := a.vr.row
      let at_ := u.basinBase + (wrapOf 32 k % basinRows u.recs.active) * u.slotBytes k + u.blocksBelow k a.vr.view.val
      let bytes := u.blockOf a
      (Memory.wf zeroByte u.lpddr = true → u.cf.staged = (a.vr.view, k, n) :: es →
        u.cf.collecting = [{ row := k, arrivals := [a] }] →
        ∃ t, exec (.basinStagingDrain dt 1) s = .next t ∧ t.cf.staged = es ∧
          (∀ i, i < bytes.length → Memory.read zeroByte t.lpddr (at_ + i) = bytes.getD i 0) ∧
          (∀ x, x < at_ ∨ at_ + bytes.length ≤ x → Memory.read zeroByte t.lpddr x = Memory.read zeroByte u.lpddr x) ∧
          t.runnels = u.runnels ∧ t.weir = u.weir) ∧
      (∃ t, exec (.parityError dt .merge) s = .next t ∧ becomes u u t [(46, 28)]) ∧
      (∃ t, exec (.parityError dt (.bank r)) s = .next t ∧ becomes u u t [(32 + r.val, 9)]) ∧
      (∃ t, exec (.parityError dt (.queueWord q)) s = .next t ∧
        becomes u (u.setQueue q fun x => { x with serviceCorr := satInc 16 x.serviceCorr }) t []))

/-- R304, R320, R318, R356: the Weir takes the next released row when the pieces of the last are written; a piece takes its
stream's next SEQ and enters its launch queue when there is room; while the link is away and the queue full it is discarded
with its SEQ; otherwise the Weir waits. R320, R310: a Weir that has waited 25 µs for a queue reports it once; learning ends
after its rows, and reports cells that stayed invalid; RELEARN starts it again with the next row. -/
def Obligations.PiecesLeaveTheWeir : Prop :=
  (∀ (dt : Nat) (q : Fin 8) (p : Piece) (rest : List Piece) (m : MergedRow) (ms : List MergedRow) (s : State),
      let u := s.ticked dt
      (u.cf.out = m :: ms → u.weir.held = [] → u.twin.holdSince = none → u.twin.state = .single →
        ∃ t, exec (.weirRow dt) s = .next t ∧ t.cf.out = ms ∧ t.weir.rows = satInc 32 u.weir.rows ∧
          t.weir.lastRow = some (BitVec.ofInt 32 m.row) ∧ t.weir.seqs = u.weir.seqs ∧ t.spill = u.spill) ∧
      (u.weir.held = p :: rest → ∃ t, exec (.weirRow dt) s = .next t ∧ becomes u u t []) ∧
      (u.weir.held = p :: rest → p.stream = q.val → u.spill[q].dropRow ≠ some p.row → 8 ≤ p.bytes.length →
        (u.roomFor q p = true →
          ∃ t x, exec (.pieceReserve dt q) s = .next t ∧ t.weir.held = rest ∧ t.weir.seqs[q] = u.weir.seqs[q] + 1 ∧
            t.spill[q].pieces = u.spill[q].pieces ++ [x] ∧ x.seq = u.weir.seqs[q] ∧ x.row = p.row ∧
            x.bytes = p.bytes.take 4 ++ leWord u.weir.seqs[q] ++ p.bytes.drop 8 ∧
            t.queues[launchQueue q].used = u.queues[launchQueue q].used + pieceStorage p ∧
            (∀ w : Fin 8, w ≠ q → t.spill[w] = u.spill[w] ∧ t.weir.seqs[w] = u.weir.seqs[w])) ∧
        (u.roomFor q p = false → u.queueBlocked q = true →
          ∃ t, exec (.pieceReserve dt q) s = .next t ∧ t.weir.held = rest ∧ t.weir.seqs[q] = u.weir.seqs[q] + 1 ∧
            t.spill[q].dropRow = some p.row ∧ t.spill[q].pieces = u.spill[q].pieces ∧ t.link.drops = u.link.drops + 1 ∧
            t.source 48 20 = true ∧ t.queues = u.queues) ∧
        (u.roomFor q p = false → u.queueBlocked q = false → u.weir.refusedAt = none →
          ∃ t, exec (.pieceReserve dt q) s = .next t ∧
            becomes u (u.setWeir fun w => { w with refusedAt := some u.now }) t [(47, 18)]))) ∧
  (∀ (dt : Nat) (s : State),
      let u := s.ticked dt
      (∀ at_, u.weir.refusedAt = some at_ → u.weir.stalled = false → at_ + ticksOfUs 25 < u.now →
        ∃ t, exec (.weirStall dt) s = .next t ∧ becomes u (u.setWeir fun w => { w with stalled := true }) t [(47, 7)]) ∧
      (∀ at_, u.weir.refusedAt = some at_ → u.now ≤ at_ + ticksOfUs 25 →
        ∃ t, exec (.weirStall dt) s = .next t ∧ becomes u u t []) ∧
      (u.weir.state = 1 → u.weir.learnLeft = 0 →
        ∃ t, exec (.learnEnd dt) s = .next t ∧
          becomes u (u.setWeir fun w => { w with state := 2 }) t
            (if bgInvalid u.weir.bg u.weir.run.length u.weir.slots.length then [(47, 9)] else [])) ∧
      (u.weir.learnLeft ≠ 0 → ∃ t, exec (.learnEnd dt) s = .next t ∧ becomes u u t []) ∧
      (∃ t, exec (.relearn dt) s = .next t ∧ becomes u (u.setWeir fun w => { w with relearn := true }) t [(47, 8)]))

/-! ### The link -/

/-- R355, R349, R353, R391: with nothing ahead of it a STATUS frame that is due leaves with credit, and consumes it; else
the piece that was picked leaves its launch queue, takes the next LSEQ and is kept for replay; outside ACTIVE nothing
leaves. R391, R356, R351, R362: the clock of DRAIN_LIMIT starts when the head of a queue may launch, and its end is
reported; a STATUS frame falls due with its period, and is skipped without credit; a class without credit for DRAIN_LIMIT is
reported. -/
def Obligations.FramesLeave : Prop :=
  (∀ (dt : Nat) (q : Fin 8) (p : Piece) (s : State),
      let u := s.ticked dt
      let free : Prop := u.link.tr.state = 7 ∧ u.link.txIdle = false ∧ u.link.resend = 0 ∧ u.link.acks = [] ∧
        u.replyWaits = none ∧ u.link.echoes = []
      (free → u.link.statusDue = true → u.credit 8 32 = true →
        ∃ t, exec (.framerSend dt) s = .next t ∧ t.link.statusDue = false ∧ t.spill = u.spill ∧ t.link.replay = u.link.replay ∧
          t.link.used = upd u.link.used 8 (fun x => x + 1) ∧
          t.out.uahorn = frameBytes 2 (1 + bit 2 u.clock.holdover) 0 u.twin.epoch.toNat u.ident 0 (time32 u.txTime)
            u.statusPayload) ∧
      (free → u.link.statusDue = false → u.pickPiece = some (q, p) → p.bytes.length = 64 →
        ∃ t f, exec (.framerSend dt) s = .next t ∧ t.spill[q].pieces = u.spill[q].pieces.drop 1 ∧
          t.link.replay = u.link.replay ++ [f] ∧ f.lseq = u.link.nextTx ∧ f.payload = p.bytes ∧ f.type = 1 ∧
          t.link.nextTx = u.link.nextTx + 1 ∧ t.link.used = upd u.link.used ⟨q.val, by omega⟩ (fun x => x + 2) ∧
          t.queues[launchQueue q].freed = u.queues[launchQueue q].freed + 64 ∧
          t.out.uahorn = frameBytes 1 (bit 2 u.clock.holdover) u.link.nextTx.toNat u.twin.epoch.toNat u.ident q
            (time32 u.txTime) p.bytes ∧
          ∀ w : Fin 8, w ≠ q → t.spill[w] = u.spill[w]) ∧
      (u.link.tr.state ≠ 7 → ∃ t, exec (.framerSend dt) s = .next t ∧ t.spill = u.spill ∧ t.out.uahorn = [] ∧
        t.link.replay = u.link.replay ∧ t.link.used = u.link.used ∧ t.queues = u.queues)) ∧
  (∀ (dt : Nat) (q : Fin 8) (c : Fin 9) (s : State),
      let u := s.ticked dt
      (∀ p, u.launchHead q = some p → u.eligible p = true →
        ∃ t, exec (.launchTimeReached dt q) s = .next t ∧ t.spill[q].eligibleAt = u.spill[q].eligibleAt.or (some u.now) ∧
          t.spill[q].pieces = u.spill[q].pieces ∧ ∀ w : Fin 8, w ≠ q → t.spill[w] = u.spill[w]) ∧
      (∀ at_, u.spill[q].eligibleAt = some at_ → at_ + ticksOfUs (u.linkU 16 4) ≤ u.now →
        ∃ t, exec (.drainLimit dt q) s = .next t ∧ becomes u (u.setLaunch q fun x => { x with drained := true }) t [(48, 19)]) ∧
      (u.spill[q].eligibleAt = none → ∃ t, exec (.drainLimit dt q) s = .next t ∧ becomes u u t []) ∧
      (u.linkU 14 2 ≠ 0 → u.linkOpen = true → u.link.statusAt + ticksOfUs (u.linkU 14 2) ≤ u.now →
        (u.credit 8 32 = true → ∃ t, exec (.statusPeriod dt) s = .next t ∧
          becomes u (u.setLink fun l => { l with statusAt := u.now, statusDue := true }) t []) ∧
        (u.credit 8 32 = false → ∃ t, exec (.statusPeriod dt) s = .next t ∧
          becomes u (u.setLink fun l => { l with statusAt := u.now }) t [(48, 21)])) ∧
      (∀ at_, u.refreshStarved.link.starved[c] = some at_ → at_ + ticksOfUs (u.linkU 16 4) ≤ u.now →
        ∃ t, exec (.creditStarved dt c) s = .next t ∧ becomes u u.refreshStarved t [(48, 18)]))

/-- R353, R351, R331, R346: an ACK releases the frames up to its LSEQ; a NAK, or REPLAY_TIMEOUT, replays the rest, fewer
than five times; a credit limit only grows; a mismatch at a marker is counted for its lane; an EIDLE block is noted. R352,
R357, R369, R350: a sequenced frame counts only in its turn: a command packet fills its slot, or overruns it; an
acknowledged reply leaves its slot; one out of its turn is answered with a NAK. A beacon is kept and will be echoed; a bad
frame is counted and answered with a NAK. -/
def Obligations.FramesAndControlBlocksArrive : Prop :=
  (∀ (dt n : Nat) (c : Fin 9) (limit : Word) (p : Fin 18) (s : State),
      let u := s.ticked dt
      let x := BitVec.ofNat 16 n
      let replayed := u.setLink fun l => { l with
        resend := l.replay.length, replayCount := l.replayCount + 1, replays := satInc 16 l.replays
        replaysTotal := l.replaysTotal + 1 }
      u.linkOpen = true →
        (∃ t, exec (.uahornAck dt n) s = .next t ∧ t.link.replay = (u.link.replay.filter fun f => !seqLe f.lseq x) ∧
          t.link.nextTx = u.link.nextTx ∧ t.spill = u.spill ∧ t.queues = u.queues) ∧
        (u.link.replay ≠ [] → (∀ f ∈ u.link.replay, seqLe f.lseq x = false) → u.link.replayCount < 4 →
          ∃ t, exec (.uahornNak dt n) s = .next t ∧ becomes u replayed t [(48, 16)]) ∧
        (∀ f fs, u.link.replay = f :: fs → u.link.resend < u.link.replay.length → u.link.replayCount < 4 →
          (f.sentAt + ticksOfNs (u.linkU 6 2) ≤ u.now →
            ∃ t, exec (.replayTimeout dt) s = .next t ∧ becomes u replayed t [(48, 16)]) ∧
          (u.now < f.sentAt + ticksOfNs (u.linkU 6 2) → ∃ t, exec (.replayTimeout dt) s = .next t ∧ becomes u u t [])) ∧
        (0 ≤ (limit - u.link.limits[c]).toInt →
          ∃ t, exec (.uahornCredit dt c limit) s = .next t ∧ t.link.limits = u.link.limits.set c limit ∧
            t.link.used = u.link.used) ∧
        ((limit - u.link.limits[c]).toInt < 0 → ∃ t, exec (.uahornCredit dt c limit) s = .next t ∧ becomes u u t []) ∧
        (u.link.tr.active p = true →
          ∃ t, exec (.alignMarker dt p true) s = .next t ∧
            becomes u (u.setTrainer false fun t => { t with
              lanes := upd t.lanes p fun l => { l with bipErr := satInc 16 l.bipErr } }) t [(48, 10)]) ∧
        (∃ t, exec (.eidleBlock dt) s = .next t ∧ becomes u (u.setLink fun l => { l with rxIdle := true }) t [])) ∧
  (∀ (dt : Nat) (slot : Fin 2) (packet : List Byte) (master : Wide) (seq : Half) (n : Nat) (s : State),
      let u := s.ticked dt
      let next := u.link.nextRx
      u.linkOpen = true →
        (u.accepting = true → u.mb.chans[(2 : Fin 10)].slots.length = 2 →
          (u.mb.chans[(2 : Fin 10)].slots.getD slot {}).full = false →
          ∃ t x, exec (.uahornCmd dt next.toNat slot packet) s = .next t ∧ t.link.nextRx = next + 1 ∧
            t.mb.chans[(2 : Fin 10)].slots[slot.val]? = some x ∧ x.full = true ∧ x.bytes = packet ∧ t.ports = u.ports) ∧
        ((u.mb.chans[(2 : Fin 10)].slots.getD slot {}).full = true →
          ∃ t, exec (.uahornCmd dt next.toNat slot packet) s = .next t ∧ t.link.nextRx = next + 1 ∧
            t.mb.chans[(2 : Fin 10)].slots = u.mb.chans[(2 : Fin 10)].slots ∧ t.source 48 28 = true) ∧
        (BitVec.ofNat 16 n ≠ next → seqLe (BitVec.ofNat 16 n) next = false → u.link.nakAt = none →
          ∃ t, exec (.uahornCmd dt n slot packet) s = .next t ∧
            becomes u (u.setLink fun l => { l with rxIdle := false, trafficAt := u.now, nakAt := some u.now }) t [(48, 15)]) ∧
        (u.link.replySent.contains slot.val = true → (u.port .p1).outgoing = [] → u.mb.chans[(3 : Fin 10)].slots.length = 2 →
          ∃ t x, exec (.uahornMboxAck dt next.toNat 3 slot) s = .next t ∧ t.mb.chans[(3 : Fin 10)].slots[slot.val]? = some x ∧
            x.full = false ∧ t.link.replySent = u.link.replySent.filter (· != slot.val)) ∧
        (u.syncMode = false →
          ∃ t, exec (.uahornBeacon dt master seq) s = .next t ∧ t.clock.bcnSeq = seq ∧ t.clock.bcnMaster = master.setWidth 32 ∧
            t.clock.beacons = satInc 16 u.clock.beacons ∧ t.clock.beaconAt = u.now ∧
            (∃ e, t.link.echoes = u.link.echoes ++ [e] ∧ e.1 = seq) ∧ t.clock.ext = u.clock.ext ∧
            t.clock.holdover = u.clock.holdover) ∧
        (u.link.nakAt = none →
          ∃ t, exec (.uahornBadFrame dt .crc) s = .next t ∧
            becomes u (u.setLink fun l => { l with rxBad := satInc 16 l.rxBad, nakAt := some u.now }) t [(48, 13), (48, 15)]))

/-- R334, R335, R340: an attempt with leave begins at POWER_UP, at ENABLE, after the retry interval, with a signal, and when
its leave comes; its stages follow one another; a stage that lasts too long, or a partner that shows nothing, ends it. R338,
R339: a good HELLO that has seen ours completes the handshake: ACTIVE with the common lanes, and, with a partner not known
before, a fresh start; one that has not is kept. R333, R341: a lane that loses its signal or its lock is marked, and the
link retrains. -/
def Obligations.TrainingAndHandshake : Prop :=
  (∀ (dt : Nat) (s : State),
      let u := s.ticked dt
      let held : Prop := u.holds (fun w => w == .lanes) = true ∧ u.link.rot = none
      let begun (t : State) (stage : Nat) : Prop :=
        t.link.tr.state = stage ∧ t.link.tr.stageAt = u.now ∧ t.link.replay = u.link.replay ∧ newlySet u t [] ∧ t.pwr = u.pwr
      let started (t : State) : Prop := begun t 2 ∧ t.link.attempts = satInc 16 u.link.attempts ∧ t.link.tr.pllLocked = false
      (held → u.linkEnabled false = true →
        (u.link.tr.state = 0 → ∃ t, exec (.trainingAttempt dt) s = .next t ∧ started t) ∧
        (u.link.tr.state = 1 → u.link.tr.waitLeave = false →
          (u.link.tr.attemptAt + ticksOfMs (u.retryMs false) ≤ u.now →
            ∃ t, exec (.retryInterval dt false) s = .next t ∧ started t) ∧
          (u.now < u.link.tr.attemptAt + ticksOfMs (u.retryMs false) →
            ∃ t, exec (.retryInterval dt false) s = .next t ∧ becomes u u t []) ∧
          (∃ t, exec (.signalSeen dt false) s = .next t ∧ started t))) ∧
      (held → u.link.tr.waitLeave = true →
        ∃ t, exec (.linkLeaveGrant dt) s = .next t ∧ t.link.tr.waitLeave = false ∧
          begun t (if u.link.tr.retrain && u.link.tr.pllLocked then 3 else 2)) ∧
      (u.link.tr.state = 2 → u.now ≤ u.link.tr.stageAt + stageTicks 2 → ∀ rs x,
        ∃ t, exec (.trainingStageEnd dt false rs x) s = .next t ∧ begun t 3 ∧ t.link.tr.pllLocked = true) ∧
      (u.idlePorts → u.link.tr.state = 2 → u.link.tr.stageAt + stageTicks 2 ≤ u.now → ∀ rs,
        ∃ t, exec (.trainingStageTimeout dt false rs) s = .next t ∧ t.link.tr.state = 1 ∧ t.link.tr.failStage = 2 ∧
          t.source 48 4 = true) ∧
      (u.idlePorts → u.link.tr.state = 3 → u.link.tr.stageAt + ticksOfUs 500 ≤ u.now →
        ∃ t, exec (.partnerAbsent dt false) s = .next t ∧ t.link.tr.state = 1 ∧ t.link.tr.failStage = 3 ∧
          t.source 48 2 = true ∧ ∀ p : Fin 18, t.link.tr.lanes[p].los = true)) ∧
  (∀ (dt : Nat) (h : Hello) (p : Fin 18) (s : State),
      let u := s.ticked dt
      (u.link.tr.state = 6 → u.goodHello false h = true → u.idlePorts →
        (h.seen = false →
          ∃ t, exec (.uahornHello dt h) s = .next t ∧ t.link.tr.state = 6 ∧ t.link.tr.hello = some h ∧ newlySet u t []) ∧
        (h.seen = true → u.link.tr.partner = 0 → h.session ≠ 0 →
          ∃ t, exec (.uahornHello dt h) s = .next t ∧ t.link.tr.state = 7 ∧ t.link.tr.partner = h.session ∧
            t.link.tr.common = u.commonOf false h ∧
            t.link.tr.width = widthOf false (u.linkU 2 1) h.widthMax (lanesOf (u.commonOf false h).toNat).length ∧
            t.link.nextTx = 0 ∧ t.link.nextRx = 0 ∧ t.link.replay = [] ∧ t.source 48 0 = true ∧ t.source 48 12 = true ∧
            t.spill = u.spill)) ∧
      (u.link.tr.state ≠ 6 → ∃ t, exec (.uahornHello dt h) s = .next t ∧ becomes u u t []) ∧
      (u.linkOpen = true → u.link.tr.active p = true → u.holds (fun w => w == .lanes) = true → u.link.rot = none →
        let again (t : State) : Prop :=
          t.link.tr.state = (if u.link.tr.pllLocked then 3 else 2) ∧ t.link.tr.lanes[p].bad = true ∧
            t.link.retrains = satInc 16 u.link.retrains ∧ t.source 48 11 = true ∧ t.source 48 1 = true ∧
            t.link.replay = u.link.replay ∧ t.spill = u.spill
        (∃ t, exec (.los dt p false) s = .next t ∧ again t ∧ t.link.tr.lanes[p].los = true ∧ t.source 48 8 = true) ∧
        (∃ t, exec (.lol dt p) s = .next t ∧ again t ∧ t.link.tr.lanes[p].lol = true ∧ t.source 48 9 = true ∧
          t.link.tr.lanes[p].lockLosses = satInc 16 u.link.tr.lanes[p].lockLosses) ∧
        (∃ t, exec (.fastExitFail dt) s = .next t ∧ t.link.tr.state = (if u.link.tr.pllLocked then 3 else 2) ∧
          t.source 48 26 = true ∧ t.source 48 11 = true ∧ t.link.replay = u.link.replay)))

/-- R343, R344: a round begins with logical lane 0 and a spare; a step follows when both sides are ready; the lane's traffic
moves to the spare; a good result ends the step; a step that lasts too long is given up. R346: an idle transmitter enters
EIDLE and leaves it when there is traffic. R358, R359: LINK_STATUS reports; LINK_RETRAIN of a link in use begins an attempt
and waits for its end; LINK_TEST without a mode reports and tests nothing, with a duration it takes the link and waits; a
test whose duration has passed is answered and ends; an injection is repeated with its period. -/
def Obligations.RotationIdleAndLinkCommands : Prop :=
  (∀ (dt : Nat) (r : Rotation) (mui mv : Nat) (s : State),
      let u := s.ticked dt
      (u.canRotate = true → u.roundDue = true → u.link.tr.width ≠ 0 →
        ∃ t x, exec (.rotationRound dt) s = .next t ∧ t.link.rot = some x ∧ x.logical = 0 ∧ x.step = 1 ∧
          x.phys = u.link.tr.map.getD 0 255 ∧ u.link.spares.getLsbD x.spare = true ∧ t.link.roundAsked = false ∧
          t.link.tr = u.link.tr) ∧
      (u.link.rot = some r →
        (r.step = 1 → ∃ t, exec (.rotateReady dt) s = .next t ∧
          becomes u (u.setLink fun l => { l with rot := some { r with step := 3, since := u.now } }) t []) ∧
        (r.step = 3 → ∃ t, exec (.rotateSwitch dt) s = .next t ∧
          becomes u (u.setLink fun l => { l with
            rot := some { r with step := 4, since := u.now }
            tr := { l.tr with map := updAt l.tr.map r.logical fun _ => r.spare } }) t []) ∧
        (r.step = 4 → u.linkU 20 2 ≤ mui → u.linkU 22 2 ≤ mv →
          ∃ t, exec (.rotateDone dt (.good mui mv)) s = .next t ∧ t.link.rot = some { r with step := 5, since := u.now } ∧
            t.link.roundElems = u.link.roundElems ++ [{ element := r.logical, eyeMui := mui, eyeMv := mv }] ∧
            t.link.tr.map = u.link.tr.map ∧ newlySet u t []) ∧
        (r.step = 1 → r.since + ticksOfUs 200 ≤ u.now → u.link.round = [] → u.nvm.runs_ = [] →
          ∃ t, exec (.rotateStepTimeout dt) s = .next t ∧ t.link.rot = none ∧ t.link.tr = u.link.tr ∧
            t.source 48 23 = true ∧ t.source 48 22 = true)) ∧
      (u.idleDue = true →
        ∃ t, exec (.eidleEntry dt) s = .next t ∧
          becomes u (u.setLink fun l => { l with txIdle := true, tr := { l.tr with state := 8 } }) t [(48, 25)]) ∧
      (u.link.tr.state = 8 → u.trafficDue = true →
        ∃ t, exec (.fastExit dt) s = .next t ∧
          becomes u (u.setLink fun l => { l with
            txIdle := false, exitAt := some u.now, trafficAt := u.now, tr := { l.tr with state := 7 } }) t [])) ∧
  (∀ (dt : Nat) (h : Hdr) (flags : Word) (r : TestReq) (t0 : Nat) (s : State),
      let u := s.ticked dt
      let held : Prop := u.holds (fun w => w == .lanes) = true ∧ u.link.rot = none
      (u.runs h .linkStatus → ∃ t, exec (.linkStatus dt h) s = .next t ∧ t.still = u.still ∧
        u.answered t h .linkStatus 0 0 u.linkStatusBytes) ∧
      (u.runs h (.linkRetrain flags) →
        (u.linkEnabled false = false → ∃ t, exec (.linkRetrain dt h flags) s = .next t ∧ t.still = u.still ∧
          u.answered t h (.linkRetrain flags) 9 3 []) ∧
        (u.linkEnabled false = true → flags.toNat ≤ 3 → held → u.linkOpen = false →
          ∃ t, exec (.linkRetrain dt h flags) s = .next t ∧ u.waits t h (.linkRetrain flags) .retrain ∧
            t.link.tr.state = (if flags.getLsbD 1 = false ∧ u.link.tr.pllLocked = true then 3 else 2) ∧
            t.link.attempts = satInc 16 u.link.attempts ∧
            (flags.getLsbD 0 = true → ∀ p : Fin 18, t.link.tr.lanes[p].bad = false))) ∧
      (u.runs h (.linkTest r) → testBad r = none →
        (r.mode = 0 → u.link.test = none →
          ∃ t, exec (.linkTest dt h r) s = .next t ∧ t.still = u.nextFree.still ∧ u.answered t h (.linkTest r) 0 0
            (leWord 0 ++ u.link.tr.lanes.toList.flatMap fun x => leBytes 4 x.prbs)) ∧
        (r.mode ≠ 0 → u.linkEnabled false = true → held → u.link.test = none → r.duration ≠ 0 → u.idlePorts →
          ∃ t, exec (.linkTest dt h r) s = .next t ∧ u.waits t h (.linkTest r) .linkTest ∧ t.link.test = some r ∧
            t.link.tr.state = 9 ∧ t.source 48 29 = true)) ∧
      (h.port = .p0 → (u.port .p0).running = some { h, body := .linkTest r, wait := .linkTest, since := t0 } →
        (∀ p ∈ allPorts, p ≠ .p0 → (u.port p).running = none) → t0 + ticksOfUs r.duration.toNat ≤ u.now → u.link.test = some r → held →
        ∃ t, exec (.linkTestEnd dt) s = .next t ∧ t.link.test = none ∧ (t.port .p0).running = none ∧ t.link.tr.state = 2) ∧
      (u.link.test = some r → u.link.injectAt = some t0 → r.inject ≠ 0 → r.injectPeriod ≠ 0 → r.mode = 1 →
        t0 + ticksOfUs r.injectPeriod.toNat ≤ u.now →
        ∃ t, exec (.linkTestInject dt) s = .next t ∧ becomes u (u.setLink fun l => { l with injectAt := some u.now }) t []))

/-! ### Time, triggers and the twin -/

/-- R371 to R373: TIME_SET steps device time by its value and reports the time before and after; a step that was booked
happens at its time and not before; an absolute set is refused while the unit works. TIME_INCR sets the increment within its
range, and a mirrored one takes effect at the instant the lead decided. R366, R367, R376: TIME_READ reports; a wrap is
counted once; with network time and no beacon for BEACON_TIMEOUT holdover begins, and is reported. -/
def Obligations.Time : Prop :=
  (∀ (dt : Nat) (h : Hdr) (value incr flags : Word) (at_ : Int) (rest : List (TimeChange × Int)) (s : State),
      let u := s.ticked dt
      let set : Body := .timeSet 0 0 value 0
      (u.runs h set → u.idlePorts → u.clock.pendingSet = none → -1000000000 ≤ value.toInt → value.toInt ≤ 1000000000 →
        value ≠ 0 →
        ∃ t, exec (.timeSet dt h 0 0 value 0) s = .next t ∧ t.clock.ext = u.clock.ext + value.toInt ∧
          t.clock.lastStep = value.toInt ∧ t.source 52 6 = true ∧ t.now = u.now ∧
          u.answered t h set 0 0 (leWord u.time ++ leWord (u.time + value))) ∧
      (u.runs h (.timeSet 1 0 value 0) → u.anyStreams = true →
        ∃ t, exec (.timeSet dt h 1 0 value 0) s = .next t ∧ t.still = u.still ∧
          u.answered t h (.timeSet 1 0 value 0) 5 16 []) ∧
      (u.idlePorts → u.clock.pendingSet = some (.set false value false, at_) →
        (at_ ≤ u.clock.ext → ∃ t, exec (.timeStepAt dt) s = .next t ∧ t.clock.ext = u.clock.ext + value.toInt ∧
          t.clock.pendingSet = none) ∧
        (u.clock.ext < at_ → ∃ t, exec (.timeStepAt dt) s = .next t ∧ becomes u u t [])) ∧
      (u.runs h (.timeIncr incr flags) → flags.getLsbD 0 = false → u.idlePorts →
        (0x02600000 ≤ incr.toNat → incr.toNat ≤ 0x02A00000 →
          ∃ t, exec (.timeIncr dt h incr flags) s = .next t ∧ t.still = (u.setClock fun k => { k with incr }).still ∧
            u.answered t h (.timeIncr incr flags) 0 0 (leWord incr)) ∧
        (incr.toNat < 0x02600000 → ∃ t, exec (.timeIncr dt h incr flags) s = .next t ∧ t.still = u.still ∧
          u.answered t h (.timeIncr incr flags) 5 16 [])) ∧
      (u.idlePorts → u.clock.mirrored = (.incr incr false, at_) :: rest → at_ ≤ u.clock.ext →
        ∃ t, exec (.mirroredTimeInstant dt) s = .next t ∧
          becomes u (u.setClock fun k => { k with incr, mirrored := rest }) t [])) ∧
  (∀ (dt : Nat) (h : Hdr) (s : State),
      let u := s.ticked dt
      let k := u.clock
      (u.runs h .timeRead → ∃ t, exec (.timeRead dt h) s = .next t ∧ t.still = u.still ∧ u.answered t h .timeRead 0 0
        (leWord u.time ++ leBytes 3 k.frac ++
          leBytes 1 (bit 0 k.holdover + bit 1 u.syncMode + bit 2 k.beaconSeen + k.holdCause * 8) ++ leWord k.incr ++
          leHalf k.wrap ++ leBytes 2 u.deviceId ++ leBytes 4 (wrapOf 32 k.lastStep))) ∧
      (k.counted < k.ext / 2 ^ 32 → ∃ t, exec (.timeWrap dt) s = .next t ∧
        becomes u (u.setClock fun k => { k with counted := k.counted + 1, wrap := k.wrap + 1 }) t []) ∧
      (k.ext / 2 ^ 32 ≤ k.counted → ∃ t, exec (.timeWrap dt) s = .next t ∧ becomes u u t []) ∧
      (u.syncMode = true → u.followsLead = false → k.holdover = false →
        (k.beaconAt + ticksOfUs (u.au 0x0D01 65535 4 4) ≤ u.now →
          ∃ t, exec (.beaconTimeout dt) s = .next t ∧ t.clock.holdover = true ∧ t.clock.holdCause = 2 ∧
            t.clock.beaconSeen = false ∧ t.clock.ext = k.ext ∧ t.source 52 7 = true) ∧
        (u.now < k.beaconAt + ticksOfUs (u.au 0x0D01 65535 4 4) →
          ∃ t, exec (.beaconTimeout dt) s = .next t ∧ becomes u u t [])))

/-- R380 to R382: TRIG_SCHEDULE queues a one-shot, or cancels what an output holds; a one-shot that is due starts its pulse,
which ends after its width. R387, R388: an edge of an input is captured with its serial number, and EVIN_READ gives
captures. -/
def Obligations.TriggersAndCaptures : Prop :=
∀ (dt : Nat) (h : Hdr) (r : TrigReq) (o : Fin 48) (x : OneShot) (i : Fin 8) (s : State),
    let u := s.ticked dt
    let y := u.trig.outs[o]
    let noFollower : Prop := ∀ w : Fin 48, u.trig.outs[w].mode ≠ 3
    (u.runs h (.trigSchedule r) → r.output.toNat = o.val →
      (∀ k, u.trigBad r = some k → ∃ t, exec (.trigSchedule dt h r) s = .next t ∧ t.still = u.still ∧
        u.answered t h (.trigSchedule r) 5 k []) ∧
      (u.trigBad r = none → r.mode = 0 →
        ∃ t, exec (.trigSchedule dt h r) s = .next t ∧ u.answered t h (.trigSchedule r) 0 0 (leBytes 4 0) ∧
          t.still = (u.setOut o fun x => { x with mode := 0, oneShots := [], follow := [], left := none }).still) ∧
      (u.trigBad r = none → r.mode = 1 → noFollower →
        ∃ t, exec (.trigSchedule dt h r) s = .next t ∧
          u.answered t h (.trigSchedule r) 0 0 (leWord (time32 (u.extend r.start))) ∧
          t.still = (u.setOut o fun x => { x with oneShots := x.oneShots ++ [{
            start := u.extend r.start, width := r.width.toNat, expo := r.flags.getLsbD 0, ctx := r.context.toNat % 64 }] }).still)) ∧
    (y.mode = 0 → y.follow = [] → y.left = none → y.pulse = none → y.expo = false → x.expo = false →
      (y.oneShots = [x] → x.start ≤ u.clock.ext →
        ∃ t, exec (.trigEdge dt o) s = .next t ∧
          becomes u (u.setOut o fun y => { y with
            oneShots := [], pulse := some (u.clock.ext, x.start + x.width), driven := u.twin.state.drives }) t []) ∧
      (y.oneShots = [x] → u.clock.ext < x.start → ∃ t, exec (.trigEdge dt o) s = .next t ∧ becomes u u t [])) ∧
    (∀ p, y.pulse = some p → p.2 ≤ u.clock.ext →
      ∃ t, exec (.trigPulseEnd dt o) s = .next t ∧ becomes u (u.setOut o fun x => { x with
        pulse := none, driven := false, driveActive := u.au 0x0D02 o 1 1 == 1, lowActive := u.au 0x0D02 o 2 1 == 1 }) t []) ∧
    (u.au 0x0D03 i 0 1 = 1 → (u.au 0x0D03 i 1 1).testBit 0 = true → u.trig.evins[i].ring.length < 64 → noFollower →
      u.twin.state = .single →
      ∃ t k, exec (.evinEdge dt i true) s = .next t ∧ t.trig.evins[i].ring = u.trig.evins[i].ring ++ [k] ∧
        k.serial = u.trig.evins[i].next ∧ k.rising = true ∧ t.trig.evins[i].next = u.trig.evins[i].next + 1 ∧
        t.trig.evins[i].level = true ∧ t.trig.outs = u.trig.outs ∧
        ∀ w : Fin 8, w ≠ i → t.trig.evins[w] = u.trig.evins[w]) ∧
    (∀ k : Capture, ∀ input : Byte, input.toNat = i.val → u.runs h (.evinRead input 0xFFFFFFFF 1) →
      u.trig.evins[i].ring = [k] → u.trig.evins[i].next = k.serial + 1 →
      ∃ t, exec (.evinRead dt h input 0xFFFFFFFF 1) s = .next t ∧ u.answered t h (.evinRead input 0xFFFFFFFF 1) 0 0
        (leWord k.serial ++ leBytes 1 1 ++ leBytes 1 2 ++ leBytes 2 0 ++ k.bytes) ∧ t.trig.evins[i].ring = [k])

/-- R406, R414, R417, R420, R421: frames of the partner while the Gelain link carries traffic: a HEART tells its state; an
entry of a digest is compared with ours; a tag replaces the value of the capture that waits for it; packets fill and leave
their mailbox slots; a chunk of the lead's memory is installed. A HEART of our own leaves through its queue. R406, R422,
R423, R426, R428, R429: what a CONTROL frame of the partner does: a shadow confirms a swap and is told to leave, or to
realign; a lead learns that its swap is confirmed; a quarantined unit is admitted, and learns its row; ABORT ends an
admission. -/
def Obligations.FramesOfThePartner : Prop :=
  (∀ (dt : Nat) (hb : Heart) (e : DigestEntry) (g : TagEntry) (w : TagWait) (own : Digest) (slot : Fin 2)
      (packet : List Byte) (mirror decided : Word) (c : StateChunk) (s : State),
      let u := s.ticked dt
      let up : Prop := u.gl.state = 7 ∧ u.twin.gelainUp = true ∧ u.ev.escalate = false ∧ u.twin.mirrors = []
      up →
        (u.queues[(41 : Fin 43)].state = 2 → ∃ t, exec (.heartPeriod dt) s = .next t ∧ t.out.gelain = [u.heartFrame] ∧
          t.twin = u.twin) ∧
        (u.queues[(41 : Fin 43)].state ≠ 2 → ∃ t, exec (.heartPeriod dt) s = .next t ∧
          t.twin.dropped = satInc 16 u.twin.dropped ∧ t.source 49 27 = true) ∧
        (u.twin.state = .lead → hb.state = 4 → hb.epoch = u.twin.epoch → hb.ident.toNat / 2 ^ 14 ≠ 0 →
          ∃ t, exec (.gelainHeart dt hb) s = .next t ∧ t.twin.partnerState = some 4 ∧ t.twin.frameAt = u.now ∧
            t.twin.state = .lead ∧ t.twin.epoch = u.twin.epoch ∧ t.twin.echoTx = hb.txTime) ∧
        (u.twin.state = .lead → u.twin.theirs = [] → u.twin.own = [own] → own.row = e.row →
          (own.digest = e.digest → ∃ t, exec (.gelainDigest dt [e]) s = .next t ∧ t.twin.own = [] ∧ t.twin.theirs = [] ∧
            t.twin.cmpRow = e.row ∧ t.twin.cleanRows = min 256 (u.twin.cleanRows + 1) ∧ t.twin.diverged = u.twin.diverged) ∧
          (own.digest ≠ e.digest → u.settling e.row = false → own.arrived = e.arrived →
            ∃ t, exec (.gelainDigest dt [e]) s = .next t ∧ t.twin.own = [] ∧ t.twin.cleanRows = 0 ∧
              t.twin.diverged = satInc 16 u.twin.diverged ∧ t.source 49 12 = true)) ∧
        (u.twin.state = .shadow → u.twin.tags = [w] → w.fits g = true → w.kind = 2 → w.index < 64 →
          (g.time - w.time).toInt.natAbs ≤ 40 →
          ∃ t, exec (.gelainTag dt [g]) s = .next t ∧ t.twin.tags = [] ∧
            t.ctxs = upd u.ctxs (Fin.ofNat 64 w.index) fun x => { x with fsTime := x.fsTime + (g.time - w.time).toInt }) ∧
        (u.accepting = true → u.mb.chans[(4 : Fin 10)].slots.length = 2 →
          (u.mb.chans[(4 : Fin 10)].slots.getD slot {}).full = false →
          ∃ t x, exec (.gelainCmd dt mirror decided slot packet) s = .next t ∧
            t.mb.chans[(4 : Fin 10)].slots[slot.val]? = some x ∧ x.full = true ∧ x.bytes = packet ∧
            x.mirror = some (mirror, decided)) ∧
        (u.mb.chans[(7 : Fin 10)].slots.length = 2 → (u.mb.chans[(7 : Fin 10)].slots.getD slot {}).full = false →
          ∃ t x, exec (.gelainReply dt slot packet) s = .next t ∧ t.mb.chans[(7 : Fin 10)].slots[slot.val]? = some x ∧
            x.full = true ∧ x.bytes = packet) ∧
        (u.mb.chans[(5 : Fin 10)].slots.length = 2 → (u.port .p2).outgoing = [] →
          ∃ t x, exec (.gelainMboxAck dt 5 slot) s = .next t ∧ t.mb.chans[(5 : Fin 10)].slots[slot.val]? = some x ∧
            x.full = false) ∧
        (∀ a bs, u.twin.state = .admitting → c.good = true → c.last = false → c.item = .memory a bs →
          u.lateStrip a = false →
          ∃ t, exec (.gelainState dt c) s = .next t ∧ t.lpddr = Memory.writeList zeroByte u.lpddr a bs ∧ t.recs = u.recs ∧
            t.twin.state = .admitting)) ∧
  (∀ (dt : Nat) (row arg : Word) (frames : List (Fin 64 × Word)) (epoch : Half) (w : Swap) (s : State),
      let u := s.ticked dt
      u.gl.state = 7 → u.twin.gelainUp = true → u.ev.escalate = false → u.idlePorts →
        (u.twin.state = .shadow → epoch = u.twin.epoch → u.twin.swap = none →
          (∃ t, exec (.swapAt dt row epoch) s = .next t ∧ t.twin.swap = some { row, confirmed := true } ∧
            t.twin.state = .shadow) ∧
          (∃ t, exec (.quarantineYou dt epoch) s = .next t ∧ t.twin.state = .quarantine ∧ t.twin.epoch = epoch ∧
            t.sluice.released = true ∧ t.source 49 30 = true) ∧
          (∃ t, exec (.realign dt row epoch) s = .next t ∧ t.twin.settle = some (u.twin.sealRow.getD (row - 4), row) ∧ t.source 49 14 = true)) ∧
        (u.twin.state = .lead → u.twin.swap = some w → w.row = row →
          ∃ t, exec (.confirm dt row epoch) s = .next t ∧ t.twin.swap = some { w with confirmed := true } ∧
            t.twin.state = .lead ∧ t.twin.epoch = u.twin.epoch) ∧
        (u.twin.state = .quarantine → u.twin.swap = none →
          ∃ t, exec (.admitBegin dt epoch arg) s = .next t ∧ t.twin.state = .admitting ∧ t.twin.epoch = epoch ∧
            t.twin.admitRow = none ∧ t.source 49 23 = true) ∧
        (u.twin.state = .admitting → u.twin.swap = none →
          ∃ t, exec (.admitRow dt row epoch frames) s = .next t ∧ t.twin.state = .admitting ∧
            t.twin.admitRow = some row ∧ t.twin.realign = some (row - 1) ∧ t.twin.compareFrom = some row) ∧
        (u.twin.state = .leadAlone → epoch = u.twin.epoch → u.twin.partnerIdent.toNat / 2 ^ 14 ≠ 0 → u.twin.swap = none →
          u.twin.admitting = true →
          ∃ t, exec (.abort dt epoch arg) s = .next t ∧ t.twin.state = .leadAlone ∧ t.twin.admitting = false ∧
            t.twin.admitRow = none ∧ t.twin.realign = none ∧ t.source 49 25 = true))

/-- R402 to R404, R408, R417, R421, R422, R424: the timers of a pair: a capture, a row and a mirrored command that waited in
vain; the loss and the return of heartbeat and link; the decision to lead alone, and the forming wait. R426, R428, R429,
R431, R409: TWIN_STATUS reports; ROLE_SWAP of a pair in step announces its row and waits, TWIN_ADMIT begins an admission and
waits; elsewhere both are not ready. At the row the roles change with a new epoch, and the admitted unit makes its lead a
pair again; the changed epoch reaches MRAM. -/
def Obligations.TwinStates : Prop :=
  (∀ (dt : Nat) (w : TagWait) (d : Digest) (m : MirrorWait) (t0 : Nat) (c : Fin 64) (s : State),
      let u := s.ticked dt
      (u.twin.tags = [w] → w.index = c.val → w.at_ + ticksOfNs (u.twinU 6 2) ≤ u.now →
        ∃ t, exec (.tagWaitExpiry dt c) s = .next t ∧ t.twin.tags = [] ∧ t.twin.tagMiss = satInc 16 u.twin.tagMiss ∧
          t.source 49 16 = true ∧ t.inlets = u.inlets) ∧
      (u.twin.own = [d] → d.at_ + ticksOfUs 1000 ≤ u.now →
        ∃ t, exec (.uncompared dt d.row) s = .next t ∧ t.twin.own = [] ∧
          t.twin.uncompared = satInc 16 u.twin.uncompared ∧ t.source 49 13 = true) ∧
      (u.twin.mirrors = [m] → m.word.getLsbD 2 = true → m.sentAt = some t0 → m.reply = none → t0 + ticksOfUs 1000 ≤ u.now →
        ∃ t, exec (.mirrorAcceptTimeout dt) s = .next t ∧ t.twin.mirrors = [] ∧ t.ports = u.ports) ∧
      (u.twin.state = .shadow → u.twin.holdSince = some t0 → t0 + ticksOfUs 50 < u.now →
        ∃ t, exec (.realignFail dt) s = .next t ∧ t.twin.state = .quarantine ∧ t.twin.holdSince = none ∧
          t.source 49 15 = true) ∧
      (u.twin.hbAlive = false → u.twin.jointAt = none → ∃ t, exec (.hbInAlive dt) s = .next t ∧ t.twin.hbAlive = true) ∧
      (u.twin.hbAlive = true → u.twin.state = .shadow → u.twin.gelainUp = true →
        ∃ t, exec (.hbInLost dt) s = .next t ∧ t.twin.hbAlive = false ∧ t.source 49 8 = true) ∧
      (∃ t, exec (.hbOutStop dt) s = .next t ∧ becomes u { u with sys := { u.sys with hbOut := false } } t []) ∧
      (u.twin.state = .lead → u.twin.gelainUp = true → u.gl.state = 7 → u.twin.frameAt + ticksOfUs 20 ≤ u.now →
        u.twin.swap = none → u.twin.admitting = false → u.twin.mirrors = [] →
        ∃ t, exec (.gelainLost dt) s = .next t ∧ t.twin.state = .leadAlone ∧ t.twin.gelainUp = false ∧ t.gl.state = 1 ∧
          t.source 49 6 = true ∧ t.source 49 10 = true) ∧
      (u.twin.state = .shadowDetached → u.twin.deciding = true → u.twin.jointAt = some t0 →
        t0 + ticksOfUs (u.twinU 0 2) ≤ u.now →
        ∃ t, exec (.decisionTimer dt) s = .next t ∧ t.twin.state = .leadAlone ∧ t.twin.epoch = u.twin.epoch + 1 ∧
          t.source 49 3 = true) ∧
      (u.twin.state = .forming → u.twin.formAt + ticksOfMs (u.twinU 8 2) ≤ u.now → u.twin.gelainUp = false →
        (u.twin.hbAlive = true → ∃ t, exec (.formWait dt) s = .next t ∧ t.twin.state = .forming ∧ t.twin.formBlocked = true) ∧
        (u.twin.hbAlive = false → ∃ t, exec (.formWait dt) s = .next t ∧ t.twin.state = .leadAlone ∧
          t.twin.epoch = u.twin.epoch + 1 ∧ t.source 49 0 = true))) ∧
  (∀ (dt : Nat) (h : Hdr) (row : Word) (w : Swap) (s : State),
      let u := s.ticked dt
      (u.runs h .twinStatus → ∃ t, exec (.twinStatus dt h) s = .next t ∧ t.still = u.still ∧
        u.answered t h .twinStatus 0 0 u.twinStatusBytes) ∧
      (u.receives h → h.port = .p0 → u.checkCmd ⟨h, .roleSwap row⟩ = none → u.twin.state = .lead → u.ev.escalate = false →
        (u.maySwap = true → 4 ≤ (row - u.rowNo).toInt → row ≠ 0 →
          ∃ t, exec (.roleSwap dt h row) s = .next t ∧ u.waits t h (.roleSwap row) .roleSwap ∧ t.twin.state = .lead ∧
            t.twin.swap = some { row, handover := false, port := some .p0 }) ∧
        (u.maySwap = false → ∃ t, exec (.roleSwap dt h row) s = .next t ∧ u.answered t h (.roleSwap row) 9 3 [] ∧
          t.twin = u.twin)) ∧
      (u.receives h → h.port = .p0 → u.checkCmd ⟨h, .twinAdmit⟩ = none → u.twin.state = .leadAlone →
        u.twin.mirrors = [] →
        (u.mayAdmit = true → ∃ t, exec (.twinAdmit dt h) s = .next t ∧ u.waits t h .twinAdmit .admission ∧
          t.twin.admitting = true ∧ t.twin.admitRow = none ∧ t.twin.state = .leadAlone) ∧
        (u.mayAdmit = false → ∃ t, exec (.twinAdmit dt h) s = .next t ∧ u.answered t h .twinAdmit 9 3 [] ∧
          t.twin = u.twin)) ∧
      (u.idlePorts → u.twin.swap = some w → u.rowNo = w.row →
        (u.twin.state = .shadow → u.twin.gelainUp = true → u.twin.hbAlive = true →
          ∃ t, exec (.swapRowReached dt) s = .next t ∧ t.twin.state = .lead ∧
          t.twin.epoch = u.twin.epoch + 1 ∧ t.source 49 21 = true) ∧
        (u.twin.state = .lead → w.confirmed = true → w.handover = true →
          ∃ t, exec (.swapRowReached dt) s = .next t ∧ t.twin.state = .quarantine ∧ t.twin.epoch = u.twin.epoch + 1 ∧
            t.twin.swap = none ∧ t.source 49 21 = true ∧ t.source 49 26 = true)) ∧
      (u.twin.state = .leadAlone → u.twin.admitRow = some u.rowNo →
        ∃ t, exec (.admissionRowReached dt) s = .next t ∧ t.twin.state = .lead ∧ t.twin.admitRow = none ∧
          t.twin.admitting = false ∧ t.twin.epoch = u.twin.epoch) ∧
      (∀ e, u.audit.epochWrite = some e → u.pwr.pfHold = false →
        ∃ t, exec (.epochWrite dt) s = .next t ∧ becomes u { u with
          nvm := { u.nvm with epoch := e, pages := satAdd 32 u.nvm.pages 3 } } t []))

/-! ### Memory, calibration and non-volatile storage -/

/-- R439, R441: what the maintenance of a ready channel does: a bank refresh changes no register, a ZQ latch and WCK
tracking stall the channel for no longer than their bounds, drift beyond the limit is reported and calls for a retraining,
and an MR4 report sets derating and reports it when it begins. R442, R443: the scrubber reads one line after another: a
corrected error is counted and its word recorded, and reported as repeated when the last pass met it too; an uncorrectable
one likewise. A pass that has read every line ends and is counted; one that takes longer than SCRUB_HOURS is reported late.
-/
def Obligations.MemoryMaintenance : Prop :=
  (∀ (dt : Nat) (mc : Fin 6) (s : State),
      let u := s.ticked dt
      let k := 40 + mc.val
      let held (b : Nat) : Bool := u.ev.blocks[Fin.ofNat 53 k].held.getLsbD b
      let stalled (n : Nat) : State := { u with freeCtr := u.freeCtr + 1 }.setMc mc fun x => { x with maxStall := max x.maxStall n }
      u.mem.ctls[mc].state = 2 ∨ u.mem.ctls[mc].state = 3 →
        (∃ t, exec (.perBankRefresh dt mc) s = .next t ∧ becomes u u t []) ∧
        (∃ t n, exec (.zqLatch dt mc) s = .next t ∧ n ≤ 50 ∧ becomes u (stalled n) t []) ∧
        (∀ drift : Half, drift.toNat ≤ u.calU 9752 2 →
          ∃ t n, exec (.wckTracking dt mc drift) s = .next t ∧ n ≤ 150 ∧ becomes u (stalled n) t []) ∧
        (∀ drift : Half, u.calU 9752 2 < drift.toNat → u.mem.ctls[mc].slicesLeft = 0 →
          ∃ t n, exec (.wckTracking dt mc drift) s = .next t ∧ n ≤ 150 ∧
            becomes u ((stalled n).setMc mc fun x => { x with slicesLeft := 8, sliceBad := false }) t [(k, 10)]) ∧
        (∀ code means, ∃ t, exec (.mr4Report dt mc code means) s = .next t ∧
          becomes u (u.setMc mc fun x => { x with mr4 := code, derated := means != .normal }) t
            ((if means ≠ .normal ∧ held 7 = false then [(k, 7)] else []) ++
              (if means = .beyond ∧ held 8 = false then [(k, 8)] else [])))) ∧
  (∀ (dt : Nat) (mc : Fin 6) (s : State),
      let u := s.ticked dt
      let k := 40 + mc.val
      let x := u.mem.ctls[mc]
      let next : State := u.setMc mc fun y => { y with line := y.line + 1 }
      let late : Bool := decide (x.passAt + u.scrubTicks < u.now)
      x.state = 2 ∨ x.state = 3 →
        (x.line < u.mcLines →
          (∃ t, exec (.patrolScrub dt mc .clean) s = .next t ∧ becomes u next t []) ∧
          (∀ w : Fin 8, x.line * 8 + w.val ∉ x.lastErrs →
            ∃ t, exec (.patrolScrub dt mc (.corrected w)) s = .next t ∧
              becomes u (next.setMc mc fun y => { y with
                corr := satInc 16 y.corr, eccUncorr := false, eccWord := (x.line * 8 + w.val) % 2 ^ 30
                errs := (x.line * 8 + w.val) :: y.errs }) t [(k, 2)]) ∧
          (∀ w : Fin 8, x.line * 8 + w.val ∈ x.lastErrs →
            ∃ t, exec (.patrolScrub dt mc (.corrected w)) s = .next t ∧ newlySet u t [(k, 2), (k, 4), (k, 14)] ∧
              t.mem.ctls[mc].corr = satInc 16 x.corr ∧ t.mem.ctls[mc].repairPending = true ∧ t.mem.ctls[mc].line = x.line + 1) ∧
          (∀ w : Fin 8, ∃ t, exec (.patrolScrub dt mc (.uncorrectable w)) s = .next t ∧
            becomes u (next.setMc mc fun y => { y with
              uncorr := satInc 16 y.uncorr, eccUncorr := true, eccWord := (x.line * 8 + w.val) % 2 ^ 30 }) t [(k, 3)])) ∧
        (u.mcLines ≤ x.line →
          ∃ t, exec (.scrubPassEnd dt mc) s = .next t ∧
            becomes u (u.setMc mc fun y => { y with
              line := 0, passAt := u.now, passes := satInc 16 y.passes, lastErrs := y.errs, errs := [] }) t [(k, 5)]) ∧
        (x.line < u.mcLines →
          ∃ t, exec (.scrubPassEnd dt mc) s = .next t ∧
            becomes u u t (if late ∧ u.ev.blocks[Fin.ofNat 53 k].held.getLsbD 6 = false then [(k, 6)] else [])))

/-- R436, R437: a channel whose training fails for the first time is retried; one that fails again is out of use; one that
passes is ready. Once no channel trains, the interleave set is the largest of six, four or two that all passed. R440: a
retraining slice of a channel that is called for stalls it for no longer than 2,000 ns and is counted; the last one ends the
retraining, is reported, and is recorded as the last calibration part; no slice follows another within 100 µs. -/
def Obligations.MemoryTraining : Prop :=
  (∀ (dt : Nat) (mc : Fin 6) (s : State),
      let u := s.ticked dt
      let k := 40 + mc.val
      let mine (w : Requester) : Bool := match w with | .training m _ => m == mc | _ => false
      let given := u.release mine
      u.mem.ctls[mc].state = 1 →
        (u.mem.ctls[mc].retried = false →
          ∃ t, exec (.channelTraining dt mc false) s = .next t ∧
            becomes u (u.setMc mc fun x => { x with retried := true }) t []) ∧
        (given.holds isTraining = true →
          (u.mem.ctls[mc].retried = true →
            ∃ t, exec (.channelTraining dt mc false) s = .next t ∧
              becomes u (given.setMc mc fun x => { x with state := 5, inUse := false }) t [(k, 0)]) ∧
          (u.au 0x0110 65535 5 1 ≠ 1 →
            ∃ t, exec (.channelTraining dt mc true) s = .next t ∧
              becomes u (given.setMc mc fun x => { x with
                state := 2, retried := false, slicesLeft := 0, passAt := u.now, line := 0 }) t [(k, 1)])) ∧
        (given.holds isTraining = false → given.asked isTraining = false → u.idlePorts →
          ∃ t, exec (.channelTraining dt mc true) s = .next t ∧
            t.mem.n = trainedSet (fun i => i < 6 && u.chEnabled i && (i == mc.val || u.mem.ctls[Fin.ofNat 6 i].state == 2)) ∧
            t.mem.rate = u.au 0x0110 65535 1 1 ∧ ∀ i : Fin 6, t.mem.ctls[i].inUse = decide (i.val < t.mem.n))) ∧
  (∀ (dt : Nat) (mc : Fin 6) (ok : Bool) (s : State),
      let u := s.ticked dt
      let x := u.mem.ctls[mc]
      let bad := x.sliceBad || !ok
      let sliced (n m : Nat) : State := { u with freeCtr := u.freeCtr + m }.setMc mc fun y => { y with
        maxStall := max y.maxStall n, slicesLeft := y.slicesLeft - 1, slices := satInc 16 y.slices, sliceAt := u.now
        sliceBad := y.sliceBad || !ok, state := if y.slicesLeft = 1 then 2 else 3 }
      x.state = 2 ∨ x.state = 3 →
        (x.slices = 0 ∨ x.sliceAt + 40000 ≤ u.now →
          (2 ≤ x.slicesLeft → ∃ t n, exec (.retrainingSlice dt mc ok) s = .next t ∧ n ≤ 2000 ∧ becomes u (sliced n 1) t []) ∧
          (x.slicesLeft = 1 → u.nvm.runs_ = [] →
            ∃ t n, exec (.retrainingSlice dt mc ok) s = .next t ∧ n ≤ 2000 ∧
              becomes u { sliced n 7 with nvm := { u.nvm with
                changes := if bad then u.nvm.changes else u.nvm.changes + 1
                last := (3, mc.val, bit 0 bad, 2 * bit 0 bad), lastTime := u.time, runs := satInc 16 u.nvm.runs
                rejects := if bad then satInc 16 u.nvm.rejects else u.nvm.rejects } } t
                ((40 + mc.val, 9) :: if bad then [(52, 21)] else []))) ∧
        (x.slicesLeft = 0 ∨ (x.slices ≠ 0 ∧ u.now < x.sliceAt + 40000) →
          ∃ t, exec (.retrainingSlice dt mc ok) s = .next t ∧ becomes u u t []))

/-- R524, R523, R525: CAL_RUN with a type that does not exist is a bad parameter; a run that cannot start is NOT READY; else
it asks for leave of kind 5 and waits. CAL_COMMIT is held off while a run is in progress, and else asks for leave of kind 6
and waits. R526, R527: CAL_EXPORT gives a piece of the stored or the working set; a first piece of an import opens it and
waits for leave, a piece that has leave is kept and answered; an import without a piece for 100 ms closes. -/
def Obligations.CalibrationCommands : Prop :=
  (∀ (dt : Nat) (h : Hdr) (type target : Byte) (flags : Word) (s : State),
      let u := s.ticked dt
      let b : Body := .calRun type target
      let ask (who : Requester) (kind cost prio : Nat) : LeaveReq :=
        { who, kind, cost, prio, at_ := u.now, limit := some (u.leaveLimit h) }
      let fits (t g : Nat) : Prop := (t = 1 ∧ g ≤ 31) ∨ (t = 3 ∧ (g ≤ 5 ∨ g = 255)) ∨ ((t = 2 ∨ t = 4 ∨ t = 255) ∧ g = 255)
      (u.runs h b →
        (type.toNat ∉ [1, 2, 3, 4, 255] →
          ∃ t, exec (.calRun dt h type target) s = .next t ∧ t.still = u.still ∧ u.answered t h b 5 16 []) ∧
        (fits type.toNat target.toNat → u.calNotReady type.toNat target.toNat = true →
          ∃ t, exec (.calRun dt h type target) s = .next t ∧ t.still = u.still ∧ u.answered t h b 9 3 []) ∧
        (fits type.toNat target.toNat → u.calNotReady type.toNat target.toNat = false → u.refuseLeave 20 = none →
          ∃ t, exec (.calRun dt h type target) s = .next t ∧ u.waits t h b .calRun ∧
            t.still = ({ u.enqueue (ask (.calibration (some h.port)) 5 20 2) with nvm := { u.nvm with
              runs_ := u.nvm.runs_ ++ [({ port := some h.port, type := type.toNat, target := target.toNat } : CalSession)] } }).still)) ∧
      (u.runs h (.calCommit flags) → flags.toNat ≤ 1 → (∀ o ∈ u.nvm.imports, o.stage.isSome = true) →
        (u.calBusy = true →
          ∃ t, exec (.calCommit dt h flags) s = .next t ∧ t.still = u.still ∧ u.answered t h (.calCommit flags) 1 0x0602 []) ∧
        (u.calBusy = false → u.nvm.stored.origin ≠ 0 ∨ flags = 1 → u.pwr.pfActive = false →
          u.refuseLeave 8 = none →
          ∃ t, exec (.calCommit dt h flags) s = .next t ∧ u.waits t h (.calCommit flags) .nvm ∧
            t.still = (u.enqueue (ask (.nvm (some h.port)) 6 8 3)).still))) ∧
  (∀ (dt : Nat) (h : Hdr) (which : Byte) (off count : Word) (data : List Byte) (o : OpenImport) (s : State),
      let u := s.ticked dt
      let asks (p : Port) (limit : Nat) : LeaveReq :=
        { who := .nvm (some p), kind := 6, cost := 8, prio := 3, at_ := u.now, limit := some limit }
      let x : CalSet := if which = 0 then u.nvm.stored else u.commitSet u.nvm.working.bytes 1
      (u.runs h (.calExport which off count) → which.toNat ≤ 1 → off.toNat % 4 = 0 → off.toNat ≤ 9768 → 4 ≤ count.toNat →
        count.toNat ≤ 224 → count.toNat % 4 = 0 → off.toNat + count.toNat ≤ 9772 →
        ∃ t, exec (.calExport dt h which off count) s = .next t ∧ t.still = u.still ∧
          u.answered t h (.calExport which off count) 0 0
            (leBytes 4 (if which = 0 then u.nvm.stored.serial.toNat else u.nvm.changes) ++ leBytes 4 9772 ++
              (x.bytesOf.drop off.toNat).take count.toNat)) ∧
      (u.runs h (.calImport 1 off data) → (∀ o ∈ u.nvm.imports, o.stage = none → o.port = h.port) → off.toNat % 4 = 0 →
        off.toNat + data.length ≤ 9772 → u.pwr.pfActive = false → u.refuseLeave 8 = none →
        ∃ t, exec (.calImport dt h 1 off data) s = .next t ∧ u.waits t h (.calImport 1 off data) .nvm ∧
          t.still = ({ (u.enqueue (asks h.port (u.leaveLimit h))) with nvm := { u.nvm with
            imports := u.nvm.imports.filter (fun (o : OpenImport) => !(o.stage == none && o.port == h.port)) ++
              [({ port := h.port, stage := none, at_ := u.now } : OpenImport)] } }).still) ∧
      (∀ l r, r.body = .calImport 0 off data → u.nvm.imports = [o] → o.stage = none → o.port = h.port →
        u.granting h r (asks h.port l) →
        ∃ t, exec (.stewardGrant dt) s = .next t ∧
          t.nvm.imports = [{ o with at_ := u.now, cells := Memory.writeList zeroByte o.cells off.toNat data }] ∧
          t.nvm.stored = u.nvm.stored ∧ t.nvm.working = u.nvm.working ∧ u.answered t h r.body 0 0 []) ∧
      (u.idlePorts → u.nvm.jobs = [] → u.nvm.runs_ = [] →
        ∃ t, exec (.importIdleTimeout dt) s = .next t ∧
          becomes u { u with nvm := { u.nvm with
            imports := u.nvm.imports.filter fun o => decide (u.now < o.at_ + 40000000) } } t []))

/-- R521: the drift round whose parts have ended with success returns its leave, takes the trimmed maximum as the new
reference and is reported; a round with a rejected part is asked for again at its time while a rule still calls for it, and
else is not. R524: a deskew run whose skew sequence has not come for 1 s ends without a measurement, and its command is
answered so. -/
def Obligations.CalibrationRunsEnd : Prop :=
  (∀ (dt : Nat) (s : State),
      let u := s.ticked dt
      (∀ x, u.nvm.runs_ = [x] → x.type = 255 → x.port = none → x.began = true → x.todo = [] → x.result = 0 →
        ∃ t, exec (.driftRoundEnd dt) s = .next t ∧
          becomes u { u.release (fun w => w == .calibration none) with
            nvm := { u.nvm with runs_ := [] }, wh := { u.wh with tref := u.tmax } } t [(52, 20)]) ∧
      ((∀ x ∈ u.nvm.runs_, x.type = 255 → x.began = true → x.todo ≠ []) →
        ∃ t, exec (.driftRoundEnd dt) s = .next t ∧ becomes u u t []) ∧
      (∀ due, u.nvm.repeatAt = some due →
        (u.now < due → ∃ t, exec (.driftRoundRepeat dt) s = .next t ∧ becomes u u t []) ∧
        (due ≤ u.now → u.calRuleActive = false →
          ∃ t, exec (.driftRoundRepeat dt) s = .next t ∧
            becomes u { u with nvm := { u.nvm with repeatAt := none } } t []) ∧
        (due ≤ u.now → u.calRuleActive = true → (∀ x ∈ u.nvm.runs_, x.type ≠ 255) → u.refuseLeave 20 = none →
          ∃ t, exec (.driftRoundRepeat dt) s = .next t ∧
            becomes u { u.enqueue { who := .calibration none, kind := 5, cost := 20, prio := 2, at_ := u.now } with
              nvm := { u.nvm with
                repeatAt := none, calWait := false
                runs_ := u.nvm.runs_ ++ [{ port := none, type := 255, target := 255 }] } } t []))) ∧
  (∀ (dt : Nat) (p : Fin 32) (q : Port) (x : CalSession) (r : Running) (s : State),
      let u := s.ticked dt
      u.nvm.runs_ = [x] → x.began = true → x.type = 1 → x.target = p.val → x.todo = [⟨1, p.val⟩] → x.port = some q →
      x.result = 0 → x.rejected = 0 → x.elements = [] →
        (x.since + 400000000 ≤ u.now → u.inlets[p].deskew ≠ 2 → q = .p0 ∨ q = .p1 ∨ q = .p3 → (u.port q).running = some r →
          r.wait = .calRun → r.h.port = q → r.lateTie = false → u.twin.mirrors = [] → u.audit.staged.length < 30 →
          ∃ t, exec (.deskewRunTimeout dt) s = .next t ∧ t.nvm.runs_ = [] ∧ t.nvm.last = (1, p.val, 2, 0) ∧
            t.nvm.runs = satInc 16 u.nvm.runs ∧ t.inlets[p].deskewAsked = false ∧
            u.answered t r.h r.body 0 0 (leBytes 1 1 ++ leBytes 1 p.val ++ leBytes 1 2 ++ leBytes 1 0 ++
              leBytes 2 (wrapOf 16 u.tmax) ++ leBytes 2 0)) ∧
        (u.now < x.since + 400000000 → ∃ t, exec (.deskewRunTimeout dt) s = .next t ∧ becomes u u t []))

/-- R530, R525, R528: the first write ends. A commit stores the working set under the next serial and answers its command;
an append adds the repair rows that waited; an abandoned write is reported and stores nothing; while a power failure holds
the writes none ends. Rows that wait ask for leave of kind 6. R534, R536, R537, R539: the first piece of an image of a
configuration set opens its stage and waits for leave; with leave the piece is staged and counted; a set that is not staged
cannot be activated, and a staged one asks for leave and waits; FW_STATUS gives the slots and the sets; a trial that has run
for 10 s becomes ACTIVE and the other slot PREVIOUS. -/
def Obligations.MramAndImages : Prop :=
  (∀ (dt : Nat) (rest : List NvmJob) (s : State),
      let u := s.ticked dt
      let returned (w : Requester) : State := u.release (· == w)
      let pages : Nat := satAdd 32 u.nvm.pages 155
      (u.pwr.pfHold = true → ∀ ok, ∃ t, exec (.mramWriteDone dt ok) s = .next t ∧ becomes u u t []) ∧
      (u.pwr.pfHold = false → u.nvm.runs_ = [] →
        (∀ p r, u.nvm.jobs = .commit p :: rest → p = .p0 ∨ p = .p1 ∨ p = .p3 → (u.port p).running = some r → r.wait = .nvm →
          r.h.port = p → r.lateTie = false → u.twin.mirrors = [] → u.audit.staged.length < 32 →
          ∃ t, exec (.mramWriteDone dt true) s = .next t ∧
            t.nvm = { u.nvm with
              pages, jobs := rest
              stored := { bytes := u.nvm.working.bytes, origin := 1, serial := u.nvm.stored.serial + 1, session := u.nvm.session
                          time := u.time } } ∧
            u.answered t r.h r.body 0 0 [] ∧ t.still = ({ returned (.nvm (some p)) with nvm := t.nvm }).still) ∧
        (u.nvm.jobs = .append :: rest →
          (∃ t, exec (.mramWriteDone dt true) s = .next t ∧
            becomes u { returned (.nvm none) with nvm := { u.nvm with
              pages, jobs := rest, append := []
              stored := { u.nvm.stored with
                serial := u.nvm.stored.serial + 1
                bytes := u.nvm.append.foldl (fun b e => Memory.writeList calFactory b e.1 (leWord e.2)) u.nvm.stored.bytes } } } t []) ∧
          (∃ t, exec (.mramWriteDone dt false) s = .next t ∧
            becomes u { returned (.nvm none) with nvm := { u.nvm with pages, jobs := rest } } t [(52, 23)]))) ∧
      (u.nvm.append = [] → ∃ t, exec (.repairAppend dt) s = .next t ∧ becomes u u t []) ∧
      (u.nvm.append ≠ [] → u.asked (· == .nvm none) = false → u.holds (· == .nvm none) = false → u.refuseLeave 8 = none →
        ∃ t, exec (.repairAppend dt) s = .next t ∧
          becomes u (u.enqueue { who := .nvm none, kind := 6, cost := 8, prio := 3, at_ := u.now }) t [])) ∧
  (∀ (dt : Nat) (h : Hdr) (i : Fin 4) (scope : Byte) (data : List Byte) (s : State),
      let u := s.ticked dt
      let asks (p : Port) (limit : Nat) : LeaveReq :=
        { who := .nvm (some p), kind := 6, cost := 8, prio := 3, at_ := u.now, limit := some limit }
      let ix : Byte := BitVec.ofNat 8 i.val
      let j : Fin 5 := Fin.ofNat 5 i.val
      let slot (x : Image) : List Byte := leBytes 1 x.state ++ leBytes 3 0 ++ leWord x.version ++ leWord x.length ++ leWord x.bodyCrc
      let img (x : Image) : List Byte := leBytes 1 x.state ++ leBytes 3 0 ++ leWord x.bodyCrc
      (u.runs h (.fwStage 1 ix 1 0 data) → (∀ o ∈ u.nvm.imports, o.stage.isSome = true → o.port = h.port) →
        u.pwr.pfActive = false → data.length ≤ 240 → u.refuseLeave 8 = none →
        ∃ t, exec (.fwStage dt h 1 ix 1 0 data) s = .next t ∧ t.nvm.sets[j] = { state := 1 } ∧
          (∀ k : Fin 5, k ≠ j → t.nvm.sets[k] = u.nvm.sets[k]) ∧ t.nvm.committed = u.nvm.committed ∧
          u.waits t h (.fwStage 1 ix 1 0 data) .nvm ∧ t.pwr.queue = (u.enqueue (asks h.port (u.leaveLimit h))).pwr.queue) ∧
      (∀ l r, r.body = .fwStage 1 ix 1 0 data → u.nvm.sets[j] = { state := 1 } → data.length ≤ 240 →
        u.granting h r (asks h.port l) →
        ∃ t, exec (.stewardGrant dt) s = .next t ∧ t.nvm.sets[j] = { state := 1, bytes := data } ∧
          (∀ k : Fin 5, k ≠ j → t.nvm.sets[k] = u.nvm.sets[k]) ∧ t.nvm.committed = u.nvm.committed ∧
          u.answered t h r.body 0 0 (leBytes 4 data.length)) ∧
      (u.runs h (.fwActivate 1 ix scope) → scope.toNat ≤ 1 →
        (u.nvm.sets[j].state ≠ 2 →
          ∃ t, exec (.fwActivate dt h 1 ix scope) s = .next t ∧ t.still = u.still ∧ u.answered t h (.fwActivate 1 ix scope) 5 16 []) ∧
        (u.nvm.sets[j].state = 2 → u.pwr.pfActive = false → u.refuseLeave 8 = none →
          ∃ t, exec (.fwActivate dt h 1 ix scope) s = .next t ∧ u.waits t h (.fwActivate 1 ix scope) .nvm ∧
            t.still = (u.enqueue { who := .nvm (some h.port), kind := 6, cost := 8, prio := 3, at_ := u.now
                                   limit := some (u.leaveLimit h) }).still)) ∧
      (u.runs h .fwStatus →
        ∃ t, exec (.fwStatus dt h) s = .next t ∧ t.still = u.still ∧
          u.answered t h .fwStatus 0 0 (leWord Config.romVersion ++ leBytes 1 u.nvm.running ++ leBytes 1 u.nvm.bootSet ++
            leHalf u.nvm.session ++ u.nvm.slots.toList.flatMap slot ++ u.nvm.sets.toList.flatMap img)) ∧
      (∀ n : Fin 2, u.nvm.trial = true → u.nvm.running = n.val → u.nvm.activeSlot = n.val → u.sys.cmdReady = true →
        (u.sys.readyAt + 4000000000 ≤ u.now →
          ∃ t, exec (.fwTrialConfirm dt) s = .next t ∧ t.nvm.trial = false ∧ t.nvm.slots[n].state = 4 ∧
            (∀ m : Fin 2, m ≠ n → t.nvm.slots[m].state = if u.nvm.slots[m].state = 4 then 5 else u.nvm.slots[m].state)) ∧
        (u.now < u.sys.readyAt + 4000000000 → ∃ t, exec (.fwTrialConfirm dt) s = .next t ∧ becomes u u t [])))

/-! ### DMA -/

/-- R455, R456, R458: CMD.START of an idle channel loads its active descriptor: it runs, waits for a request, or halts with
the code of the first check that fails; a heavy one asks for leave of kind 7 first; a start of a channel that is not idle is
ignored and reported. The other channels stay. R464, R467: DMA_STATUS gives the entries of the channels named; DMA_ABORT of
a channel below 24 is denied to P0, of an idle channel is answered at once, and of a channel with a burst in progress waits
for its end. -/
def Obligations.DmaStartsAndCommands : Prop :=
  (∀ (dt : Nat) (ch : Fin 32) (s : State),
      let u := s.ticked dt
      let x := u.dma.chans[ch]
      let code := u.descCode ch x.act
      (x.state ≠ 0 → ∃ t, exec (.dmaStart dt ch) s = .next t ∧ becomes u u t [(51, 16)]) ∧
      (x.state = 0 → x.act.heavy = false →
        ∃ t, exec (.dmaStart dt ch) s = .next t ∧ (∀ d : Fin 32, d ≠ ch → t.dma.chans[d] = u.dma.chans[d]) ∧
          t.dma.chans[ch].act = x.act ∧ t.dma.chans[ch].shadow = x.shadow ∧
          (code = 0 → t.dma.chans[ch].state = (if x.act.paced then 3 else 4) ∧ t.dma.chans[ch].residue = x.act.count.toNat ∧
            t.dma.chans[ch].result = 0 ∧ t.dma.chans[ch].errCode = 0 ∧ t.dma.chans[ch].burst = none) ∧
          (code ≠ 0 → t.dma.chans[ch].state = 6 ∧ t.dma.chans[ch].result = 4 ∧ t.dma.chans[ch].errCode = code ∧
            t.dma.results.getLsbD ch.val = true ∧ newlySet u t [(51, dmaGroup ch + 4)])) ∧
      (x.state = 0 → x.act.heavy = true → u.refuseLeave 10 = none →
        ∃ t, exec (.dmaStart dt ch) s = .next t ∧ newlySet u t [(51, 21)] ∧ t.dma.chans[ch].state = 1 ∧
          t.dma.chans[ch].residue = x.act.count.toNat ∧ (∀ d : Fin 32, d ≠ ch → t.dma.chans[d] = u.dma.chans[d]) ∧
          t.pwr = (u.enqueue { who := .dma ch, kind := 7, cost := 10, prio := 1, at_ := u.now }).pwr)) ∧
  (∀ (dt : Nat) (h : Hdr) (first count : Byte) (s : State),
      let u := s.ticked dt
      let x := u.dma.chans[Fin.ofNat 32 first.toNat]
      (u.runs h (.dmaStatus first count) →
        (first.toNat + count.toNat ≤ 32 → 1 ≤ count.toNat → count.toNat ≤ 8 →
          ∃ t, exec (.dmaStatus dt h first count) s = .next t ∧ t.still = u.still ∧
            u.answered t h (.dmaStatus first count) 0 0
              ((List.range count.toNat).flatMap fun i => (u.dma.chans[Fin.ofNat 32 (first.toNat + i)]).entry)) ∧
        (31 < first.toNat → ∃ t, exec (.dmaStatus dt h first count) s = .next t ∧ t.still = u.still ∧
          u.answered t h (.dmaStatus first count) 5 16 [])) ∧
      (u.runs h (.dmaAbort first) → u.idlePorts → first.toNat < 32 →
        (h.port = .p0 → first.toNat < 24 →
          ∃ t, exec (.dmaAbort dt h first) s = .next t ∧ t.still = u.still ∧ u.answered t h (.dmaAbort first) 3 0 []) ∧
        (h.port ≠ .p0 ∨ 24 ≤ first.toNat → x.state = 0 →
          ∃ t, exec (.dmaAbort dt h first) s = .next t ∧ t.still = u.still ∧ u.answered t h (.dmaAbort first) 0 0 x.entry) ∧
        (h.port ≠ .p0 ∨ 24 ≤ first.toNat → x.state = 4 → x.burst.isSome = true → x.abortAt = none →
          ∃ t, exec (.dmaAbort dt h first) s = .next t ∧ u.waits t h (.dmaAbort first) (.dmaAbort (Fin.ofNat 32 first.toNat)) ∧
            t.still = (u.setDma (Fin.ofNat 32 first.toNat) fun y => { y with abortAt := some u.now }).still)))

/-- R453, R458, R460: a word written to a register set is kept while that set may change, and is else ignored and reported;
a request adds to the count of a bound line up to 255, and on a line that is not bound is lost and reported; software
requests reach their own lines alone. -/
def Obligations.DmaSetsAndRequests : Prop :=
∀ (dt : Nat) (ch : Fin 32) (reg : Fin 5) (value : Word) (s : State),
    let u := s.ticked dt
    let x := u.dma.chans[ch]
    let requested (l : Fin 96) (n : Nat) (o : Host.Outcome State Fault Refusal) : Prop :=
      (u.lineOwner l.val = none → ∃ t, o = .next t ∧ becomes u u t [(51, 20)]) ∧
      (u.lineOwner l.val ≠ none → ∃ t, o = .next t ∧
        becomes u { u with dma := { u.dma with lines := u.dma.lines.set l (min (u.dma.lines[l] + n) 255) } } t
          (if 255 < u.dma.lines[l] + n then [(51, 19)] else []))
    (x.shadow.valid = false →
      ∃ t, exec (.dmaSetWrite dt ch true reg value) s = .next t ∧
        becomes u (u.setDma ch fun y => { y with shadow := y.shadow.setWord reg.val value }) t []) ∧
    (x.shadow.valid = true → ∃ t, exec (.dmaSetWrite dt ch true reg value) s = .next t ∧ becomes u u t [(51, 16)]) ∧
    (x.state = 0 ∨ x.state = 6 →
      ∃ t, exec (.dmaSetWrite dt ch false reg value) s = .next t ∧
        becomes u (u.setDma ch fun y => { y with act := y.act.setWord reg.val value }) t []) ∧
    (x.state ≠ 0 → x.state ≠ 6 → ∃ t, exec (.dmaSetWrite dt ch false reg value) s = .next t ∧ becomes u u t [(51, 16)]) ∧
    (∀ line : Fin 48, requested (Fin.ofNat 96 line.val) 1 (exec (.dmaRequest dt line) s)) ∧
    (∀ (line : Fin 256) (n : Nat), 48 ≤ line.val → line.val ≤ 79 → n < 256 →
      requested (Fin.ofNat 96 line.val) n (exec (.dmaSwreq dt line n) s)) ∧
    (∀ (line : Fin 256) (n : Nat), line.val < 48 ∨ 79 < line.val →
      ∃ t, exec (.dmaSwreq dt line n) s = .next t ∧ becomes u u t []) ∧
    (∀ (i : Fin 16) (n : Nat), n < 256 → requested (Fin.ofNat 96 (80 + i.val)) n (exec (.dmaSwreqHost dt i n) s))

/-- R459, R461: the channel that the arbiter serves starts a burst of its burst size or of what is left, and a paced one
takes a request for it; a running burst of lower priority is pre-empted; a channel that cannot start stays as it is. R459,
R457: the last burst of a descriptor in LPDDR6 has written its bytes to the destination; the channel is idle with result
DONE, and DONE is reported when the descriptor asks for it. -/
def Obligations.DmaMovesData : Prop :=
  (∀ (dt : Nat) (ch d : Fin 32) (s : State),
      let u := s.ticked dt
      let x := u.dma.chans[ch]
      u.domOn 17 = true → (∀ e : Fin 32, e ≠ d → u.dma.chans[e].burst = none) → d ≠ ch →
        (u.canBurst ch = true → u.outbid ch = false →
          (u.dma.chans[d].burst = none → x.act.paced = false →
            ∃ t, exec (.dmaBurst dt ch) s = .next t ∧
              becomes u { u.setDma ch fun y => { y with
                  state := 4, burst := some (min y.act.burstSize y.residue), burstAt := u.now, buf := y.prefetch, prefetch := none } with
                dma := { (u.setDma ch fun y => { y with
                  state := 4, burst := some (min y.act.burstSize y.residue), burstAt := u.now, buf := y.prefetch
                  prefetch := none }).dma with last := ch.val } } t []) ∧
          (u.dma.chans[d].burst = none → x.act.paced = true → ∀ l : Fin 96, x.act.req = l.val →
            ∃ t, exec (.dmaBurst dt ch) s = .next t ∧ t.dma.lines = u.dma.lines.set l (u.dma.lines[l] - 1) ∧
              t.dma.chans[ch].state = 4 ∧ t.dma.chans[ch].burst = some (min x.act.burstSize x.residue) ∧
              ∀ e : Fin 32, e ≠ ch → t.dma.chans[e] = u.dma.chans[e]) ∧
          (u.dma.chans[d].burst.isSome = true → u.dma.chans[d].state = 4 → u.dma.chans[d].act.prio < x.act.prio →
            ∃ t, exec (.dmaBurst dt ch) s = .next t ∧ t.dma.chans[d].state = 5 ∧ t.dma.chans[d].waitAt = some u.now ∧
              t.dma.chans[d].burst = u.dma.chans[d].burst ∧ t.dma.chans[ch].burst.isSome = true ∧
              t.dma.preempts = satInc 16 u.dma.preempts)) ∧
        (u.dma.chans[d].burst = none → u.canBurst ch = false → ∃ t, exec (.dmaBurst dt ch) s = .next t ∧ becomes u u t [])) ∧
  (∀ (dt : Nat) (ch : Fin 32) (s : State),
      let u := s.ticked dt
      let x := u.dma.chans[ch]
      (x.state = 4 → x.burst = some x.residue → x.abortAt = none → x.buf = none → x.prefetch = none → x.act.chain = false →
        inLpddr (x.from_ x.residue) = true → inLpddr (x.to_ x.residue) = true → x.to_ x.residue + x.residue ≤ u.installed →
        (∀ d : Fin 32, u.dma.chans[d].state ≠ 5) →
        ∃ t, exec (.dmaComplete dt ch) s = .next t ∧
          t.lpddr = Memory.writeList zeroByte u.lpddr (x.to_ x.residue) (u.lpBytes (x.from_ x.residue) x.residue) ∧
          t.dma.chans[ch].state = 0 ∧ t.dma.chans[ch].result = 1 ∧ t.dma.chans[ch].residue = 0 ∧
          (∀ d : Fin 32, d ≠ ch → t.dma.chans[d] = u.dma.chans[d]) ∧
          newlySet u t (if x.act.irqDone then [(51, dmaGroup ch)] else [])) ∧
      (x.burst ≠ some x.residue → ∃ t, exec (.dmaComplete dt ch) s = .next t ∧ becomes u u t []))

/-- R464, R467: CMD.ABORT of a channel that waits for a request ends it with result ABORTED; of a running burst it waits for
the burst's end; an idle channel stays. CMD.CLEAR takes a halted channel to idle and leaves every other alone. R465, R466: a
beat of a running burst that meets an error halts the channel with result BUS_ERR and latches the address, the direction and
the kind; after a read error the residue tells how much was issued; an error of the confirmation after COUNT has reached
zero is a tail error. R461, R469: a pre-empted burst that has waited more than 100 µs, a started burst that has not finished
after 1 ms, and a channel that has been halted for 10 ms are reported once, and not before. -/
def Obligations.DmaEndsEarly : Prop :=
  (∀ (dt : Nat) (ch : Fin 32) (s : State),
      let u := s.ticked dt
      let x := u.dma.chans[ch]
      u.idlePorts → (∀ d : Fin 32, u.dma.chans[d].state ≠ 5) → x.prefetch = none →
        (x.state = 3 →
          ∃ t, exec (.dmaCmdAbort dt ch) s = .next t ∧ newlySet u t [(51, dmaGroup ch + 1)] ∧ t.dma.chans[ch].state = 0 ∧
            t.dma.chans[ch].result = 2 ∧ t.dma.chans[ch].shadow = {} ∧ t.dma.chans[ch].shadowDropped = true ∧
            t.dma.chans[ch].residue = x.residue ∧ ∀ d : Fin 32, d ≠ ch → t.dma.chans[d] = u.dma.chans[d]) ∧
        (x.state = 4 → x.burst.isSome = true → x.abortAt = none →
          ∃ t, exec (.dmaCmdAbort dt ch) s = .next t ∧ becomes u (u.setDma ch fun y => { y with abortAt := some u.now }) t []) ∧
        (x.state = 0 → ∃ t, exec (.dmaCmdAbort dt ch) s = .next t ∧ becomes u u t []) ∧
        (x.state = 6 → x.act.paced = false →
          ∃ t, exec (.dmaCmdClear dt ch) s = .next t ∧ becomes u (u.setDma ch fun y => { y with state := 0 }) t []) ∧
        (x.state ≠ 6 → ∃ t, exec (.dmaCmdClear dt ch) s = .next t ∧ becomes u u t [])) ∧
  (∀ (dt : Nat) (ch : Fin 32) (addr len : Nat) (kind : Fin 8) (s : State),
      let u := s.ticked dt
      let x := u.dma.chans[ch]
      let halted (t : State) (write tail : Bool) : Prop :=
        t.dma.chans[ch].state = 6 ∧ t.dma.chans[ch].result = 3 ∧ t.dma.chans[ch].errAddr = addr % 2 ^ 36 ∧
          t.dma.chans[ch].errWrite = write ∧ t.dma.chans[ch].errKind = kind.val ∧ t.dma.chans[ch].tailErr = tail ∧
          t.dma.chans[ch].shadow = {} ∧ t.source 51 (dmaGroup ch + (if tail then 3 else 2)) = true
      u.idlePorts → x.burst = some len → x.state = 4 → x.to_ len + len ≤ lpWindow → inLpddr (x.from_ len) = true →
        (∃ t, exec (.dmaBusError dt ch addr false kind) s = .next t ∧ halted t false false ∧
          t.dma.chans[ch].residue = x.residue - x.bytesBefore (x.from_ len) len addr) ∧
        (∃ t, exec (.dmaBusError dt ch addr true kind) s = .next t ∧ halted t true false) ∧
        (len = x.residue → ∃ t, exec (.dmaTailError dt ch addr kind) s = .next t ∧ halted t true true ∧ t.dma.chans[ch].residue = 0)) ∧
  (∀ (dt : Nat) (ch : Fin 32) (s : State),
      let u := s.ticked dt
      let x := u.dma.chans[ch]
      let once (b : Nat) : List (Nat × Nat) := if u.ev.blocks[51].held.getLsbD b then [] else [(51, b)]
      (∀ since, x.waitAt = some since → ∃ t, exec (.preemptLong dt ch) s = .next t ∧
        becomes u u t (if since + 40000 < u.now then once 18 else [])) ∧
      (x.burst.isSome = true → ∃ t, exec (.dmaWatchdog dt ch) s = .next t ∧
        becomes u u t (if x.burstAt + 400000 ≤ u.now then once 31 else [])) ∧
      (x.state = 6 → ∃ t, exec (.haltWait dt ch) s = .next t ∧
        becomes u u t (if x.haltAt + 4000000 ≤ u.now then once 24 else [])))

/-! ### Power, resets and boot -/

/-- R505, R506: PWR_BUDGET with a budget from 200 to 1,240 units sets it at once and answers with it, and else is a bad
parameter; PWR_STATUS gives the budget, the grants and the state of every domain. R494, R496, R497: PWR_DOMAIN: a domain
that is off asks for leave of kind 1 and waits; one that is on already answers at once; one in use cannot be switched down;
one that is not in use keeps in RETAIN the leave of that state and in OFF none. R495, R497: a domain that changes and has
its footing becomes usable and keeps its leave; one that misses its wake time by more than 100 % is reported once; one that
does not change stays as it is. -/
def Obligations.BudgetAndDomains : Prop :=
  (∀ (dt : Nat) (h : Hdr) (budget : Word) (s : State),
      let u := s.ticked dt
      (u.runs h (.pwrBudget budget) →
        (200 ≤ budget.toNat → budget.toNat ≤ 1240 → u.locked 0x0F01 65535 = false → u.openFor 0x0F01 65535 = none →
          u.nvm.calWait = false →
          ∃ t, exec (.pwrBudget dt h budget) s = .next t ∧ t.budget = budget.toNat ∧ t.pwr = u.pwr ∧
            u.answered t h (.pwrBudget budget) 0 0 (leBytes 4 budget.toNat)) ∧
        (budget.toNat < 200 ∨ 1240 < budget.toNat →
          ∃ t, exec (.pwrBudget dt h budget) s = .next t ∧ t.still = u.still ∧ u.answered t h (.pwrBudget budget) 5 16 [])) ∧
      (u.runs h .pwrStatus → u.pwr.queue = [] →
        ∃ t, exec (.pwrStatus dt h) s = .next t ∧ t.still = u.still ∧ u.answered t h .pwrStatus 0 0
          (leBytes 2 u.budget ++ leBytes 2 u.grantedUnits ++ leBytes 2 u.standingUnits ++ leBytes 1 0 ++
            leBytes 1 ((if u.pwr.pfActive then 1 else 0) + (if u.pwr.pfSafe then 2 else 0) +
              (if u.budget < u.grantedUnits then 4 else 0)) ++
            leBytes 4 u.pwr.deniedBoot ++ leBytes 1 0 ++ leBytes 1 0 ++ leBytes 2 0 ++
            u.pwr.doms.toList.map (fun d => BitVec.ofNat 8 d.state.code) ++ leBytes 2 0))) ∧
  (∀ (dt : Nat) (h : Hdr) (d : Fin 22) (s : State),
      let u := s.ticked dt
      let dom : Byte := BitVec.ofNat 8 d.val
      let x := u.pwr.doms[d]
      (u.runs h (.pwrDomain dom 2) →
        (x.state = .on → ∃ t, exec (.pwrDomain dt h dom 2) s = .next t ∧ t.still = u.still ∧
          u.answered t h (.pwrDomain dom 2) 0 0 [2, 0, 0, 0]) ∧
        (x.state = .off → u.footed d = true → u.refuseLeave (onCost d.val) = none →
          ∃ t, exec (.pwrDomain dt h dom 2) s = .next t ∧ u.waits t h (.pwrDomain dom 2) (.domainWake d) ∧
            t.still = (u.enqueue { who := .domain d (some h.port), kind := 1, cost := onCost d.val, prio := 5, at_ := u.now
                                   limit := some (u.leaveLimit h) }).still)) ∧
      (u.runs h (.pwrDomain dom 1) → u.idlePorts → u.nvm.calWait = false → x.state = .on →
        (∀ n, retainCost d.val = some n → u.inUse_ d = false → u.carries_ d .retain = false →
          ∃ t, exec (.pwrDomain dt h dom 1) s = .next t ∧ t.pwr.doms[d].state = .retain ∧ t.pwr.doms[d].grant = n ∧
            (∀ k : Fin 22, k ≠ d → t.pwr.doms[k] = u.pwr.doms[k]) ∧ u.answered t h (.pwrDomain dom 1) 0 0 [1, 0, 0, 0]) ∧
        (retainCost d.val = none ∨ u.inUse_ d = true →
          ∃ t, exec (.pwrDomain dt h dom 1) s = .next t ∧ t.still = u.still ∧ u.answered t h (.pwrDomain dom 1) 5 16 [])) ∧
      (u.runs h (.pwrDomain dom 0) → u.idlePorts → u.nvm.calWait = false → x.state = .on → u.inUse_ d = false →
        u.carries_ d .off = false →
        ∃ t, exec (.pwrDomain dt h dom 0) s = .next t ∧ t.pwr.doms[d].state = .off ∧ t.pwr.doms[d].grant = 0 ∧
          (∀ k : Fin 22, k ≠ d → t.pwr.doms[k] = u.pwr.doms[k]) ∧ u.answered t h (.pwrDomain dom 0) 0 0 [0, 0, 0, 0])) ∧
  (∀ (dt : Nat) (d : Fin 22) (s : State),
      let u := s.ticked dt
      let x := u.pwr.doms[d]
      (x.state = .changing → u.footed d = true →
        ∃ t, exec (.domainUsable dt d) s = .next t ∧ t.pwr.doms[d].state = .on ∧ t.pwr.doms[d].grant = x.grant ∧
          (∀ k : Fin 22, k ≠ d → t.pwr.doms[k] = u.pwr.doms[k]) ∧ t.pwr.queue = u.pwr.queue ∧ t.pwr.grants = u.pwr.grants) ∧
      (x.state ≠ .changing ∨ u.footed d = false → ∃ t, exec (.domainUsable dt d) s = .next t ∧ becomes u u t []) ∧
      (∃ t, exec (.domainWakeFail dt d) s = .next t ∧
        becomes u u t (if x.state = .changing ∧ x.wakeAt + 2 * wakeTicks d.val x.fromOff < u.now ∧
          u.ev.blocks[52].held.getLsbD 18 = false then [(52, 18)] else [])))

/-- R497, R499, R502, R503: the head of the queue is granted when it fits the budget, a domain's wake then begins, and one
that does not fit waits; an operation that is ready asks; one that has ended returns its leave; a request whose wait limit
has ended is denied. R501, R89: standby begins once it is asked for and the management domain is idle: every domain but PD00
takes its standby state, and commands are no longer accepted; before that nothing happens. -/
def Obligations.LeaveAndStandby : Prop :=
  (∀ (dt : Nat) (r : LeaveReq) (d : Fin 22) (s : State),
      let u := s.ticked dt
      let granted (rs : List LeaveReq) : Power := { u.pwr with
        queue := [], grants := rs, grantCount := satInc 16 u.pwr.grantCount, maxWait := max u.pwr.maxWait ((u.now - r.at_) / 400) }
      (u.pwr.queue = [r] → u.nvm.calWait = false → r.limit = none → r.cost + u.standingUnits ≤ u.budget →
        (u.grantedUnits + r.cost ≤ u.budget → r.who = .lanes → r.kind = 3 →
          ∃ t, exec (.stewardGrant dt) s = .next t ∧ t.quiet = { u with pwr := granted (u.pwr.grants ++ [r]) }.quiet) ∧
        (u.grantedUnits + r.cost ≤ u.budget → r.who = .domain d none → r.kind = 1 →
          ∃ t, exec (.stewardGrant dt) s = .next t ∧ t.pwr.queue = [] ∧ t.pwr.grants = u.pwr.grants ∧
            t.pwr.doms[d].state = .changing ∧ t.pwr.doms[d].grant = onCost d.val ∧ t.pwr.doms[d].wakeAt = u.now ∧
            ∀ k : Fin 22, k ≠ d → t.pwr.doms[k] = u.pwr.doms[k]) ∧
        (u.budget < u.grantedUnits + r.cost → ∃ t, exec (.stewardGrant dt) s = .next t ∧ becomes u u t [])) ∧
      (u.pwr.doms[d].state = .off → u.asked (fun w => match w with | .domain k _ => k == d | _ => false) = false →
        u.refuseLeave (onCost d.val) = none →
        ∃ t, exec (.leaveRequest dt (.domain d)) s = .next t ∧
          becomes u (u.enqueue { who := .domain d none, kind := 1, cost := onCost d.val, prio := 5, at_ := u.now }) t []) ∧
      (u.pwr.doms[d].state = .on → ∃ t, exec (.leaveRequest dt (.domain d)) s = .next t ∧ becomes u u t []) ∧
      (u.linkU 0 1 = 0 → u.nvm.calWait = false →
        ∃ t, exec (.leaveRelease dt .lanes) s = .next t ∧
          t.quiet = { u with pwr := { u.pwr with grants := u.pwr.grants.filter fun g => g.who != Requester.lanes } }.quiet) ∧
      (∀ c limit, u.pwr.queue = [r] → r.who = .move c → r.limit = some limit →
        (limit ≤ u.now →
          ∃ t, exec (.leaveWaitExpiry dt) s = .next t ∧
            becomes u { u with pwr := { u.pwr with
              queue := [], denied := satInc 16 u.pwr.denied, deniedBoot := u.pwr.deniedBoot + 1 } } t [(52, 16)]) ∧
        (u.now < limit → ∃ t, exec (.leaveWaitExpiry dt) s = .next t ∧ becomes u u t []))) ∧
  (∀ (dt : Nat) (s : State),
      let u := s.ticked dt
      (u.pwr.standbyAsked = true → u.mgmtIdle = true →
        ∃ t, exec (.standbyEntry dt) s = .next t ∧ t.sys.cmdReady = false ∧ t.sys.mgmtOn = false ∧
          t.pwr.standbyAsked = false ∧ t.pwr.standby = some (u.pwr.doms.toList.map (·.state)) ∧ t.recs = u.recs ∧
          t.nvm = u.nvm ∧ t.lpddr = u.lpddr ∧ t.pwr.doms[(1 : Fin 22)].state = .off) ∧
      (u.pwr.standbyAsked = false ∨ u.mgmtIdle = false →
        ∃ t, exec (.standbyEntry dt) s = .next t ∧ becomes u u t []))

/-- R507, R508, R510: a sample moves the average of its sensor or rail by the fraction that AVG gives, rounded half up; a
rule whose comparison has held for HOLD_US becomes active and reports; WAKE sets its pin. R512: PWRFAIL_N going low is
reported, holds the MRAM writes and starts an emergency flush of what is staged; its release before power is lost ends all
of that. -/
def Obligations.WellheadAndPowerFailure : Prop :=
  (∀ (dt : Nat) (value : Int) (s : State),
      let u := s.ticked dt
      let untested (is_ : List Nat) : Prop := ∀ r : Fin 32, u.ruleU r.val 1 1 ∉ is_
      (∀ i : Fin 24, untested [i.val, 24, 25] →
        ∃ t, exec (.wellheadSample dt i.val value) s = .next t ∧
          becomes u { u with wh := { u.wh with
            temps := u.wh.temps.set i (roundDiv (u.wh.temps[i] * 2 ^ u.au 0x0F01 65535 8 1 + (value - u.wh.temps[i]))
              (2 ^ u.au 0x0F01 65535 8 1))
            sampled := u.wh.sampled ||| BitVec.ofNat 24 (2 ^ i.val) } } t []) ∧
      (∀ i : Fin 7, untested [32 + i.val] →
        ∃ t, exec (.wellheadSample dt (32 + i.val) value) s = .next t ∧
          becomes u { u with wh := { u.wh with
            rails := u.wh.rails.set i (roundDiv (u.wh.rails[i] * 2 ^ u.au 0x0F01 65535 9 1 + (value - u.wh.rails[i]))
              (2 ^ u.au 0x0F01 65535 9 1)) } } t []) ∧
      (untested [41] →
        ∃ t, exec (.wakePin dt) s = .next t ∧
          becomes u { u with wh := { u.wh with pins := (u.wh.pins &&& 5) ||| 2 } } t []) ∧
      (∀ (r : Fin 32) (since : Nat), u.ruleU r.val 0 1 = 1 → u.compares r.val 0 = true → u.inputDead (u.ruleU r.val 1 1) = false →
        u.wh.since[r] = some since → u.wh.active.getLsbD r.val = false → u.ruleU r.val 3 1 = 1 →
        (since + 400 * u.ruleU r.val 12 4 ≤ u.now → u.ruleU r.val 10 1 ≤ 3 →
          ∃ t, exec (.wellheadRuleActive dt r) s = .next t ∧
            becomes u { u with wh := { u.wh with
              active := u.wh.active ||| 1#32 <<< r.val, fired := u.wh.fired ||| 1#32 <<< r.val } } t
              [(52, [19, 12, 13, 14].getD (u.ruleU r.val 10 1) 19)]) ∧
        (u.now < since + 400 * u.ruleU r.val 12 4 → ∃ t, exec (.wellheadRuleActive dt r) s = .next t ∧ becomes u u t []))) ∧
  (∀ (dt : Nat) (s : State),
      let u := s.ticked dt
      (∀ r : Fin 32, u.ruleU r.val 1 1 ≠ 40) →
        (u.pwr.pfActive = false →
          ∃ t, exec (.pwrfailAssert dt) s = .next t ∧
            becomes u { u with
              pwr := { u.pwr with pfActive := true, pfSafe := false, pfHold := true }, wh := { u.wh with pins := u.wh.pins ||| 1 } } t
              [(52, 15)]) ∧
        (u.pwr.pfActive = true →
          (∃ t, exec (.pwrfailAssert dt) s = .next t ∧ becomes u u t []) ∧
          ∃ t, exec (.pwrfailRelease dt) s = .next t ∧
            becomes u { u with
              pwr := { u.pwr with pfActive := false, pfSafe := false, pfHold := false }, wh := { u.wh with pins := u.wh.pins &&& 6 } } t []))

/-- R567, R569: power-on and RESET_N, with a boot that reaches no step: PD00 alone is on, no command is ready, records and
memory are at their reset values, MRAM is kept; the cause tells the reset; the watchdog count is cleared when VDD_AO fell.
R567, R568, R569: a boot that reaches its last step ends with CMD_READY, the time it took, a watchdog count of 0 and the
boot report; a boot of fewer steps does not. R537, R567, R570, R65: the watchdogs and lockstep reset the device under their
own causes, the boot watchdog counts, and a firmware slot on trial becomes INVALID; a reset that a command asked for begins
when its time has come; a restart of the management processor ends with commands accepted again. -/
def Obligations.ResetsAndBoot : Prop :=
  (∀ (dt : Nat) (aoLost twinSel : Bool) (addr : Fin 8) (b : BootRun) (s : State),
      let u := s.ticked dt
      let fresh (t : State) (cause wd : Nat) : Prop :=
        t.sys.cause = cause ∧ t.sys.wdCount = wd ∧ t.sys.cmdReady = false ∧ t.sys.mgmtOn = false ∧ t.recs = ({} : State).recs ∧
          t.lpddr = [] ∧ t.nvm = u.nvm.kept ∧ t.ctxs = ({} : State).ctxs ∧
          (∀ d : Fin 22, t.pwr.doms[d].state = if d.val = 0 then .on else .off) ∧ t.audit.ring = u.audit.ring
      b.lastStep = 0 →
        (∃ t, exec (.powerOnReset dt aoLost twinSel addr b) s = .next t ∧ fresh t 1 (if aoLost then 0 else u.sys.wdCount) ∧
          t.sys.twinSel = twinSel ∧ t.sys.addrSel = addr.val ∧ t.twin.state = if twinSel then .forming else .single) ∧
        (∃ t, exec (.resetN dt b) s = .next t ∧ fresh t 2 u.sys.wdCount ∧ t.sys.twinSel = u.sys.twinSel ∧
          t.sys.addrSel = u.sys.addrSel)) ∧
  (∀ (dt : Nat) (aoLost twinSel : Bool) (addr : Fin 8) (b : BootRun) (s : State),
      (9 ≤ b.lastStep →
        (∃ t, exec (.powerOnReset dt aoLost twinSel addr b) s = .next t ∧ t.sys.cmdReady = true ∧ t.sys.readyUs = b.readyUs ∧
          t.sys.wdCount = 0 ∧ t.source 52 0 = true) ∧
        (∃ t, exec (.resetN dt b) s = .next t ∧ t.sys.cmdReady = true ∧ t.sys.readyUs = b.readyUs ∧ t.sys.wdCount = 0 ∧
          t.source 52 0 = true)) ∧
      (b.lastStep ≤ 4 →
        ∃ t, exec (.powerOnReset dt aoLost twinSel addr b) s = .next t ∧ t.sys.cmdReady = false)) ∧
  (∀ (dt : Nat) (b : BootRun) (s : State),
      let u := s.ticked dt
      let reset (t : State) (cause wd : Nat) : Prop :=
        t.sys.cause = cause ∧ t.sys.wdCount = wd ∧ t.sys.cmdReady = false ∧ t.recs = ({} : State).recs ∧ t.nvm.trial = false ∧
          (u.nvm.trial = true → t.nvm.slots[Fin.ofNat 2 u.nvm.activeSlot].state = 6)
      (b.lastStep = 0 →
        (∃ t, exec (.managementWatchdog dt b) s = .next t ∧ reset t 5 u.sys.wdCount) ∧
        (∃ t, exec (.lockstep dt b) s = .next t ∧ reset t 6 u.sys.wdCount) ∧
        (u.sys.cmdReady = false → u.pwr.standby = none → u.sys.bootRef + 80000000 ≤ u.now →
          ∃ t, exec (.bootWatchdog dt b) s = .next t ∧ reset t 4 (min 15 (u.sys.wdCount + 1))) ∧
        (∀ p due, u.sys.resetDue = some (3, p, due) → due ≤ u.now →
          ∃ t, exec (.sysResetBegin dt b) s = .next t ∧ t.sys.cause = 3 ∧ t.sys.cmdReady = false ∧ t.recs = ({} : State).recs)) ∧
      (u.sys.cmdReady = true ∨ u.now < u.sys.bootRef + 80000000 →
        ∃ t, exec (.bootWatchdog dt b) s = .next t ∧ becomes u u t []) ∧
      (∀ p due, u.sys.resetDue = some (0, p, due) → due ≤ u.now → u.idlePorts → (∀ q ∈ allPorts, (u.port q).intake = none) →
        (∀ n : Fin 64, u.mb.sems[n] = 0) → u.sys.factoryTest = false →
        ∃ t, exec (.sysResetBegin dt b) s = .next t ∧
          becomes u { u with sys := { u.sys with resetDue := none, restarting := true } } t []) ∧
      (u.sys.resetDue = none → ∃ t, exec (.sysResetBegin dt b) s = .next t ∧ becomes u u t []) ∧
      (∃ t, exec (.mgmtRestartDone dt) s = .next t ∧ becomes u { u with sys := { u.sys with restarting := false } } t []))

/-! ### The window and the test port -/

/-- R42, R43, R47, R40, R44: a private write of two bytes sets the read pointer; a byte for WIN_TX is kept, or ignored with
TX_BUSY while TX_FULL is set; a legacy transfer and an HDR-DDR write of command code 0x20 do the same in their modes;
without the mode or the address the target takes no part. R42, R43, R48: a read returns the bytes from the read pointer on
and moves it: a register's four bytes are one snapshot, WIN_RX gives the reply's bytes and is emptied by its last one, and
an empty WIN_RX reads 0 with RX_EMPTY; an HDR-DDR read of command code 0xA0 does the same. -/
def Obligations.WindowTransfers : Prop :=
  (∀ (dt : Nat) (a b o v : Byte) (s : State),
      let u := s.ticked dt
      let sdr : State := u.setWin fun w => { w with hdrDdr := false }
      let pointed (e : State) : State := e.setWin fun w => { w with readPtr := a.toNat + 256 * b.toNat }
      let stored (e : State) : State := e.setSlot 0 0 fun x => { x with bytes := putByte x.bytes o.toNat v }
      let busy (e : State) : State := e.setWin fun w => { w with err := w.err ||| 1 }
      3 ≤ u.win.maxWrite →
        (u.win.dynAddr.isSome = true →
          (∃ t, exec (.i3cPrivateWrite dt [a, b]) s = .next t ∧ becomes u (pointed sdr) t [] ∧ t.out.i3cAck = true) ∧
          (u.txFull = false → ∃ t, exec (.i3cPrivateWrite dt [o, 1, v]) s = .next t ∧ becomes u (stored sdr) t []) ∧
          (u.txFull = true → ∃ t, exec (.i3cPrivateWrite dt [o, 1, v]) s = .next t ∧ becomes u (busy sdr) t []) ∧
          (u.win.hdrDdr = true →
            (∃ t, exec (.hdrDdrWrite dt 0x20 [a, b]) s = .next t ∧ becomes u (pointed u) t [] ∧ t.out.i3cAck = true) ∧
            ∀ code, code ≠ 0x20 → ∃ t, exec (.hdrDdrWrite dt code [a, b]) s = .next t ∧ becomes u u t [] ∧ t.out.i3cAck = false) ∧
          ∃ t, exec (.legacyI2cTransfer dt [a, b] 0) s = .next t ∧ becomes u u t []) ∧
        (u.win.dynAddr = none →
          (∃ t, exec (.legacyI2cTransfer dt [a, b] 0) s = .next t ∧ becomes u (pointed u) t [] ∧ t.out.i3cAck = true) ∧
          ∃ t, exec (.i3cPrivateWrite dt [a, b]) s = .next t ∧ becomes u u t [])) ∧
  (∀ (dt : Nat) (s : State),
      let u := s.ticked dt
      let bytes (k : Nat) : List Byte := leWord (u.winReg k)
      let hdr : Bool := u.win.hdrDdr
      u.win.dynAddr.isSome = true → 4 ≤ u.win.maxRead →
        (∀ k : Fin 4, u.win.readPtr = 4 * k.val →
          (∃ t, exec (.i3cPrivateRead dt 4) s = .next t ∧ t.out.i3c = bytes k.val ∧
            becomes u (u.setWin fun w => { w with hdrDdr := false, readPtr := 4 * k.val + 4 }) t []) ∧
          (hdr = true → ∃ t, exec (.hdrDdrRead dt 0xA0 4) s = .next t ∧ t.out.i3c = bytes k.val ∧
            becomes u (u.setWin fun w => { w with readPtr := 4 * k.val + 4 }) t [])) ∧
        (u.rxFull = true → (u.port .p0).outgoing = [] → u.win.readPtr = 0x200 + replyLast (u.mbBytes 1 0) →
          replyLast (u.mbBytes 1 0) < 256 →
          ∃ t, exec (.i3cPrivateRead dt 1) s = .next t ∧ t.rxFull = false ∧
            t.out.i3c = [byteAt (u.mbBytes 1 0) (replyLast (u.mbBytes 1 0))]) ∧
        (u.rxFull = false → u.win.readPtr = 0x200 →
          ∃ t, exec (.i3cPrivateRead dt 1) s = .next t ∧ t.out.i3c = [0] ∧
            becomes u (u.setWin fun w => { w with hdrDdr := false, err := w.err ||| 2, readPtr := 0x201 }) t []) ∧
        (hdr = true → ∀ code n, code ≠ 0xA0 → ∃ t, exec (.hdrDdrRead dt code n) s = .next t ∧ becomes u u t [] ∧ t.out.i3c = []))

/-- R40, R41, R45, R579: what the common command codes change: addresses are assigned and cleared, the interrupt enable
follows ENEC and DISEC, a length in its range is taken and another only noted, ENTHDR0 enters HDR-DDR mode, and RSTACT
returns the target's settings to their reset values. R45, R46, R579: what the direct common command codes return at the
dynamic address, and that they change nothing but the protocol error that GETSTATUS clears; an in-band interrupt carries the
causes and clears them. The bytes of GETMXDS and GETCAPS are the model's reading (log entry 32). -/
def Obligations.CommonCommandCodes : Prop :=
  (∀ (dt : Nat) (ev : Byte) (a static : BitVec 7) (v : Half) (s : State),
      let u := s.ticked dt
      let acked (f : Window → Window) (o : Host.Outcome State Fault Refusal) : Prop :=
        ∃ t, o = .next t ∧ becomes u (u.setWin f) t [] ∧ t.out.i3cAck = true ∧ t.out.i3c = []
      acked (fun w => { w with hdrDdr := false, irqEnabled := ev.getLsbD 0 || w.irqEnabled }) (exec (.enec dt ev) s) ∧
      acked (fun w => { w with hdrDdr := false, irqEnabled := !ev.getLsbD 0 && w.irqEnabled }) (exec (.disec dt ev) s) ∧
      acked (fun w => { w with hdrDdr := false, dynAddr := none }) (exec (.rstdaa dt) s) ∧
      acked (fun w => { w with hdrDdr := true }) (exec (.enthdr0 dt) s) ∧
      acked (fun w => { w with hdrDdr := false }) (exec (.rstact dt 0) s) ∧
      acked (fun w => { w with
        hdrDdr := false, irqEnabled := true, maxWrite := 258, maxRead := 256, protoError := false, readPtr := 0 })
        (exec (.rstact dt 1) s) ∧
      (u.win.dynAddr = none →
        acked (fun w => { w with hdrDdr := false, dynAddr := some a }) (exec (.entdaa dt a) s) ∧
        (static.toNat = 0x30 + u.sys.addrSel % 8 →
          acked (fun w => { w with hdrDdr := false, dynAddr := some a }) (exec (.setdasa dt static a) s)) ∧
        (static.toNat ≠ 0x30 + u.sys.addrSel % 8 → ∃ t, exec (.setdasa dt static a) s = .next t ∧ becomes u u t []) ∧
        ∃ t, exec (.setnewda dt a) s = .next t ∧ becomes u u t []) ∧
      (u.win.dynAddr.isSome = true →
        acked (fun w => { w with hdrDdr := false, dynAddr := some a }) (exec (.setnewda dt a) s) ∧
        (∃ t, exec (.entdaa dt a) s = .next t ∧ becomes u u t []) ∧
        (258 ≤ v.toNat → v.toNat ≤ 1024 →
          acked (fun w => { w with hdrDdr := false, maxWrite := v.toNat }) (exec (.setmwl dt v) s)) ∧
        (256 ≤ v.toNat → v.toNat ≤ 1024 →
          acked (fun w => { w with hdrDdr := false, maxRead := v.toNat }) (exec (.setmrl dt v) s)) ∧
        (v.toNat < 256 ∨ 1024 < v.toNat →
          acked (fun w => { w with hdrDdr := false, protoError := true }) (exec (.setmwl dt v) s) ∧
          acked (fun w => { w with hdrDdr := false, protoError := true }) (exec (.setmrl dt v) s)))) ∧
  (∀ (dt : Nat) (s : State),
      let u := s.ticked dt
      let gives (bytes : List Byte) (o : Host.Outcome State Fault Refusal) : Prop :=
        ∃ t, o = .next t ∧ becomes u (u.setWin fun w => { w with hdrDdr := false }) t [] ∧ t.out.i3cAck = true ∧ t.out.i3c = bytes
      let big (n x : Nat) : List Byte := (leBytes n x).reverse
      (u.win.dynAddr.isSome = true →
        gives (big 2 u.win.maxWrite) (exec (.getmwl dt) s) ∧ gives (big 2 u.win.maxRead ++ [1]) (exec (.getmrl dt) s) ∧
        gives (big 6 (0x03A7 * 2 ^ 33 + 0x7316 * 2 ^ 16 + u.sys.addrSel % 8 * 2 ^ 12 + Config.siliconRev.toNat)) (exec (.getpid dt) s) ∧
        gives [0x26] (exec (.getbcr dt) s) ∧ gives [0] (exec (.getdcr dt) s) ∧ gives [0, 0] (exec (.getmxds dt) s) ∧
        gives [1] (exec (.getcaps dt) s) ∧
        ∃ t, exec (.getstatus dt) s = .next t ∧ becomes u (u.setWin fun w => { w with hdrDdr := false, protoError := false }) t [] ∧
          t.out.i3c = big 2 ((if u.win.protoError then 32 else 0) + if u.win.ibiPending then 1 else 0)) ∧
      (u.ev.notify = false → u.ev.escalate = false → u.sys.faultLow = u.faultLevel →
        (u.win.ibiPending = true →
          ∃ t, exec (.ibiDelivery dt) s = .next t ∧ t.out.ibi = some (u.win.cause.setWidth 8) ∧ t.win.cause = 0 ∧ becomes u u t []) ∧
        (u.win.ibiPending = false → ∃ t, exec (.ibiDelivery dt) s = .next t ∧ t.out.ibi = none ∧ becomes u u t [])))

/-- R66, R67: the test port: every scan captures first; OP 1 writes a word into MB8 and moves the write pointer, OP 2 moves
the read pointer past the word captured, REWIND returns both pointers, ACK empties MB9, RING hands MB8 on; with another
instruction than 0x2C a scan changes nothing. -/
def Obligations.TestPortScans : Prop :=
∀ (dt : Nat) (code : Byte) (data : Word) (x y : Slot) (s : State),
    let u := s.ticked dt
    let op (n : Nat) (e : State) : State := e.setJtag fun j => { j with lastOp := n }
    (∃ t, exec (.oanteInstruction dt code) s = .next t ∧ becomes u (u.setJtag fun j => { j with ir := code }) t []) ∧
    (u.jtag.ir ≠ 0x2C → ∃ t, exec (.jtagWrite dt data) s = .next t ∧ becomes u u t []) ∧
    (u.jtag.ir = 0x2C → u.domOn 21 = true → u.mb.chans[(8 : Fin 10)].slots = [x] → u.mb.chans[(9 : Fin 10)].slots = [y] →
      (∃ t, exec (.jtagStatus dt) s = .next t ∧ becomes u (op 0 u) t [] ∧ t.out.jtag = u.jtagCapture) ∧
      (x.full = false → u.jtag.writePtr ≤ 252 →
        ∃ t, exec (.jtagWrite dt data) s = .next t ∧
          becomes u (op 1 ((u.setSlot 8 0 fun z => { z with
            bytes := (List.range 4).foldl (fun b i => putByte b (u.jtag.writePtr + i) (wordByte data i)) z.bytes }).setJtag
              fun j => { j with writePtr := j.writePtr + 4 })) t []) ∧
      (x.full = true → ∃ t, exec (.jtagWrite dt data) s = .next t ∧
        becomes u (op 1 (u.setChan 8 fun c => { c with overrun := true })) t []) ∧
      (y.full = true → u.jtag.lastOp = 2 → u.jtag.readPtr + 4 ≤ replyLast y.bytes →
        ∃ t, exec (.jtagRead dt) s = .next t ∧ becomes u (u.setJtag fun j => { j with readPtr := j.readPtr + 4 }) t [] ∧
          t.out.jtag = u.jtagCapture) ∧
      (∃ t, exec (.jtagRewind dt) s = .next t ∧ becomes u (op 3 (u.setJtag fun j => { j with writePtr := 0, readPtr := 0 })) t []) ∧
      ((u.port .p3).outgoing = [] → ∀ r, ∃ t, exec (.jtagAck dt r) s = .next t ∧ t.mbFull 9 = false ∧ t.jtag.readPtr = 0 ∧
        t.jtag.lastOp = 3 ∧ t.mb.chans[(8 : Fin 10)] = u.mb.chans[(8 : Fin 10)]) ∧
      (x.full = false → u.accepting = true →
        ∃ t, exec (.jtagRing dt false false) s = .next t ∧ t.mbFull 8 = true ∧ t.mbBytes 8 0 = x.bytes ∧
          t.jtag.writePtr = 0 ∧ t.mb.chans[(9 : Fin 10)] = u.mb.chans[(9 : Fin 10)]))
end

