-- ==== Sys2Proof/Laws/Memory.lean ====
section
/-!
SUPPORT. The memories: every operation keeps the canonical form, and what a read gives after a write.
-/
namespace Sys2Proof.Machine

/-- Every address of a memory lies above `a`. -/
def Memory.above (a : Nat) (m : List Host.Cell) : Prop := ∀ c ∈ m, a < c.1

/-- The canonical form of a memory with a first cell. -/
theorem Memory.wf_cons (d : Nat → Byte) (c : Host.Cell) (m : List Host.Cell) :
    Memory.wf d (c :: m) = true ↔ c.2 ≠ d c.1 ∧ Memory.above c.1 m ∧ Memory.wf d m = true := by
  induction m generalizing c with
  | nil => simp [Memory.wf, Memory.above]
  | cons c' m ih =>
    rw [Memory.wf, Bool.and_eq_true, Bool.and_eq_true, ih c']
    simp only [bne_iff_ne, decide_eq_true_eq, Memory.above, List.mem_cons, forall_eq_or_imp]
    constructor
    · rintro ⟨⟨h1, h2⟩, h3, h4, h5⟩
      exact ⟨h1, ⟨h2, fun x hx => Nat.lt_trans h2 (h4 x hx)⟩, h3, h4, h5⟩
    · rintro ⟨h1, ⟨h2, _⟩, h3, h4, h5⟩
      exact ⟨⟨h1, h2⟩, h3, h4, h5⟩

/-- A write adds no address below a bound that the memory and the address written respect. -/
theorem Memory.write_above (d : Nat → Byte) (m : List Host.Cell) (a b : Nat) (v : Byte)
    (hm : Memory.above b m) (ha : b < a) : Memory.above b (Memory.write d m a v) := by
  induction m with
  | nil => unfold Memory.write; split <;> simp [Memory.above, ha]
  | cons c m ih =>
    have h1 : b < c.1 := hm c (by simp)
    have h2 : Memory.above b m := fun x hx => hm x (by simp [hx])
    unfold Memory.write
    split
    · split
      · exact hm
      · intro x hx
        rcases List.mem_cons.1 hx with h | h
        · subst h; exact ha
        · exact hm x h
    · split
      · split
        · exact h2
        · intro x hx
          rcases List.mem_cons.1 hx with h | h
          · subst h; exact ha
          · exact h2 x h
      · intro x hx
        rcases List.mem_cons.1 hx with h | h
        · subst h; exact h1
        · exact ih h2 x h

/-- A write keeps the canonical form. -/
theorem Memory.write_wf (d : Nat → Byte) (m : List Host.Cell) (a : Nat) (v : Byte)
    (h : Memory.wf d m = true) : Memory.wf d (Memory.write d m a v) = true := by
  induction m with
  | nil =>
    unfold Memory.write; split
    · rfl
    · rw [Memory.wf_cons]; exact ⟨by simpa using ‹_›, by simp [Memory.above], rfl⟩
  | cons c m ih =>
    have hc := (Memory.wf_cons d c m).1 h
    unfold Memory.write
    split
    · split
      · exact h
      · rw [Memory.wf_cons]
        refine ⟨by simpa using ‹_›, fun x hx => ?_, h⟩
        rcases List.mem_cons.1 hx with e | e
        · subst e; assumption
        · exact Nat.lt_trans ‹_› (hc.2.1 x e)
    · split
      · next e =>
        split
        · exact hc.2.2
        · rw [Memory.wf_cons]
          exact ⟨by simpa using ‹_›, by subst e; exact hc.2.1, hc.2.2⟩
      · rw [Memory.wf_cons]
        exact ⟨hc.1, Memory.write_above d m a c.1 v hc.2.1 (by omega), ih hc.2.2⟩

/-- Writing bytes upward keeps the canonical form. -/
theorem Memory.writeList_wf (d : Nat → Byte) (m : List Host.Cell) (a : Nat) (vs : List Byte)
    (h : Memory.wf d m = true) : Memory.wf d (Memory.writeList d m a vs) = true := by
  induction vs generalizing m a with
  | nil => exact h
  | cons v vs ih => exact ih _ _ (Memory.write_wf d m a v h)

/-- Below every listed address a read gives the default. -/
theorem Memory.read_above (d : Nat → Byte) (m : List Host.Cell) (a : Nat) (h : Memory.above a m) :
    Memory.read d m a = d a := by
  induction m with
  | nil => rfl
  | cons c m ih =>
    have h1 : a < c.1 := h c (by simp)
    rw [Memory.read, if_neg (by omega)]
    exact ih fun x hx => h x (by simp [hx])

/-- A read after a write: the byte written at its address, and every other byte as before. -/
theorem Memory.read_write (d : Nat → Byte) (m : List Host.Cell) (a b : Nat) (v : Byte) (h : Memory.wf d m = true) :
    Memory.read d (Memory.write d m a v) b = if b = a then v else Memory.read d m b := by
  induction m with
  | nil =>
    unfold Memory.write
    split
    · next e => simp only [Memory.read]; split <;> simp_all
    · simp only [Memory.read, eq_comm]
  | cons c m ih =>
    have hc := (Memory.wf_cons d c m).1 h
    unfold Memory.write
    split
    · next hlt =>
      have ha : Memory.above a (c :: m) := fun x hx => by
        rcases List.mem_cons.1 hx with e | e
        · subst e; exact hlt
        · exact Nat.lt_trans hlt (hc.2.1 x e)
      split
      · next e =>
        split
        · next hb => rw [hb, Memory.read_above d _ a ha, e]
        · rfl
      · simp only [Memory.read, eq_comm]
    · split
      · next hnlt heq =>
        have ha : Memory.above a m := by rw [heq]; exact hc.2.1
        split
        · next e =>
          split
          · next hb => rw [hb, Memory.read_above d m a ha, e]
          · next hb => rw [Memory.read, if_neg (by omega)]
        · rw [Memory.read, Memory.read, heq]
          simp only [eq_comm]
          split <;> simp_all
      · next h1 h2 =>
        rw [Memory.read, Memory.read, ih hc.2.2]
        split
        · next e =>
          split
          · omega
          · rfl
        · rfl

/-- A read after bytes were written upward: a byte outside them is as before. -/
theorem Memory.read_writeList_ne (d : Nat → Byte) (m : List Host.Cell) (a b : Nat) (vs : List Byte)
    (h : Memory.wf d m = true) (hb : b < a ∨ a + vs.length ≤ b) :
    Memory.read d (Memory.writeList d m a vs) b = Memory.read d m b := by
  induction vs generalizing m a with
  | nil => rfl
  | cons v vs ih =>
    rw [Memory.writeList, ih _ _ (Memory.write_wf d m a v h) (by simp at hb; omega), Memory.read_write d m a b v h,
      if_neg (by simp at hb; omega)]

/-- A read after bytes were written upward: the bytes written. -/
theorem Memory.read_writeList (d : Nat → Byte) (m : List Host.Cell) (a i : Nat) (vs : List Byte)
    (h : Memory.wf d m = true) (hi : i < vs.length) :
    Memory.read d (Memory.writeList d m a vs) (a + i) = vs[i] := by
  induction vs generalizing m a i with
  | nil => simp at hi
  | cons v vs ih =>
    rw [Memory.writeList]
    cases i with
    | zero =>
      rw [Memory.read_writeList_ne d _ (a + 1) (a + 0) vs (Memory.write_wf d m a v h) (by omega),
        Memory.read_write d m a _ v h]
      simp
    | succ i =>
      have := ih (Memory.write d m a v) (a + 1) i (Memory.write_wf d m a v h) (by simpa using hi)
      rw [show a + 1 + i = a + (i + 1) by omega] at this
      simpa using this

/-- The canonical form is kept when a range of cells is taken from another canonical memory. -/
theorem Memory.copyRange_wf (d : Nat → Byte) (src dst : List Host.Cell) (lo hi : Nat) (hle : lo ≤ hi)
    (hs : Memory.wf d src = true) (hd : Memory.wf d dst = true) :
    Memory.wf d (Memory.copyRange src dst lo hi) = true := by
  have key : ∀ m : List Host.Cell, Memory.wf d m = true ↔
      (∀ c ∈ m, c.2 ≠ d c.1) ∧ m.Pairwise fun c c' => c.1 < c'.1 := by
    intro m
    induction m with
    | nil => simp [Memory.wf]
    | cons c m ih =>
      rw [Memory.wf_cons, ih, List.pairwise_cons]
      simp only [Memory.above, List.mem_cons, forall_eq_or_imp]
      constructor
      · rintro ⟨h1, h2, h3, h4⟩; exact ⟨⟨h1, h3⟩, h2, h4⟩
      · rintro ⟨⟨h1, h3⟩, h2, h4⟩; exact ⟨h1, h2, h3, h4⟩
  rw [key] at hs hd ⊢
  unfold Memory.copyRange
  refine ⟨?_, ?_⟩
  · intro c hc
    simp only [List.mem_append, List.mem_filter] at hc
    rcases hc with (hc | hc) | hc
    · exact hd.1 c hc.1
    · exact hs.1 c hc.1
    · exact hd.1 c hc.1
  · rw [List.pairwise_append, List.pairwise_append]
    refine ⟨⟨hd.2.filter _, hs.2.filter _, ?_⟩, hd.2.filter _, ?_⟩
    · intro c hc c' hc'
      simp only [List.mem_filter, decide_eq_true_eq] at hc hc'
      omega
    · intro c hc c' hc'
      simp only [List.mem_append, List.mem_filter, decide_eq_true_eq] at hc hc'
      omega

/-- Equal reads of canonical memories mean equal memories: a write of the byte already there changes nothing. -/
theorem Memory.write_same (d : Nat → Byte) (m : List Host.Cell) (a : Nat) (h : Memory.wf d m = true) :
    Memory.write d m a (Memory.read d m a) = m := by
  induction m with
  | nil => simp [Memory.read, Memory.write]
  | cons c m ih =>
    have hc := (Memory.wf_cons d c m).1 h
    unfold Memory.write
    split
    · next hlt =>
      have ha : Memory.above a (c :: m) := fun x hx => by
        rcases List.mem_cons.1 hx with e | e
        · subst e; exact hlt
        · exact Nat.lt_trans hlt (hc.2.1 x e)
      rw [Memory.read_above d _ a ha, if_pos rfl]
    · split
      · next hnlt heq =>
        rw [Memory.read, if_pos heq.symm, if_neg (by rw [heq]; exact hc.1), heq]
      · next h1 h2 => rw [Memory.read, if_neg (fun e => h2 e.symm), ih hc.2.2]

end Sys2Proof.Machine
end

