-- ==== Sys2Proof/Laws/Reports.lean ====
section
/-!
SUPPORT. What the reports of a step touch: occurrences of sources, audit entries, the twin's answer to an escalation and the
pins leave the quiet state alone, and which bits of EV_STATUS they set.
-/
namespace Sys2Proof.Machine

/-! ### The quiet state -/

@[simp] theorem State.quiet_stage (s : State) (e : Entry) : (s.stage e).quiet = s.quiet := by
  unfold State.stage; split <;> rfl

@[simp] theorem State.quiet_occur (s : State) (c : Src) (a b : Bool) : (s.occur c a b).quiet = s.quiet := by
  unfold State.occur
  split
  · dsimp only
    split
    · rfl
    · rw [State.quiet_stage]; rfl
  · rfl

@[simp] theorem State.quiet_noteOverflow (s t : State) : (s.noteOverflow t).quiet = t.quiet := by
  unfold State.noteOverflow; split <;> simp

@[simp] theorem State.quiet_log (s : State) (e : Entry) : (s.log e).quiet = s.quiet := by simp [State.log]

@[simp] theorem State.quiet_raise (s : State) (k b : Nat) : (s.raise k b).quiet = s.quiet := by simp [State.raise]

@[simp] theorem State.quiet_raiseHeld (s : State) (k b : Nat) : (s.raiseHeld k b).quiet = s.quiet := by
  simp [State.raiseHeld]

@[simp] theorem State.quiet_raiseIf (s : State) (p : Bool) (k b : Nat) : (s.raiseIf p k b).quiet = s.quiet := by
  unfold State.raiseIf; split <;> simp

@[simp] theorem State.quiet_causeGone (s : State) (k b : Nat) : (s.causeGone k b).quiet = s.quiet := by
  unfold State.causeGone; split <;> rfl

@[simp] theorem State.quiet_raiseLevel (s : State) (p : Bool) (k b : Nat) : (s.raiseLevel p k b).quiet = s.quiet := by
  unfold State.raiseLevel
  split
  · split
    · split <;> simp
    · simp
  · rfl

@[simp] theorem State.quiet_sendG (s : State) (f : GFrame) : (s.sendG f).quiet = s.quiet := by
  unfold State.sendG; split <;> rfl

@[simp] theorem State.quiet_startSwap (s : State) (r : Word) (h : Bool) (p : Option Port) :
    (s.startSwap r h p).quiet = s.quiet := by
  unfold State.startSwap; rw [State.quiet_sendG]; rfl

@[simp] theorem State.quiet_setEpoch (s : State) (e : Half) : (s.setEpoch e).quiet = s.quiet := by
  unfold State.setEpoch; split <;> rfl

@[simp] theorem State.quiet_twin (s : State) (x : Twin) : ({ s with twin := x } : State).quiet = s.quiet := rfl

@[simp] theorem State.quiet_released (s : State) (b : Bool) :
    ({ s with sluice := { s.sluice with released := b } } : State).quiet = s.quiet := rfl

@[simp] theorem State.quiet_enter (s : State) (t : TwinState) (e : Half) : (s.enter t e).quiet = s.quiet := by
  unfold State.enter
  extract_lets old oldEpoch s1 w s2 a s3 s4 s5 s6 s7 u s8 leaves
  have h2 : s2.quiet = s.quiet := (State.quiet_twin _ _).trans (State.quiet_setEpoch _ _)
  have h4 : s4.quiet = s.quiet := (State.quiet_raiseIf _ _ _ _).trans ((State.quiet_log _ _).trans h2)
  have h5 : s5.quiet = s.quiet := by
    show (if _ then _ else _ : State).quiet = _
    split
    · exact (State.quiet_raiseHeld _ _ _).trans h4
    · exact h4
  have h6 : s6.quiet = s.quiet := by
    show (if _ then _ else _ : State).quiet = _
    split
    · exact (State.quiet_raiseHeld _ _ _).trans h5
    · exact h5
  have h7 : s7.quiet = s.quiet := by
    show (if _ then _ else _ : State).quiet = _
    split
    · exact (State.quiet_raise _ _ _).trans h6
    · exact h6
  have h8 : s8.quiet = s.quiet := by
    show (if _ then _ else _ : State).quiet = _
    split
    · exact (State.quiet_raise _ _ _).trans ((State.quiet_released _ _).trans h7)
    · split
      · exact (State.quiet_released _ _).trans h7
      · exact h7
  exact (State.quiet_twin _ _).trans h8

@[simp] theorem State.quiet_fence (s : State) : s.fence.quiet = s.quiet := by
  unfold State.fence; split <;> simp

@[simp] theorem State.quiet_escalateNow (s : State) : s.escalateNow.quiet = s.quiet := by
  unfold State.escalateNow
  split
  · split <;> simp
  · simp
  · simp
  · rfl

@[simp] theorem State.quiet_sendMirrors (s : State) : s.sendMirrors.quiet = s.quiet := by
  unfold State.sendMirrors
  split
  · split
    · rw [State.quiet_sendG]
      simp only [State.fillSlot, State.setSlot, State.setChan, State.quiet, upd]
      congr 2
      · exact (Vector.set_set ..).trans (Vector.set_set ..)
      · exact List.append_nil _
    · rfl
  · rfl

@[simp] theorem State.quiet_refreshCauses (s : State) : s.refreshCauses.quiet = s.quiet := by
  unfold State.refreshCauses
  suffices h : ∀ (l : List (Nat × Nat × (Unit → Bool))) (t : State),
      (l.foldl (fun s c => s.causeGone c.1 c.2.1) t).quiet = t.quiet from
    h _ _
  intro l
  induction l with
  | nil => intro t; rfl
  | cons c l ih =>
    intro t
    rw [List.foldl_cons, ih]
    simp

@[simp] theorem State.quiet_noteCauses (s : State) : s.noteCauses.quiet = s.quiet := rfl

@[simp] theorem State.quiet_drivePins (s : State) : s.drivePins.quiet = s.quiet := rfl

@[simp] theorem State.quiet_pending (s : State) (q : List Instr) : ({ s with pending := q } : State).quiet = s.quiet := rfl

/-- What every step ends with leaves the quiet state alone. -/
@[simp] theorem State.quiet_settle (s : State) (q : List Instr) : (s.settle q).quiet = s.quiet := by
  unfold State.settle
  refine (State.quiet_pending _ _).trans ((State.quiet_drivePins _).trans ((State.quiet_noteCauses _).trans
    ((State.quiet_refreshCauses _).trans ((State.quiet_sendMirrors _).trans ?_))))
  split
  · exact State.quiet_escalateNow s
  · rfl

/-! ### The bits of EV_STATUS -/

/-- A list of one source contains that source. -/
theorem contains_one (K B k b : Nat) : [(K, B)].contains (k, b) = decide (K = k ∧ B = b) := by
  rw [List.contains_cons, List.contains_nil, Bool.or_false, Bool.eq_iff_iff, beq_iff_eq, decide_eq_true_eq, Prod.mk.injEq]
  exact ⟨fun h => ⟨h.1.symm, h.2.symm⟩, fun h => ⟨h.1.symm, h.2.symm⟩⟩

/-- A source that reports on the step is none of the others. -/
theorem contains_report (K B k b : Nat) (h : reportSource K B = true) (hr : reportSource k b = false) :
    [(K, B)].contains (k, b) = false := by
  rw [contains_one, decide_eq_false_iff_not]
  rintro ⟨rfl, rfl⟩
  rw [h] at hr; exact Bool.noConfusion hr

/-- Equal blocks have equal bits. -/
theorem State.statusBit_congr {s t : State} (h : t.ev.blocks = s.ev.blocks) (k : Fin 53) (b : Nat) :
    t.statusBit k b = s.statusBit k b := by unfold State.statusBit; rw [h]

/-- A bit that is the same on both branches. -/
theorem State.statusBit_ite {p : Prop} [Decidable p] {x y : State} {k : Fin 53} {b : Nat} {v : Bool}
    (hx : x.statusBit k b = v) (hy : y.statusBit k b = v) : (if p then x else y).statusBit k b = v := by
  split <;> assumption

@[simp] theorem State.statusBit_stage (s : State) (e : Entry) (k : Fin 53) (b : Nat) :
    (s.stage e).statusBit k b = s.statusBit k b := by
  unfold State.stage; split <;> rfl

/-- R472: an occurrence sets its bit and no other. -/
theorem State.statusBit_occur (s : State) (c : Src) (x y : Bool) (k : Fin 53) (b : Nat) (hb : c.bit < 32) :
    (s.occur c x y).statusBit k b = (s.statusBit k b || decide (c.block = k.val ∧ c.bit = b)) := by
  have key : ∀ w : Word, (w ||| 1#32 <<< c.bit).getLsbD b = (w.getLsbD b || decide (c.bit = b)) := by
    intro w
    rw [BitVec.getLsbD_or]
    congr 1
    rw [BitVec.getLsbD_shiftLeft]
    by_cases h : c.bit = b
    · subst h; simp [hb]
    · simp only [h, decide_false]
      by_cases h2 : b < c.bit
      · simp [h2]
      · have : 1 ≤ b - c.bit := by omega
        have h3 : (1#32).getLsbD (b - c.bit) = false := by
          simp [BitVec.getLsbD_one]; omega
        simp [h3]
  unfold State.occur
  split
  · next h =>
    have hset : ∀ (f : EvBlock), (s.ev.blocks.set c.block f h)[k] = if c.block = k.val then f else s.ev.blocks[k] := by
      intro f
      simp [Vector.getElem_set]
    have main : ∀ f : EvBlock, f.status = s.ev.blocks[(⟨c.block, h⟩ : Fin 53)].status ||| 1#32 <<< c.bit →
        ((s.ev.blocks.set c.block f h)[k]).status.getLsbD b =
          (s.statusBit k b || decide (c.block = k.val ∧ c.bit = b)) := by
      intro f hf
      rw [hset]
      by_cases hk : c.block = k.val
      · rw [if_pos hk, hf, key]
        have e : s.ev.blocks[(⟨c.block, h⟩ : Fin 53)] = s.ev.blocks[k] := by
          congr 1; exact Fin.ext hk
        rw [e]
        simp only [hk, true_and, State.statusBit]
      · rw [if_neg hk]; simp [State.statusBit, hk]
    dsimp only
    split
    · exact main _ rfl
    · rw [State.statusBit_stage]; exact main _ rfl
  · next h =>
    have : c.block ≠ k.val := by have := k.isLt; omega
    simp [this]

/-- An audit entry sets at most LOG_OVERFLOW. -/
theorem State.statusBit_noteOverflow (s t : State) (k : Fin 53) (b : Nat) (hr : reportSource k.val b = false) :
    (s.noteOverflow t).statusBit k b = t.statusBit k b := by
  unfold State.noteOverflow
  split
  · rw [State.statusBit_occur _ _ _ _ _ _ (by decide)]
    have : ¬(52 = k.val ∧ 4 = b) := by
      rintro ⟨h1, h2⟩
      rw [← h1, ← h2] at hr
      exact absurd hr (by decide)
    simp [this]
  · rfl

/-! ### What becomes set -/

/-- Nothing becomes set where the event blocks stay. -/
theorem newlySet_of_eq {s t : State} (h : t.ev.blocks = s.ev.blocks) : newlySet s t [] := by
  intro k b _; rw [State.statusBit_congr h]; simp

/-- What becomes set in two stretches. -/
theorem newlySet.trans {s t u : State} {l m : List (Nat × Nat)} (h : newlySet s t l) (h' : newlySet t u m) :
    newlySet s u (l ++ m) := by
  intro k b hr
  rw [h' k b hr, h k b hr, Bool.or_assoc]
  congr 1
  simp

theorem newlySet_log (s : State) (e : Entry) : newlySet s (s.log e) [] := by
  intro k b hr
  rw [State.log, State.statusBit_noteOverflow _ _ _ _ hr]; simp

/-- R472: a source that occurs becomes set, and nothing else. -/
theorem newlySet_raise (s : State) (K B : Nat) (hB : B < 32) : newlySet s (s.raise K B) [(K, B)] := by
  intro k b hr
  rw [State.raise, State.statusBit_noteOverflow _ _ _ _ hr, State.statusBit_occur _ _ _ _ _ _ hB, contains_one]

/-- R472: a source that occurs with a held cause becomes set, and nothing else. -/
theorem newlySet_raiseHeld (s : State) (K B : Nat) (hB : B < 32) : newlySet s (s.raiseHeld K B) [(K, B)] := by
  intro k b hr
  rw [State.raiseHeld, State.statusBit_noteOverflow _ _ _ _ hr, State.statusBit_occur _ _ _ _ _ _ hB, contains_one]

theorem newlySet_raiseIf (s : State) (p : Bool) (K B : Nat) (hB : B < 32) :
    newlySet s (s.raiseIf p K B) (if p then [(K, B)] else []) := by
  unfold State.raiseIf
  split
  · exact newlySet_raise s K B hB
  · exact newlySet_of_eq rfl

/-- The end of a cause clears no bit. -/
theorem newlySet_causeGone (s : State) (K B : Nat) : newlySet s (s.causeGone K B) [] := by
  intro k b _
  simp only [List.contains_nil, Bool.or_false]
  unfold State.causeGone
  split
  · unfold State.statusBit
    simp only [upd]
    rw [Fin.getElem_fin, Vector.getElem_set]
    split
    · next h => simp [← h]
    · rfl
  · rfl

theorem newlySet.of_eq_list {s t : State} {l m : List (Nat × Nat)} (h : newlySet s t l) (e : l = m) : newlySet s t m :=
  e ▸ h

/-- A twin state is entered: only sources that report on the step are set. -/
theorem newlySet_enter (s : State) (t : TwinState) (e : Half) : newlySet s (s.enter t e) [] := by
  intro k b hr
  simp only [List.contains_nil, Bool.or_false]
  have raiseR : ∀ (x : State) (K B : Nat), B < 32 → reportSource K B = true →
      (x.raise K B).statusBit k b = x.statusBit k b := by
    intro x K B hB hR
    rw [newlySet_raise x K B hB k b hr, contains_report K B k.val b hR hr, Bool.or_false]
  have heldR : ∀ (x : State) (K B : Nat), B < 32 → reportSource K B = true →
      (x.raiseHeld K B).statusBit k b = x.statusBit k b := by
    intro x K B hB hR
    rw [newlySet_raiseHeld x K B hB k b hr, contains_report K B k.val b hR hr, Bool.or_false]
  unfold State.enter
  extract_lets old oldEpoch s1 w s2 a s3 s4 s5 s6 s7 u s8 leaves
  have h1 : s1.statusBit k b = s.statusBit k b := by
    show (s.setEpoch e).statusBit k b = _
    unfold State.setEpoch; split <;> exact State.statusBit_congr rfl k b
  have h2 : s2.statusBit k b = s.statusBit k b := (State.statusBit_congr rfl k b).trans h1
  have h3 : s3.statusBit k b = s.statusBit k b := by
    show (s2.log _).statusBit k b = _
    rw [newlySet_log s2 _ k b hr]; simpa using h2
  have h4 : s4.statusBit k b = s.statusBit k b := by
    show (s3.raiseIf _ 49 0).statusBit k b = _
    unfold State.raiseIf
    exact State.statusBit_ite ((raiseR s3 49 0 (by decide) (by decide)).trans h3) h3
  have h5 : s5.statusBit k b = s.statusBit k b :=
    State.statusBit_ite ((heldR s4 49 10 (by decide) (by decide)).trans h4) h4
  have h6 : s6.statusBit k b = s.statusBit k b :=
    State.statusBit_ite ((heldR s5 49 30 (by decide) (by decide)).trans h5) h5
  have h7 : s7.statusBit k b = s.statusBit k b :=
    State.statusBit_ite ((raiseR s6 49 23 (by decide) (by decide)).trans h6) h6
  have h8 : s8.statusBit k b = s.statusBit k b :=
    State.statusBit_ite ((raiseR _ 50 23 (by decide) (by decide)).trans ((State.statusBit_congr rfl k b).trans h7))
      (State.statusBit_ite ((State.statusBit_congr rfl k b).trans h7) h7)
  exact (State.statusBit_congr rfl k b).trans h8

theorem newlySet_escalateNow (s : State) : newlySet s s.escalateNow [] := by
  unfold State.escalateNow
  split
  · split
    · unfold State.startSwap State.sendG
      split <;> exact newlySet_of_eq rfl
    · exact newlySet_of_eq rfl
  · unfold State.fence
    split
    · exact newlySet_enter _ _ _
    · exact newlySet_enter _ _ _
    · exact newlySet_of_eq rfl
  · unfold State.fence
    split
    · exact newlySet_enter _ _ _
    · exact newlySet_enter _ _ _
    · exact newlySet_of_eq rfl
  · exact newlySet_of_eq rfl

theorem newlySet_sendMirrors (s : State) : newlySet s s.sendMirrors [] := by
  apply newlySet_of_eq
  unfold State.sendMirrors
  split
  · split
    · dsimp only
      unfold State.sendG
      split <;> rfl
    · rfl
  · rfl

theorem newlySet_refreshCauses (s : State) : newlySet s s.refreshCauses [] := by
  unfold State.refreshCauses
  suffices h : ∀ (l : List (Nat × Nat × (Unit → Bool))) (t : State),
      newlySet t (l.foldl (fun s c => s.causeGone c.1 c.2.1) t) [] from
    h _ _
  intro l
  induction l with
  | nil => intro t; exact newlySet_of_eq rfl
  | cons c l ih =>
    intro t
    rw [List.foldl_cons]
    exact newlySet.trans (l := []) (newlySet_causeGone _ _ _) (ih _)

theorem newlySet_tail (s : State) (q : List Instr) :
    newlySet s { s.noteCauses.drivePins with pending := q } [] :=
  newlySet_of_eq rfl

theorem newlySet_escalation (s : State) : newlySet s (if s.ev.escalate then s.escalateNow else s) [] := by
  split
  · exact newlySet_escalateNow s
  · exact newlySet_of_eq rfl

/-- What every step ends with sets only sources that report on the step. -/
theorem newlySet_settle (s : State) (q : List Instr) : newlySet s (s.settle q) [] := by
  unfold State.settle
  exact (((newlySet_escalation s).trans (newlySet_sendMirrors _)).trans (newlySet_refreshCauses _)).trans
    (newlySet_tail _ q)

end Sys2Proof.Machine
end

