-- ==== Sys2Proof/Laws/State.lean ====
section
/-!
SUPPORT. What each named update of State leaves in each field, and the reads of an updated vector, so that no later proof
unfolds a record update.
-/
namespace Sys2Proof.Machine

/-! ### Vectors of like parts -/

@[simp] theorem upd_same {α : Type} {n : Nat} (v : Vector α n) (i : Fin n) (f : α → α) : (upd v i f)[i] = f v[i] := by
  simp [upd]

theorem upd_get {α : Type} {n : Nat} (v : Vector α n) (i j : Fin n) (f : α → α) :
    (upd v i f)[j] = if i = j then f v[i] else v[j] := by
  unfold upd
  rw [Fin.getElem_fin, Vector.getElem_set]
  by_cases h : i = j
  · subst h; simp
  · have : i.val ≠ j.val := fun e => h (Fin.ext e)
    simp [h, this]

theorem upd_ne {α : Type} {n : Nat} (v : Vector α n) (i j : Fin n) (f : α → α) (h : i ≠ j) : (upd v i f)[j] = v[j] := by
  rw [upd_get, if_neg h]

@[simp] theorem upd_upd {α : Type} {n : Nat} (v : Vector α n) (i : Fin n) (f g : α → α) :
    upd (upd v i f) i g = upd v i (fun x => g (f x)) := by
  unfold upd; simp

/-! ### State.setNvm -/

@[simp] theorem State.setNvm_now (s : State) (f : Nvm → Nvm) :
    (s.setNvm f).now = s.now := rfl
@[simp] theorem State.setNvm_sys (s : State) (f : Nvm → Nvm) :
    (s.setNvm f).sys = s.sys := rfl
@[simp] theorem State.setNvm_clock (s : State) (f : Nvm → Nvm) :
    (s.setNvm f).clock = s.clock := rfl
@[simp] theorem State.setNvm_trig (s : State) (f : Nvm → Nvm) :
    (s.setNvm f).trig = s.trig := rfl
@[simp] theorem State.setNvm_win (s : State) (f : Nvm → Nvm) :
    (s.setNvm f).win = s.win := rfl
@[simp] theorem State.setNvm_jtag (s : State) (f : Nvm → Nvm) :
    (s.setNvm f).jtag = s.jtag := rfl
@[simp] theorem State.setNvm_ports (s : State) (f : Nvm → Nvm) :
    (s.setNvm f).ports = s.ports := rfl
@[simp] theorem State.setNvm_lastPort (s : State) (f : Nvm → Nvm) :
    (s.setNvm f).lastPort = s.lastPort := rfl
@[simp] theorem State.setNvm_mb (s : State) (f : Nvm → Nvm) :
    (s.setNvm f).mb = s.mb := rfl
@[simp] theorem State.setNvm_audit (s : State) (f : Nvm → Nvm) :
    (s.setNvm f).audit = s.audit := rfl
@[simp] theorem State.setNvm_recs (s : State) (f : Nvm → Nvm) :
    (s.setNvm f).recs = s.recs := rfl
@[simp] theorem State.setNvm_ev (s : State) (f : Nvm → Nvm) :
    (s.setNvm f).ev = s.ev := rfl
@[simp] theorem State.setNvm_pwr (s : State) (f : Nvm → Nvm) :
    (s.setNvm f).pwr = s.pwr := rfl
@[simp] theorem State.setNvm_wh (s : State) (f : Nvm → Nvm) :
    (s.setNvm f).wh = s.wh := rfl
@[simp] theorem State.setNvm_nvm (s : State) (f : Nvm → Nvm) :
    (s.setNvm f).nvm = f s.nvm := rfl
@[simp] theorem State.setNvm_inlets (s : State) (f : Nvm → Nvm) :
    (s.setNvm f).inlets = s.inlets := rfl
@[simp] theorem State.setNvm_queues (s : State) (f : Nvm → Nvm) :
    (s.setNvm f).queues = s.queues := rfl
@[simp] theorem State.setNvm_ctxs (s : State) (f : Nvm → Nvm) :
    (s.setNvm f).ctxs = s.ctxs := rfl
@[simp] theorem State.setNvm_expo (s : State) (f : Nvm → Nvm) :
    (s.setNvm f).expo = s.expo := rfl
@[simp] theorem State.setNvm_stats (s : State) (f : Nvm → Nvm) :
    (s.setNvm f).stats = s.stats := rfl
@[simp] theorem State.setNvm_sluice (s : State) (f : Nvm → Nvm) :
    (s.setNvm f).sluice = s.sluice := rfl
@[simp] theorem State.setNvm_runnels (s : State) (f : Nvm → Nvm) :
    (s.setNvm f).runnels = s.runnels := rfl
@[simp] theorem State.setNvm_carries (s : State) (f : Nvm → Nvm) :
    (s.setNvm f).carries = s.carries := rfl
@[simp] theorem State.setNvm_views (s : State) (f : Nvm → Nvm) :
    (s.setNvm f).views = s.views := rfl
@[simp] theorem State.setNvm_lpddr (s : State) (f : Nvm → Nvm) :
    (s.setNvm f).lpddr = s.lpddr := rfl
@[simp] theorem State.setNvm_grid (s : State) (f : Nvm → Nvm) :
    (s.setNvm f).grid = s.grid := rfl
@[simp] theorem State.setNvm_cf (s : State) (f : Nvm → Nvm) :
    (s.setNvm f).cf = s.cf := rfl
@[simp] theorem State.setNvm_weir (s : State) (f : Nvm → Nvm) :
    (s.setNvm f).weir = s.weir := rfl
@[simp] theorem State.setNvm_spill (s : State) (f : Nvm → Nvm) :
    (s.setNvm f).spill = s.spill := rfl
@[simp] theorem State.setNvm_launched (s : State) (f : Nvm → Nvm) :
    (s.setNvm f).launched = s.launched := rfl
@[simp] theorem State.setNvm_link (s : State) (f : Nvm → Nvm) :
    (s.setNvm f).link = s.link := rfl
@[simp] theorem State.setNvm_gl (s : State) (f : Nvm → Nvm) :
    (s.setNvm f).gl = s.gl := rfl
@[simp] theorem State.setNvm_twin (s : State) (f : Nvm → Nvm) :
    (s.setNvm f).twin = s.twin := rfl
@[simp] theorem State.setNvm_mem (s : State) (f : Nvm → Nvm) :
    (s.setNvm f).mem = s.mem := rfl
@[simp] theorem State.setNvm_dma (s : State) (f : Nvm → Nvm) :
    (s.setNvm f).dma = s.dma := rfl
@[simp] theorem State.setNvm_out (s : State) (f : Nvm → Nvm) :
    (s.setNvm f).out = s.out := rfl
@[simp] theorem State.setNvm_freeCtr (s : State) (f : Nvm → Nvm) :
    (s.setNvm f).freeCtr = s.freeCtr := rfl
@[simp] theorem State.setNvm_pending (s : State) (f : Nvm → Nvm) :
    (s.setNvm f).pending = s.pending := rfl

/-! ### State.setCf -/

@[simp] theorem State.setCf_now (s : State) (f : Confluence → Confluence) :
    (s.setCf f).now = s.now := rfl
@[simp] theorem State.setCf_sys (s : State) (f : Confluence → Confluence) :
    (s.setCf f).sys = s.sys := rfl
@[simp] theorem State.setCf_clock (s : State) (f : Confluence → Confluence) :
    (s.setCf f).clock = s.clock := rfl
@[simp] theorem State.setCf_trig (s : State) (f : Confluence → Confluence) :
    (s.setCf f).trig = s.trig := rfl
@[simp] theorem State.setCf_win (s : State) (f : Confluence → Confluence) :
    (s.setCf f).win = s.win := rfl
@[simp] theorem State.setCf_jtag (s : State) (f : Confluence → Confluence) :
    (s.setCf f).jtag = s.jtag := rfl
@[simp] theorem State.setCf_ports (s : State) (f : Confluence → Confluence) :
    (s.setCf f).ports = s.ports := rfl
@[simp] theorem State.setCf_lastPort (s : State) (f : Confluence → Confluence) :
    (s.setCf f).lastPort = s.lastPort := rfl
@[simp] theorem State.setCf_mb (s : State) (f : Confluence → Confluence) :
    (s.setCf f).mb = s.mb := rfl
@[simp] theorem State.setCf_audit (s : State) (f : Confluence → Confluence) :
    (s.setCf f).audit = s.audit := rfl
@[simp] theorem State.setCf_recs (s : State) (f : Confluence → Confluence) :
    (s.setCf f).recs = s.recs := rfl
@[simp] theorem State.setCf_ev (s : State) (f : Confluence → Confluence) :
    (s.setCf f).ev = s.ev := rfl
@[simp] theorem State.setCf_pwr (s : State) (f : Confluence → Confluence) :
    (s.setCf f).pwr = s.pwr := rfl
@[simp] theorem State.setCf_wh (s : State) (f : Confluence → Confluence) :
    (s.setCf f).wh = s.wh := rfl
@[simp] theorem State.setCf_nvm (s : State) (f : Confluence → Confluence) :
    (s.setCf f).nvm = s.nvm := rfl
@[simp] theorem State.setCf_inlets (s : State) (f : Confluence → Confluence) :
    (s.setCf f).inlets = s.inlets := rfl
@[simp] theorem State.setCf_queues (s : State) (f : Confluence → Confluence) :
    (s.setCf f).queues = s.queues := rfl
@[simp] theorem State.setCf_ctxs (s : State) (f : Confluence → Confluence) :
    (s.setCf f).ctxs = s.ctxs := rfl
@[simp] theorem State.setCf_expo (s : State) (f : Confluence → Confluence) :
    (s.setCf f).expo = s.expo := rfl
@[simp] theorem State.setCf_stats (s : State) (f : Confluence → Confluence) :
    (s.setCf f).stats = s.stats := rfl
@[simp] theorem State.setCf_sluice (s : State) (f : Confluence → Confluence) :
    (s.setCf f).sluice = s.sluice := rfl
@[simp] theorem State.setCf_runnels (s : State) (f : Confluence → Confluence) :
    (s.setCf f).runnels = s.runnels := rfl
@[simp] theorem State.setCf_carries (s : State) (f : Confluence → Confluence) :
    (s.setCf f).carries = s.carries := rfl
@[simp] theorem State.setCf_views (s : State) (f : Confluence → Confluence) :
    (s.setCf f).views = s.views := rfl
@[simp] theorem State.setCf_lpddr (s : State) (f : Confluence → Confluence) :
    (s.setCf f).lpddr = s.lpddr := rfl
@[simp] theorem State.setCf_grid (s : State) (f : Confluence → Confluence) :
    (s.setCf f).grid = s.grid := rfl
@[simp] theorem State.setCf_cf (s : State) (f : Confluence → Confluence) :
    (s.setCf f).cf = f s.cf := rfl
@[simp] theorem State.setCf_weir (s : State) (f : Confluence → Confluence) :
    (s.setCf f).weir = s.weir := rfl
@[simp] theorem State.setCf_spill (s : State) (f : Confluence → Confluence) :
    (s.setCf f).spill = s.spill := rfl
@[simp] theorem State.setCf_launched (s : State) (f : Confluence → Confluence) :
    (s.setCf f).launched = s.launched := rfl
@[simp] theorem State.setCf_link (s : State) (f : Confluence → Confluence) :
    (s.setCf f).link = s.link := rfl
@[simp] theorem State.setCf_gl (s : State) (f : Confluence → Confluence) :
    (s.setCf f).gl = s.gl := rfl
@[simp] theorem State.setCf_twin (s : State) (f : Confluence → Confluence) :
    (s.setCf f).twin = s.twin := rfl
@[simp] theorem State.setCf_mem (s : State) (f : Confluence → Confluence) :
    (s.setCf f).mem = s.mem := rfl
@[simp] theorem State.setCf_dma (s : State) (f : Confluence → Confluence) :
    (s.setCf f).dma = s.dma := rfl
@[simp] theorem State.setCf_out (s : State) (f : Confluence → Confluence) :
    (s.setCf f).out = s.out := rfl
@[simp] theorem State.setCf_freeCtr (s : State) (f : Confluence → Confluence) :
    (s.setCf f).freeCtr = s.freeCtr := rfl
@[simp] theorem State.setCf_pending (s : State) (f : Confluence → Confluence) :
    (s.setCf f).pending = s.pending := rfl

/-! ### State.setRunnel -/

@[simp] theorem State.setRunnel_now (s : State) (r : Fin 8) (f : Runnel → Runnel) :
    (s.setRunnel r f).now = s.now := rfl
@[simp] theorem State.setRunnel_sys (s : State) (r : Fin 8) (f : Runnel → Runnel) :
    (s.setRunnel r f).sys = s.sys := rfl
@[simp] theorem State.setRunnel_clock (s : State) (r : Fin 8) (f : Runnel → Runnel) :
    (s.setRunnel r f).clock = s.clock := rfl
@[simp] theorem State.setRunnel_trig (s : State) (r : Fin 8) (f : Runnel → Runnel) :
    (s.setRunnel r f).trig = s.trig := rfl
@[simp] theorem State.setRunnel_win (s : State) (r : Fin 8) (f : Runnel → Runnel) :
    (s.setRunnel r f).win = s.win := rfl
@[simp] theorem State.setRunnel_jtag (s : State) (r : Fin 8) (f : Runnel → Runnel) :
    (s.setRunnel r f).jtag = s.jtag := rfl
@[simp] theorem State.setRunnel_ports (s : State) (r : Fin 8) (f : Runnel → Runnel) :
    (s.setRunnel r f).ports = s.ports := rfl
@[simp] theorem State.setRunnel_lastPort (s : State) (r : Fin 8) (f : Runnel → Runnel) :
    (s.setRunnel r f).lastPort = s.lastPort := rfl
@[simp] theorem State.setRunnel_mb (s : State) (r : Fin 8) (f : Runnel → Runnel) :
    (s.setRunnel r f).mb = s.mb := rfl
@[simp] theorem State.setRunnel_audit (s : State) (r : Fin 8) (f : Runnel → Runnel) :
    (s.setRunnel r f).audit = s.audit := rfl
@[simp] theorem State.setRunnel_recs (s : State) (r : Fin 8) (f : Runnel → Runnel) :
    (s.setRunnel r f).recs = s.recs := rfl
@[simp] theorem State.setRunnel_ev (s : State) (r : Fin 8) (f : Runnel → Runnel) :
    (s.setRunnel r f).ev = s.ev := rfl
@[simp] theorem State.setRunnel_pwr (s : State) (r : Fin 8) (f : Runnel → Runnel) :
    (s.setRunnel r f).pwr = s.pwr := rfl
@[simp] theorem State.setRunnel_wh (s : State) (r : Fin 8) (f : Runnel → Runnel) :
    (s.setRunnel r f).wh = s.wh := rfl
@[simp] theorem State.setRunnel_nvm (s : State) (r : Fin 8) (f : Runnel → Runnel) :
    (s.setRunnel r f).nvm = s.nvm := rfl
@[simp] theorem State.setRunnel_inlets (s : State) (r : Fin 8) (f : Runnel → Runnel) :
    (s.setRunnel r f).inlets = s.inlets := rfl
@[simp] theorem State.setRunnel_queues (s : State) (r : Fin 8) (f : Runnel → Runnel) :
    (s.setRunnel r f).queues = s.queues := rfl
@[simp] theorem State.setRunnel_ctxs (s : State) (r : Fin 8) (f : Runnel → Runnel) :
    (s.setRunnel r f).ctxs = s.ctxs := rfl
@[simp] theorem State.setRunnel_expo (s : State) (r : Fin 8) (f : Runnel → Runnel) :
    (s.setRunnel r f).expo = s.expo := rfl
@[simp] theorem State.setRunnel_stats (s : State) (r : Fin 8) (f : Runnel → Runnel) :
    (s.setRunnel r f).stats = s.stats := rfl
@[simp] theorem State.setRunnel_sluice (s : State) (r : Fin 8) (f : Runnel → Runnel) :
    (s.setRunnel r f).sluice = s.sluice := rfl
@[simp] theorem State.setRunnel_runnels (s : State) (r : Fin 8) (f : Runnel → Runnel) :
    (s.setRunnel r f).runnels = upd s.runnels r f := rfl
@[simp] theorem State.setRunnel_carries (s : State) (r : Fin 8) (f : Runnel → Runnel) :
    (s.setRunnel r f).carries = s.carries := rfl
@[simp] theorem State.setRunnel_views (s : State) (r : Fin 8) (f : Runnel → Runnel) :
    (s.setRunnel r f).views = s.views := rfl
@[simp] theorem State.setRunnel_lpddr (s : State) (r : Fin 8) (f : Runnel → Runnel) :
    (s.setRunnel r f).lpddr = s.lpddr := rfl
@[simp] theorem State.setRunnel_grid (s : State) (r : Fin 8) (f : Runnel → Runnel) :
    (s.setRunnel r f).grid = s.grid := rfl
@[simp] theorem State.setRunnel_cf (s : State) (r : Fin 8) (f : Runnel → Runnel) :
    (s.setRunnel r f).cf = s.cf := rfl
@[simp] theorem State.setRunnel_weir (s : State) (r : Fin 8) (f : Runnel → Runnel) :
    (s.setRunnel r f).weir = s.weir := rfl
@[simp] theorem State.setRunnel_spill (s : State) (r : Fin 8) (f : Runnel → Runnel) :
    (s.setRunnel r f).spill = s.spill := rfl
@[simp] theorem State.setRunnel_launched (s : State) (r : Fin 8) (f : Runnel → Runnel) :
    (s.setRunnel r f).launched = s.launched := rfl
@[simp] theorem State.setRunnel_link (s : State) (r : Fin 8) (f : Runnel → Runnel) :
    (s.setRunnel r f).link = s.link := rfl
@[simp] theorem State.setRunnel_gl (s : State) (r : Fin 8) (f : Runnel → Runnel) :
    (s.setRunnel r f).gl = s.gl := rfl
@[simp] theorem State.setRunnel_twin (s : State) (r : Fin 8) (f : Runnel → Runnel) :
    (s.setRunnel r f).twin = s.twin := rfl
@[simp] theorem State.setRunnel_mem (s : State) (r : Fin 8) (f : Runnel → Runnel) :
    (s.setRunnel r f).mem = s.mem := rfl
@[simp] theorem State.setRunnel_dma (s : State) (r : Fin 8) (f : Runnel → Runnel) :
    (s.setRunnel r f).dma = s.dma := rfl
@[simp] theorem State.setRunnel_out (s : State) (r : Fin 8) (f : Runnel → Runnel) :
    (s.setRunnel r f).out = s.out := rfl
@[simp] theorem State.setRunnel_freeCtr (s : State) (r : Fin 8) (f : Runnel → Runnel) :
    (s.setRunnel r f).freeCtr = s.freeCtr := rfl
@[simp] theorem State.setRunnel_pending (s : State) (r : Fin 8) (f : Runnel → Runnel) :
    (s.setRunnel r f).pending = s.pending := rfl

/-! ### State.setTwin -/

@[simp] theorem State.setTwin_now (s : State) (f : Twin → Twin) :
    (s.setTwin f).now = s.now := rfl
@[simp] theorem State.setTwin_sys (s : State) (f : Twin → Twin) :
    (s.setTwin f).sys = s.sys := rfl
@[simp] theorem State.setTwin_clock (s : State) (f : Twin → Twin) :
    (s.setTwin f).clock = s.clock := rfl
@[simp] theorem State.setTwin_trig (s : State) (f : Twin → Twin) :
    (s.setTwin f).trig = s.trig := rfl
@[simp] theorem State.setTwin_win (s : State) (f : Twin → Twin) :
    (s.setTwin f).win = s.win := rfl
@[simp] theorem State.setTwin_jtag (s : State) (f : Twin → Twin) :
    (s.setTwin f).jtag = s.jtag := rfl
@[simp] theorem State.setTwin_ports (s : State) (f : Twin → Twin) :
    (s.setTwin f).ports = s.ports := rfl
@[simp] theorem State.setTwin_lastPort (s : State) (f : Twin → Twin) :
    (s.setTwin f).lastPort = s.lastPort := rfl
@[simp] theorem State.setTwin_mb (s : State) (f : Twin → Twin) :
    (s.setTwin f).mb = s.mb := rfl
@[simp] theorem State.setTwin_audit (s : State) (f : Twin → Twin) :
    (s.setTwin f).audit = s.audit := rfl
@[simp] theorem State.setTwin_recs (s : State) (f : Twin → Twin) :
    (s.setTwin f).recs = s.recs := rfl
@[simp] theorem State.setTwin_ev (s : State) (f : Twin → Twin) :
    (s.setTwin f).ev = s.ev := rfl
@[simp] theorem State.setTwin_pwr (s : State) (f : Twin → Twin) :
    (s.setTwin f).pwr = s.pwr := rfl
@[simp] theorem State.setTwin_wh (s : State) (f : Twin → Twin) :
    (s.setTwin f).wh = s.wh := rfl
@[simp] theorem State.setTwin_nvm (s : State) (f : Twin → Twin) :
    (s.setTwin f).nvm = s.nvm := rfl
@[simp] theorem State.setTwin_inlets (s : State) (f : Twin → Twin) :
    (s.setTwin f).inlets = s.inlets := rfl
@[simp] theorem State.setTwin_queues (s : State) (f : Twin → Twin) :
    (s.setTwin f).queues = s.queues := rfl
@[simp] theorem State.setTwin_ctxs (s : State) (f : Twin → Twin) :
    (s.setTwin f).ctxs = s.ctxs := rfl
@[simp] theorem State.setTwin_expo (s : State) (f : Twin → Twin) :
    (s.setTwin f).expo = s.expo := rfl
@[simp] theorem State.setTwin_stats (s : State) (f : Twin → Twin) :
    (s.setTwin f).stats = s.stats := rfl
@[simp] theorem State.setTwin_sluice (s : State) (f : Twin → Twin) :
    (s.setTwin f).sluice = s.sluice := rfl
@[simp] theorem State.setTwin_runnels (s : State) (f : Twin → Twin) :
    (s.setTwin f).runnels = s.runnels := rfl
@[simp] theorem State.setTwin_carries (s : State) (f : Twin → Twin) :
    (s.setTwin f).carries = s.carries := rfl
@[simp] theorem State.setTwin_views (s : State) (f : Twin → Twin) :
    (s.setTwin f).views = s.views := rfl
@[simp] theorem State.setTwin_lpddr (s : State) (f : Twin → Twin) :
    (s.setTwin f).lpddr = s.lpddr := rfl
@[simp] theorem State.setTwin_grid (s : State) (f : Twin → Twin) :
    (s.setTwin f).grid = s.grid := rfl
@[simp] theorem State.setTwin_cf (s : State) (f : Twin → Twin) :
    (s.setTwin f).cf = s.cf := rfl
@[simp] theorem State.setTwin_weir (s : State) (f : Twin → Twin) :
    (s.setTwin f).weir = s.weir := rfl
@[simp] theorem State.setTwin_spill (s : State) (f : Twin → Twin) :
    (s.setTwin f).spill = s.spill := rfl
@[simp] theorem State.setTwin_launched (s : State) (f : Twin → Twin) :
    (s.setTwin f).launched = s.launched := rfl
@[simp] theorem State.setTwin_link (s : State) (f : Twin → Twin) :
    (s.setTwin f).link = s.link := rfl
@[simp] theorem State.setTwin_gl (s : State) (f : Twin → Twin) :
    (s.setTwin f).gl = s.gl := rfl
@[simp] theorem State.setTwin_twin (s : State) (f : Twin → Twin) :
    (s.setTwin f).twin = f s.twin := rfl
@[simp] theorem State.setTwin_mem (s : State) (f : Twin → Twin) :
    (s.setTwin f).mem = s.mem := rfl
@[simp] theorem State.setTwin_dma (s : State) (f : Twin → Twin) :
    (s.setTwin f).dma = s.dma := rfl
@[simp] theorem State.setTwin_out (s : State) (f : Twin → Twin) :
    (s.setTwin f).out = s.out := rfl
@[simp] theorem State.setTwin_freeCtr (s : State) (f : Twin → Twin) :
    (s.setTwin f).freeCtr = s.freeCtr := rfl
@[simp] theorem State.setTwin_pending (s : State) (f : Twin → Twin) :
    (s.setTwin f).pending = s.pending := rfl

/-! ### State.setDma -/

@[simp] theorem State.setDma_now (s : State) (c : Fin 32) (f : DmaChan → DmaChan) :
    (s.setDma c f).now = s.now := rfl
@[simp] theorem State.setDma_sys (s : State) (c : Fin 32) (f : DmaChan → DmaChan) :
    (s.setDma c f).sys = s.sys := rfl
@[simp] theorem State.setDma_clock (s : State) (c : Fin 32) (f : DmaChan → DmaChan) :
    (s.setDma c f).clock = s.clock := rfl
@[simp] theorem State.setDma_trig (s : State) (c : Fin 32) (f : DmaChan → DmaChan) :
    (s.setDma c f).trig = s.trig := rfl
@[simp] theorem State.setDma_win (s : State) (c : Fin 32) (f : DmaChan → DmaChan) :
    (s.setDma c f).win = s.win := rfl
@[simp] theorem State.setDma_jtag (s : State) (c : Fin 32) (f : DmaChan → DmaChan) :
    (s.setDma c f).jtag = s.jtag := rfl
@[simp] theorem State.setDma_ports (s : State) (c : Fin 32) (f : DmaChan → DmaChan) :
    (s.setDma c f).ports = s.ports := rfl
@[simp] theorem State.setDma_lastPort (s : State) (c : Fin 32) (f : DmaChan → DmaChan) :
    (s.setDma c f).lastPort = s.lastPort := rfl
@[simp] theorem State.setDma_mb (s : State) (c : Fin 32) (f : DmaChan → DmaChan) :
    (s.setDma c f).mb = s.mb := rfl
@[simp] theorem State.setDma_audit (s : State) (c : Fin 32) (f : DmaChan → DmaChan) :
    (s.setDma c f).audit = s.audit := rfl
@[simp] theorem State.setDma_recs (s : State) (c : Fin 32) (f : DmaChan → DmaChan) :
    (s.setDma c f).recs = s.recs := rfl
@[simp] theorem State.setDma_ev (s : State) (c : Fin 32) (f : DmaChan → DmaChan) :
    (s.setDma c f).ev = s.ev := rfl
@[simp] theorem State.setDma_pwr (s : State) (c : Fin 32) (f : DmaChan → DmaChan) :
    (s.setDma c f).pwr = s.pwr := rfl
@[simp] theorem State.setDma_wh (s : State) (c : Fin 32) (f : DmaChan → DmaChan) :
    (s.setDma c f).wh = s.wh := rfl
@[simp] theorem State.setDma_nvm (s : State) (c : Fin 32) (f : DmaChan → DmaChan) :
    (s.setDma c f).nvm = s.nvm := rfl
@[simp] theorem State.setDma_inlets (s : State) (c : Fin 32) (f : DmaChan → DmaChan) :
    (s.setDma c f).inlets = s.inlets := rfl
@[simp] theorem State.setDma_queues (s : State) (c : Fin 32) (f : DmaChan → DmaChan) :
    (s.setDma c f).queues = s.queues := rfl
@[simp] theorem State.setDma_ctxs (s : State) (c : Fin 32) (f : DmaChan → DmaChan) :
    (s.setDma c f).ctxs = s.ctxs := rfl
@[simp] theorem State.setDma_expo (s : State) (c : Fin 32) (f : DmaChan → DmaChan) :
    (s.setDma c f).expo = s.expo := rfl
@[simp] theorem State.setDma_stats (s : State) (c : Fin 32) (f : DmaChan → DmaChan) :
    (s.setDma c f).stats = s.stats := rfl
@[simp] theorem State.setDma_sluice (s : State) (c : Fin 32) (f : DmaChan → DmaChan) :
    (s.setDma c f).sluice = s.sluice := rfl
@[simp] theorem State.setDma_runnels (s : State) (c : Fin 32) (f : DmaChan → DmaChan) :
    (s.setDma c f).runnels = s.runnels := rfl
@[simp] theorem State.setDma_carries (s : State) (c : Fin 32) (f : DmaChan → DmaChan) :
    (s.setDma c f).carries = s.carries := rfl
@[simp] theorem State.setDma_views (s : State) (c : Fin 32) (f : DmaChan → DmaChan) :
    (s.setDma c f).views = s.views := rfl
@[simp] theorem State.setDma_lpddr (s : State) (c : Fin 32) (f : DmaChan → DmaChan) :
    (s.setDma c f).lpddr = s.lpddr := rfl
@[simp] theorem State.setDma_grid (s : State) (c : Fin 32) (f : DmaChan → DmaChan) :
    (s.setDma c f).grid = s.grid := rfl
@[simp] theorem State.setDma_cf (s : State) (c : Fin 32) (f : DmaChan → DmaChan) :
    (s.setDma c f).cf = s.cf := rfl
@[simp] theorem State.setDma_weir (s : State) (c : Fin 32) (f : DmaChan → DmaChan) :
    (s.setDma c f).weir = s.weir := rfl
@[simp] theorem State.setDma_spill (s : State) (c : Fin 32) (f : DmaChan → DmaChan) :
    (s.setDma c f).spill = s.spill := rfl
@[simp] theorem State.setDma_launched (s : State) (c : Fin 32) (f : DmaChan → DmaChan) :
    (s.setDma c f).launched = s.launched := rfl
@[simp] theorem State.setDma_link (s : State) (c : Fin 32) (f : DmaChan → DmaChan) :
    (s.setDma c f).link = s.link := rfl
@[simp] theorem State.setDma_gl (s : State) (c : Fin 32) (f : DmaChan → DmaChan) :
    (s.setDma c f).gl = s.gl := rfl
@[simp] theorem State.setDma_twin (s : State) (c : Fin 32) (f : DmaChan → DmaChan) :
    (s.setDma c f).twin = s.twin := rfl
@[simp] theorem State.setDma_mem (s : State) (c : Fin 32) (f : DmaChan → DmaChan) :
    (s.setDma c f).mem = s.mem := rfl
@[simp] theorem State.setDma_dma (s : State) (c : Fin 32) (f : DmaChan → DmaChan) :
    (s.setDma c f).dma = { s.dma with chans := upd s.dma.chans c f } := rfl
@[simp] theorem State.setDma_out (s : State) (c : Fin 32) (f : DmaChan → DmaChan) :
    (s.setDma c f).out = s.out := rfl
@[simp] theorem State.setDma_freeCtr (s : State) (c : Fin 32) (f : DmaChan → DmaChan) :
    (s.setDma c f).freeCtr = s.freeCtr := rfl
@[simp] theorem State.setDma_pending (s : State) (c : Fin 32) (f : DmaChan → DmaChan) :
    (s.setDma c f).pending = s.pending := rfl

/-! ### State.setCtx -/

@[simp] theorem State.setCtx_now (s : State) (c : Fin 64) (f : CtxState → CtxState) :
    (s.setCtx c f).now = s.now := rfl
@[simp] theorem State.setCtx_sys (s : State) (c : Fin 64) (f : CtxState → CtxState) :
    (s.setCtx c f).sys = s.sys := rfl
@[simp] theorem State.setCtx_clock (s : State) (c : Fin 64) (f : CtxState → CtxState) :
    (s.setCtx c f).clock = s.clock := rfl
@[simp] theorem State.setCtx_trig (s : State) (c : Fin 64) (f : CtxState → CtxState) :
    (s.setCtx c f).trig = s.trig := rfl
@[simp] theorem State.setCtx_win (s : State) (c : Fin 64) (f : CtxState → CtxState) :
    (s.setCtx c f).win = s.win := rfl
@[simp] theorem State.setCtx_jtag (s : State) (c : Fin 64) (f : CtxState → CtxState) :
    (s.setCtx c f).jtag = s.jtag := rfl
@[simp] theorem State.setCtx_ports (s : State) (c : Fin 64) (f : CtxState → CtxState) :
    (s.setCtx c f).ports = s.ports := rfl
@[simp] theorem State.setCtx_lastPort (s : State) (c : Fin 64) (f : CtxState → CtxState) :
    (s.setCtx c f).lastPort = s.lastPort := rfl
@[simp] theorem State.setCtx_mb (s : State) (c : Fin 64) (f : CtxState → CtxState) :
    (s.setCtx c f).mb = s.mb := rfl
@[simp] theorem State.setCtx_audit (s : State) (c : Fin 64) (f : CtxState → CtxState) :
    (s.setCtx c f).audit = s.audit := rfl
@[simp] theorem State.setCtx_recs (s : State) (c : Fin 64) (f : CtxState → CtxState) :
    (s.setCtx c f).recs = s.recs := rfl
@[simp] theorem State.setCtx_ev (s : State) (c : Fin 64) (f : CtxState → CtxState) :
    (s.setCtx c f).ev = s.ev := rfl
@[simp] theorem State.setCtx_pwr (s : State) (c : Fin 64) (f : CtxState → CtxState) :
    (s.setCtx c f).pwr = s.pwr := rfl
@[simp] theorem State.setCtx_wh (s : State) (c : Fin 64) (f : CtxState → CtxState) :
    (s.setCtx c f).wh = s.wh := rfl
@[simp] theorem State.setCtx_nvm (s : State) (c : Fin 64) (f : CtxState → CtxState) :
    (s.setCtx c f).nvm = s.nvm := rfl
@[simp] theorem State.setCtx_inlets (s : State) (c : Fin 64) (f : CtxState → CtxState) :
    (s.setCtx c f).inlets = s.inlets := rfl
@[simp] theorem State.setCtx_queues (s : State) (c : Fin 64) (f : CtxState → CtxState) :
    (s.setCtx c f).queues = s.queues := rfl
@[simp] theorem State.setCtx_ctxs (s : State) (c : Fin 64) (f : CtxState → CtxState) :
    (s.setCtx c f).ctxs = upd s.ctxs c f := rfl
@[simp] theorem State.setCtx_expo (s : State) (c : Fin 64) (f : CtxState → CtxState) :
    (s.setCtx c f).expo = s.expo := rfl
@[simp] theorem State.setCtx_stats (s : State) (c : Fin 64) (f : CtxState → CtxState) :
    (s.setCtx c f).stats = s.stats := rfl
@[simp] theorem State.setCtx_sluice (s : State) (c : Fin 64) (f : CtxState → CtxState) :
    (s.setCtx c f).sluice = s.sluice := rfl
@[simp] theorem State.setCtx_runnels (s : State) (c : Fin 64) (f : CtxState → CtxState) :
    (s.setCtx c f).runnels = s.runnels := rfl
@[simp] theorem State.setCtx_carries (s : State) (c : Fin 64) (f : CtxState → CtxState) :
    (s.setCtx c f).carries = s.carries := rfl
@[simp] theorem State.setCtx_views (s : State) (c : Fin 64) (f : CtxState → CtxState) :
    (s.setCtx c f).views = s.views := rfl
@[simp] theorem State.setCtx_lpddr (s : State) (c : Fin 64) (f : CtxState → CtxState) :
    (s.setCtx c f).lpddr = s.lpddr := rfl
@[simp] theorem State.setCtx_grid (s : State) (c : Fin 64) (f : CtxState → CtxState) :
    (s.setCtx c f).grid = s.grid := rfl
@[simp] theorem State.setCtx_cf (s : State) (c : Fin 64) (f : CtxState → CtxState) :
    (s.setCtx c f).cf = s.cf := rfl
@[simp] theorem State.setCtx_weir (s : State) (c : Fin 64) (f : CtxState → CtxState) :
    (s.setCtx c f).weir = s.weir := rfl
@[simp] theorem State.setCtx_spill (s : State) (c : Fin 64) (f : CtxState → CtxState) :
    (s.setCtx c f).spill = s.spill := rfl
@[simp] theorem State.setCtx_launched (s : State) (c : Fin 64) (f : CtxState → CtxState) :
    (s.setCtx c f).launched = s.launched := rfl
@[simp] theorem State.setCtx_link (s : State) (c : Fin 64) (f : CtxState → CtxState) :
    (s.setCtx c f).link = s.link := rfl
@[simp] theorem State.setCtx_gl (s : State) (c : Fin 64) (f : CtxState → CtxState) :
    (s.setCtx c f).gl = s.gl := rfl
@[simp] theorem State.setCtx_twin (s : State) (c : Fin 64) (f : CtxState → CtxState) :
    (s.setCtx c f).twin = s.twin := rfl
@[simp] theorem State.setCtx_mem (s : State) (c : Fin 64) (f : CtxState → CtxState) :
    (s.setCtx c f).mem = s.mem := rfl
@[simp] theorem State.setCtx_dma (s : State) (c : Fin 64) (f : CtxState → CtxState) :
    (s.setCtx c f).dma = s.dma := rfl
@[simp] theorem State.setCtx_out (s : State) (c : Fin 64) (f : CtxState → CtxState) :
    (s.setCtx c f).out = s.out := rfl
@[simp] theorem State.setCtx_freeCtr (s : State) (c : Fin 64) (f : CtxState → CtxState) :
    (s.setCtx c f).freeCtr = s.freeCtr := rfl
@[simp] theorem State.setCtx_pending (s : State) (c : Fin 64) (f : CtxState → CtxState) :
    (s.setCtx c f).pending = s.pending := rfl

/-! ### State.setExpo -/

@[simp] theorem State.setExpo_now (s : State) (c : Fin 64) (f : ExpoCtx → ExpoCtx) :
    (s.setExpo c f).now = s.now := rfl
@[simp] theorem State.setExpo_sys (s : State) (c : Fin 64) (f : ExpoCtx → ExpoCtx) :
    (s.setExpo c f).sys = s.sys := rfl
@[simp] theorem State.setExpo_clock (s : State) (c : Fin 64) (f : ExpoCtx → ExpoCtx) :
    (s.setExpo c f).clock = s.clock := rfl
@[simp] theorem State.setExpo_trig (s : State) (c : Fin 64) (f : ExpoCtx → ExpoCtx) :
    (s.setExpo c f).trig = s.trig := rfl
@[simp] theorem State.setExpo_win (s : State) (c : Fin 64) (f : ExpoCtx → ExpoCtx) :
    (s.setExpo c f).win = s.win := rfl
@[simp] theorem State.setExpo_jtag (s : State) (c : Fin 64) (f : ExpoCtx → ExpoCtx) :
    (s.setExpo c f).jtag = s.jtag := rfl
@[simp] theorem State.setExpo_ports (s : State) (c : Fin 64) (f : ExpoCtx → ExpoCtx) :
    (s.setExpo c f).ports = s.ports := rfl
@[simp] theorem State.setExpo_lastPort (s : State) (c : Fin 64) (f : ExpoCtx → ExpoCtx) :
    (s.setExpo c f).lastPort = s.lastPort := rfl
@[simp] theorem State.setExpo_mb (s : State) (c : Fin 64) (f : ExpoCtx → ExpoCtx) :
    (s.setExpo c f).mb = s.mb := rfl
@[simp] theorem State.setExpo_audit (s : State) (c : Fin 64) (f : ExpoCtx → ExpoCtx) :
    (s.setExpo c f).audit = s.audit := rfl
@[simp] theorem State.setExpo_recs (s : State) (c : Fin 64) (f : ExpoCtx → ExpoCtx) :
    (s.setExpo c f).recs = s.recs := rfl
@[simp] theorem State.setExpo_ev (s : State) (c : Fin 64) (f : ExpoCtx → ExpoCtx) :
    (s.setExpo c f).ev = s.ev := rfl
@[simp] theorem State.setExpo_pwr (s : State) (c : Fin 64) (f : ExpoCtx → ExpoCtx) :
    (s.setExpo c f).pwr = s.pwr := rfl
@[simp] theorem State.setExpo_wh (s : State) (c : Fin 64) (f : ExpoCtx → ExpoCtx) :
    (s.setExpo c f).wh = s.wh := rfl
@[simp] theorem State.setExpo_nvm (s : State) (c : Fin 64) (f : ExpoCtx → ExpoCtx) :
    (s.setExpo c f).nvm = s.nvm := rfl
@[simp] theorem State.setExpo_inlets (s : State) (c : Fin 64) (f : ExpoCtx → ExpoCtx) :
    (s.setExpo c f).inlets = s.inlets := rfl
@[simp] theorem State.setExpo_queues (s : State) (c : Fin 64) (f : ExpoCtx → ExpoCtx) :
    (s.setExpo c f).queues = s.queues := rfl
@[simp] theorem State.setExpo_ctxs (s : State) (c : Fin 64) (f : ExpoCtx → ExpoCtx) :
    (s.setExpo c f).ctxs = s.ctxs := rfl
@[simp] theorem State.setExpo_expo (s : State) (c : Fin 64) (f : ExpoCtx → ExpoCtx) :
    (s.setExpo c f).expo = { s.expo with ctxs := upd s.expo.ctxs c f } := rfl
@[simp] theorem State.setExpo_stats (s : State) (c : Fin 64) (f : ExpoCtx → ExpoCtx) :
    (s.setExpo c f).stats = s.stats := rfl
@[simp] theorem State.setExpo_sluice (s : State) (c : Fin 64) (f : ExpoCtx → ExpoCtx) :
    (s.setExpo c f).sluice = s.sluice := rfl
@[simp] theorem State.setExpo_runnels (s : State) (c : Fin 64) (f : ExpoCtx → ExpoCtx) :
    (s.setExpo c f).runnels = s.runnels := rfl
@[simp] theorem State.setExpo_carries (s : State) (c : Fin 64) (f : ExpoCtx → ExpoCtx) :
    (s.setExpo c f).carries = s.carries := rfl
@[simp] theorem State.setExpo_views (s : State) (c : Fin 64) (f : ExpoCtx → ExpoCtx) :
    (s.setExpo c f).views = s.views := rfl
@[simp] theorem State.setExpo_lpddr (s : State) (c : Fin 64) (f : ExpoCtx → ExpoCtx) :
    (s.setExpo c f).lpddr = s.lpddr := rfl
@[simp] theorem State.setExpo_grid (s : State) (c : Fin 64) (f : ExpoCtx → ExpoCtx) :
    (s.setExpo c f).grid = s.grid := rfl
@[simp] theorem State.setExpo_cf (s : State) (c : Fin 64) (f : ExpoCtx → ExpoCtx) :
    (s.setExpo c f).cf = s.cf := rfl
@[simp] theorem State.setExpo_weir (s : State) (c : Fin 64) (f : ExpoCtx → ExpoCtx) :
    (s.setExpo c f).weir = s.weir := rfl
@[simp] theorem State.setExpo_spill (s : State) (c : Fin 64) (f : ExpoCtx → ExpoCtx) :
    (s.setExpo c f).spill = s.spill := rfl
@[simp] theorem State.setExpo_launched (s : State) (c : Fin 64) (f : ExpoCtx → ExpoCtx) :
    (s.setExpo c f).launched = s.launched := rfl
@[simp] theorem State.setExpo_link (s : State) (c : Fin 64) (f : ExpoCtx → ExpoCtx) :
    (s.setExpo c f).link = s.link := rfl
@[simp] theorem State.setExpo_gl (s : State) (c : Fin 64) (f : ExpoCtx → ExpoCtx) :
    (s.setExpo c f).gl = s.gl := rfl
@[simp] theorem State.setExpo_twin (s : State) (c : Fin 64) (f : ExpoCtx → ExpoCtx) :
    (s.setExpo c f).twin = s.twin := rfl
@[simp] theorem State.setExpo_mem (s : State) (c : Fin 64) (f : ExpoCtx → ExpoCtx) :
    (s.setExpo c f).mem = s.mem := rfl
@[simp] theorem State.setExpo_dma (s : State) (c : Fin 64) (f : ExpoCtx → ExpoCtx) :
    (s.setExpo c f).dma = s.dma := rfl
@[simp] theorem State.setExpo_out (s : State) (c : Fin 64) (f : ExpoCtx → ExpoCtx) :
    (s.setExpo c f).out = s.out := rfl
@[simp] theorem State.setExpo_freeCtr (s : State) (c : Fin 64) (f : ExpoCtx → ExpoCtx) :
    (s.setExpo c f).freeCtr = s.freeCtr := rfl
@[simp] theorem State.setExpo_pending (s : State) (c : Fin 64) (f : ExpoCtx → ExpoCtx) :
    (s.setExpo c f).pending = s.pending := rfl

/-! ### State.setInlet -/

@[simp] theorem State.setInlet_now (s : State) (p : Fin 32) (f : Inlet → Inlet) :
    (s.setInlet p f).now = s.now := rfl
@[simp] theorem State.setInlet_sys (s : State) (p : Fin 32) (f : Inlet → Inlet) :
    (s.setInlet p f).sys = s.sys := rfl
@[simp] theorem State.setInlet_clock (s : State) (p : Fin 32) (f : Inlet → Inlet) :
    (s.setInlet p f).clock = s.clock := rfl
@[simp] theorem State.setInlet_trig (s : State) (p : Fin 32) (f : Inlet → Inlet) :
    (s.setInlet p f).trig = s.trig := rfl
@[simp] theorem State.setInlet_win (s : State) (p : Fin 32) (f : Inlet → Inlet) :
    (s.setInlet p f).win = s.win := rfl
@[simp] theorem State.setInlet_jtag (s : State) (p : Fin 32) (f : Inlet → Inlet) :
    (s.setInlet p f).jtag = s.jtag := rfl
@[simp] theorem State.setInlet_ports (s : State) (p : Fin 32) (f : Inlet → Inlet) :
    (s.setInlet p f).ports = s.ports := rfl
@[simp] theorem State.setInlet_lastPort (s : State) (p : Fin 32) (f : Inlet → Inlet) :
    (s.setInlet p f).lastPort = s.lastPort := rfl
@[simp] theorem State.setInlet_mb (s : State) (p : Fin 32) (f : Inlet → Inlet) :
    (s.setInlet p f).mb = s.mb := rfl
@[simp] theorem State.setInlet_audit (s : State) (p : Fin 32) (f : Inlet → Inlet) :
    (s.setInlet p f).audit = s.audit := rfl
@[simp] theorem State.setInlet_recs (s : State) (p : Fin 32) (f : Inlet → Inlet) :
    (s.setInlet p f).recs = s.recs := rfl
@[simp] theorem State.setInlet_ev (s : State) (p : Fin 32) (f : Inlet → Inlet) :
    (s.setInlet p f).ev = s.ev := rfl
@[simp] theorem State.setInlet_pwr (s : State) (p : Fin 32) (f : Inlet → Inlet) :
    (s.setInlet p f).pwr = s.pwr := rfl
@[simp] theorem State.setInlet_wh (s : State) (p : Fin 32) (f : Inlet → Inlet) :
    (s.setInlet p f).wh = s.wh := rfl
@[simp] theorem State.setInlet_nvm (s : State) (p : Fin 32) (f : Inlet → Inlet) :
    (s.setInlet p f).nvm = s.nvm := rfl
@[simp] theorem State.setInlet_inlets (s : State) (p : Fin 32) (f : Inlet → Inlet) :
    (s.setInlet p f).inlets = upd s.inlets p f := rfl
@[simp] theorem State.setInlet_queues (s : State) (p : Fin 32) (f : Inlet → Inlet) :
    (s.setInlet p f).queues = s.queues := rfl
@[simp] theorem State.setInlet_ctxs (s : State) (p : Fin 32) (f : Inlet → Inlet) :
    (s.setInlet p f).ctxs = s.ctxs := rfl
@[simp] theorem State.setInlet_expo (s : State) (p : Fin 32) (f : Inlet → Inlet) :
    (s.setInlet p f).expo = s.expo := rfl
@[simp] theorem State.setInlet_stats (s : State) (p : Fin 32) (f : Inlet → Inlet) :
    (s.setInlet p f).stats = s.stats := rfl
@[simp] theorem State.setInlet_sluice (s : State) (p : Fin 32) (f : Inlet → Inlet) :
    (s.setInlet p f).sluice = s.sluice := rfl
@[simp] theorem State.setInlet_runnels (s : State) (p : Fin 32) (f : Inlet → Inlet) :
    (s.setInlet p f).runnels = s.runnels := rfl
@[simp] theorem State.setInlet_carries (s : State) (p : Fin 32) (f : Inlet → Inlet) :
    (s.setInlet p f).carries = s.carries := rfl
@[simp] theorem State.setInlet_views (s : State) (p : Fin 32) (f : Inlet → Inlet) :
    (s.setInlet p f).views = s.views := rfl
@[simp] theorem State.setInlet_lpddr (s : State) (p : Fin 32) (f : Inlet → Inlet) :
    (s.setInlet p f).lpddr = s.lpddr := rfl
@[simp] theorem State.setInlet_grid (s : State) (p : Fin 32) (f : Inlet → Inlet) :
    (s.setInlet p f).grid = s.grid := rfl
@[simp] theorem State.setInlet_cf (s : State) (p : Fin 32) (f : Inlet → Inlet) :
    (s.setInlet p f).cf = s.cf := rfl
@[simp] theorem State.setInlet_weir (s : State) (p : Fin 32) (f : Inlet → Inlet) :
    (s.setInlet p f).weir = s.weir := rfl
@[simp] theorem State.setInlet_spill (s : State) (p : Fin 32) (f : Inlet → Inlet) :
    (s.setInlet p f).spill = s.spill := rfl
@[simp] theorem State.setInlet_launched (s : State) (p : Fin 32) (f : Inlet → Inlet) :
    (s.setInlet p f).launched = s.launched := rfl
@[simp] theorem State.setInlet_link (s : State) (p : Fin 32) (f : Inlet → Inlet) :
    (s.setInlet p f).link = s.link := rfl
@[simp] theorem State.setInlet_gl (s : State) (p : Fin 32) (f : Inlet → Inlet) :
    (s.setInlet p f).gl = s.gl := rfl
@[simp] theorem State.setInlet_twin (s : State) (p : Fin 32) (f : Inlet → Inlet) :
    (s.setInlet p f).twin = s.twin := rfl
@[simp] theorem State.setInlet_mem (s : State) (p : Fin 32) (f : Inlet → Inlet) :
    (s.setInlet p f).mem = s.mem := rfl
@[simp] theorem State.setInlet_dma (s : State) (p : Fin 32) (f : Inlet → Inlet) :
    (s.setInlet p f).dma = s.dma := rfl
@[simp] theorem State.setInlet_out (s : State) (p : Fin 32) (f : Inlet → Inlet) :
    (s.setInlet p f).out = s.out := rfl
@[simp] theorem State.setInlet_freeCtr (s : State) (p : Fin 32) (f : Inlet → Inlet) :
    (s.setInlet p f).freeCtr = s.freeCtr := rfl
@[simp] theorem State.setInlet_pending (s : State) (p : Fin 32) (f : Inlet → Inlet) :
    (s.setInlet p f).pending = s.pending := rfl

/-! ### State.setQueue -/

@[simp] theorem State.setQueue_now (s : State) (q : Fin 43) (f : PQueue → PQueue) :
    (s.setQueue q f).now = s.now := rfl
@[simp] theorem State.setQueue_sys (s : State) (q : Fin 43) (f : PQueue → PQueue) :
    (s.setQueue q f).sys = s.sys := rfl
@[simp] theorem State.setQueue_clock (s : State) (q : Fin 43) (f : PQueue → PQueue) :
    (s.setQueue q f).clock = s.clock := rfl
@[simp] theorem State.setQueue_trig (s : State) (q : Fin 43) (f : PQueue → PQueue) :
    (s.setQueue q f).trig = s.trig := rfl
@[simp] theorem State.setQueue_win (s : State) (q : Fin 43) (f : PQueue → PQueue) :
    (s.setQueue q f).win = s.win := rfl
@[simp] theorem State.setQueue_jtag (s : State) (q : Fin 43) (f : PQueue → PQueue) :
    (s.setQueue q f).jtag = s.jtag := rfl
@[simp] theorem State.setQueue_ports (s : State) (q : Fin 43) (f : PQueue → PQueue) :
    (s.setQueue q f).ports = s.ports := rfl
@[simp] theorem State.setQueue_lastPort (s : State) (q : Fin 43) (f : PQueue → PQueue) :
    (s.setQueue q f).lastPort = s.lastPort := rfl
@[simp] theorem State.setQueue_mb (s : State) (q : Fin 43) (f : PQueue → PQueue) :
    (s.setQueue q f).mb = s.mb := rfl
@[simp] theorem State.setQueue_audit (s : State) (q : Fin 43) (f : PQueue → PQueue) :
    (s.setQueue q f).audit = s.audit := rfl
@[simp] theorem State.setQueue_recs (s : State) (q : Fin 43) (f : PQueue → PQueue) :
    (s.setQueue q f).recs = s.recs := rfl
@[simp] theorem State.setQueue_ev (s : State) (q : Fin 43) (f : PQueue → PQueue) :
    (s.setQueue q f).ev = s.ev := rfl
@[simp] theorem State.setQueue_pwr (s : State) (q : Fin 43) (f : PQueue → PQueue) :
    (s.setQueue q f).pwr = s.pwr := rfl
@[simp] theorem State.setQueue_wh (s : State) (q : Fin 43) (f : PQueue → PQueue) :
    (s.setQueue q f).wh = s.wh := rfl
@[simp] theorem State.setQueue_nvm (s : State) (q : Fin 43) (f : PQueue → PQueue) :
    (s.setQueue q f).nvm = s.nvm := rfl
@[simp] theorem State.setQueue_inlets (s : State) (q : Fin 43) (f : PQueue → PQueue) :
    (s.setQueue q f).inlets = s.inlets := rfl
@[simp] theorem State.setQueue_queues (s : State) (q : Fin 43) (f : PQueue → PQueue) :
    (s.setQueue q f).queues = upd s.queues q f := rfl
@[simp] theorem State.setQueue_ctxs (s : State) (q : Fin 43) (f : PQueue → PQueue) :
    (s.setQueue q f).ctxs = s.ctxs := rfl
@[simp] theorem State.setQueue_expo (s : State) (q : Fin 43) (f : PQueue → PQueue) :
    (s.setQueue q f).expo = s.expo := rfl
@[simp] theorem State.setQueue_stats (s : State) (q : Fin 43) (f : PQueue → PQueue) :
    (s.setQueue q f).stats = s.stats := rfl
@[simp] theorem State.setQueue_sluice (s : State) (q : Fin 43) (f : PQueue → PQueue) :
    (s.setQueue q f).sluice = s.sluice := rfl
@[simp] theorem State.setQueue_runnels (s : State) (q : Fin 43) (f : PQueue → PQueue) :
    (s.setQueue q f).runnels = s.runnels := rfl
@[simp] theorem State.setQueue_carries (s : State) (q : Fin 43) (f : PQueue → PQueue) :
    (s.setQueue q f).carries = s.carries := rfl
@[simp] theorem State.setQueue_views (s : State) (q : Fin 43) (f : PQueue → PQueue) :
    (s.setQueue q f).views = s.views := rfl
@[simp] theorem State.setQueue_lpddr (s : State) (q : Fin 43) (f : PQueue → PQueue) :
    (s.setQueue q f).lpddr = s.lpddr := rfl
@[simp] theorem State.setQueue_grid (s : State) (q : Fin 43) (f : PQueue → PQueue) :
    (s.setQueue q f).grid = s.grid := rfl
@[simp] theorem State.setQueue_cf (s : State) (q : Fin 43) (f : PQueue → PQueue) :
    (s.setQueue q f).cf = s.cf := rfl
@[simp] theorem State.setQueue_weir (s : State) (q : Fin 43) (f : PQueue → PQueue) :
    (s.setQueue q f).weir = s.weir := rfl
@[simp] theorem State.setQueue_spill (s : State) (q : Fin 43) (f : PQueue → PQueue) :
    (s.setQueue q f).spill = s.spill := rfl
@[simp] theorem State.setQueue_launched (s : State) (q : Fin 43) (f : PQueue → PQueue) :
    (s.setQueue q f).launched = s.launched := rfl
@[simp] theorem State.setQueue_link (s : State) (q : Fin 43) (f : PQueue → PQueue) :
    (s.setQueue q f).link = s.link := rfl
@[simp] theorem State.setQueue_gl (s : State) (q : Fin 43) (f : PQueue → PQueue) :
    (s.setQueue q f).gl = s.gl := rfl
@[simp] theorem State.setQueue_twin (s : State) (q : Fin 43) (f : PQueue → PQueue) :
    (s.setQueue q f).twin = s.twin := rfl
@[simp] theorem State.setQueue_mem (s : State) (q : Fin 43) (f : PQueue → PQueue) :
    (s.setQueue q f).mem = s.mem := rfl
@[simp] theorem State.setQueue_dma (s : State) (q : Fin 43) (f : PQueue → PQueue) :
    (s.setQueue q f).dma = s.dma := rfl
@[simp] theorem State.setQueue_out (s : State) (q : Fin 43) (f : PQueue → PQueue) :
    (s.setQueue q f).out = s.out := rfl
@[simp] theorem State.setQueue_freeCtr (s : State) (q : Fin 43) (f : PQueue → PQueue) :
    (s.setQueue q f).freeCtr = s.freeCtr := rfl
@[simp] theorem State.setQueue_pending (s : State) (q : Fin 43) (f : PQueue → PQueue) :
    (s.setQueue q f).pending = s.pending := rfl

/-! ### State.setLink -/

@[simp] theorem State.setLink_now (s : State) (f : Link → Link) :
    (s.setLink f).now = s.now := rfl
@[simp] theorem State.setLink_sys (s : State) (f : Link → Link) :
    (s.setLink f).sys = s.sys := rfl
@[simp] theorem State.setLink_clock (s : State) (f : Link → Link) :
    (s.setLink f).clock = s.clock := rfl
@[simp] theorem State.setLink_trig (s : State) (f : Link → Link) :
    (s.setLink f).trig = s.trig := rfl
@[simp] theorem State.setLink_win (s : State) (f : Link → Link) :
    (s.setLink f).win = s.win := rfl
@[simp] theorem State.setLink_jtag (s : State) (f : Link → Link) :
    (s.setLink f).jtag = s.jtag := rfl
@[simp] theorem State.setLink_ports (s : State) (f : Link → Link) :
    (s.setLink f).ports = s.ports := rfl
@[simp] theorem State.setLink_lastPort (s : State) (f : Link → Link) :
    (s.setLink f).lastPort = s.lastPort := rfl
@[simp] theorem State.setLink_mb (s : State) (f : Link → Link) :
    (s.setLink f).mb = s.mb := rfl
@[simp] theorem State.setLink_audit (s : State) (f : Link → Link) :
    (s.setLink f).audit = s.audit := rfl
@[simp] theorem State.setLink_recs (s : State) (f : Link → Link) :
    (s.setLink f).recs = s.recs := rfl
@[simp] theorem State.setLink_ev (s : State) (f : Link → Link) :
    (s.setLink f).ev = s.ev := rfl
@[simp] theorem State.setLink_pwr (s : State) (f : Link → Link) :
    (s.setLink f).pwr = s.pwr := rfl
@[simp] theorem State.setLink_wh (s : State) (f : Link → Link) :
    (s.setLink f).wh = s.wh := rfl
@[simp] theorem State.setLink_nvm (s : State) (f : Link → Link) :
    (s.setLink f).nvm = s.nvm := rfl
@[simp] theorem State.setLink_inlets (s : State) (f : Link → Link) :
    (s.setLink f).inlets = s.inlets := rfl
@[simp] theorem State.setLink_queues (s : State) (f : Link → Link) :
    (s.setLink f).queues = s.queues := rfl
@[simp] theorem State.setLink_ctxs (s : State) (f : Link → Link) :
    (s.setLink f).ctxs = s.ctxs := rfl
@[simp] theorem State.setLink_expo (s : State) (f : Link → Link) :
    (s.setLink f).expo = s.expo := rfl
@[simp] theorem State.setLink_stats (s : State) (f : Link → Link) :
    (s.setLink f).stats = s.stats := rfl
@[simp] theorem State.setLink_sluice (s : State) (f : Link → Link) :
    (s.setLink f).sluice = s.sluice := rfl
@[simp] theorem State.setLink_runnels (s : State) (f : Link → Link) :
    (s.setLink f).runnels = s.runnels := rfl
@[simp] theorem State.setLink_carries (s : State) (f : Link → Link) :
    (s.setLink f).carries = s.carries := rfl
@[simp] theorem State.setLink_views (s : State) (f : Link → Link) :
    (s.setLink f).views = s.views := rfl
@[simp] theorem State.setLink_lpddr (s : State) (f : Link → Link) :
    (s.setLink f).lpddr = s.lpddr := rfl
@[simp] theorem State.setLink_grid (s : State) (f : Link → Link) :
    (s.setLink f).grid = s.grid := rfl
@[simp] theorem State.setLink_cf (s : State) (f : Link → Link) :
    (s.setLink f).cf = s.cf := rfl
@[simp] theorem State.setLink_weir (s : State) (f : Link → Link) :
    (s.setLink f).weir = s.weir := rfl
@[simp] theorem State.setLink_spill (s : State) (f : Link → Link) :
    (s.setLink f).spill = s.spill := rfl
@[simp] theorem State.setLink_launched (s : State) (f : Link → Link) :
    (s.setLink f).launched = s.launched := rfl
@[simp] theorem State.setLink_link (s : State) (f : Link → Link) :
    (s.setLink f).link = f s.link := rfl
@[simp] theorem State.setLink_gl (s : State) (f : Link → Link) :
    (s.setLink f).gl = s.gl := rfl
@[simp] theorem State.setLink_twin (s : State) (f : Link → Link) :
    (s.setLink f).twin = s.twin := rfl
@[simp] theorem State.setLink_mem (s : State) (f : Link → Link) :
    (s.setLink f).mem = s.mem := rfl
@[simp] theorem State.setLink_dma (s : State) (f : Link → Link) :
    (s.setLink f).dma = s.dma := rfl
@[simp] theorem State.setLink_out (s : State) (f : Link → Link) :
    (s.setLink f).out = s.out := rfl
@[simp] theorem State.setLink_freeCtr (s : State) (f : Link → Link) :
    (s.setLink f).freeCtr = s.freeCtr := rfl
@[simp] theorem State.setLink_pending (s : State) (f : Link → Link) :
    (s.setLink f).pending = s.pending := rfl

/-! ### State.setMc -/

@[simp] theorem State.setMc_now (s : State) (m : Fin 6) (f : MemCtl → MemCtl) :
    (s.setMc m f).now = s.now := rfl
@[simp] theorem State.setMc_sys (s : State) (m : Fin 6) (f : MemCtl → MemCtl) :
    (s.setMc m f).sys = s.sys := rfl
@[simp] theorem State.setMc_clock (s : State) (m : Fin 6) (f : MemCtl → MemCtl) :
    (s.setMc m f).clock = s.clock := rfl
@[simp] theorem State.setMc_trig (s : State) (m : Fin 6) (f : MemCtl → MemCtl) :
    (s.setMc m f).trig = s.trig := rfl
@[simp] theorem State.setMc_win (s : State) (m : Fin 6) (f : MemCtl → MemCtl) :
    (s.setMc m f).win = s.win := rfl
@[simp] theorem State.setMc_jtag (s : State) (m : Fin 6) (f : MemCtl → MemCtl) :
    (s.setMc m f).jtag = s.jtag := rfl
@[simp] theorem State.setMc_ports (s : State) (m : Fin 6) (f : MemCtl → MemCtl) :
    (s.setMc m f).ports = s.ports := rfl
@[simp] theorem State.setMc_lastPort (s : State) (m : Fin 6) (f : MemCtl → MemCtl) :
    (s.setMc m f).lastPort = s.lastPort := rfl
@[simp] theorem State.setMc_mb (s : State) (m : Fin 6) (f : MemCtl → MemCtl) :
    (s.setMc m f).mb = s.mb := rfl
@[simp] theorem State.setMc_audit (s : State) (m : Fin 6) (f : MemCtl → MemCtl) :
    (s.setMc m f).audit = s.audit := rfl
@[simp] theorem State.setMc_recs (s : State) (m : Fin 6) (f : MemCtl → MemCtl) :
    (s.setMc m f).recs = s.recs := rfl
@[simp] theorem State.setMc_ev (s : State) (m : Fin 6) (f : MemCtl → MemCtl) :
    (s.setMc m f).ev = s.ev := rfl
@[simp] theorem State.setMc_pwr (s : State) (m : Fin 6) (f : MemCtl → MemCtl) :
    (s.setMc m f).pwr = s.pwr := rfl
@[simp] theorem State.setMc_wh (s : State) (m : Fin 6) (f : MemCtl → MemCtl) :
    (s.setMc m f).wh = s.wh := rfl
@[simp] theorem State.setMc_nvm (s : State) (m : Fin 6) (f : MemCtl → MemCtl) :
    (s.setMc m f).nvm = s.nvm := rfl
@[simp] theorem State.setMc_inlets (s : State) (m : Fin 6) (f : MemCtl → MemCtl) :
    (s.setMc m f).inlets = s.inlets := rfl
@[simp] theorem State.setMc_queues (s : State) (m : Fin 6) (f : MemCtl → MemCtl) :
    (s.setMc m f).queues = s.queues := rfl
@[simp] theorem State.setMc_ctxs (s : State) (m : Fin 6) (f : MemCtl → MemCtl) :
    (s.setMc m f).ctxs = s.ctxs := rfl
@[simp] theorem State.setMc_expo (s : State) (m : Fin 6) (f : MemCtl → MemCtl) :
    (s.setMc m f).expo = s.expo := rfl
@[simp] theorem State.setMc_stats (s : State) (m : Fin 6) (f : MemCtl → MemCtl) :
    (s.setMc m f).stats = s.stats := rfl
@[simp] theorem State.setMc_sluice (s : State) (m : Fin 6) (f : MemCtl → MemCtl) :
    (s.setMc m f).sluice = s.sluice := rfl
@[simp] theorem State.setMc_runnels (s : State) (m : Fin 6) (f : MemCtl → MemCtl) :
    (s.setMc m f).runnels = s.runnels := rfl
@[simp] theorem State.setMc_carries (s : State) (m : Fin 6) (f : MemCtl → MemCtl) :
    (s.setMc m f).carries = s.carries := rfl
@[simp] theorem State.setMc_views (s : State) (m : Fin 6) (f : MemCtl → MemCtl) :
    (s.setMc m f).views = s.views := rfl
@[simp] theorem State.setMc_lpddr (s : State) (m : Fin 6) (f : MemCtl → MemCtl) :
    (s.setMc m f).lpddr = s.lpddr := rfl
@[simp] theorem State.setMc_grid (s : State) (m : Fin 6) (f : MemCtl → MemCtl) :
    (s.setMc m f).grid = s.grid := rfl
@[simp] theorem State.setMc_cf (s : State) (m : Fin 6) (f : MemCtl → MemCtl) :
    (s.setMc m f).cf = s.cf := rfl
@[simp] theorem State.setMc_weir (s : State) (m : Fin 6) (f : MemCtl → MemCtl) :
    (s.setMc m f).weir = s.weir := rfl
@[simp] theorem State.setMc_spill (s : State) (m : Fin 6) (f : MemCtl → MemCtl) :
    (s.setMc m f).spill = s.spill := rfl
@[simp] theorem State.setMc_launched (s : State) (m : Fin 6) (f : MemCtl → MemCtl) :
    (s.setMc m f).launched = s.launched := rfl
@[simp] theorem State.setMc_link (s : State) (m : Fin 6) (f : MemCtl → MemCtl) :
    (s.setMc m f).link = s.link := rfl
@[simp] theorem State.setMc_gl (s : State) (m : Fin 6) (f : MemCtl → MemCtl) :
    (s.setMc m f).gl = s.gl := rfl
@[simp] theorem State.setMc_twin (s : State) (m : Fin 6) (f : MemCtl → MemCtl) :
    (s.setMc m f).twin = s.twin := rfl
@[simp] theorem State.setMc_mem (s : State) (m : Fin 6) (f : MemCtl → MemCtl) :
    (s.setMc m f).mem = { s.mem with ctls := upd s.mem.ctls m f } := rfl
@[simp] theorem State.setMc_dma (s : State) (m : Fin 6) (f : MemCtl → MemCtl) :
    (s.setMc m f).dma = s.dma := rfl
@[simp] theorem State.setMc_out (s : State) (m : Fin 6) (f : MemCtl → MemCtl) :
    (s.setMc m f).out = s.out := rfl
@[simp] theorem State.setMc_freeCtr (s : State) (m : Fin 6) (f : MemCtl → MemCtl) :
    (s.setMc m f).freeCtr = s.freeCtr := rfl
@[simp] theorem State.setMc_pending (s : State) (m : Fin 6) (f : MemCtl → MemCtl) :
    (s.setMc m f).pending = s.pending := rfl

/-! ### State.setSlot -/

@[simp] theorem State.setSlot_now (s : State) (ch : Fin 10) (i : Nat) (f : Slot → Slot) :
    (s.setSlot ch i f).now = s.now := rfl
@[simp] theorem State.setSlot_sys (s : State) (ch : Fin 10) (i : Nat) (f : Slot → Slot) :
    (s.setSlot ch i f).sys = s.sys := rfl
@[simp] theorem State.setSlot_clock (s : State) (ch : Fin 10) (i : Nat) (f : Slot → Slot) :
    (s.setSlot ch i f).clock = s.clock := rfl
@[simp] theorem State.setSlot_trig (s : State) (ch : Fin 10) (i : Nat) (f : Slot → Slot) :
    (s.setSlot ch i f).trig = s.trig := rfl
@[simp] theorem State.setSlot_win (s : State) (ch : Fin 10) (i : Nat) (f : Slot → Slot) :
    (s.setSlot ch i f).win = s.win := rfl
@[simp] theorem State.setSlot_jtag (s : State) (ch : Fin 10) (i : Nat) (f : Slot → Slot) :
    (s.setSlot ch i f).jtag = s.jtag := rfl
@[simp] theorem State.setSlot_ports (s : State) (ch : Fin 10) (i : Nat) (f : Slot → Slot) :
    (s.setSlot ch i f).ports = s.ports := rfl
@[simp] theorem State.setSlot_lastPort (s : State) (ch : Fin 10) (i : Nat) (f : Slot → Slot) :
    (s.setSlot ch i f).lastPort = s.lastPort := rfl
@[simp] theorem State.setSlot_audit (s : State) (ch : Fin 10) (i : Nat) (f : Slot → Slot) :
    (s.setSlot ch i f).audit = s.audit := rfl
@[simp] theorem State.setSlot_recs (s : State) (ch : Fin 10) (i : Nat) (f : Slot → Slot) :
    (s.setSlot ch i f).recs = s.recs := rfl
@[simp] theorem State.setSlot_ev (s : State) (ch : Fin 10) (i : Nat) (f : Slot → Slot) :
    (s.setSlot ch i f).ev = s.ev := rfl
@[simp] theorem State.setSlot_pwr (s : State) (ch : Fin 10) (i : Nat) (f : Slot → Slot) :
    (s.setSlot ch i f).pwr = s.pwr := rfl
@[simp] theorem State.setSlot_wh (s : State) (ch : Fin 10) (i : Nat) (f : Slot → Slot) :
    (s.setSlot ch i f).wh = s.wh := rfl
@[simp] theorem State.setSlot_nvm (s : State) (ch : Fin 10) (i : Nat) (f : Slot → Slot) :
    (s.setSlot ch i f).nvm = s.nvm := rfl
@[simp] theorem State.setSlot_inlets (s : State) (ch : Fin 10) (i : Nat) (f : Slot → Slot) :
    (s.setSlot ch i f).inlets = s.inlets := rfl
@[simp] theorem State.setSlot_queues (s : State) (ch : Fin 10) (i : Nat) (f : Slot → Slot) :
    (s.setSlot ch i f).queues = s.queues := rfl
@[simp] theorem State.setSlot_ctxs (s : State) (ch : Fin 10) (i : Nat) (f : Slot → Slot) :
    (s.setSlot ch i f).ctxs = s.ctxs := rfl
@[simp] theorem State.setSlot_expo (s : State) (ch : Fin 10) (i : Nat) (f : Slot → Slot) :
    (s.setSlot ch i f).expo = s.expo := rfl
@[simp] theorem State.setSlot_stats (s : State) (ch : Fin 10) (i : Nat) (f : Slot → Slot) :
    (s.setSlot ch i f).stats = s.stats := rfl
@[simp] theorem State.setSlot_sluice (s : State) (ch : Fin 10) (i : Nat) (f : Slot → Slot) :
    (s.setSlot ch i f).sluice = s.sluice := rfl
@[simp] theorem State.setSlot_runnels (s : State) (ch : Fin 10) (i : Nat) (f : Slot → Slot) :
    (s.setSlot ch i f).runnels = s.runnels := rfl
@[simp] theorem State.setSlot_carries (s : State) (ch : Fin 10) (i : Nat) (f : Slot → Slot) :
    (s.setSlot ch i f).carries = s.carries := rfl
@[simp] theorem State.setSlot_views (s : State) (ch : Fin 10) (i : Nat) (f : Slot → Slot) :
    (s.setSlot ch i f).views = s.views := rfl
@[simp] theorem State.setSlot_lpddr (s : State) (ch : Fin 10) (i : Nat) (f : Slot → Slot) :
    (s.setSlot ch i f).lpddr = s.lpddr := rfl
@[simp] theorem State.setSlot_grid (s : State) (ch : Fin 10) (i : Nat) (f : Slot → Slot) :
    (s.setSlot ch i f).grid = s.grid := rfl
@[simp] theorem State.setSlot_cf (s : State) (ch : Fin 10) (i : Nat) (f : Slot → Slot) :
    (s.setSlot ch i f).cf = s.cf := rfl
@[simp] theorem State.setSlot_weir (s : State) (ch : Fin 10) (i : Nat) (f : Slot → Slot) :
    (s.setSlot ch i f).weir = s.weir := rfl
@[simp] theorem State.setSlot_spill (s : State) (ch : Fin 10) (i : Nat) (f : Slot → Slot) :
    (s.setSlot ch i f).spill = s.spill := rfl
@[simp] theorem State.setSlot_launched (s : State) (ch : Fin 10) (i : Nat) (f : Slot → Slot) :
    (s.setSlot ch i f).launched = s.launched := rfl
@[simp] theorem State.setSlot_link (s : State) (ch : Fin 10) (i : Nat) (f : Slot → Slot) :
    (s.setSlot ch i f).link = s.link := rfl
@[simp] theorem State.setSlot_gl (s : State) (ch : Fin 10) (i : Nat) (f : Slot → Slot) :
    (s.setSlot ch i f).gl = s.gl := rfl
@[simp] theorem State.setSlot_twin (s : State) (ch : Fin 10) (i : Nat) (f : Slot → Slot) :
    (s.setSlot ch i f).twin = s.twin := rfl
@[simp] theorem State.setSlot_mem (s : State) (ch : Fin 10) (i : Nat) (f : Slot → Slot) :
    (s.setSlot ch i f).mem = s.mem := rfl
@[simp] theorem State.setSlot_dma (s : State) (ch : Fin 10) (i : Nat) (f : Slot → Slot) :
    (s.setSlot ch i f).dma = s.dma := rfl
@[simp] theorem State.setSlot_out (s : State) (ch : Fin 10) (i : Nat) (f : Slot → Slot) :
    (s.setSlot ch i f).out = s.out := rfl
@[simp] theorem State.setSlot_freeCtr (s : State) (ch : Fin 10) (i : Nat) (f : Slot → Slot) :
    (s.setSlot ch i f).freeCtr = s.freeCtr := rfl
@[simp] theorem State.setSlot_pending (s : State) (ch : Fin 10) (i : Nat) (f : Slot → Slot) :
    (s.setSlot ch i f).pending = s.pending := rfl

/-! ### State.setChan -/

@[simp] theorem State.setChan_now (s : State) (ch : Fin 10) (f : Chan → Chan) :
    (s.setChan ch f).now = s.now := rfl
@[simp] theorem State.setChan_sys (s : State) (ch : Fin 10) (f : Chan → Chan) :
    (s.setChan ch f).sys = s.sys := rfl
@[simp] theorem State.setChan_clock (s : State) (ch : Fin 10) (f : Chan → Chan) :
    (s.setChan ch f).clock = s.clock := rfl
@[simp] theorem State.setChan_trig (s : State) (ch : Fin 10) (f : Chan → Chan) :
    (s.setChan ch f).trig = s.trig := rfl
@[simp] theorem State.setChan_win (s : State) (ch : Fin 10) (f : Chan → Chan) :
    (s.setChan ch f).win = s.win := rfl
@[simp] theorem State.setChan_jtag (s : State) (ch : Fin 10) (f : Chan → Chan) :
    (s.setChan ch f).jtag = s.jtag := rfl
@[simp] theorem State.setChan_ports (s : State) (ch : Fin 10) (f : Chan → Chan) :
    (s.setChan ch f).ports = s.ports := rfl
@[simp] theorem State.setChan_lastPort (s : State) (ch : Fin 10) (f : Chan → Chan) :
    (s.setChan ch f).lastPort = s.lastPort := rfl
@[simp] theorem State.setChan_mb (s : State) (ch : Fin 10) (f : Chan → Chan) :
    (s.setChan ch f).mb = { s.mb with chans := upd s.mb.chans ch f } := rfl
@[simp] theorem State.setChan_audit (s : State) (ch : Fin 10) (f : Chan → Chan) :
    (s.setChan ch f).audit = s.audit := rfl
@[simp] theorem State.setChan_recs (s : State) (ch : Fin 10) (f : Chan → Chan) :
    (s.setChan ch f).recs = s.recs := rfl
@[simp] theorem State.setChan_ev (s : State) (ch : Fin 10) (f : Chan → Chan) :
    (s.setChan ch f).ev = s.ev := rfl
@[simp] theorem State.setChan_pwr (s : State) (ch : Fin 10) (f : Chan → Chan) :
    (s.setChan ch f).pwr = s.pwr := rfl
@[simp] theorem State.setChan_wh (s : State) (ch : Fin 10) (f : Chan → Chan) :
    (s.setChan ch f).wh = s.wh := rfl
@[simp] theorem State.setChan_nvm (s : State) (ch : Fin 10) (f : Chan → Chan) :
    (s.setChan ch f).nvm = s.nvm := rfl
@[simp] theorem State.setChan_inlets (s : State) (ch : Fin 10) (f : Chan → Chan) :
    (s.setChan ch f).inlets = s.inlets := rfl
@[simp] theorem State.setChan_queues (s : State) (ch : Fin 10) (f : Chan → Chan) :
    (s.setChan ch f).queues = s.queues := rfl
@[simp] theorem State.setChan_ctxs (s : State) (ch : Fin 10) (f : Chan → Chan) :
    (s.setChan ch f).ctxs = s.ctxs := rfl
@[simp] theorem State.setChan_expo (s : State) (ch : Fin 10) (f : Chan → Chan) :
    (s.setChan ch f).expo = s.expo := rfl
@[simp] theorem State.setChan_stats (s : State) (ch : Fin 10) (f : Chan → Chan) :
    (s.setChan ch f).stats = s.stats := rfl
@[simp] theorem State.setChan_sluice (s : State) (ch : Fin 10) (f : Chan → Chan) :
    (s.setChan ch f).sluice = s.sluice := rfl
@[simp] theorem State.setChan_runnels (s : State) (ch : Fin 10) (f : Chan → Chan) :
    (s.setChan ch f).runnels = s.runnels := rfl
@[simp] theorem State.setChan_carries (s : State) (ch : Fin 10) (f : Chan → Chan) :
    (s.setChan ch f).carries = s.carries := rfl
@[simp] theorem State.setChan_views (s : State) (ch : Fin 10) (f : Chan → Chan) :
    (s.setChan ch f).views = s.views := rfl
@[simp] theorem State.setChan_lpddr (s : State) (ch : Fin 10) (f : Chan → Chan) :
    (s.setChan ch f).lpddr = s.lpddr := rfl
@[simp] theorem State.setChan_grid (s : State) (ch : Fin 10) (f : Chan → Chan) :
    (s.setChan ch f).grid = s.grid := rfl
@[simp] theorem State.setChan_cf (s : State) (ch : Fin 10) (f : Chan → Chan) :
    (s.setChan ch f).cf = s.cf := rfl
@[simp] theorem State.setChan_weir (s : State) (ch : Fin 10) (f : Chan → Chan) :
    (s.setChan ch f).weir = s.weir := rfl
@[simp] theorem State.setChan_spill (s : State) (ch : Fin 10) (f : Chan → Chan) :
    (s.setChan ch f).spill = s.spill := rfl
@[simp] theorem State.setChan_launched (s : State) (ch : Fin 10) (f : Chan → Chan) :
    (s.setChan ch f).launched = s.launched := rfl
@[simp] theorem State.setChan_link (s : State) (ch : Fin 10) (f : Chan → Chan) :
    (s.setChan ch f).link = s.link := rfl
@[simp] theorem State.setChan_gl (s : State) (ch : Fin 10) (f : Chan → Chan) :
    (s.setChan ch f).gl = s.gl := rfl
@[simp] theorem State.setChan_twin (s : State) (ch : Fin 10) (f : Chan → Chan) :
    (s.setChan ch f).twin = s.twin := rfl
@[simp] theorem State.setChan_mem (s : State) (ch : Fin 10) (f : Chan → Chan) :
    (s.setChan ch f).mem = s.mem := rfl
@[simp] theorem State.setChan_dma (s : State) (ch : Fin 10) (f : Chan → Chan) :
    (s.setChan ch f).dma = s.dma := rfl
@[simp] theorem State.setChan_out (s : State) (ch : Fin 10) (f : Chan → Chan) :
    (s.setChan ch f).out = s.out := rfl
@[simp] theorem State.setChan_freeCtr (s : State) (ch : Fin 10) (f : Chan → Chan) :
    (s.setChan ch f).freeCtr = s.freeCtr := rfl
@[simp] theorem State.setChan_pending (s : State) (ch : Fin 10) (f : Chan → Chan) :
    (s.setChan ch f).pending = s.pending := rfl

/-! ### State.setPort -/

@[simp] theorem State.setPort_now (s : State) (p : Port) (f : PortState → PortState) :
    (s.setPort p f).now = s.now := rfl
@[simp] theorem State.setPort_sys (s : State) (p : Port) (f : PortState → PortState) :
    (s.setPort p f).sys = s.sys := rfl
@[simp] theorem State.setPort_clock (s : State) (p : Port) (f : PortState → PortState) :
    (s.setPort p f).clock = s.clock := rfl
@[simp] theorem State.setPort_trig (s : State) (p : Port) (f : PortState → PortState) :
    (s.setPort p f).trig = s.trig := rfl
@[simp] theorem State.setPort_win (s : State) (p : Port) (f : PortState → PortState) :
    (s.setPort p f).win = s.win := rfl
@[simp] theorem State.setPort_jtag (s : State) (p : Port) (f : PortState → PortState) :
    (s.setPort p f).jtag = s.jtag := rfl
@[simp] theorem State.setPort_ports (s : State) (p : Port) (f : PortState → PortState) :
    (s.setPort p f).ports = upd s.ports p.idx f := rfl
@[simp] theorem State.setPort_lastPort (s : State) (p : Port) (f : PortState → PortState) :
    (s.setPort p f).lastPort = s.lastPort := rfl
@[simp] theorem State.setPort_mb (s : State) (p : Port) (f : PortState → PortState) :
    (s.setPort p f).mb = s.mb := rfl
@[simp] theorem State.setPort_audit (s : State) (p : Port) (f : PortState → PortState) :
    (s.setPort p f).audit = s.audit := rfl
@[simp] theorem State.setPort_recs (s : State) (p : Port) (f : PortState → PortState) :
    (s.setPort p f).recs = s.recs := rfl
@[simp] theorem State.setPort_ev (s : State) (p : Port) (f : PortState → PortState) :
    (s.setPort p f).ev = s.ev := rfl
@[simp] theorem State.setPort_pwr (s : State) (p : Port) (f : PortState → PortState) :
    (s.setPort p f).pwr = s.pwr := rfl
@[simp] theorem State.setPort_wh (s : State) (p : Port) (f : PortState → PortState) :
    (s.setPort p f).wh = s.wh := rfl
@[simp] theorem State.setPort_nvm (s : State) (p : Port) (f : PortState → PortState) :
    (s.setPort p f).nvm = s.nvm := rfl
@[simp] theorem State.setPort_inlets (s : State) (p : Port) (f : PortState → PortState) :
    (s.setPort p f).inlets = s.inlets := rfl
@[simp] theorem State.setPort_queues (s : State) (p : Port) (f : PortState → PortState) :
    (s.setPort p f).queues = s.queues := rfl
@[simp] theorem State.setPort_ctxs (s : State) (p : Port) (f : PortState → PortState) :
    (s.setPort p f).ctxs = s.ctxs := rfl
@[simp] theorem State.setPort_expo (s : State) (p : Port) (f : PortState → PortState) :
    (s.setPort p f).expo = s.expo := rfl
@[simp] theorem State.setPort_stats (s : State) (p : Port) (f : PortState → PortState) :
    (s.setPort p f).stats = s.stats := rfl
@[simp] theorem State.setPort_sluice (s : State) (p : Port) (f : PortState → PortState) :
    (s.setPort p f).sluice = s.sluice := rfl
@[simp] theorem State.setPort_runnels (s : State) (p : Port) (f : PortState → PortState) :
    (s.setPort p f).runnels = s.runnels := rfl
@[simp] theorem State.setPort_carries (s : State) (p : Port) (f : PortState → PortState) :
    (s.setPort p f).carries = s.carries := rfl
@[simp] theorem State.setPort_views (s : State) (p : Port) (f : PortState → PortState) :
    (s.setPort p f).views = s.views := rfl
@[simp] theorem State.setPort_lpddr (s : State) (p : Port) (f : PortState → PortState) :
    (s.setPort p f).lpddr = s.lpddr := rfl
@[simp] theorem State.setPort_grid (s : State) (p : Port) (f : PortState → PortState) :
    (s.setPort p f).grid = s.grid := rfl
@[simp] theorem State.setPort_cf (s : State) (p : Port) (f : PortState → PortState) :
    (s.setPort p f).cf = s.cf := rfl
@[simp] theorem State.setPort_weir (s : State) (p : Port) (f : PortState → PortState) :
    (s.setPort p f).weir = s.weir := rfl
@[simp] theorem State.setPort_spill (s : State) (p : Port) (f : PortState → PortState) :
    (s.setPort p f).spill = s.spill := rfl
@[simp] theorem State.setPort_launched (s : State) (p : Port) (f : PortState → PortState) :
    (s.setPort p f).launched = s.launched := rfl
@[simp] theorem State.setPort_link (s : State) (p : Port) (f : PortState → PortState) :
    (s.setPort p f).link = s.link := rfl
@[simp] theorem State.setPort_gl (s : State) (p : Port) (f : PortState → PortState) :
    (s.setPort p f).gl = s.gl := rfl
@[simp] theorem State.setPort_twin (s : State) (p : Port) (f : PortState → PortState) :
    (s.setPort p f).twin = s.twin := rfl
@[simp] theorem State.setPort_mem (s : State) (p : Port) (f : PortState → PortState) :
    (s.setPort p f).mem = s.mem := rfl
@[simp] theorem State.setPort_dma (s : State) (p : Port) (f : PortState → PortState) :
    (s.setPort p f).dma = s.dma := rfl
@[simp] theorem State.setPort_out (s : State) (p : Port) (f : PortState → PortState) :
    (s.setPort p f).out = s.out := rfl
@[simp] theorem State.setPort_freeCtr (s : State) (p : Port) (f : PortState → PortState) :
    (s.setPort p f).freeCtr = s.freeCtr := rfl
@[simp] theorem State.setPort_pending (s : State) (p : Port) (f : PortState → PortState) :
    (s.setPort p f).pending = s.pending := rfl

/-! ### State.setView -/

@[simp] theorem State.setView_now (s : State) (v : Fin 64) (f : ViewState → ViewState) :
    (s.setView v f).now = s.now := rfl
@[simp] theorem State.setView_sys (s : State) (v : Fin 64) (f : ViewState → ViewState) :
    (s.setView v f).sys = s.sys := rfl
@[simp] theorem State.setView_clock (s : State) (v : Fin 64) (f : ViewState → ViewState) :
    (s.setView v f).clock = s.clock := rfl
@[simp] theorem State.setView_trig (s : State) (v : Fin 64) (f : ViewState → ViewState) :
    (s.setView v f).trig = s.trig := rfl
@[simp] theorem State.setView_win (s : State) (v : Fin 64) (f : ViewState → ViewState) :
    (s.setView v f).win = s.win := rfl
@[simp] theorem State.setView_jtag (s : State) (v : Fin 64) (f : ViewState → ViewState) :
    (s.setView v f).jtag = s.jtag := rfl
@[simp] theorem State.setView_ports (s : State) (v : Fin 64) (f : ViewState → ViewState) :
    (s.setView v f).ports = s.ports := rfl
@[simp] theorem State.setView_lastPort (s : State) (v : Fin 64) (f : ViewState → ViewState) :
    (s.setView v f).lastPort = s.lastPort := rfl
@[simp] theorem State.setView_mb (s : State) (v : Fin 64) (f : ViewState → ViewState) :
    (s.setView v f).mb = s.mb := rfl
@[simp] theorem State.setView_audit (s : State) (v : Fin 64) (f : ViewState → ViewState) :
    (s.setView v f).audit = s.audit := rfl
@[simp] theorem State.setView_recs (s : State) (v : Fin 64) (f : ViewState → ViewState) :
    (s.setView v f).recs = s.recs := rfl
@[simp] theorem State.setView_ev (s : State) (v : Fin 64) (f : ViewState → ViewState) :
    (s.setView v f).ev = s.ev := rfl
@[simp] theorem State.setView_pwr (s : State) (v : Fin 64) (f : ViewState → ViewState) :
    (s.setView v f).pwr = s.pwr := rfl
@[simp] theorem State.setView_wh (s : State) (v : Fin 64) (f : ViewState → ViewState) :
    (s.setView v f).wh = s.wh := rfl
@[simp] theorem State.setView_nvm (s : State) (v : Fin 64) (f : ViewState → ViewState) :
    (s.setView v f).nvm = s.nvm := rfl
@[simp] theorem State.setView_inlets (s : State) (v : Fin 64) (f : ViewState → ViewState) :
    (s.setView v f).inlets = s.inlets := rfl
@[simp] theorem State.setView_queues (s : State) (v : Fin 64) (f : ViewState → ViewState) :
    (s.setView v f).queues = s.queues := rfl
@[simp] theorem State.setView_ctxs (s : State) (v : Fin 64) (f : ViewState → ViewState) :
    (s.setView v f).ctxs = s.ctxs := rfl
@[simp] theorem State.setView_expo (s : State) (v : Fin 64) (f : ViewState → ViewState) :
    (s.setView v f).expo = s.expo := rfl
@[simp] theorem State.setView_stats (s : State) (v : Fin 64) (f : ViewState → ViewState) :
    (s.setView v f).stats = s.stats := rfl
@[simp] theorem State.setView_sluice (s : State) (v : Fin 64) (f : ViewState → ViewState) :
    (s.setView v f).sluice = s.sluice := rfl
@[simp] theorem State.setView_runnels (s : State) (v : Fin 64) (f : ViewState → ViewState) :
    (s.setView v f).runnels = s.runnels := rfl
@[simp] theorem State.setView_carries (s : State) (v : Fin 64) (f : ViewState → ViewState) :
    (s.setView v f).carries = s.carries := rfl
@[simp] theorem State.setView_views (s : State) (v : Fin 64) (f : ViewState → ViewState) :
    (s.setView v f).views = upd s.views v f := rfl
@[simp] theorem State.setView_lpddr (s : State) (v : Fin 64) (f : ViewState → ViewState) :
    (s.setView v f).lpddr = s.lpddr := rfl
@[simp] theorem State.setView_grid (s : State) (v : Fin 64) (f : ViewState → ViewState) :
    (s.setView v f).grid = s.grid := rfl
@[simp] theorem State.setView_cf (s : State) (v : Fin 64) (f : ViewState → ViewState) :
    (s.setView v f).cf = s.cf := rfl
@[simp] theorem State.setView_weir (s : State) (v : Fin 64) (f : ViewState → ViewState) :
    (s.setView v f).weir = s.weir := rfl
@[simp] theorem State.setView_spill (s : State) (v : Fin 64) (f : ViewState → ViewState) :
    (s.setView v f).spill = s.spill := rfl
@[simp] theorem State.setView_launched (s : State) (v : Fin 64) (f : ViewState → ViewState) :
    (s.setView v f).launched = s.launched := rfl
@[simp] theorem State.setView_link (s : State) (v : Fin 64) (f : ViewState → ViewState) :
    (s.setView v f).link = s.link := rfl
@[simp] theorem State.setView_gl (s : State) (v : Fin 64) (f : ViewState → ViewState) :
    (s.setView v f).gl = s.gl := rfl
@[simp] theorem State.setView_twin (s : State) (v : Fin 64) (f : ViewState → ViewState) :
    (s.setView v f).twin = s.twin := rfl
@[simp] theorem State.setView_mem (s : State) (v : Fin 64) (f : ViewState → ViewState) :
    (s.setView v f).mem = s.mem := rfl
@[simp] theorem State.setView_dma (s : State) (v : Fin 64) (f : ViewState → ViewState) :
    (s.setView v f).dma = s.dma := rfl
@[simp] theorem State.setView_out (s : State) (v : Fin 64) (f : ViewState → ViewState) :
    (s.setView v f).out = s.out := rfl
@[simp] theorem State.setView_freeCtr (s : State) (v : Fin 64) (f : ViewState → ViewState) :
    (s.setView v f).freeCtr = s.freeCtr := rfl
@[simp] theorem State.setView_pending (s : State) (v : Fin 64) (f : ViewState → ViewState) :
    (s.setView v f).pending = s.pending := rfl

/-! ### State.setCarry -/

@[simp] theorem State.setCarry_now (s : State) (c : Fin 64) (f : Carry → Carry) :
    (s.setCarry c f).now = s.now := rfl
@[simp] theorem State.setCarry_sys (s : State) (c : Fin 64) (f : Carry → Carry) :
    (s.setCarry c f).sys = s.sys := rfl
@[simp] theorem State.setCarry_clock (s : State) (c : Fin 64) (f : Carry → Carry) :
    (s.setCarry c f).clock = s.clock := rfl
@[simp] theorem State.setCarry_trig (s : State) (c : Fin 64) (f : Carry → Carry) :
    (s.setCarry c f).trig = s.trig := rfl
@[simp] theorem State.setCarry_win (s : State) (c : Fin 64) (f : Carry → Carry) :
    (s.setCarry c f).win = s.win := rfl
@[simp] theorem State.setCarry_jtag (s : State) (c : Fin 64) (f : Carry → Carry) :
    (s.setCarry c f).jtag = s.jtag := rfl
@[simp] theorem State.setCarry_ports (s : State) (c : Fin 64) (f : Carry → Carry) :
    (s.setCarry c f).ports = s.ports := rfl
@[simp] theorem State.setCarry_lastPort (s : State) (c : Fin 64) (f : Carry → Carry) :
    (s.setCarry c f).lastPort = s.lastPort := rfl
@[simp] theorem State.setCarry_mb (s : State) (c : Fin 64) (f : Carry → Carry) :
    (s.setCarry c f).mb = s.mb := rfl
@[simp] theorem State.setCarry_audit (s : State) (c : Fin 64) (f : Carry → Carry) :
    (s.setCarry c f).audit = s.audit := rfl
@[simp] theorem State.setCarry_recs (s : State) (c : Fin 64) (f : Carry → Carry) :
    (s.setCarry c f).recs = s.recs := rfl
@[simp] theorem State.setCarry_ev (s : State) (c : Fin 64) (f : Carry → Carry) :
    (s.setCarry c f).ev = s.ev := rfl
@[simp] theorem State.setCarry_pwr (s : State) (c : Fin 64) (f : Carry → Carry) :
    (s.setCarry c f).pwr = s.pwr := rfl
@[simp] theorem State.setCarry_wh (s : State) (c : Fin 64) (f : Carry → Carry) :
    (s.setCarry c f).wh = s.wh := rfl
@[simp] theorem State.setCarry_nvm (s : State) (c : Fin 64) (f : Carry → Carry) :
    (s.setCarry c f).nvm = s.nvm := rfl
@[simp] theorem State.setCarry_inlets (s : State) (c : Fin 64) (f : Carry → Carry) :
    (s.setCarry c f).inlets = s.inlets := rfl
@[simp] theorem State.setCarry_queues (s : State) (c : Fin 64) (f : Carry → Carry) :
    (s.setCarry c f).queues = s.queues := rfl
@[simp] theorem State.setCarry_ctxs (s : State) (c : Fin 64) (f : Carry → Carry) :
    (s.setCarry c f).ctxs = s.ctxs := rfl
@[simp] theorem State.setCarry_expo (s : State) (c : Fin 64) (f : Carry → Carry) :
    (s.setCarry c f).expo = s.expo := rfl
@[simp] theorem State.setCarry_stats (s : State) (c : Fin 64) (f : Carry → Carry) :
    (s.setCarry c f).stats = s.stats := rfl
@[simp] theorem State.setCarry_sluice (s : State) (c : Fin 64) (f : Carry → Carry) :
    (s.setCarry c f).sluice = s.sluice := rfl
@[simp] theorem State.setCarry_runnels (s : State) (c : Fin 64) (f : Carry → Carry) :
    (s.setCarry c f).runnels = s.runnels := rfl
@[simp] theorem State.setCarry_carries (s : State) (c : Fin 64) (f : Carry → Carry) :
    (s.setCarry c f).carries = upd s.carries c f := rfl
@[simp] theorem State.setCarry_views (s : State) (c : Fin 64) (f : Carry → Carry) :
    (s.setCarry c f).views = s.views := rfl
@[simp] theorem State.setCarry_lpddr (s : State) (c : Fin 64) (f : Carry → Carry) :
    (s.setCarry c f).lpddr = s.lpddr := rfl
@[simp] theorem State.setCarry_grid (s : State) (c : Fin 64) (f : Carry → Carry) :
    (s.setCarry c f).grid = s.grid := rfl
@[simp] theorem State.setCarry_cf (s : State) (c : Fin 64) (f : Carry → Carry) :
    (s.setCarry c f).cf = s.cf := rfl
@[simp] theorem State.setCarry_weir (s : State) (c : Fin 64) (f : Carry → Carry) :
    (s.setCarry c f).weir = s.weir := rfl
@[simp] theorem State.setCarry_spill (s : State) (c : Fin 64) (f : Carry → Carry) :
    (s.setCarry c f).spill = s.spill := rfl
@[simp] theorem State.setCarry_launched (s : State) (c : Fin 64) (f : Carry → Carry) :
    (s.setCarry c f).launched = s.launched := rfl
@[simp] theorem State.setCarry_link (s : State) (c : Fin 64) (f : Carry → Carry) :
    (s.setCarry c f).link = s.link := rfl
@[simp] theorem State.setCarry_gl (s : State) (c : Fin 64) (f : Carry → Carry) :
    (s.setCarry c f).gl = s.gl := rfl
@[simp] theorem State.setCarry_twin (s : State) (c : Fin 64) (f : Carry → Carry) :
    (s.setCarry c f).twin = s.twin := rfl
@[simp] theorem State.setCarry_mem (s : State) (c : Fin 64) (f : Carry → Carry) :
    (s.setCarry c f).mem = s.mem := rfl
@[simp] theorem State.setCarry_dma (s : State) (c : Fin 64) (f : Carry → Carry) :
    (s.setCarry c f).dma = s.dma := rfl
@[simp] theorem State.setCarry_out (s : State) (c : Fin 64) (f : Carry → Carry) :
    (s.setCarry c f).out = s.out := rfl
@[simp] theorem State.setCarry_freeCtr (s : State) (c : Fin 64) (f : Carry → Carry) :
    (s.setCarry c f).freeCtr = s.freeCtr := rfl
@[simp] theorem State.setCarry_pending (s : State) (c : Fin 64) (f : Carry → Carry) :
    (s.setCarry c f).pending = s.pending := rfl

/-! ### State.setBus -/

@[simp] theorem State.setBus_now (s : State) (b : Fin 32) (f : Bus → Bus) :
    (s.setBus b f).now = s.now := rfl
@[simp] theorem State.setBus_sys (s : State) (b : Fin 32) (f : Bus → Bus) :
    (s.setBus b f).sys = s.sys := rfl
@[simp] theorem State.setBus_clock (s : State) (b : Fin 32) (f : Bus → Bus) :
    (s.setBus b f).clock = s.clock := rfl
@[simp] theorem State.setBus_trig (s : State) (b : Fin 32) (f : Bus → Bus) :
    (s.setBus b f).trig = s.trig := rfl
@[simp] theorem State.setBus_win (s : State) (b : Fin 32) (f : Bus → Bus) :
    (s.setBus b f).win = s.win := rfl
@[simp] theorem State.setBus_jtag (s : State) (b : Fin 32) (f : Bus → Bus) :
    (s.setBus b f).jtag = s.jtag := rfl
@[simp] theorem State.setBus_ports (s : State) (b : Fin 32) (f : Bus → Bus) :
    (s.setBus b f).ports = s.ports := rfl
@[simp] theorem State.setBus_lastPort (s : State) (b : Fin 32) (f : Bus → Bus) :
    (s.setBus b f).lastPort = s.lastPort := rfl
@[simp] theorem State.setBus_mb (s : State) (b : Fin 32) (f : Bus → Bus) :
    (s.setBus b f).mb = s.mb := rfl
@[simp] theorem State.setBus_audit (s : State) (b : Fin 32) (f : Bus → Bus) :
    (s.setBus b f).audit = s.audit := rfl
@[simp] theorem State.setBus_recs (s : State) (b : Fin 32) (f : Bus → Bus) :
    (s.setBus b f).recs = s.recs := rfl
@[simp] theorem State.setBus_ev (s : State) (b : Fin 32) (f : Bus → Bus) :
    (s.setBus b f).ev = s.ev := rfl
@[simp] theorem State.setBus_pwr (s : State) (b : Fin 32) (f : Bus → Bus) :
    (s.setBus b f).pwr = s.pwr := rfl
@[simp] theorem State.setBus_wh (s : State) (b : Fin 32) (f : Bus → Bus) :
    (s.setBus b f).wh = s.wh := rfl
@[simp] theorem State.setBus_nvm (s : State) (b : Fin 32) (f : Bus → Bus) :
    (s.setBus b f).nvm = s.nvm := rfl
@[simp] theorem State.setBus_inlets (s : State) (b : Fin 32) (f : Bus → Bus) :
    (s.setBus b f).inlets = s.inlets := rfl
@[simp] theorem State.setBus_queues (s : State) (b : Fin 32) (f : Bus → Bus) :
    (s.setBus b f).queues = s.queues := rfl
@[simp] theorem State.setBus_ctxs (s : State) (b : Fin 32) (f : Bus → Bus) :
    (s.setBus b f).ctxs = s.ctxs := rfl
@[simp] theorem State.setBus_expo (s : State) (b : Fin 32) (f : Bus → Bus) :
    (s.setBus b f).expo = s.expo := rfl
@[simp] theorem State.setBus_stats (s : State) (b : Fin 32) (f : Bus → Bus) :
    (s.setBus b f).stats = s.stats := rfl
@[simp] theorem State.setBus_sluice (s : State) (b : Fin 32) (f : Bus → Bus) :
    (s.setBus b f).sluice = { s.sluice with buses := upd s.sluice.buses b f } := rfl
@[simp] theorem State.setBus_runnels (s : State) (b : Fin 32) (f : Bus → Bus) :
    (s.setBus b f).runnels = s.runnels := rfl
@[simp] theorem State.setBus_carries (s : State) (b : Fin 32) (f : Bus → Bus) :
    (s.setBus b f).carries = s.carries := rfl
@[simp] theorem State.setBus_views (s : State) (b : Fin 32) (f : Bus → Bus) :
    (s.setBus b f).views = s.views := rfl
@[simp] theorem State.setBus_lpddr (s : State) (b : Fin 32) (f : Bus → Bus) :
    (s.setBus b f).lpddr = s.lpddr := rfl
@[simp] theorem State.setBus_grid (s : State) (b : Fin 32) (f : Bus → Bus) :
    (s.setBus b f).grid = s.grid := rfl
@[simp] theorem State.setBus_cf (s : State) (b : Fin 32) (f : Bus → Bus) :
    (s.setBus b f).cf = s.cf := rfl
@[simp] theorem State.setBus_weir (s : State) (b : Fin 32) (f : Bus → Bus) :
    (s.setBus b f).weir = s.weir := rfl
@[simp] theorem State.setBus_spill (s : State) (b : Fin 32) (f : Bus → Bus) :
    (s.setBus b f).spill = s.spill := rfl
@[simp] theorem State.setBus_launched (s : State) (b : Fin 32) (f : Bus → Bus) :
    (s.setBus b f).launched = s.launched := rfl
@[simp] theorem State.setBus_link (s : State) (b : Fin 32) (f : Bus → Bus) :
    (s.setBus b f).link = s.link := rfl
@[simp] theorem State.setBus_gl (s : State) (b : Fin 32) (f : Bus → Bus) :
    (s.setBus b f).gl = s.gl := rfl
@[simp] theorem State.setBus_twin (s : State) (b : Fin 32) (f : Bus → Bus) :
    (s.setBus b f).twin = s.twin := rfl
@[simp] theorem State.setBus_mem (s : State) (b : Fin 32) (f : Bus → Bus) :
    (s.setBus b f).mem = s.mem := rfl
@[simp] theorem State.setBus_dma (s : State) (b : Fin 32) (f : Bus → Bus) :
    (s.setBus b f).dma = s.dma := rfl
@[simp] theorem State.setBus_out (s : State) (b : Fin 32) (f : Bus → Bus) :
    (s.setBus b f).out = s.out := rfl
@[simp] theorem State.setBus_freeCtr (s : State) (b : Fin 32) (f : Bus → Bus) :
    (s.setBus b f).freeCtr = s.freeCtr := rfl
@[simp] theorem State.setBus_pending (s : State) (b : Fin 32) (f : Bus → Bus) :
    (s.setBus b f).pending = s.pending := rfl

/-! ### State.setStats -/

@[simp] theorem State.setStats_now (s : State) (c : Fin 64) (f : StatsCtx → StatsCtx) :
    (s.setStats c f).now = s.now := rfl
@[simp] theorem State.setStats_sys (s : State) (c : Fin 64) (f : StatsCtx → StatsCtx) :
    (s.setStats c f).sys = s.sys := rfl
@[simp] theorem State.setStats_clock (s : State) (c : Fin 64) (f : StatsCtx → StatsCtx) :
    (s.setStats c f).clock = s.clock := rfl
@[simp] theorem State.setStats_trig (s : State) (c : Fin 64) (f : StatsCtx → StatsCtx) :
    (s.setStats c f).trig = s.trig := rfl
@[simp] theorem State.setStats_win (s : State) (c : Fin 64) (f : StatsCtx → StatsCtx) :
    (s.setStats c f).win = s.win := rfl
@[simp] theorem State.setStats_jtag (s : State) (c : Fin 64) (f : StatsCtx → StatsCtx) :
    (s.setStats c f).jtag = s.jtag := rfl
@[simp] theorem State.setStats_ports (s : State) (c : Fin 64) (f : StatsCtx → StatsCtx) :
    (s.setStats c f).ports = s.ports := rfl
@[simp] theorem State.setStats_lastPort (s : State) (c : Fin 64) (f : StatsCtx → StatsCtx) :
    (s.setStats c f).lastPort = s.lastPort := rfl
@[simp] theorem State.setStats_mb (s : State) (c : Fin 64) (f : StatsCtx → StatsCtx) :
    (s.setStats c f).mb = s.mb := rfl
@[simp] theorem State.setStats_audit (s : State) (c : Fin 64) (f : StatsCtx → StatsCtx) :
    (s.setStats c f).audit = s.audit := rfl
@[simp] theorem State.setStats_recs (s : State) (c : Fin 64) (f : StatsCtx → StatsCtx) :
    (s.setStats c f).recs = s.recs := rfl
@[simp] theorem State.setStats_ev (s : State) (c : Fin 64) (f : StatsCtx → StatsCtx) :
    (s.setStats c f).ev = s.ev := rfl
@[simp] theorem State.setStats_pwr (s : State) (c : Fin 64) (f : StatsCtx → StatsCtx) :
    (s.setStats c f).pwr = s.pwr := rfl
@[simp] theorem State.setStats_wh (s : State) (c : Fin 64) (f : StatsCtx → StatsCtx) :
    (s.setStats c f).wh = s.wh := rfl
@[simp] theorem State.setStats_nvm (s : State) (c : Fin 64) (f : StatsCtx → StatsCtx) :
    (s.setStats c f).nvm = s.nvm := rfl
@[simp] theorem State.setStats_inlets (s : State) (c : Fin 64) (f : StatsCtx → StatsCtx) :
    (s.setStats c f).inlets = s.inlets := rfl
@[simp] theorem State.setStats_queues (s : State) (c : Fin 64) (f : StatsCtx → StatsCtx) :
    (s.setStats c f).queues = s.queues := rfl
@[simp] theorem State.setStats_ctxs (s : State) (c : Fin 64) (f : StatsCtx → StatsCtx) :
    (s.setStats c f).ctxs = s.ctxs := rfl
@[simp] theorem State.setStats_expo (s : State) (c : Fin 64) (f : StatsCtx → StatsCtx) :
    (s.setStats c f).expo = s.expo := rfl
@[simp] theorem State.setStats_stats (s : State) (c : Fin 64) (f : StatsCtx → StatsCtx) :
    (s.setStats c f).stats = upd s.stats c f := rfl
@[simp] theorem State.setStats_sluice (s : State) (c : Fin 64) (f : StatsCtx → StatsCtx) :
    (s.setStats c f).sluice = s.sluice := rfl
@[simp] theorem State.setStats_runnels (s : State) (c : Fin 64) (f : StatsCtx → StatsCtx) :
    (s.setStats c f).runnels = s.runnels := rfl
@[simp] theorem State.setStats_carries (s : State) (c : Fin 64) (f : StatsCtx → StatsCtx) :
    (s.setStats c f).carries = s.carries := rfl
@[simp] theorem State.setStats_views (s : State) (c : Fin 64) (f : StatsCtx → StatsCtx) :
    (s.setStats c f).views = s.views := rfl
@[simp] theorem State.setStats_lpddr (s : State) (c : Fin 64) (f : StatsCtx → StatsCtx) :
    (s.setStats c f).lpddr = s.lpddr := rfl
@[simp] theorem State.setStats_grid (s : State) (c : Fin 64) (f : StatsCtx → StatsCtx) :
    (s.setStats c f).grid = s.grid := rfl
@[simp] theorem State.setStats_cf (s : State) (c : Fin 64) (f : StatsCtx → StatsCtx) :
    (s.setStats c f).cf = s.cf := rfl
@[simp] theorem State.setStats_weir (s : State) (c : Fin 64) (f : StatsCtx → StatsCtx) :
    (s.setStats c f).weir = s.weir := rfl
@[simp] theorem State.setStats_spill (s : State) (c : Fin 64) (f : StatsCtx → StatsCtx) :
    (s.setStats c f).spill = s.spill := rfl
@[simp] theorem State.setStats_launched (s : State) (c : Fin 64) (f : StatsCtx → StatsCtx) :
    (s.setStats c f).launched = s.launched := rfl
@[simp] theorem State.setStats_link (s : State) (c : Fin 64) (f : StatsCtx → StatsCtx) :
    (s.setStats c f).link = s.link := rfl
@[simp] theorem State.setStats_gl (s : State) (c : Fin 64) (f : StatsCtx → StatsCtx) :
    (s.setStats c f).gl = s.gl := rfl
@[simp] theorem State.setStats_twin (s : State) (c : Fin 64) (f : StatsCtx → StatsCtx) :
    (s.setStats c f).twin = s.twin := rfl
@[simp] theorem State.setStats_mem (s : State) (c : Fin 64) (f : StatsCtx → StatsCtx) :
    (s.setStats c f).mem = s.mem := rfl
@[simp] theorem State.setStats_dma (s : State) (c : Fin 64) (f : StatsCtx → StatsCtx) :
    (s.setStats c f).dma = s.dma := rfl
@[simp] theorem State.setStats_out (s : State) (c : Fin 64) (f : StatsCtx → StatsCtx) :
    (s.setStats c f).out = s.out := rfl
@[simp] theorem State.setStats_freeCtr (s : State) (c : Fin 64) (f : StatsCtx → StatsCtx) :
    (s.setStats c f).freeCtr = s.freeCtr := rfl
@[simp] theorem State.setStats_pending (s : State) (c : Fin 64) (f : StatsCtx → StatsCtx) :
    (s.setStats c f).pending = s.pending := rfl

/-! ### State.setClock -/

@[simp] theorem State.setClock_now (s : State) (f : Clock → Clock) :
    (s.setClock f).now = s.now := rfl
@[simp] theorem State.setClock_sys (s : State) (f : Clock → Clock) :
    (s.setClock f).sys = s.sys := rfl
@[simp] theorem State.setClock_clock (s : State) (f : Clock → Clock) :
    (s.setClock f).clock = f s.clock := rfl
@[simp] theorem State.setClock_trig (s : State) (f : Clock → Clock) :
    (s.setClock f).trig = s.trig := rfl
@[simp] theorem State.setClock_win (s : State) (f : Clock → Clock) :
    (s.setClock f).win = s.win := rfl
@[simp] theorem State.setClock_jtag (s : State) (f : Clock → Clock) :
    (s.setClock f).jtag = s.jtag := rfl
@[simp] theorem State.setClock_ports (s : State) (f : Clock → Clock) :
    (s.setClock f).ports = s.ports := rfl
@[simp] theorem State.setClock_lastPort (s : State) (f : Clock → Clock) :
    (s.setClock f).lastPort = s.lastPort := rfl
@[simp] theorem State.setClock_mb (s : State) (f : Clock → Clock) :
    (s.setClock f).mb = s.mb := rfl
@[simp] theorem State.setClock_audit (s : State) (f : Clock → Clock) :
    (s.setClock f).audit = s.audit := rfl
@[simp] theorem State.setClock_recs (s : State) (f : Clock → Clock) :
    (s.setClock f).recs = s.recs := rfl
@[simp] theorem State.setClock_ev (s : State) (f : Clock → Clock) :
    (s.setClock f).ev = s.ev := rfl
@[simp] theorem State.setClock_pwr (s : State) (f : Clock → Clock) :
    (s.setClock f).pwr = s.pwr := rfl
@[simp] theorem State.setClock_wh (s : State) (f : Clock → Clock) :
    (s.setClock f).wh = s.wh := rfl
@[simp] theorem State.setClock_nvm (s : State) (f : Clock → Clock) :
    (s.setClock f).nvm = s.nvm := rfl
@[simp] theorem State.setClock_inlets (s : State) (f : Clock → Clock) :
    (s.setClock f).inlets = s.inlets := rfl
@[simp] theorem State.setClock_queues (s : State) (f : Clock → Clock) :
    (s.setClock f).queues = s.queues := rfl
@[simp] theorem State.setClock_ctxs (s : State) (f : Clock → Clock) :
    (s.setClock f).ctxs = s.ctxs := rfl
@[simp] theorem State.setClock_expo (s : State) (f : Clock → Clock) :
    (s.setClock f).expo = s.expo := rfl
@[simp] theorem State.setClock_stats (s : State) (f : Clock → Clock) :
    (s.setClock f).stats = s.stats := rfl
@[simp] theorem State.setClock_sluice (s : State) (f : Clock → Clock) :
    (s.setClock f).sluice = s.sluice := rfl
@[simp] theorem State.setClock_runnels (s : State) (f : Clock → Clock) :
    (s.setClock f).runnels = s.runnels := rfl
@[simp] theorem State.setClock_carries (s : State) (f : Clock → Clock) :
    (s.setClock f).carries = s.carries := rfl
@[simp] theorem State.setClock_views (s : State) (f : Clock → Clock) :
    (s.setClock f).views = s.views := rfl
@[simp] theorem State.setClock_lpddr (s : State) (f : Clock → Clock) :
    (s.setClock f).lpddr = s.lpddr := rfl
@[simp] theorem State.setClock_grid (s : State) (f : Clock → Clock) :
    (s.setClock f).grid = s.grid := rfl
@[simp] theorem State.setClock_cf (s : State) (f : Clock → Clock) :
    (s.setClock f).cf = s.cf := rfl
@[simp] theorem State.setClock_weir (s : State) (f : Clock → Clock) :
    (s.setClock f).weir = s.weir := rfl
@[simp] theorem State.setClock_spill (s : State) (f : Clock → Clock) :
    (s.setClock f).spill = s.spill := rfl
@[simp] theorem State.setClock_launched (s : State) (f : Clock → Clock) :
    (s.setClock f).launched = s.launched := rfl
@[simp] theorem State.setClock_link (s : State) (f : Clock → Clock) :
    (s.setClock f).link = s.link := rfl
@[simp] theorem State.setClock_gl (s : State) (f : Clock → Clock) :
    (s.setClock f).gl = s.gl := rfl
@[simp] theorem State.setClock_twin (s : State) (f : Clock → Clock) :
    (s.setClock f).twin = s.twin := rfl
@[simp] theorem State.setClock_mem (s : State) (f : Clock → Clock) :
    (s.setClock f).mem = s.mem := rfl
@[simp] theorem State.setClock_dma (s : State) (f : Clock → Clock) :
    (s.setClock f).dma = s.dma := rfl
@[simp] theorem State.setClock_out (s : State) (f : Clock → Clock) :
    (s.setClock f).out = s.out := rfl
@[simp] theorem State.setClock_freeCtr (s : State) (f : Clock → Clock) :
    (s.setClock f).freeCtr = s.freeCtr := rfl
@[simp] theorem State.setClock_pending (s : State) (f : Clock → Clock) :
    (s.setClock f).pending = s.pending := rfl

/-! ### State.setOut -/

@[simp] theorem State.setOut_now (s : State) (o : Fin 48) (f : Output → Output) :
    (s.setOut o f).now = s.now := rfl
@[simp] theorem State.setOut_sys (s : State) (o : Fin 48) (f : Output → Output) :
    (s.setOut o f).sys = s.sys := rfl
@[simp] theorem State.setOut_clock (s : State) (o : Fin 48) (f : Output → Output) :
    (s.setOut o f).clock = s.clock := rfl
@[simp] theorem State.setOut_trig (s : State) (o : Fin 48) (f : Output → Output) :
    (s.setOut o f).trig = { s.trig with outs := upd s.trig.outs o f } := rfl
@[simp] theorem State.setOut_win (s : State) (o : Fin 48) (f : Output → Output) :
    (s.setOut o f).win = s.win := rfl
@[simp] theorem State.setOut_jtag (s : State) (o : Fin 48) (f : Output → Output) :
    (s.setOut o f).jtag = s.jtag := rfl
@[simp] theorem State.setOut_ports (s : State) (o : Fin 48) (f : Output → Output) :
    (s.setOut o f).ports = s.ports := rfl
@[simp] theorem State.setOut_lastPort (s : State) (o : Fin 48) (f : Output → Output) :
    (s.setOut o f).lastPort = s.lastPort := rfl
@[simp] theorem State.setOut_mb (s : State) (o : Fin 48) (f : Output → Output) :
    (s.setOut o f).mb = s.mb := rfl
@[simp] theorem State.setOut_audit (s : State) (o : Fin 48) (f : Output → Output) :
    (s.setOut o f).audit = s.audit := rfl
@[simp] theorem State.setOut_recs (s : State) (o : Fin 48) (f : Output → Output) :
    (s.setOut o f).recs = s.recs := rfl
@[simp] theorem State.setOut_ev (s : State) (o : Fin 48) (f : Output → Output) :
    (s.setOut o f).ev = s.ev := rfl
@[simp] theorem State.setOut_pwr (s : State) (o : Fin 48) (f : Output → Output) :
    (s.setOut o f).pwr = s.pwr := rfl
@[simp] theorem State.setOut_wh (s : State) (o : Fin 48) (f : Output → Output) :
    (s.setOut o f).wh = s.wh := rfl
@[simp] theorem State.setOut_nvm (s : State) (o : Fin 48) (f : Output → Output) :
    (s.setOut o f).nvm = s.nvm := rfl
@[simp] theorem State.setOut_inlets (s : State) (o : Fin 48) (f : Output → Output) :
    (s.setOut o f).inlets = s.inlets := rfl
@[simp] theorem State.setOut_queues (s : State) (o : Fin 48) (f : Output → Output) :
    (s.setOut o f).queues = s.queues := rfl
@[simp] theorem State.setOut_ctxs (s : State) (o : Fin 48) (f : Output → Output) :
    (s.setOut o f).ctxs = s.ctxs := rfl
@[simp] theorem State.setOut_expo (s : State) (o : Fin 48) (f : Output → Output) :
    (s.setOut o f).expo = s.expo := rfl
@[simp] theorem State.setOut_stats (s : State) (o : Fin 48) (f : Output → Output) :
    (s.setOut o f).stats = s.stats := rfl
@[simp] theorem State.setOut_sluice (s : State) (o : Fin 48) (f : Output → Output) :
    (s.setOut o f).sluice = s.sluice := rfl
@[simp] theorem State.setOut_runnels (s : State) (o : Fin 48) (f : Output → Output) :
    (s.setOut o f).runnels = s.runnels := rfl
@[simp] theorem State.setOut_carries (s : State) (o : Fin 48) (f : Output → Output) :
    (s.setOut o f).carries = s.carries := rfl
@[simp] theorem State.setOut_views (s : State) (o : Fin 48) (f : Output → Output) :
    (s.setOut o f).views = s.views := rfl
@[simp] theorem State.setOut_lpddr (s : State) (o : Fin 48) (f : Output → Output) :
    (s.setOut o f).lpddr = s.lpddr := rfl
@[simp] theorem State.setOut_grid (s : State) (o : Fin 48) (f : Output → Output) :
    (s.setOut o f).grid = s.grid := rfl
@[simp] theorem State.setOut_cf (s : State) (o : Fin 48) (f : Output → Output) :
    (s.setOut o f).cf = s.cf := rfl
@[simp] theorem State.setOut_weir (s : State) (o : Fin 48) (f : Output → Output) :
    (s.setOut o f).weir = s.weir := rfl
@[simp] theorem State.setOut_spill (s : State) (o : Fin 48) (f : Output → Output) :
    (s.setOut o f).spill = s.spill := rfl
@[simp] theorem State.setOut_launched (s : State) (o : Fin 48) (f : Output → Output) :
    (s.setOut o f).launched = s.launched := rfl
@[simp] theorem State.setOut_link (s : State) (o : Fin 48) (f : Output → Output) :
    (s.setOut o f).link = s.link := rfl
@[simp] theorem State.setOut_gl (s : State) (o : Fin 48) (f : Output → Output) :
    (s.setOut o f).gl = s.gl := rfl
@[simp] theorem State.setOut_twin (s : State) (o : Fin 48) (f : Output → Output) :
    (s.setOut o f).twin = s.twin := rfl
@[simp] theorem State.setOut_mem (s : State) (o : Fin 48) (f : Output → Output) :
    (s.setOut o f).mem = s.mem := rfl
@[simp] theorem State.setOut_dma (s : State) (o : Fin 48) (f : Output → Output) :
    (s.setOut o f).dma = s.dma := rfl
@[simp] theorem State.setOut_out (s : State) (o : Fin 48) (f : Output → Output) :
    (s.setOut o f).out = s.out := rfl
@[simp] theorem State.setOut_freeCtr (s : State) (o : Fin 48) (f : Output → Output) :
    (s.setOut o f).freeCtr = s.freeCtr := rfl
@[simp] theorem State.setOut_pending (s : State) (o : Fin 48) (f : Output → Output) :
    (s.setOut o f).pending = s.pending := rfl

/-! ### State.setEvin -/

@[simp] theorem State.setEvin_now (s : State) (i : Fin 8) (f : EvIn → EvIn) :
    (s.setEvin i f).now = s.now := rfl
@[simp] theorem State.setEvin_sys (s : State) (i : Fin 8) (f : EvIn → EvIn) :
    (s.setEvin i f).sys = s.sys := rfl
@[simp] theorem State.setEvin_clock (s : State) (i : Fin 8) (f : EvIn → EvIn) :
    (s.setEvin i f).clock = s.clock := rfl
@[simp] theorem State.setEvin_trig (s : State) (i : Fin 8) (f : EvIn → EvIn) :
    (s.setEvin i f).trig = { s.trig with evins := upd s.trig.evins i f } := rfl
@[simp] theorem State.setEvin_win (s : State) (i : Fin 8) (f : EvIn → EvIn) :
    (s.setEvin i f).win = s.win := rfl
@[simp] theorem State.setEvin_jtag (s : State) (i : Fin 8) (f : EvIn → EvIn) :
    (s.setEvin i f).jtag = s.jtag := rfl
@[simp] theorem State.setEvin_ports (s : State) (i : Fin 8) (f : EvIn → EvIn) :
    (s.setEvin i f).ports = s.ports := rfl
@[simp] theorem State.setEvin_lastPort (s : State) (i : Fin 8) (f : EvIn → EvIn) :
    (s.setEvin i f).lastPort = s.lastPort := rfl
@[simp] theorem State.setEvin_mb (s : State) (i : Fin 8) (f : EvIn → EvIn) :
    (s.setEvin i f).mb = s.mb := rfl
@[simp] theorem State.setEvin_audit (s : State) (i : Fin 8) (f : EvIn → EvIn) :
    (s.setEvin i f).audit = s.audit := rfl
@[simp] theorem State.setEvin_recs (s : State) (i : Fin 8) (f : EvIn → EvIn) :
    (s.setEvin i f).recs = s.recs := rfl
@[simp] theorem State.setEvin_ev (s : State) (i : Fin 8) (f : EvIn → EvIn) :
    (s.setEvin i f).ev = s.ev := rfl
@[simp] theorem State.setEvin_pwr (s : State) (i : Fin 8) (f : EvIn → EvIn) :
    (s.setEvin i f).pwr = s.pwr := rfl
@[simp] theorem State.setEvin_wh (s : State) (i : Fin 8) (f : EvIn → EvIn) :
    (s.setEvin i f).wh = s.wh := rfl
@[simp] theorem State.setEvin_nvm (s : State) (i : Fin 8) (f : EvIn → EvIn) :
    (s.setEvin i f).nvm = s.nvm := rfl
@[simp] theorem State.setEvin_inlets (s : State) (i : Fin 8) (f : EvIn → EvIn) :
    (s.setEvin i f).inlets = s.inlets := rfl
@[simp] theorem State.setEvin_queues (s : State) (i : Fin 8) (f : EvIn → EvIn) :
    (s.setEvin i f).queues = s.queues := rfl
@[simp] theorem State.setEvin_ctxs (s : State) (i : Fin 8) (f : EvIn → EvIn) :
    (s.setEvin i f).ctxs = s.ctxs := rfl
@[simp] theorem State.setEvin_expo (s : State) (i : Fin 8) (f : EvIn → EvIn) :
    (s.setEvin i f).expo = s.expo := rfl
@[simp] theorem State.setEvin_stats (s : State) (i : Fin 8) (f : EvIn → EvIn) :
    (s.setEvin i f).stats = s.stats := rfl
@[simp] theorem State.setEvin_sluice (s : State) (i : Fin 8) (f : EvIn → EvIn) :
    (s.setEvin i f).sluice = s.sluice := rfl
@[simp] theorem State.setEvin_runnels (s : State) (i : Fin 8) (f : EvIn → EvIn) :
    (s.setEvin i f).runnels = s.runnels := rfl
@[simp] theorem State.setEvin_carries (s : State) (i : Fin 8) (f : EvIn → EvIn) :
    (s.setEvin i f).carries = s.carries := rfl
@[simp] theorem State.setEvin_views (s : State) (i : Fin 8) (f : EvIn → EvIn) :
    (s.setEvin i f).views = s.views := rfl
@[simp] theorem State.setEvin_lpddr (s : State) (i : Fin 8) (f : EvIn → EvIn) :
    (s.setEvin i f).lpddr = s.lpddr := rfl
@[simp] theorem State.setEvin_grid (s : State) (i : Fin 8) (f : EvIn → EvIn) :
    (s.setEvin i f).grid = s.grid := rfl
@[simp] theorem State.setEvin_cf (s : State) (i : Fin 8) (f : EvIn → EvIn) :
    (s.setEvin i f).cf = s.cf := rfl
@[simp] theorem State.setEvin_weir (s : State) (i : Fin 8) (f : EvIn → EvIn) :
    (s.setEvin i f).weir = s.weir := rfl
@[simp] theorem State.setEvin_spill (s : State) (i : Fin 8) (f : EvIn → EvIn) :
    (s.setEvin i f).spill = s.spill := rfl
@[simp] theorem State.setEvin_launched (s : State) (i : Fin 8) (f : EvIn → EvIn) :
    (s.setEvin i f).launched = s.launched := rfl
@[simp] theorem State.setEvin_link (s : State) (i : Fin 8) (f : EvIn → EvIn) :
    (s.setEvin i f).link = s.link := rfl
@[simp] theorem State.setEvin_gl (s : State) (i : Fin 8) (f : EvIn → EvIn) :
    (s.setEvin i f).gl = s.gl := rfl
@[simp] theorem State.setEvin_twin (s : State) (i : Fin 8) (f : EvIn → EvIn) :
    (s.setEvin i f).twin = s.twin := rfl
@[simp] theorem State.setEvin_mem (s : State) (i : Fin 8) (f : EvIn → EvIn) :
    (s.setEvin i f).mem = s.mem := rfl
@[simp] theorem State.setEvin_dma (s : State) (i : Fin 8) (f : EvIn → EvIn) :
    (s.setEvin i f).dma = s.dma := rfl
@[simp] theorem State.setEvin_out (s : State) (i : Fin 8) (f : EvIn → EvIn) :
    (s.setEvin i f).out = s.out := rfl
@[simp] theorem State.setEvin_freeCtr (s : State) (i : Fin 8) (f : EvIn → EvIn) :
    (s.setEvin i f).freeCtr = s.freeCtr := rfl
@[simp] theorem State.setEvin_pending (s : State) (i : Fin 8) (f : EvIn → EvIn) :
    (s.setEvin i f).pending = s.pending := rfl

/-! ### State.setWeir -/

@[simp] theorem State.setWeir_now (s : State) (f : Weir → Weir) :
    (s.setWeir f).now = s.now := rfl
@[simp] theorem State.setWeir_sys (s : State) (f : Weir → Weir) :
    (s.setWeir f).sys = s.sys := rfl
@[simp] theorem State.setWeir_clock (s : State) (f : Weir → Weir) :
    (s.setWeir f).clock = s.clock := rfl
@[simp] theorem State.setWeir_trig (s : State) (f : Weir → Weir) :
    (s.setWeir f).trig = s.trig := rfl
@[simp] theorem State.setWeir_win (s : State) (f : Weir → Weir) :
    (s.setWeir f).win = s.win := rfl
@[simp] theorem State.setWeir_jtag (s : State) (f : Weir → Weir) :
    (s.setWeir f).jtag = s.jtag := rfl
@[simp] theorem State.setWeir_ports (s : State) (f : Weir → Weir) :
    (s.setWeir f).ports = s.ports := rfl
@[simp] theorem State.setWeir_lastPort (s : State) (f : Weir → Weir) :
    (s.setWeir f).lastPort = s.lastPort := rfl
@[simp] theorem State.setWeir_mb (s : State) (f : Weir → Weir) :
    (s.setWeir f).mb = s.mb := rfl
@[simp] theorem State.setWeir_audit (s : State) (f : Weir → Weir) :
    (s.setWeir f).audit = s.audit := rfl
@[simp] theorem State.setWeir_recs (s : State) (f : Weir → Weir) :
    (s.setWeir f).recs = s.recs := rfl
@[simp] theorem State.setWeir_ev (s : State) (f : Weir → Weir) :
    (s.setWeir f).ev = s.ev := rfl
@[simp] theorem State.setWeir_pwr (s : State) (f : Weir → Weir) :
    (s.setWeir f).pwr = s.pwr := rfl
@[simp] theorem State.setWeir_wh (s : State) (f : Weir → Weir) :
    (s.setWeir f).wh = s.wh := rfl
@[simp] theorem State.setWeir_nvm (s : State) (f : Weir → Weir) :
    (s.setWeir f).nvm = s.nvm := rfl
@[simp] theorem State.setWeir_inlets (s : State) (f : Weir → Weir) :
    (s.setWeir f).inlets = s.inlets := rfl
@[simp] theorem State.setWeir_queues (s : State) (f : Weir → Weir) :
    (s.setWeir f).queues = s.queues := rfl
@[simp] theorem State.setWeir_ctxs (s : State) (f : Weir → Weir) :
    (s.setWeir f).ctxs = s.ctxs := rfl
@[simp] theorem State.setWeir_expo (s : State) (f : Weir → Weir) :
    (s.setWeir f).expo = s.expo := rfl
@[simp] theorem State.setWeir_stats (s : State) (f : Weir → Weir) :
    (s.setWeir f).stats = s.stats := rfl
@[simp] theorem State.setWeir_sluice (s : State) (f : Weir → Weir) :
    (s.setWeir f).sluice = s.sluice := rfl
@[simp] theorem State.setWeir_runnels (s : State) (f : Weir → Weir) :
    (s.setWeir f).runnels = s.runnels := rfl
@[simp] theorem State.setWeir_carries (s : State) (f : Weir → Weir) :
    (s.setWeir f).carries = s.carries := rfl
@[simp] theorem State.setWeir_views (s : State) (f : Weir → Weir) :
    (s.setWeir f).views = s.views := rfl
@[simp] theorem State.setWeir_lpddr (s : State) (f : Weir → Weir) :
    (s.setWeir f).lpddr = s.lpddr := rfl
@[simp] theorem State.setWeir_grid (s : State) (f : Weir → Weir) :
    (s.setWeir f).grid = s.grid := rfl
@[simp] theorem State.setWeir_cf (s : State) (f : Weir → Weir) :
    (s.setWeir f).cf = s.cf := rfl
@[simp] theorem State.setWeir_weir (s : State) (f : Weir → Weir) :
    (s.setWeir f).weir = f s.weir := rfl
@[simp] theorem State.setWeir_spill (s : State) (f : Weir → Weir) :
    (s.setWeir f).spill = s.spill := rfl
@[simp] theorem State.setWeir_launched (s : State) (f : Weir → Weir) :
    (s.setWeir f).launched = s.launched := rfl
@[simp] theorem State.setWeir_link (s : State) (f : Weir → Weir) :
    (s.setWeir f).link = s.link := rfl
@[simp] theorem State.setWeir_gl (s : State) (f : Weir → Weir) :
    (s.setWeir f).gl = s.gl := rfl
@[simp] theorem State.setWeir_twin (s : State) (f : Weir → Weir) :
    (s.setWeir f).twin = s.twin := rfl
@[simp] theorem State.setWeir_mem (s : State) (f : Weir → Weir) :
    (s.setWeir f).mem = s.mem := rfl
@[simp] theorem State.setWeir_dma (s : State) (f : Weir → Weir) :
    (s.setWeir f).dma = s.dma := rfl
@[simp] theorem State.setWeir_out (s : State) (f : Weir → Weir) :
    (s.setWeir f).out = s.out := rfl
@[simp] theorem State.setWeir_freeCtr (s : State) (f : Weir → Weir) :
    (s.setWeir f).freeCtr = s.freeCtr := rfl
@[simp] theorem State.setWeir_pending (s : State) (f : Weir → Weir) :
    (s.setWeir f).pending = s.pending := rfl

/-! ### State.setLaunch -/

@[simp] theorem State.setLaunch_now (s : State) (q : Fin 8) (f : LaunchQueue → LaunchQueue) :
    (s.setLaunch q f).now = s.now := rfl
@[simp] theorem State.setLaunch_sys (s : State) (q : Fin 8) (f : LaunchQueue → LaunchQueue) :
    (s.setLaunch q f).sys = s.sys := rfl
@[simp] theorem State.setLaunch_clock (s : State) (q : Fin 8) (f : LaunchQueue → LaunchQueue) :
    (s.setLaunch q f).clock = s.clock := rfl
@[simp] theorem State.setLaunch_trig (s : State) (q : Fin 8) (f : LaunchQueue → LaunchQueue) :
    (s.setLaunch q f).trig = s.trig := rfl
@[simp] theorem State.setLaunch_win (s : State) (q : Fin 8) (f : LaunchQueue → LaunchQueue) :
    (s.setLaunch q f).win = s.win := rfl
@[simp] theorem State.setLaunch_jtag (s : State) (q : Fin 8) (f : LaunchQueue → LaunchQueue) :
    (s.setLaunch q f).jtag = s.jtag := rfl
@[simp] theorem State.setLaunch_ports (s : State) (q : Fin 8) (f : LaunchQueue → LaunchQueue) :
    (s.setLaunch q f).ports = s.ports := rfl
@[simp] theorem State.setLaunch_lastPort (s : State) (q : Fin 8) (f : LaunchQueue → LaunchQueue) :
    (s.setLaunch q f).lastPort = s.lastPort := rfl
@[simp] theorem State.setLaunch_mb (s : State) (q : Fin 8) (f : LaunchQueue → LaunchQueue) :
    (s.setLaunch q f).mb = s.mb := rfl
@[simp] theorem State.setLaunch_audit (s : State) (q : Fin 8) (f : LaunchQueue → LaunchQueue) :
    (s.setLaunch q f).audit = s.audit := rfl
@[simp] theorem State.setLaunch_recs (s : State) (q : Fin 8) (f : LaunchQueue → LaunchQueue) :
    (s.setLaunch q f).recs = s.recs := rfl
@[simp] theorem State.setLaunch_ev (s : State) (q : Fin 8) (f : LaunchQueue → LaunchQueue) :
    (s.setLaunch q f).ev = s.ev := rfl
@[simp] theorem State.setLaunch_pwr (s : State) (q : Fin 8) (f : LaunchQueue → LaunchQueue) :
    (s.setLaunch q f).pwr = s.pwr := rfl
@[simp] theorem State.setLaunch_wh (s : State) (q : Fin 8) (f : LaunchQueue → LaunchQueue) :
    (s.setLaunch q f).wh = s.wh := rfl
@[simp] theorem State.setLaunch_nvm (s : State) (q : Fin 8) (f : LaunchQueue → LaunchQueue) :
    (s.setLaunch q f).nvm = s.nvm := rfl
@[simp] theorem State.setLaunch_inlets (s : State) (q : Fin 8) (f : LaunchQueue → LaunchQueue) :
    (s.setLaunch q f).inlets = s.inlets := rfl
@[simp] theorem State.setLaunch_queues (s : State) (q : Fin 8) (f : LaunchQueue → LaunchQueue) :
    (s.setLaunch q f).queues = s.queues := rfl
@[simp] theorem State.setLaunch_ctxs (s : State) (q : Fin 8) (f : LaunchQueue → LaunchQueue) :
    (s.setLaunch q f).ctxs = s.ctxs := rfl
@[simp] theorem State.setLaunch_expo (s : State) (q : Fin 8) (f : LaunchQueue → LaunchQueue) :
    (s.setLaunch q f).expo = s.expo := rfl
@[simp] theorem State.setLaunch_stats (s : State) (q : Fin 8) (f : LaunchQueue → LaunchQueue) :
    (s.setLaunch q f).stats = s.stats := rfl
@[simp] theorem State.setLaunch_sluice (s : State) (q : Fin 8) (f : LaunchQueue → LaunchQueue) :
    (s.setLaunch q f).sluice = s.sluice := rfl
@[simp] theorem State.setLaunch_runnels (s : State) (q : Fin 8) (f : LaunchQueue → LaunchQueue) :
    (s.setLaunch q f).runnels = s.runnels := rfl
@[simp] theorem State.setLaunch_carries (s : State) (q : Fin 8) (f : LaunchQueue → LaunchQueue) :
    (s.setLaunch q f).carries = s.carries := rfl
@[simp] theorem State.setLaunch_views (s : State) (q : Fin 8) (f : LaunchQueue → LaunchQueue) :
    (s.setLaunch q f).views = s.views := rfl
@[simp] theorem State.setLaunch_lpddr (s : State) (q : Fin 8) (f : LaunchQueue → LaunchQueue) :
    (s.setLaunch q f).lpddr = s.lpddr := rfl
@[simp] theorem State.setLaunch_grid (s : State) (q : Fin 8) (f : LaunchQueue → LaunchQueue) :
    (s.setLaunch q f).grid = s.grid := rfl
@[simp] theorem State.setLaunch_cf (s : State) (q : Fin 8) (f : LaunchQueue → LaunchQueue) :
    (s.setLaunch q f).cf = s.cf := rfl
@[simp] theorem State.setLaunch_weir (s : State) (q : Fin 8) (f : LaunchQueue → LaunchQueue) :
    (s.setLaunch q f).weir = s.weir := rfl
@[simp] theorem State.setLaunch_spill (s : State) (q : Fin 8) (f : LaunchQueue → LaunchQueue) :
    (s.setLaunch q f).spill = upd s.spill q f := rfl
@[simp] theorem State.setLaunch_launched (s : State) (q : Fin 8) (f : LaunchQueue → LaunchQueue) :
    (s.setLaunch q f).launched = s.launched := rfl
@[simp] theorem State.setLaunch_link (s : State) (q : Fin 8) (f : LaunchQueue → LaunchQueue) :
    (s.setLaunch q f).link = s.link := rfl
@[simp] theorem State.setLaunch_gl (s : State) (q : Fin 8) (f : LaunchQueue → LaunchQueue) :
    (s.setLaunch q f).gl = s.gl := rfl
@[simp] theorem State.setLaunch_twin (s : State) (q : Fin 8) (f : LaunchQueue → LaunchQueue) :
    (s.setLaunch q f).twin = s.twin := rfl
@[simp] theorem State.setLaunch_mem (s : State) (q : Fin 8) (f : LaunchQueue → LaunchQueue) :
    (s.setLaunch q f).mem = s.mem := rfl
@[simp] theorem State.setLaunch_dma (s : State) (q : Fin 8) (f : LaunchQueue → LaunchQueue) :
    (s.setLaunch q f).dma = s.dma := rfl
@[simp] theorem State.setLaunch_out (s : State) (q : Fin 8) (f : LaunchQueue → LaunchQueue) :
    (s.setLaunch q f).out = s.out := rfl
@[simp] theorem State.setLaunch_freeCtr (s : State) (q : Fin 8) (f : LaunchQueue → LaunchQueue) :
    (s.setLaunch q f).freeCtr = s.freeCtr := rfl
@[simp] theorem State.setLaunch_pending (s : State) (q : Fin 8) (f : LaunchQueue → LaunchQueue) :
    (s.setLaunch q f).pending = s.pending := rfl

/-! ### State.setWin -/

@[simp] theorem State.setWin_now (s : State) (f : Window → Window) :
    (s.setWin f).now = s.now := rfl
@[simp] theorem State.setWin_sys (s : State) (f : Window → Window) :
    (s.setWin f).sys = s.sys := rfl
@[simp] theorem State.setWin_clock (s : State) (f : Window → Window) :
    (s.setWin f).clock = s.clock := rfl
@[simp] theorem State.setWin_trig (s : State) (f : Window → Window) :
    (s.setWin f).trig = s.trig := rfl
@[simp] theorem State.setWin_win (s : State) (f : Window → Window) :
    (s.setWin f).win = f s.win := rfl
@[simp] theorem State.setWin_jtag (s : State) (f : Window → Window) :
    (s.setWin f).jtag = s.jtag := rfl
@[simp] theorem State.setWin_ports (s : State) (f : Window → Window) :
    (s.setWin f).ports = s.ports := rfl
@[simp] theorem State.setWin_lastPort (s : State) (f : Window → Window) :
    (s.setWin f).lastPort = s.lastPort := rfl
@[simp] theorem State.setWin_mb (s : State) (f : Window → Window) :
    (s.setWin f).mb = s.mb := rfl
@[simp] theorem State.setWin_audit (s : State) (f : Window → Window) :
    (s.setWin f).audit = s.audit := rfl
@[simp] theorem State.setWin_recs (s : State) (f : Window → Window) :
    (s.setWin f).recs = s.recs := rfl
@[simp] theorem State.setWin_ev (s : State) (f : Window → Window) :
    (s.setWin f).ev = s.ev := rfl
@[simp] theorem State.setWin_pwr (s : State) (f : Window → Window) :
    (s.setWin f).pwr = s.pwr := rfl
@[simp] theorem State.setWin_wh (s : State) (f : Window → Window) :
    (s.setWin f).wh = s.wh := rfl
@[simp] theorem State.setWin_nvm (s : State) (f : Window → Window) :
    (s.setWin f).nvm = s.nvm := rfl
@[simp] theorem State.setWin_inlets (s : State) (f : Window → Window) :
    (s.setWin f).inlets = s.inlets := rfl
@[simp] theorem State.setWin_queues (s : State) (f : Window → Window) :
    (s.setWin f).queues = s.queues := rfl
@[simp] theorem State.setWin_ctxs (s : State) (f : Window → Window) :
    (s.setWin f).ctxs = s.ctxs := rfl
@[simp] theorem State.setWin_expo (s : State) (f : Window → Window) :
    (s.setWin f).expo = s.expo := rfl
@[simp] theorem State.setWin_stats (s : State) (f : Window → Window) :
    (s.setWin f).stats = s.stats := rfl
@[simp] theorem State.setWin_sluice (s : State) (f : Window → Window) :
    (s.setWin f).sluice = s.sluice := rfl
@[simp] theorem State.setWin_runnels (s : State) (f : Window → Window) :
    (s.setWin f).runnels = s.runnels := rfl
@[simp] theorem State.setWin_carries (s : State) (f : Window → Window) :
    (s.setWin f).carries = s.carries := rfl
@[simp] theorem State.setWin_views (s : State) (f : Window → Window) :
    (s.setWin f).views = s.views := rfl
@[simp] theorem State.setWin_lpddr (s : State) (f : Window → Window) :
    (s.setWin f).lpddr = s.lpddr := rfl
@[simp] theorem State.setWin_grid (s : State) (f : Window → Window) :
    (s.setWin f).grid = s.grid := rfl
@[simp] theorem State.setWin_cf (s : State) (f : Window → Window) :
    (s.setWin f).cf = s.cf := rfl
@[simp] theorem State.setWin_weir (s : State) (f : Window → Window) :
    (s.setWin f).weir = s.weir := rfl
@[simp] theorem State.setWin_spill (s : State) (f : Window → Window) :
    (s.setWin f).spill = s.spill := rfl
@[simp] theorem State.setWin_launched (s : State) (f : Window → Window) :
    (s.setWin f).launched = s.launched := rfl
@[simp] theorem State.setWin_link (s : State) (f : Window → Window) :
    (s.setWin f).link = s.link := rfl
@[simp] theorem State.setWin_gl (s : State) (f : Window → Window) :
    (s.setWin f).gl = s.gl := rfl
@[simp] theorem State.setWin_twin (s : State) (f : Window → Window) :
    (s.setWin f).twin = s.twin := rfl
@[simp] theorem State.setWin_mem (s : State) (f : Window → Window) :
    (s.setWin f).mem = s.mem := rfl
@[simp] theorem State.setWin_dma (s : State) (f : Window → Window) :
    (s.setWin f).dma = s.dma := rfl
@[simp] theorem State.setWin_out (s : State) (f : Window → Window) :
    (s.setWin f).out = s.out := rfl
@[simp] theorem State.setWin_freeCtr (s : State) (f : Window → Window) :
    (s.setWin f).freeCtr = s.freeCtr := rfl
@[simp] theorem State.setWin_pending (s : State) (f : Window → Window) :
    (s.setWin f).pending = s.pending := rfl

/-! ### State.setJtag -/

@[simp] theorem State.setJtag_now (s : State) (f : Jtag → Jtag) :
    (s.setJtag f).now = s.now := rfl
@[simp] theorem State.setJtag_sys (s : State) (f : Jtag → Jtag) :
    (s.setJtag f).sys = s.sys := rfl
@[simp] theorem State.setJtag_clock (s : State) (f : Jtag → Jtag) :
    (s.setJtag f).clock = s.clock := rfl
@[simp] theorem State.setJtag_trig (s : State) (f : Jtag → Jtag) :
    (s.setJtag f).trig = s.trig := rfl
@[simp] theorem State.setJtag_win (s : State) (f : Jtag → Jtag) :
    (s.setJtag f).win = s.win := rfl
@[simp] theorem State.setJtag_jtag (s : State) (f : Jtag → Jtag) :
    (s.setJtag f).jtag = f s.jtag := rfl
@[simp] theorem State.setJtag_ports (s : State) (f : Jtag → Jtag) :
    (s.setJtag f).ports = s.ports := rfl
@[simp] theorem State.setJtag_lastPort (s : State) (f : Jtag → Jtag) :
    (s.setJtag f).lastPort = s.lastPort := rfl
@[simp] theorem State.setJtag_mb (s : State) (f : Jtag → Jtag) :
    (s.setJtag f).mb = s.mb := rfl
@[simp] theorem State.setJtag_audit (s : State) (f : Jtag → Jtag) :
    (s.setJtag f).audit = s.audit := rfl
@[simp] theorem State.setJtag_recs (s : State) (f : Jtag → Jtag) :
    (s.setJtag f).recs = s.recs := rfl
@[simp] theorem State.setJtag_ev (s : State) (f : Jtag → Jtag) :
    (s.setJtag f).ev = s.ev := rfl
@[simp] theorem State.setJtag_pwr (s : State) (f : Jtag → Jtag) :
    (s.setJtag f).pwr = s.pwr := rfl
@[simp] theorem State.setJtag_wh (s : State) (f : Jtag → Jtag) :
    (s.setJtag f).wh = s.wh := rfl
@[simp] theorem State.setJtag_nvm (s : State) (f : Jtag → Jtag) :
    (s.setJtag f).nvm = s.nvm := rfl
@[simp] theorem State.setJtag_inlets (s : State) (f : Jtag → Jtag) :
    (s.setJtag f).inlets = s.inlets := rfl
@[simp] theorem State.setJtag_queues (s : State) (f : Jtag → Jtag) :
    (s.setJtag f).queues = s.queues := rfl
@[simp] theorem State.setJtag_ctxs (s : State) (f : Jtag → Jtag) :
    (s.setJtag f).ctxs = s.ctxs := rfl
@[simp] theorem State.setJtag_expo (s : State) (f : Jtag → Jtag) :
    (s.setJtag f).expo = s.expo := rfl
@[simp] theorem State.setJtag_stats (s : State) (f : Jtag → Jtag) :
    (s.setJtag f).stats = s.stats := rfl
@[simp] theorem State.setJtag_sluice (s : State) (f : Jtag → Jtag) :
    (s.setJtag f).sluice = s.sluice := rfl
@[simp] theorem State.setJtag_runnels (s : State) (f : Jtag → Jtag) :
    (s.setJtag f).runnels = s.runnels := rfl
@[simp] theorem State.setJtag_carries (s : State) (f : Jtag → Jtag) :
    (s.setJtag f).carries = s.carries := rfl
@[simp] theorem State.setJtag_views (s : State) (f : Jtag → Jtag) :
    (s.setJtag f).views = s.views := rfl
@[simp] theorem State.setJtag_lpddr (s : State) (f : Jtag → Jtag) :
    (s.setJtag f).lpddr = s.lpddr := rfl
@[simp] theorem State.setJtag_grid (s : State) (f : Jtag → Jtag) :
    (s.setJtag f).grid = s.grid := rfl
@[simp] theorem State.setJtag_cf (s : State) (f : Jtag → Jtag) :
    (s.setJtag f).cf = s.cf := rfl
@[simp] theorem State.setJtag_weir (s : State) (f : Jtag → Jtag) :
    (s.setJtag f).weir = s.weir := rfl
@[simp] theorem State.setJtag_spill (s : State) (f : Jtag → Jtag) :
    (s.setJtag f).spill = s.spill := rfl
@[simp] theorem State.setJtag_launched (s : State) (f : Jtag → Jtag) :
    (s.setJtag f).launched = s.launched := rfl
@[simp] theorem State.setJtag_link (s : State) (f : Jtag → Jtag) :
    (s.setJtag f).link = s.link := rfl
@[simp] theorem State.setJtag_gl (s : State) (f : Jtag → Jtag) :
    (s.setJtag f).gl = s.gl := rfl
@[simp] theorem State.setJtag_twin (s : State) (f : Jtag → Jtag) :
    (s.setJtag f).twin = s.twin := rfl
@[simp] theorem State.setJtag_mem (s : State) (f : Jtag → Jtag) :
    (s.setJtag f).mem = s.mem := rfl
@[simp] theorem State.setJtag_dma (s : State) (f : Jtag → Jtag) :
    (s.setJtag f).dma = s.dma := rfl
@[simp] theorem State.setJtag_out (s : State) (f : Jtag → Jtag) :
    (s.setJtag f).out = s.out := rfl
@[simp] theorem State.setJtag_freeCtr (s : State) (f : Jtag → Jtag) :
    (s.setJtag f).freeCtr = s.freeCtr := rfl
@[simp] theorem State.setJtag_pending (s : State) (f : Jtag → Jtag) :
    (s.setJtag f).pending = s.pending := rfl

/-! ### State.setTrainer -/

@[simp] theorem State.setTrainer_now (s : State) (g : Bool) (f : Trainer → Trainer) :
    (s.setTrainer g f).now = s.now := by
  unfold State.setTrainer; split <;> rfl
@[simp] theorem State.setTrainer_sys (s : State) (g : Bool) (f : Trainer → Trainer) :
    (s.setTrainer g f).sys = s.sys := by
  unfold State.setTrainer; split <;> rfl
@[simp] theorem State.setTrainer_clock (s : State) (g : Bool) (f : Trainer → Trainer) :
    (s.setTrainer g f).clock = s.clock := by
  unfold State.setTrainer; split <;> rfl
@[simp] theorem State.setTrainer_trig (s : State) (g : Bool) (f : Trainer → Trainer) :
    (s.setTrainer g f).trig = s.trig := by
  unfold State.setTrainer; split <;> rfl
@[simp] theorem State.setTrainer_win (s : State) (g : Bool) (f : Trainer → Trainer) :
    (s.setTrainer g f).win = s.win := by
  unfold State.setTrainer; split <;> rfl
@[simp] theorem State.setTrainer_jtag (s : State) (g : Bool) (f : Trainer → Trainer) :
    (s.setTrainer g f).jtag = s.jtag := by
  unfold State.setTrainer; split <;> rfl
@[simp] theorem State.setTrainer_ports (s : State) (g : Bool) (f : Trainer → Trainer) :
    (s.setTrainer g f).ports = s.ports := by
  unfold State.setTrainer; split <;> rfl
@[simp] theorem State.setTrainer_lastPort (s : State) (g : Bool) (f : Trainer → Trainer) :
    (s.setTrainer g f).lastPort = s.lastPort := by
  unfold State.setTrainer; split <;> rfl
@[simp] theorem State.setTrainer_mb (s : State) (g : Bool) (f : Trainer → Trainer) :
    (s.setTrainer g f).mb = s.mb := by
  unfold State.setTrainer; split <;> rfl
@[simp] theorem State.setTrainer_audit (s : State) (g : Bool) (f : Trainer → Trainer) :
    (s.setTrainer g f).audit = s.audit := by
  unfold State.setTrainer; split <;> rfl
@[simp] theorem State.setTrainer_recs (s : State) (g : Bool) (f : Trainer → Trainer) :
    (s.setTrainer g f).recs = s.recs := by
  unfold State.setTrainer; split <;> rfl
@[simp] theorem State.setTrainer_ev (s : State) (g : Bool) (f : Trainer → Trainer) :
    (s.setTrainer g f).ev = s.ev := by
  unfold State.setTrainer; split <;> rfl
@[simp] theorem State.setTrainer_pwr (s : State) (g : Bool) (f : Trainer → Trainer) :
    (s.setTrainer g f).pwr = s.pwr := by
  unfold State.setTrainer; split <;> rfl
@[simp] theorem State.setTrainer_wh (s : State) (g : Bool) (f : Trainer → Trainer) :
    (s.setTrainer g f).wh = s.wh := by
  unfold State.setTrainer; split <;> rfl
@[simp] theorem State.setTrainer_nvm (s : State) (g : Bool) (f : Trainer → Trainer) :
    (s.setTrainer g f).nvm = s.nvm := by
  unfold State.setTrainer; split <;> rfl
@[simp] theorem State.setTrainer_inlets (s : State) (g : Bool) (f : Trainer → Trainer) :
    (s.setTrainer g f).inlets = s.inlets := by
  unfold State.setTrainer; split <;> rfl
@[simp] theorem State.setTrainer_queues (s : State) (g : Bool) (f : Trainer → Trainer) :
    (s.setTrainer g f).queues = s.queues := by
  unfold State.setTrainer; split <;> rfl
@[simp] theorem State.setTrainer_ctxs (s : State) (g : Bool) (f : Trainer → Trainer) :
    (s.setTrainer g f).ctxs = s.ctxs := by
  unfold State.setTrainer; split <;> rfl
@[simp] theorem State.setTrainer_expo (s : State) (g : Bool) (f : Trainer → Trainer) :
    (s.setTrainer g f).expo = s.expo := by
  unfold State.setTrainer; split <;> rfl
@[simp] theorem State.setTrainer_stats (s : State) (g : Bool) (f : Trainer → Trainer) :
    (s.setTrainer g f).stats = s.stats := by
  unfold State.setTrainer; split <;> rfl
@[simp] theorem State.setTrainer_sluice (s : State) (g : Bool) (f : Trainer → Trainer) :
    (s.setTrainer g f).sluice = s.sluice := by
  unfold State.setTrainer; split <;> rfl
@[simp] theorem State.setTrainer_runnels (s : State) (g : Bool) (f : Trainer → Trainer) :
    (s.setTrainer g f).runnels = s.runnels := by
  unfold State.setTrainer; split <;> rfl
@[simp] theorem State.setTrainer_carries (s : State) (g : Bool) (f : Trainer → Trainer) :
    (s.setTrainer g f).carries = s.carries := by
  unfold State.setTrainer; split <;> rfl
@[simp] theorem State.setTrainer_views (s : State) (g : Bool) (f : Trainer → Trainer) :
    (s.setTrainer g f).views = s.views := by
  unfold State.setTrainer; split <;> rfl
@[simp] theorem State.setTrainer_lpddr (s : State) (g : Bool) (f : Trainer → Trainer) :
    (s.setTrainer g f).lpddr = s.lpddr := by
  unfold State.setTrainer; split <;> rfl
@[simp] theorem State.setTrainer_grid (s : State) (g : Bool) (f : Trainer → Trainer) :
    (s.setTrainer g f).grid = s.grid := by
  unfold State.setTrainer; split <;> rfl
@[simp] theorem State.setTrainer_cf (s : State) (g : Bool) (f : Trainer → Trainer) :
    (s.setTrainer g f).cf = s.cf := by
  unfold State.setTrainer; split <;> rfl
@[simp] theorem State.setTrainer_weir (s : State) (g : Bool) (f : Trainer → Trainer) :
    (s.setTrainer g f).weir = s.weir := by
  unfold State.setTrainer; split <;> rfl
@[simp] theorem State.setTrainer_spill (s : State) (g : Bool) (f : Trainer → Trainer) :
    (s.setTrainer g f).spill = s.spill := by
  unfold State.setTrainer; split <;> rfl
@[simp] theorem State.setTrainer_launched (s : State) (g : Bool) (f : Trainer → Trainer) :
    (s.setTrainer g f).launched = s.launched := by
  unfold State.setTrainer; split <;> rfl
@[simp] theorem State.setTrainer_twin (s : State) (g : Bool) (f : Trainer → Trainer) :
    (s.setTrainer g f).twin = s.twin := by
  unfold State.setTrainer; split <;> rfl
@[simp] theorem State.setTrainer_mem (s : State) (g : Bool) (f : Trainer → Trainer) :
    (s.setTrainer g f).mem = s.mem := by
  unfold State.setTrainer; split <;> rfl
@[simp] theorem State.setTrainer_dma (s : State) (g : Bool) (f : Trainer → Trainer) :
    (s.setTrainer g f).dma = s.dma := by
  unfold State.setTrainer; split <;> rfl
@[simp] theorem State.setTrainer_out (s : State) (g : Bool) (f : Trainer → Trainer) :
    (s.setTrainer g f).out = s.out := by
  unfold State.setTrainer; split <;> rfl
@[simp] theorem State.setTrainer_freeCtr (s : State) (g : Bool) (f : Trainer → Trainer) :
    (s.setTrainer g f).freeCtr = s.freeCtr := by
  unfold State.setTrainer; split <;> rfl
@[simp] theorem State.setTrainer_pending (s : State) (g : Bool) (f : Trainer → Trainer) :
    (s.setTrainer g f).pending = s.pending := by
  unfold State.setTrainer; split <;> rfl

end Sys2Proof.Machine
end

