-- ==== Sys2Proof/Machine/Package.lean ====
section
/-!
DEFINITION. The package: which signal each ball carries (R541 to R548) and the supply rails (R550, R552).
-/
namespace Sys2Proof.Machine

/-- R550: the supply rails. -/
inductive Rail where
  | core | sram | ao | phy | vddq | vdd2 | io
deriving DecidableEq, Repr

/-- R550: the nominal level in mV and the maximum current in mA. -/
def Rail.nominal : Rail → Nat × Nat
  | .core => (750, 49000) | .sram => (800, 10000) | .ao => (750, 300) | .phy => (900, 12000)
  | .vddq => (500, 4000) | .vdd2 => (1050, 2000) | .io => (1800, 800)

/-- R550: a level in mV lies within the operating range, the nominal value ±5 %. -/
def Rail.inRange (r : Rail) (mv : Nat) : Bool :=
  decide (r.nominal.1 * 95 ≤ mv * 100 ∧ mv * 100 ≤ r.nominal.1 * 105)

/-- R552: the level holds the device in power-on reset: VDD_AO, VDD_CORE or VDD_IO below 80 % of nominal. -/
def Rail.resets (r : Rail) (mv : Nat) : Bool :=
  (r == .ao || r == .core || r == .io) && decide (mv * 100 < r.nominal.1 * 80)

/-- R544: the wires of a camera port. -/
inductive CamWire where
  | d (lane : Fin 4) (neg : Bool) | ck (neg : Bool)
deriving DecidableEq, Repr

/-- R545: the pins of a memory channel; `sub` is false for sub-channel A. -/
inductive MemPin where
  | dq (sub : Bool) (n : Fin 12) | wck (sub neg : Bool) | rdqs (sub neg : Bool) | ca (sub : Bool) (n : Fin 4)
  | cs (sub : Bool) | ck (neg : Bool) | mrst | mzq
deriving DecidableEq, Repr

/-- R543 to R548: what a ball carries. -/
inductive Signal where
  | gnd | rail (r : Rail)
  | cam (port : Fin 32) (w : CamWire)
  | scl (n : Fin 32) | sda (n : Fin 32) | trig (n : Fin 32) | strobe (m : Fin 16) | evin (k : Fin 8)
  /-- Lanes 0 to 17 are UL0 to UL17, 18 to 21 are GL0 to GL3 (R546). -/
  | serdes (lane : Fin 22) (tx neg : Bool)
  | mem (m : Fin 6) (p : MemPin)
  | i3cScl | i3cSda | irqN | faultN | resetN | pwrfailN | wake | addrSel (n : Fin 3) | tck | tms | tdi | tdo | trstN
  | refclk (neg : Bool) | hbOut | hbIn | twinSel
deriving DecidableEq, Repr

/-- R542: the row letters of the indices 1 to 19. -/
def rowLetters : List Char :=
  ['A', 'B', 'C', 'D', 'E', 'F', 'G', 'H', 'J', 'K', 'L', 'M', 'N', 'P', 'T', 'U', 'V', 'W', 'Y']

/-- R542: the letters of a row index 1 to 54: one letter, then AA to AY, then BA to BU. -/
def rowName (i : Nat) : List Char :=
  let l := rowLetters.getD ((i - 1) % 19) 'A'
  if i ≤ 19 then [l] else if i ≤ 38 then ['A', l] else ['B', l]

/-- R547: the singular balls, by row index and column. -/
def singularBall (i j : Nat) : Option Signal :=
  match i, j with
  | 1, 3 => some .i3cScl | 1, 5 => some .i3cSda
  | 2, 3 => some .irqN | 2, 5 => some .faultN
  | 3, 3 => some .resetN | 3, 5 => some .pwrfailN | 3, 7 => some .wake
  | 4, 3 => some (.addrSel 0) | 4, 5 => some (.addrSel 1) | 4, 7 => some (.addrSel 2)
  | 5, 3 => some .tck | 5, 5 => some .tms | 5, 7 => some .tdi | 5, 9 => some .tdo
  | 6, 3 => some .trstN
  | 7, 3 => some (.rail .ao) | 7, 5 => some (.rail .ao)
  | 51, 1 => some .gnd | 51, 2 => some .gnd
  | 52, 1 => some (.refclk false) | 52, 2 => some (.refclk true)
  | 53, 1 => some .gnd | 53, 2 => some .gnd | 54, 1 => some .gnd | 54, 2 => some .gnd
  | 51, 48 => some .hbOut | 51, 50 => some .hbIn | 51, 52 => some .twinSel
  | _, _ => none

/-- R544: the ball of a camera port in row `r` (0 for A) of its table and column `c` (0 or 1). -/
def camBall (n : Fin 32) (r c : Nat) : Signal :=
  let neg := c == 1
  match r with
  | 1 => .cam n (.d 0 neg) | 2 => .cam n (.d 1 neg) | 4 => .cam n (.ck neg)
  | 5 => .cam n (.d 2 neg) | 6 => .cam n (.d 3 neg)
  | _ => .gnd

/-- R545: the ball of a memory channel at row offset `r`, `c` columns in from column 54. -/
def memBall (m : Fin 6) (r c : Nat) : Signal :=
  let sub := decide (4 ≤ r)
  let f (p : MemPin) : Signal := .mem m p
  match r % 4, c with
  | 0, 0 => f (.dq sub 0) | 0, 1 => f (.dq sub 1) | 0, 3 => f (.dq sub 2) | 0, 4 => f (.dq sub 3)
  | 0, 6 => f (.ca sub 0) | 0, 7 => f (.ca sub 1)
  | 1, 0 => f (.dq sub 4) | 1, 1 => f (.dq sub 5) | 1, 3 => f (.wck sub false) | 1, 4 => f (.wck sub true)
  | 1, 6 => f (.ca sub 2) | 1, 7 => f (.ca sub 3)
  | 2, 0 => f (.dq sub 6) | 2, 1 => f (.dq sub 7) | 2, 3 => f (.rdqs sub false) | 2, 4 => f (.rdqs sub true)
  | 2, 6 => f (.cs sub)
  | 3, 0 => f (.dq sub 8) | 3, 1 => f (.dq sub 9) | 3, 3 => f (.dq sub 10) | 3, 4 => f (.dq sub 11)
  | 3, 6 => f (if sub then .mrst else .ck false) | 3, 7 => f (if sub then .mzq else .ck true)
  | _, _ => .gnd

/-- R543, R546: the ball of serial lane `k` in row index 51 to 54 and column `c` (0 or 1) of the lane. -/
def serdesBall (k : Fin 22) (i c : Nat) : Signal :=
  match i with
  | 52 => .serdes k true (c == 1) | 54 => .serdes k false (c == 1) | _ => .gnd

/-- R543 to R546: the ball of a signal group. -/
def groupBall (i j : Nat) : Option Signal :=
  if 11 ≤ j ∧ j ≤ 42 ∧ i ≤ 12 then
    let k := j - 11
    match i with
    | 9 => some (.scl (Fin.ofNat 32 k)) | 10 => some (.sda (Fin.ofNat 32 k)) | 11 => some (.trig (Fin.ofNat 32 k))
    | 12 => some (if k % 2 = 0 then .strobe (Fin.ofNat 16 (k / 2)) else .gnd)
    | _ => some (camBall (Fin.ofNat 32 (k / 2)) (i - 1) (k % 2))
  else if j ≤ 8 ∧ 11 ≤ i ∧ i ≤ 42 then some (camBall (Fin.ofNat 32 (16 + (i - 11) / 2)) (j - 1) ((i - 11) % 2))
  else if 47 ≤ j ∧ 3 ≤ i ∧ i ≤ 50 then some (memBall (Fin.ofNat 6 ((i - 3) / 8)) ((i - 3) % 8) (54 - j))
  else if 51 ≤ i ∧ 3 ≤ j ∧ j ≤ 46 then some (serdesBall (Fin.ofNat 22 ((j - 3) / 2)) i ((j - 3) % 2))
  else if i = 54 ∧ 47 ≤ j then some (.evin (Fin.ofNat 8 (j - 47)))
  else none

/-- R548: a supply or ground ball. -/
def powerBall (i j : Nat) : Signal :=
  let odd (r : Rail) : Signal := if (i + j) % 2 = 0 then .gnd else .rail r
  if 13 ≤ i ∧ i ≤ 50 ∧ 41 ≤ j ∧ j ≤ 46 then odd (if j ≤ 44 then .vdd2 else .vddq)
  else if 19 ≤ i ∧ i ≤ 42 ∧ 15 ≤ j ∧ j ≤ 40 then odd (if i % 4 = 3 then .sram else .core)
  else if 13 ≤ i ∧ i ≤ 50 ∧ 9 ≤ j ∧ j ≤ 40 then odd .phy
  else odd .io

/-- R542: the one assignment of the ball in row index `i` and column `j`: singular table, group rules, power rule. -/
def ball (i j : Nat) : Signal := (singularBall i j).getD ((groupBall i j).getD (powerBall i j))

end Sys2Proof.Machine
end

