-- ==== Sys2Proof/Tests/Slice0.lean ====
section
/-!
SUPPORT. The model's own tests: the spec's worked examples, ill-formed commands that WellFormed refuses, and for each statement
with hypotheses a witness that they can be met.
-/
namespace Sys2Proof.Tests

open Sys2Proof Sys2Proof.Machine

set_option Elab.async false

/-! ### Small states -/

/-- The device as it stands after a boot: the management domain runs and firmware accepts commands. -/
def up : State := { State.reset with sys := { State.reset.sys with mgmtOn := true, cmdReady := true } }

/-- A command header of a port. -/
def hdr (p : Port) : Hdr :=
  { port := p, seq := 7, epochCheck := false, active := false, leaveWait := 0, epoch := 0, check := 5, mirror := none }

def mcOn : State := up.setMc 2 fun x => { x with state := 2 }

def mcLine (n : Nat) : State := { up.setMc 2 fun x => { x with state := 2, line := n, lastErrs := [8 * n + 3] } with mem := { (up.setMc 2 fun x => { x with state := 2, line := n, lastErrs := [8 * n + 3] }).mem with capMib := 2048 } }

def mcTr (retried : Bool) : State := up.setMc 2 fun x => { x with state := 1, retried }

def trGrant (m : Fin 6) : LeaveReq := { who := .training m (some .p3), kind := 2, cost := 30, prio := 6, at_ := 0 }

def withGrants (s : State) (g : List LeaveReq) : State := { s with pwr := { s.pwr with grants := g } }

def noRepair (s : State) : State := s.writeBoth 0x0110 65535 5 [0]

def slicing (n : Nat) : State := mcOn.setMc 2 fun x => { x with slicesLeft := n }

/-- An import or a stage that P3 has opened. -/
def opened (k : Option (Nat × Nat)) : OpenImport := { port := .p3, stage := k, at_ := 0 }

/-- A request of P3 for a write of MRAM. -/
def writeReq : LeaveReq := { who := .nvm (some .p3), kind := 6, cost := 8, prio := 3, at_ := 0, limit := some 900 }

/-- P3's command waits for its leave, with its import or stage open. -/
def waiting3 (b : Body) (k : Option (Nat × Nat)) (s : State) : State :=
  let s := s.setPort .p3 fun q => { q with running := some { h := hdr .p3, body := b, wait := .nvm, since := 0 } }
  { s with pwr := { s.pwr with queue := [writeReq] }, nvm := { s.nvm with imports := [opened k] } }

def drift (todo : List CalPart) : CalSession := { port := none, type := 255, target := 255, granted := true, began := true, todo }

def withRuns (s : State) (r : List CalSession) : State := { s with nvm := { s.nvm with runs_ := r } }

def calRule (s : State) : State := { s.writeBoth 0x0F02 2 3 [8] with wh := { s.wh with active := 4 } }

def rep (s : State) : State := { s with nvm := { s.nvm with repeatAt := some 100 } }

def dsk : CalSession := { port := some .p3, type := 1, target := 4, granted := true, began := true, todo := [⟨1, 4⟩] }

def running (s : State) (p : Port) (b : Body) (w : Waiting) : State := s.setPort p fun q => { q with running := some { h := hdr p, body := b, wait := w, since := 0 } }

def withJobs (s : State) (j : List NvmJob) : State := { s with nvm := { s.nvm with jobs := j } }

def waitNvm : Running := { h := hdr .p3, body := .calCommit 1, wait := .nvm, since := 0 }

def withAppend (s : State) : State := { s with nvm := { s.nvm with append := [(4008, 0x80000005)] } }

def staged (s : State) : State := s.setImage 1 2 fun _ => { state := 2 }

def trial (s : State) : State := { s with nvm := { s.nvm with trial := true } }

/-- Configuration set 2 is being staged. -/
def staging2 (s : State) : State := s.setImage 1 2 fun _ => { state := 1 }

def entry0 : Entry := up.entry 0x10 1 0 0

def staged1 (s : State) : State := { s with audit := { s.audit with staged := [(0, 0, entry0)], next := 1 } }

def flushing (s : State) : State := { s with audit := { s.audit with flushing := 1 } }

def pf (s : State) : State := { s with pwr := { s.pwr with pfActive := true }, audit := { s.audit with epochWrite := some 3 } }

def desc (a b n c : Word) : DmaSet := { src := a, dst := b, count := n, ctrl := c, hi := 0 }

def withMem (s : State) : State := { s with mem := { s.mem with n := 2, capMib := 2048 } }

def chan (s : State) (c : Fin 32) (d : DmaSet) (f : DmaChan → DmaChan) : State := s.setDma c fun x => f { x with act := d }

def paced (l : Word) : DmaSet := desc 0x1000 0x2000 64 (3 + (l <<< 16))

def boundTo (l : Word) : State := chan (withMem up) 3 (paced l) fun x => { x with state := 3, residue := 64, shadow := { x.shadow with ctrl := 1 } }

def burstReady : State := chan (withMem up) 3 (desc 0x1000 0x2000 256 1) fun x => { x with state := 4, residue := 256 }

def prio : State := (chan burstReady 3 (desc 0x1000 0x2000 256 0x201) fun x => x).setDma 4 fun x => { x with state := 4, burst := some 64, residue := 64 }

def lastBurst (ctrl : Word) : State := { chan (withMem up) 3 (desc 0x1000 0x2000 64 ctrl) (fun x => { x with state := 4, residue := 64, burst := some 64 }) with lpddr := [(0x1000, 1), (0x103F, 9)] }

def setDom (s : State) (d : Fin 22) (f : Domain → Domain) : State := { s with pwr := { s.pwr with doms := upd s.pwr.doms d f } }

def offDom (s : State) (d : Fin 22) : State := setDom s d fun _ => { state := .off, grant := 0 }

def changing (s : State) (d : Fin 22) : State := setDom s d fun _ => { state := .changing, grant := 8, wakeAt := 0, fromOff := true }

def lanesReq : LeaveReq := { who := .lanes, kind := 3, cost := 144, prio := 6, at_ := 0 }

def domReq : LeaveReq := { who := .domain 15 none, kind := 1, cost := 8, prio := 5, at_ := 0 }

def moveReq : LeaveReq := { who := .move 5, kind := 4, cost := 8, prio := 4, at_ := 0, limit := some 100 }

def queued (s : State) (q : List LeaveReq) : State := { s with pwr := { s.pwr with queue := q } }

def rule (s : State) : State := { (s.writeBoth 0x0F02 30 0 [1, 40, 3, 1, 0, 0, 0, 0, 0, 0, 2, 0, 10, 0, 0, 0]) with wh := { s.wh with pins := 1, since := s.wh.since.set 30 (some 0) } }

def noRules (s : State) : State := (List.range 32).foldl (fun s r => s.writeBoth 0x0F02 r 0 [0, 43]) s

def bootTo (n : Nat) : BootRun := { lastStep := n, readyUs := 41000, temps := List.replicate 24 40, rails := List.replicate 7 800, capMib := 2048, ranks := 1, trainFail := 0, wakeFail := [], queueOut := [] }

def due (c : Nat) (s : State) : State := { s with sys := { s.sys with resetDue := some (c, .p3, 50) } }

def i3c (s : State) : State := { s with win := { s.win with dynAddr := some 9 } }

def hdrMode (s : State) : State := { s with win := { s.win with hdrDdr := true } }

def full (s : State) (ch : Fin 10) (b : List Byte) : State := s.setSlot ch 0 fun _ => { full := true, bytes := b }

def at_ (s : State) (p : Nat) : State := { s with win := { s.win with readPtr := p } }

def mbSlot (f : Bool) : Slot := { full := f }

def offCmd (s : State) : State := { s with sys := { s.sys with cmdReady := false } }

def jt (s : State) : State := { s with jtag := { s.jtag with ir := 0x2C, lastOp := 2 } }

/-- Context 5 reads port 3, virtual channel 1, as a line-scan camera of 16 pixels of 8 bits; its port has two lanes. -/
def camera : State :=
  let s := (up.writeBoth 0x0203 3 0 [1, 2, 0, 1]).writeBoth 0x0201 5 0 [1, 3, 1, 0x2A, 0, 0, 0, 0, 16, 0, 0, 0, 16, 0, 1, 1, 10, 0, 0, 0]
  { s with queues := s.queues.set 3 { s.queues[(3 : Fin 43)] with state := 2 } }

/-- The camera's context streams since tick 0, with a frame open as the flag says. -/
def streaming (frameOpen : Bool) : State :=
  camera.setCtx 5 fun x => { x with streaming := true, startAt := 0, started := true, frameOpen, lastLn := some 3 }

/-- A line of the camera. -/
def line (header : Fin 3) (sotGood crcGood : Bool) : LinePacket :=
  { vc := 1, dataType := 0x2A, wordCount := 16, codes := List.range 16, sotGood, header, crcGood, footTicks := 5 }

def full3 (s : State) (n : Nat) : State := { s with queues := s.queues.set 3 { s.queues[(3 : Fin 43)] with used := n } }

def gapTag : LineTag := { port := 3, vc := 1, ctx := 5, gap := true, reason := 4 }

def waits (s : State) : State := s.setInlet 3 fun x => { x with waiting := [gapTag] }

def sweeping (s : State) : State := s.setInlet 3 fun x => { x with deskew := 2 }

/-- The stored set has start taps 10 and 11 for port 3, and the limits in force allow any residual skew. -/
def startTaps (s : State) : State :=
  { s with nvm := { s.nvm with
      stored := { s.nvm.stored with bytes := Memory.writeList calFactory s.nvm.stored.bytes (304+24) [10,0,11,0] }
      inForce := Memory.writeList calFactory s.nvm.inForce 9740 [0xFF, 3] } }

def keptS (s : State) : State := s.setPort .p0 fun q => { q with kept := some { seq := 7, check := 5, status := 0, bytes := replyBytes 1 7 0 0 0 0 0 [] } }

def busyP0 (s : State) : State := s.setPort .p0 fun q => { q with running := some { h := hdr .p0, body := .testBist 1, wait := .bist 1, since := 0 } }

def intakeP0 (s : State) : State := s.setPort .p0 fun q => { q with intake := some (.parsed (hdr .p0) .sysInfo) }

def full24 (s : State) : State := { s with audit := { s.audit with staged := (List.range 24).map fun n => (BitVec.ofNat 32 n, 0, { kind := 9, origin := 0, code := 0, detail := 0, seq := 0, time := 0 }) } }

def change (id inst off : Nat) (bs : List Byte) (s : State) : State := s.writePending id inst off bs

def gridOn (s : State) : State := { s with grid := { s.grid with valid := true, row := 4 } }

def startWait (s : State) : State := s.setPort .p0 fun q => { q with running := some { h := hdr .p0, body := .streamStart 32, wait := .streamTick 32 0, since := 0 } }

def camStats : State := { streaming true with stats := (streaming true).stats.set 5 { next := 1, latest := some {} } }

def evt (cause : Word) (s : State) : State := { s with ev := { s.ev with blocks := s.ev.blocks.set 3 { status := 0x103, held := cause } } }

def factory (s : State) : State := { s with sys := { s.sys with factoryTest := true } }

def held (s : State) : State := { (evt 2 s) with ev := { (evt 2 s).ev with holds := [(⟨3,1⟩, 20)] } }

/-- Sensor 3 on bus 4, an I2C bus with posted writes as the flag says. -/
def sensor (posted : Byte) (mode : Byte) : State :=
  let s := (up.writeBoth 0x0501 3 0 [1, 4, 1, 0, 0x30, 0, 0, 0]).writeBoth 0x0502 4 0 [mode, posted, 1, 0,0,0,0,0,0,0, 5, 0, 100, 0, 0, 0]
  s.setBus 4 fun x => { x with mode := mode.toNat }

def withFetch (f : Fetch) (s : State) : State := s.setPort .p0 fun q => { q with fetch := some f }

def fch (r : Option (Nat × List Byte)) : Fetch := { seq := 7, sensor := 3, reg := 9, count := 2, result := r, doneAt := 0 }

def pw : Work := { kind := .posted .p0 7 false, sensor := 3, txns := [{ reg := 9, data := [1] }] }

def gw : Work := { kind := .seq .p0 false, sensor := 3, txns := [{ reg := 9, data := [1] }] }

def q4 (ws : List Work) (s : State) : State := s.setBus 4 fun x => { x with queue := ws }

def cur4 (ws : Work) (busy : Bool) (rep : Nat) (s : State) : State := s.setBus 4 fun x => { x with cur := some ws, busy, repeats := rep }

def ple : PlogEntry := { seq := 4, time := 5, reg := 6, detail := 7, sensor := 8, origin := 9, serial := 10 }

def plogged (s : State) : State := { s with sluice := { s.sluice with plog := [ple] } }

/-- Profile 0 with a safe window of 1 to 2 µs and a template of unit 100 ns, limits 0xFFFFFF, no writes. -/
def exposing : State := (camera.writeBoth 0x0202 0 12 [1,0,0,0,2,0,0,0]).writeBoth 0x0401 0 8 [100,0,0,0,0xFF,0xFF,0xFF,0,0xFF,0xFF,0xFF,0]

def semBusy (s : State) : State := { s with mb := { s.mb with sems := s.mb.sems.set 52 0x10 } }

def qst (i : Nat) (st : Nat) (h : i < 43 := by decide) (s : State) : State := { s with queues := s.queues.set i { s.queues[i] with state := st, used := 48, freed := 16 } }

def tagL : LineTag := { port := 3, vc := 1, ctx := 5, strip := 0xFFFF, line := 7, deadline := some 900, width := 16 }

def pkt : InPacket := { tag := tagL, codes := List.range 16 }

def inq (ks : List InPacket) (s : State) : State := s.setInlet 3 fun x => { x with queue := ks, seen := 0 }

def seen1 (s : State) : State := s.setInlet 3 fun x => { x with seen := 1 }

/-- Runnel 2 works for context 5. -/
def running2 (s : State) : State := ((s.writeBoth 0x0302 2 0 [1,0,0,0,100,0,0,0]).writeBoth 0x0301 5 0 [2,0,0,0]).setCtx 5 fun x => { x with runnel := 2 }

def item : Item := { ctx := 5, deadline := 900 }

def next2 (s : State) : State := s.setRunnel 2 fun x => { x with next := some item }

def cur2 (s : State) : State := s.setRunnel 2 fun x => { x with cur := some item, state := 2 }

def stalled (s : State) : State := (cur2 s).setRunnel 2 fun x => { x with state := 4, stallAt := 0, publish := [(5, {})] }

def moving (s : State) : State :=
  let s := s.setCtx 5 fun x => { x with runnel := 1, moving := true }
  { s with pwr := { s.pwr with grants := s.pwr.grants ++ [{ who := .move 5, kind := 4, cost := 1, prio := 0, at_ := 0 }] } }

/-- A grid of 256 ticks a row; view 5 covers column 0 with one band and feeds channel 0; Confluence runs. -/
def merging (on : Byte) : State :=
  let s := (((up.writeBoth 0x0701 65535 12 [0,0,1,0]).writeBoth 0x0801 65535 0 [0,4,0,0]).writeBoth 0x0703 5 0 [1]).writeBoth 0x0703 5 4 [0,0,1,0]
  let s := ((s.writeBoth 0x0802 0 0 [on,0,0,1,0,0,0,0,5,0,0,0]).writeBoth 0x0702 65535 0 [0x40,0x42,0x0F,0, 0,0,0,0])
  { s with grid := { s.grid with valid := true }, cf := { s.cf with state := 1 } }

def vrow : ViewRow := { view := 5, row := 1, flags := 0, setId := 3, first := 0, count := 1, sol := 9, bands := [[{ value := 7 }]] }

def path2 (s : State) : State := s.setRunnel 2 fun x => { x with path := [vrow] }

def sealed0 : SealedRow := { row := 0, arrivals := [], missing := 1, idle := 0, byDeadline := true, lateTie := false, time := 5, at_ := 6 }

def mrow : MergedRow := { row := 4, mask := 1, missing := 1, idle := 0, hflags := 0, tref := 0, latestSol := 0, sealTime := 0, arrived := 0, ids := [], cells := [], at_ := 0, foot := none }

def piece : Piece := { stream := 2, row := 4, bytes := List.replicate 40 1 }

def holds2 (s : State) : State := s.setWeir fun w => { w with held := [piece] }

def linkUp (s : State) : State := { s with link := { s.link with tr := { s.link.tr with state := 7 } } }

/-- The Uahorn link is ACTIVE on 4 lanes with credit for every class; 17 is a spare. -/
def active : State :=
  let up := { up with queues := up.queues.set 40 { up.queues[(40 : Fin 43)] with state := 2 } }
  let s := (up.writeBoth 0x0B01 65535 0 [1]).writeBoth 0x0B01 65535 4 [10,0,0,1]
  let s := s.writeBoth 0x0B01 65535 16 [100,0,0,0]
  { s with link := { s.link with
      limits := Vector.replicate 9 1000, spares := BitVec.ofNat 18 (2^17)
      tr := { s.link.tr with state := 7, width := 4, common := 0x2000F, map := [0,1,2,3] ++ List.replicate 12 255, partner := 5, pllLocked := true } } }

def lnk (f : Link → Link) (s : State) : State := { s with link := f s.link }

def trn (f : Trainer → Trainer) (s : State) : State := { s with link := { s.link with tr := f s.link.tr } }

def grantLanes (s : State) : State := { s with pwr := { s.pwr with grants := s.pwr.grants ++ [{ who := .lanes, kind := 3, cost := 144, prio := 6, at_ := 0 }] } }

def lp : Piece := { stream := 2, row := 4, bytes := List.replicate 64 1 }

def spill2 (s : State) : State := s.setLaunch 2 fun x => { x with pieces := [lp], seen := 1 }

def txf : TxFrame := { lseq := 5, type := 1, chan := 2, payload := [1,2,3,4], epoch := 0, ident := 0, sentAt := 0 }

def full2 (s : State) : State := { s with mb := { s.mb with chans := s.mb.chans.set 2 { slots := [{ full := true, bytes := [1] }, { full := true, bytes := [1] }] } } }

def rota (k : Nat) : Rotation := { logical := 0, phys := 0, spare := 17, step := k, since := 0 }

def req (mode : Byte) (dur : Word) : TestReq := { mode, pattern := 1, inject := 1, burstLen := 2, lanes := 1, duration := dur, injectPeriod := 5 }

def testing (s : State) : State := lnk (fun l => { l with test := some (req 1 5), injectAt := some 0, tr := { l.tr with state := 9 } }) (s.setPort .p0 fun q => { q with running := some { h := hdr .p0, body := .linkTest (req 1 5), wait := .linkTest, since := 0 } })

def clk (f : Clock → Clock) (s : State) : State := { s with clock := f s.clock }

def sync (s : State) : State := (s.writeBoth 0x0D01 65535 2 [1]).writeBoth 0x0D01 65535 4 [100,0,0,0]

def outOn (s : State) : State := (s.writeBoth 0x0D02 3 0 [1,0,0,0]).writeBoth 0x0D03 2 0 [1,3,0,0]

def tr (mode : Byte) (start : Word) : TrigReq := { output := 3, mode, flags := 0, start, periodNs := 0, periodFrac := 0, context := 0, width := 1000, count := 0, source := 0, offset := 0 }

def shot (at_ : Int) : OneShot := { start := at_, width := 1000, expo := false, ctx := 0 }

def out3 (f : Output → Output) (s : State) : State := s.setOut 3 f

def cap1 : Capture := match execEvinEdge 1 2 true (outOn up) with | .next t => t.trig.evins[(2:Fin 8)].ring.getLast?.getD { serial := 0, time := 0, rising := true, holdover := false, step := false } | _ => { serial := 0, time := 0, rising := true, holdover := false, step := false }

def captured (s : State) : State := { s with trig := { s.trig with evins := s.trig.evins.set 2 { ring := [cap1], next := cap1.serial + 1, level := true } } }

/-- A lead whose Gelain link carries traffic, with a partner in step. -/
def pair (st : TwinState) : State :=
  let s := up.writeBoth 0x0C01 65535 0 [100,0,0,0,16,0,100,0,1,0]
  { s with
    sys := { s.sys with twinSel := true }
    gl := { s.gl with state := 7 }
    queues := s.queues.set 41 { s.queues[(41 : Fin 43)] with state := 2 }
    twin := { s.twin with state := st, epoch := 6, gelainUp := true, partnerState := some 4, partnerIdent := 0x8001, hbAlive := true } }

def tw (f : Twin → Twin) (s : State) : State := { s with twin := f s.twin }

def hrt : Heart := { state := 4, holdover := false, aloneCfg := false, escalated := false, hbAlive := true, holdCause := 0, row := 0, echoTx := 0, echoRx := 0, epoch := 6, ident := 0x8001, txTime := 12 }

def de (d : Wide) : DigestEntry := { row := 9, near := false, noStreams := false, arrived := 0, digest := d }

def own9 : Digest := { row := 9, near := false, noStreams := false, arrived := 0, digest := 3, at_ := 0 }

def twt : TagWait := { kind := 2, index := 5, num := 3, time := 100, width := 0, at_ := 0 }

def te : TagEntry := { kind := 2, index := 5, num := 3, time := 120, width := 0 }

def chk : StateChunk := { item := .memory 64 [1,2,3], good := true, last := false }

def mw : MirrorWait := { port := .p0, seq := 7, packet := [], word := 4, decided := 0, ready := true, sentAt := some 0 }

def rowSwap (s : State) : State := tw (fun t => { t with swap := some { row := 0, confirmed := true, handover := true }, admitRow := some 0 }) s

def epw (s : State) : State := { s with audit := { s.audit with epochWrite := some 6 } }

/-! ### The spec's worked examples -/

/-- R52: the check value that the spec gives for the nine ASCII bytes "123456789". -/
theorem test_crc32c_check_value :
    crc32c [0x31, 0x32, 0x33, 0x34, 0x35, 0x36, 0x37, 0x38, 0x39] = 0xE3069283 := by decide +kernel

/-- R14, the command protocol's worked example: seen from row 0xFFFF_FFF0, row 0x10 lies 32 rows ahead. -/
theorem test_row_ahead_across_the_wrap :
    { State.reset with grid := { State.reset.grid with row := 0xFFFFFFF0 } }.extendRow 0x10 = 0x100000010 := by decide +kernel

/-- R128, the worked example of the camera inlets: a line of 4,096 pixels of 12 bits occupies 6,176 bytes. -/
theorem test_line_storage : packetBytes 4096 12 false = 6176 ∧ packetBytes 4096 12 true = 32 := by decide +kernel

/-- The parameters of the SWIR pixel of the pixel corrections' worked example. -/
def swir : Corr where
  unit := 1024
  satCode := 4095
  nrEn := true
  tnrEn := false
  lutEn := true
  defEn := true
  bandregEn := false
  strength := 128
  t1 := 32
  t2 := 48
  minSupport := 32
  alpha := 256
  guard := 16
  reach := 8
  black := 65536
  pedestal := 0
  chGain := 65536
  nmK := 0x0800
  nmRn := 0x0300
  nmBlack := 65536
  eNs := 40000
  eRef := 32000
  seg := 12
  lut := List.replicate 527 0 ++ [2154752, 2159104]

/-- A row of the example's window; column 1,201 is masked. -/
def swirRow (a b c e : Nat) : List (Sample × Bool) :=
  [({ value := a * 1024 }, false), ({ value := b * 1024 }, false), ({ value := c * 1024 }, false), ({}, true),
    ({ value := e * 1024 }, false)]

/-- R171: σ of the example's pixel is 479 sixteenths. -/
theorem test_swir_noise : noiseSig swir (1843 * 1024) = 479 := by decide +kernel

/-- R175, R176: stage 2 of the example gives VALUE 1,888,212. -/
theorem test_swir_spatial :
    spatialStep swir 479 { value := 1843 * 1024 } false
      [some (swirRow 2400 1830 1843 1860), some (swirRow 1840 1845 1838 1918), some (swirRow 0 1836 1849 0)] 2 =
      { value := 1888212 } := by decide +kernel

/-- R178 to R180: stages 3 to 5 of the example. -/
theorem test_swir_stages :
    (darkStep swir { value := 1888212 } { dark := 3584, gain := 0x1300 }).1.value = 1818196 ∧
    (gainStep swir { value := 1818196 } { dark := 3584, gain := 0x1300 }).1.value = 2159108 ∧
    (lutStep swir { value := 2159108 }).1.value = 2155300 := by decide +kernel

/-- R201, the exposure example: 300 µs in units of 3.5 µs is 86 counts, which last 301,000 ns. -/
theorem test_exposure_count : exposureCount 3500000 300000 = 86 ∧ quantisedE 3500000 86 = 301000 := by decide +kernel

/-- R199: after 0xFFFE the set-ID counter continues at 1. -/
theorem test_set_id_wraps : nextSetId 0xFFFE = 1 ∧ nextSetId 0x0041 = 0x0042 := by decide +kernel

/-- R255, the fall grid's worked example: the fall times of the reference height and of the three views. -/
theorem test_fall_times :
    fallNs 3000000 8000000 160000 = 50000000 ∧ fallNs 3000000 8000000 118125 = 37500000 ∧
    fallNs 3000000 8000000 203125 = 62500000 ∧ fallNs 3000000 8000000 247500 = 75000000 := by decide +kernel

/-- R262, the same example: tr of VW2's line 79,731 lies at row 49,999.75. -/
theorem test_reference_position :
    refPos (3987480000 + 12500000) 0 20480000 = 49999 * 65536 + 49152 := by decide +kernel

/-- R291, Confluence's worked example: the blocks of VW2 and of VW11. -/
theorem test_block_sizes : blockBytes 2464 3 = 33344 ∧ blockBytes 4800 1 = 21696 := by decide +kernel

/-- R306, R308, the Weir's worked example: the runs of row 51,000 become its three spans. -/
theorem test_spans_of_a_row :
    mergeRuns 4800 4 12 [] [(1310, 1329), (1348, 1361), (2900, 2991)] = [(1306, 1365), (2896, 2995)] ∧
    capRun 64 false 1306 1365 30 = [⟨1306, 1365, false⟩] ∧
    capRun 64 false 2896 2995 46 = [⟨2896, 2959, true⟩, ⟨2960, 2995, true⟩] ∧
    spanCols [⟨1306, 1365, false⟩, ⟨2896, 2959, true⟩, ⟨2960, 2995, true⟩] = 160 := by decide +kernel

/-- R337, the link's worked example: 17 common lanes give width 16, and UL17 is the spare. -/
theorem test_width_with_a_dead_lane :
    widthOf false 16 16 (lanesOf 0x3FFDF).length = 16 ∧
    (lanesOf 0x3FFDF).take 16 = [0, 1, 2, 3, 4, 6, 7, 8, 9, 10, 11, 12, 13, 14, 15, 16] ∧
    (lanesOf 0x3FFDF).drop 16 = [17] := by decide +kernel

/-- R239, the bridge's worked example: 4, 5, 4 and 4 bytes on a bus of 1 MHz with T_TXN 1.75 µs take 160 µs. -/
theorem test_bus_estimate :
    let s := (State.reset.writeBoth 0x0501 3 0 [1, 4, 1, 0, 0x30, 2]).writeBoth 0x0502 4 0 [1, 0, 1, 0, 0xE8, 3, 0, 0, 0xD6, 6]
    s.estimate 4 3 [{ reg := 0, data := [1] }, { reg := 1, data := [1, 2] }, { reg := 2, data := [1] }, { reg := 3, data := [1] }] =
      160000 := by decide +kernel

/-! ### Packets -/

/-- R50, R58, R580: a REG_READ packet written out from the packet's layout is read as that command. -/
theorem test_reg_read_packet :
    let bytes : List Byte := [0x10, 1, 8, 0, 7, 0, 0, 0, 1, 0, 0, 0, 0, 0, 0, 0, 0x04, 0x03, 0x80, 0x03, 2, 0, 0, 0]
    let got := parsePacket .p0 none (bytes ++ leWord (crc32c bytes))
    got.1.body = .regRead 0x03800304 2 ∧ got.1.h.seq = 7 ∧ got.2 = none := by decide +kernel

/-- R52, R53: the same packet with a wrong CHECK fails with BAD_CRC, and one of another version with BAD_PARAM at byte 8. -/
theorem test_bad_packets :
    let bytes : List Byte := [0x10, 1, 8, 0, 7, 0, 0, 0, 1, 0, 0, 0, 0, 0, 0, 0, 0x04, 0x03, 0x80, 0x03, 2, 0, 0, 0]
    let other : List Byte := [0x10, 1, 8, 0, 7, 0, 0, 0, 2, 0, 0, 0, 0, 0, 0, 0, 0x04, 0x03, 0x80, 0x03, 2, 0, 0, 0]
    (parsePacket .p0 none (bytes ++ [0, 0, 0, 0])).2 = some (6, 0) ∧
    (parsePacket .p0 none (other ++ leWord (crc32c other))).2 = some (5, 8) := by decide +kernel

/-! ### One step -/

/-- R94: a forced release raises SEM_FORCED. -/
theorem test_sem_force_raises :
    (match step { up with pending := [.semForce 0 5] } with
      | .next t => t.source 52 29
      | _ => false) = true := by decide +kernel

/-- R92: P1's acquiring read takes a free semaphore. -/
theorem test_sem_acquire :
    (match step { up with pending := [.semAcquire 0 0x11 5] } with
      | .next t => t.mb.sems[(5 : Fin 64)] == 0x11 && t.pending.isEmpty
      | _ => false) = true := by decide +kernel

/-- R363, R365: at the nominal increment 400 ticks are 1,000 ns of device time. -/
theorem test_time_runs :
    (match step { up with pending := [.semAcquire 400 0x11 5] } with
      | .next t => t.clock.ext == up.clock.ext + 1000
      | _ => false) = true := by decide +kernel

/-! ### Ill-formed commands (one for each check of WellFormed) -/

/-- R36: a header names one of the four ports. -/
theorem test_wf_lead_port : (Instr.sysInfo 0 (hdr (.lead 0))).wf = false := by decide +kernel

/-- R424: a command of P2 carries a mirror word, and only such a command. -/
theorem test_wf_mirror :
    (Instr.sysInfo 0 (hdr .p2)).wf = false ∧
    (Instr.sysInfo 0 { hdr .p0 with mirror := some { origin := .p0, decided := none } }).wf = false := by decide +kernel

/-- R50: payload lengths that a packet cannot carry. -/
theorem test_wf_payload_lengths :
    (Instr.regWrite 0 (hdr .p0) 0 (List.replicate 59 0)).wf = false ∧
    (Instr.recWrite 0 (hdr .p0) 0x0201 0 0 true true [1, 2, 3]).wf = false ∧
    (Instr.recApply 0 (hdr .p0) 0 0 0 (List.replicate 58 (0x0201, 0))).wf = false ∧
    (Instr.sensWrite 0 (hdr .p0) 0 0 (List.replicate 229 0)).wf = false ∧
    (Instr.sensSeq 0 (hdr .p0) 0 0 (List.replicate 30 ⟨0, 1, 0⟩)).wf = false ∧
    (Instr.calImport 0 (hdr .p0) 0 0 [1, 2]).wf = false ∧
    (Instr.fwStage 0 (hdr .p0) 0 0 0 0 []).wf = false ∧
    (Body.badLength 0x0101 []).fits = false ∧ (Body.unknown 0x0101 [1, 2, 3, 4]).fits = false := by decide +kernel

/-- R434, R507, R569: a boot run that no device has. -/
theorem test_wf_boot : (Instr.resetN 0 (bootTo 10)).wf = false := by decide +kernel

/-- R97: a long packet longer than its word count can say. -/
theorem test_wf_line : (Instr.linePacket 0 3 { line 0 true true with wordCount := 65536 }).wf = false := by decide +kernel

/-- R102, R335, R338: sweeps, lanes and HELLO frames of a shape that no port or link has. -/
theorem test_wf_training :
    (Instr.deskewSweepEnd 0 3 [1, 2, 3, 4, 5] []).wf = false ∧
    (Instr.trainingStageTimeout 0 false [{ lane := 18, locked := true, eyeMui := 0, eyeMv := 0 }]).wf = false := by decide +kernel

/-- R348, R357: a sequence number of more than 16 bits, a packet longer than a slot, a channel that is not there. -/
theorem test_wf_frames :
    (Instr.uahornAck 0 65536).wf = false ∧ (Instr.uahornCmd 0 0 0 (List.replicate 257 0)).wf = false ∧
    (Instr.uahornMboxAck 0 0 10 0).wf = false := by decide +kernel

/-- R406, R417, R420: frames of the partner. -/
theorem test_wf_partner_frames :
    (Instr.gelainDigest 0 []).wf = false ∧ (Instr.gelainTag 0 []).wf = false ∧
    (Instr.gelainCmd 0 0 0 0 (List.replicate 257 0)).wf = false ∧
    (Instr.gelainReply 0 0 (List.replicate 257 0)).wf = false ∧
    (Instr.gelainHeart 0 { hrt with state := 256 }).wf = false ∧
    (Instr.gelainState 0 { chk with item := .memory 0 (List.replicate 16257 0) }).wf = false := by decide +kernel

/-- R233, R244, R527: a bus's data, a slot's port and a Wellhead input. -/
theorem test_wf_others :
    (Instr.sluiceTransactionEnd 0 4 (.ack (List.replicate 257 0))).wf = false ∧
    (Instr.fetchHoldExpiry 0 (.lead 0)).wf = false ∧ (Instr.wellheadSample 0 42 0).wf = false := by decide +kernel

/-! ### The worked example of the ball table (after R548) -/

theorem test_row_names :
    rowName 19 = ['Y'] ∧ rowName 28 = ['A', 'J'] ∧ rowName 43 = ['B', 'E'] ∧ rowName 54 = ['B', 'U'] := by decide

theorem test_balls :
    ball 6 21 = .cam 5 (.d 2 false) ∧ ball 19 6 = .cam 20 (.d 2 false) ∧ ball 20 6 = .cam 20 (.d 2 true) ∧
      ball 28 51 = .mem 3 (.wck false false) ∧ ball 52 13 = .serdes 5 true false ∧ ball 52 14 = .serdes 5 true true ∧
      ball 54 43 = .serdes 20 false false ∧ ball 10 18 = .sda 7 ∧ ball 11 42 = .trig 31 ∧ ball 12 41 = .strobe 15 ∧
      ball 54 50 = .evin 3 ∧ ball 27 30 = .rail .sram := by decide

/-! ### The table's words -/

/-- The table gives no row any bits: no word spells a command. -/
theorem test_no_word_spells_a_command : decodeTableWord 32 0x12345678 = none := by decide

/-! ### Witnesses of the statements

For each statement with hypotheses, a concrete state and operands that meet those of each of its clauses together. -/

theorem witness_StepRunsTheFrontCommand :
    (∃ (c : Instr) (cs : List Instr) (s : State), s.pending = c :: cs) ∧ (∃ s : State, s.pending = []) :=
  ⟨⟨.semForce 0 5, [], { up with pending := [.semForce 0 5] }, rfl⟩, ⟨up, rfl⟩⟩

theorem witness_PinsFollowTheEvents :
    ∃ s t : State, s.pinsAgree ∧ step s = .next t := ⟨up, _, ⟨by decide +kernel, by decide +kernel, by decide +kernel⟩, rfl⟩

theorem witness_MemoryMaintenance :
  (∃ (dt : Nat) (mc : Fin 6) (s : State) (u : State), u = s.ticked dt ∧
    (u.mem.ctls[mc].state = 2 ∨ u.mem.ctls[mc].state = 3)) ∧
  (∃ (dt : Nat) (mc : Fin 6) (s : State) (u : State) (drift : Half), u = s.ticked dt ∧
    (u.mem.ctls[mc].state = 2 ∨ u.mem.ctls[mc].state = 3) ∧ BitVec.toNat drift ≤ u.calU 9752 2) ∧
  (∃ (dt : Nat) (mc : Fin 6) (s : State) (u : State) (drift : Half), u = s.ticked dt ∧
    (u.mem.ctls[mc].state = 2 ∨ u.mem.ctls[mc].state = 3) ∧ u.calU 9752 2 < BitVec.toNat drift ∧
    u.mem.ctls[mc].slicesLeft = 0) ∧
  (∃ (dt : Nat) (mc : Fin 6) (s : State) (u : State), u = s.ticked dt ∧
    (u.mem.ctls[mc].state = 2 ∨ u.mem.ctls[mc].state = 3) ∧ u.mem.ctls[mc].line < u.mcLines) ∧
  (∃ (dt : Nat) (mc : Fin 6) (s : State) (u : State) (w : Fin 8), u = s.ticked dt ∧
    (u.mem.ctls[mc].state = 2 ∨ u.mem.ctls[mc].state = 3) ∧ u.mem.ctls[mc].line < u.mcLines ∧
    ¬u.mem.ctls[mc].line * 8 + (↑w : Nat) ∈ u.mem.ctls[mc].lastErrs) ∧
  (∃ (dt : Nat) (mc : Fin 6) (s : State) (u : State) (w : Fin 8), u = s.ticked dt ∧
    (u.mem.ctls[mc].state = 2 ∨ u.mem.ctls[mc].state = 3) ∧ u.mem.ctls[mc].line < u.mcLines ∧
    u.mem.ctls[mc].line * 8 + (↑w : Nat) ∈ u.mem.ctls[mc].lastErrs) ∧
  (∃ (dt : Nat) (mc : Fin 6) (s : State) (u : State), u = s.ticked dt ∧
    (u.mem.ctls[mc].state = 2 ∨ u.mem.ctls[mc].state = 3) ∧ u.mcLines ≤ u.mem.ctls[mc].line) := ⟨
  ⟨(0:Nat), (2 : Fin 6), mcOn, _, rfl, by decide +kernel⟩,
  ⟨(0:Nat), (2 : Fin 6), mcOn, _, (0 : Half), rfl, by decide +kernel⟩,
  ⟨(0:Nat), (2 : Fin 6), mcOn, _, (60000 : Half), rfl, by decide +kernel⟩,
  ⟨(0:Nat), (2 : Fin 6), mcLine 5, _, rfl, by decide +kernel⟩,
  ⟨(0:Nat), (2 : Fin 6), mcLine 5, _, (1 : Fin 8), rfl, by decide +kernel⟩,
  ⟨(0:Nat), (2 : Fin 6), mcLine 5, _, (3 : Fin 8), rfl, by decide +kernel⟩,
  ⟨(0:Nat), (2 : Fin 6), mcOn, _, rfl, by decide +kernel⟩⟩

theorem witness_MemoryTraining :
  (∃ (dt : Nat) (mc : Fin 6) (s : State) (u : State), u = s.ticked dt ∧ u.mem.ctls[mc].state = 1 ∧
    u.mem.ctls[mc].retried = false) ∧
  (∃ (dt : Nat) (mc : Fin 6) (s : State) (u : State), u = s.ticked dt ∧ u.mem.ctls[mc].state = 1 ∧
    (u.release fun w =>         match w with         | Requester.training m port => m == mc         | x => false).holds     isTraining =   true ∧ u.mem.ctls[mc].retried = true) ∧
  (∃ (dt : Nat) (mc : Fin 6) (s : State) (u : State), u = s.ticked dt ∧ u.mem.ctls[mc].state = 1 ∧
    (u.release fun w =>         match w with         | Requester.training m port => m == mc         | x => false).holds     isTraining =   true ∧ u.au 272 65535 5 1 ≠ 1) ∧
  (∃ (dt : Nat) (mc : Fin 6) (s : State) (u : State), u = s.ticked dt ∧ u.mem.ctls[mc].state = 1 ∧
    (u.release fun w =>         match w with         | Requester.training m port => m == mc         | x => false).holds     isTraining =   false ∧ (u.release fun w =>         match w with         | Requester.training m port => m == mc         | x => false).asked     isTraining =   false ∧ u.idlePorts) ∧
  (∃ (dt : Nat) (mc : Fin 6) (s : State) (u : State), u = s.ticked dt ∧
    (u.mem.ctls[mc].state = 2 ∨ u.mem.ctls[mc].state = 3) ∧ (u.mem.ctls[mc].slices = 0 ∨ u.mem.ctls[mc].sliceAt + 40000 ≤ u.now) ∧ 2 ≤ u.mem.ctls[mc].slicesLeft) ∧
  (∃ (dt : Nat) (mc : Fin 6) (s : State) (u : State), u = s.ticked dt ∧
    (u.mem.ctls[mc].state = 2 ∨ u.mem.ctls[mc].state = 3) ∧ (u.mem.ctls[mc].slices = 0 ∨ u.mem.ctls[mc].sliceAt + 40000 ≤ u.now) ∧ u.mem.ctls[mc].slicesLeft = 1 ∧ u.nvm.runs_ = []) ∧
  (∃ (dt : Nat) (mc : Fin 6) (s : State) (u : State), u = s.ticked dt ∧
    (u.mem.ctls[mc].state = 2 ∨ u.mem.ctls[mc].state = 3) ∧ (u.mem.ctls[mc].slicesLeft = 0 ∨ u.mem.ctls[mc].slices ≠ 0 ∧
    u.now < u.mem.ctls[mc].sliceAt + 40000)) := ⟨
  ⟨(0:Nat), (2 : Fin 6), withGrants (mcTr false) [trGrant 2, trGrant 3], _, rfl, by decide +kernel⟩,
  ⟨(0:Nat), (2 : Fin 6), withGrants (mcTr true) [trGrant 2, trGrant 3], _, rfl, by decide +kernel⟩,
  ⟨(0:Nat), (2 : Fin 6), noRepair (withGrants (mcTr true) [trGrant 2, trGrant 3]), _, rfl, by decide +kernel⟩,
  ⟨(0:Nat), (1 : Fin 6), ((withGrants (up.setMc 1 fun x => { x with state := 1 }) [trGrant 1]).setMc 0 fun x => { x with state := 2 }).writeBoth 0x0110 65535 0 [3], _, rfl, by decide +kernel⟩,
  ⟨(100000:Nat), (2 : Fin 6), slicing 8, _, rfl, by decide +kernel⟩,
  ⟨(100000:Nat), (2 : Fin 6), slicing 1, _, rfl, by decide +kernel⟩,
  ⟨(100000:Nat), (2 : Fin 6), slicing 0, _, rfl, by decide +kernel⟩⟩

theorem witness_CalibrationCommands :
  (∃ (dt : Nat) (h : Hdr) (type : Byte) (target : Byte) (s : State) (u : State), u = s.ticked dt ∧
    u.runs h (Body.calRun type target) ∧ ¬BitVec.toNat type ∈ [1, 2, 3, 4, 255]) ∧
  (∃ (dt : Nat) (h : Hdr) (type : Byte) (target : Byte) (s : State) (u : State), u = s.ticked dt ∧
    u.runs h (Body.calRun type target) ∧ (fun t g => t = 1 ∧ g ≤ 31 ∨ t = 3 ∧
    (g ≤ 5 ∨ g = 255) ∨ (t = 2 ∨ t = 4 ∨ t = 255) ∧ g = 255) (BitVec.toNat type) (BitVec.toNat target) ∧
    u.calNotReady (BitVec.toNat type) (BitVec.toNat target) = true) ∧
  (∃ (dt : Nat) (h : Hdr) (type : Byte) (target : Byte) (s : State) (u : State), u = s.ticked dt ∧
    u.runs h (Body.calRun type target) ∧ (fun t g => t = 1 ∧ g ≤ 31 ∨ t = 3 ∧
    (g ≤ 5 ∨ g = 255) ∨ (t = 2 ∨ t = 4 ∨ t = 255) ∧ g = 255) (BitVec.toNat type) (BitVec.toNat target) ∧
    u.calNotReady (BitVec.toNat type) (BitVec.toNat target) = false ∧ u.refuseLeave 20 = none) ∧
  (∃ (dt : Nat) (h : Hdr) (flags : Word) (s : State) (u : State), u = s.ticked dt ∧ u.runs h (Body.calCommit flags) ∧
    BitVec.toNat flags ≤ 1 ∧ (∀ (o : OpenImport), o ∈ u.nvm.imports → o.stage.isSome = true) ∧ u.calBusy = true) ∧
  (∃ (dt : Nat) (h : Hdr) (flags : Word) (s : State) (u : State), u = s.ticked dt ∧ u.runs h (Body.calCommit flags) ∧
    BitVec.toNat flags ≤ 1 ∧ (∀ (o : OpenImport), o ∈ u.nvm.imports → o.stage.isSome = true) ∧ u.calBusy = false ∧
    (u.nvm.stored.origin ≠ 0 ∨ flags = 1) ∧ u.pwr.pfActive = false ∧ u.refuseLeave 8 = none) ∧
  (∃ (dt : Nat) (h : Hdr) (which : Byte) (off : Word) (count : Word) (s : State) (u : State), u = s.ticked dt ∧
    u.runs h (Body.calExport which off count) ∧ BitVec.toNat which ≤ 1 ∧ BitVec.toNat off % 4 = 0 ∧
    BitVec.toNat off ≤ 9768 ∧ 4 ≤ BitVec.toNat count ∧ BitVec.toNat count ≤ 224 ∧ BitVec.toNat count % 4 = 0 ∧
    BitVec.toNat off + BitVec.toNat count ≤ 9772) ∧
  (∃ (dt : Nat) (h : Hdr) (off : Word) (data : List Byte) (s : State) (u : State), u = s.ticked dt ∧
    u.runs h (Body.calImport 1 off data) ∧ (∀ (o : OpenImport), o ∈ u.nvm.imports → o.stage = none → o.port = h.port) ∧
    BitVec.toNat off % 4 = 0 ∧ BitVec.toNat off + data.length ≤ 9772 ∧ u.pwr.pfActive = false ∧ u.refuseLeave 8 = none) ∧
  (∃ (dt : Nat) (h : Hdr) (off : Word) (data : List Byte) (o : OpenImport) (s : State) (u : State) (l : Nat) (r : Running), u = s.ticked dt ∧ r.body = Body.calImport 0 off data ∧ u.nvm.imports = [o] ∧ o.stage = none ∧ o.port = h.port ∧ u.granting h r ((fun p limit => { who := Requester.nvm (some p), kind := 6, cost := 8, prio := 3, at_ := u.now, limit := some limit : LeaveReq }) h.port l)) ∧
  (∃ (dt : Nat) (s : State) (u : State), u = s.ticked dt ∧ u.idlePorts ∧ u.nvm.jobs = [] ∧ u.nvm.runs_ = []) := ⟨
  ⟨(0:Nat), hdr .p3, (9:Byte), (255:Byte), up, _, rfl, by decide +kernel⟩,
  ⟨(0:Nat), hdr .p3, (3:Byte), (255:Byte), up, _, rfl, by decide +kernel⟩,
  ⟨(0:Nat), hdr .p0, (4:Byte), (255:Byte), { up with nvm := { up.nvm with runs_ := [{ port := none, type := 255, target := 255, began := true }] } }, _, rfl, by decide +kernel⟩,
  ⟨(0:Nat), hdr .p0, (1:Word), { up with nvm := { up.nvm with runs_ := [{ port := none, type := 255, target := 255, began := true }] } }, _, rfl, by decide +kernel⟩,
  ⟨(0:Nat), hdr .p3, (1:Word), up, _, rfl, by decide +kernel⟩,
  ⟨(0:Nat), hdr .p3, (0:Byte), (0:Word), (64:Word), up, _, rfl, by decide +kernel⟩,
  ⟨(0:Nat), hdr .p3, (0:Word), ([1,2,3,4] : List Byte), up, _, rfl, by decide +kernel⟩,
  ⟨(0:Nat), hdr .p3, (8:Word), ([1,2,3,4] : List Byte), opened none, waiting3 (.calImport 0 8 [1,2,3,4]) none up, _, (900:Nat), ({ h := hdr .p3, body := .calImport 0 8 [1,2,3,4], wait := .nvm, since := 0 } : Running), rfl, by decide +kernel⟩,
  ⟨(0:Nat), up, _, rfl, by decide +kernel⟩⟩

theorem witness_CalibrationRunsEnd :
  (∃ (dt : Nat) (s : State) (u : State) (x : CalSession), u = s.ticked dt ∧ u.nvm.runs_ = [x] ∧ x.type = 255 ∧
    x.port = none ∧ x.began = true ∧ x.todo = [] ∧ x.result = 0) ∧
  (∃ (dt : Nat) (s : State) (u : State), u = s.ticked dt ∧ (∀ (x : CalSession), x ∈ u.nvm.runs_ → x.type = 255 → x.began = true → x.todo ≠ [])) ∧
  (∃ (dt : Nat) (s : State) (u : State) (due : Nat), u = s.ticked dt ∧ u.nvm.repeatAt = some due ∧ u.now < due) ∧
  (∃ (dt : Nat) (s : State) (u : State) (due : Nat), u = s.ticked dt ∧ u.nvm.repeatAt = some due ∧ due ≤ u.now ∧
    u.calRuleActive = false) ∧
  (∃ (dt : Nat) (s : State) (u : State) (due : Nat), u = s.ticked dt ∧ u.nvm.repeatAt = some due ∧ due ≤ u.now ∧
    u.calRuleActive = true ∧ (∀ (x : CalSession), x ∈ u.nvm.runs_ → x.type ≠ 255) ∧ u.refuseLeave 20 = none) ∧
  (∃ (dt : Nat) (p : Fin 32) (q : Port) (x : CalSession) (r : Running) (s : State) (u : State), u = s.ticked dt ∧
    u.nvm.runs_ = [x] ∧ x.began = true ∧ x.type = 1 ∧ x.target = (↑p : Nat) ∧
    x.todo = [{ type := 1, target := (↑p : Nat) : CalPart }] ∧ x.port = some q ∧ x.result = 0 ∧ x.rejected = 0 ∧
    x.elements = [] ∧ x.since + 400000000 ≤ u.now ∧ u.inlets[p].deskew ≠ 2 ∧ (q = Port.p0 ∨ q = Port.p1 ∨ q = Port.p3) ∧
    (u.port q).running = some r ∧ r.wait = Waiting.calRun ∧ r.h.port = q ∧ r.lateTie = false ∧ u.twin.mirrors = [] ∧
    u.audit.staged.length < 30) ∧
  (∃ (dt : Nat) (p : Fin 32) (q : Port) (x : CalSession) (s : State) (u : State), u = s.ticked dt ∧ u.nvm.runs_ = [x] ∧
    x.began = true ∧ x.type = 1 ∧ x.target = (↑p : Nat) ∧ x.todo = [{ type := 1, target := (↑p : Nat) : CalPart }] ∧
    x.port = some q ∧ x.result = 0 ∧ x.rejected = 0 ∧ x.elements = [] ∧ u.now < x.since + 400000000) := ⟨
  ⟨(0:Nat), withRuns up [drift []], _, drift [], rfl, by decide +kernel⟩,
  ⟨(100:Nat), (rep up), _, rfl, by decide +kernel⟩,
  ⟨(0:Nat), withRuns (rep up) [drift [⟨4, 255⟩]], _, (100:Nat), rfl, by decide +kernel⟩,
  ⟨(100:Nat), (rep up), _, (100:Nat), rfl, by decide +kernel⟩,
  ⟨(100:Nat), calRule (rep up), _, (100:Nat), rfl, by decide +kernel⟩,
  ⟨(400000000:Nat), (4 : Fin 32), Port.p3, dsk, (({ h := hdr .p3, body := .calRun 1 4, wait := .calRun, since := 0 } : Running)), running (withRuns up [dsk]) .p3 (.calRun 1 4) .calRun, _, rfl, by decide +kernel⟩,
  ⟨(399999999:Nat), (4 : Fin 32), Port.p3, dsk, running (withRuns up [dsk]) .p3 (.calRun 1 4) .calRun, _, rfl, by decide +kernel⟩⟩

theorem witness_MramAndImages :
  (∃ (dt : Nat) (s : State) (u : State), u = s.ticked dt ∧ u.pwr.pfHold = true) ∧
  (∃ (dt : Nat) (rest : List NvmJob) (s : State) (u : State) (p : Port) (r : Running), u = s.ticked dt ∧
    u.pwr.pfHold = false ∧ u.nvm.runs_ = [] ∧ u.nvm.jobs = NvmJob.commit p :: rest ∧
    (p = Port.p0 ∨ p = Port.p1 ∨ p = Port.p3) ∧ (u.port p).running = some r ∧ r.wait = Waiting.nvm ∧ r.h.port = p ∧
    r.lateTie = false ∧ u.twin.mirrors = [] ∧ u.audit.staged.length < 32) ∧
  (∃ (dt : Nat) (rest : List NvmJob) (s : State) (u : State), u = s.ticked dt ∧ u.pwr.pfHold = false ∧ u.nvm.runs_ = [] ∧
    u.nvm.jobs = NvmJob.append :: rest) ∧
  (∃ (dt : Nat) (s : State) (u : State), u = s.ticked dt ∧ u.nvm.append = []) ∧
  (∃ (dt : Nat) (s : State) (u : State), u = s.ticked dt ∧ u.nvm.append ≠ [] ∧
    (u.asked fun x => x == Requester.nvm none) = false ∧ (u.holds fun x => x == Requester.nvm none) = false ∧
    u.refuseLeave 8 = none) ∧
  (∃ (dt : Nat) (h : Hdr) (i : Fin 4) (data : List Byte) (s : State) (u : State), u = s.ticked dt ∧
    u.runs h (Body.fwStage 1 (BitVec.ofNat 8 (↑i : Nat)) 1 0 data) ∧
    (∀ (o : OpenImport), o ∈ u.nvm.imports → o.stage.isSome = true → o.port = h.port) ∧ u.pwr.pfActive = false ∧
    data.length ≤ 240 ∧ u.refuseLeave 8 = none) ∧
  (∃ (dt : Nat) (h : Hdr) (i : Fin 4) (data : List Byte) (s : State) (u : State) (l : Nat) (r : Running), u = s.ticked dt ∧ r.body = Body.fwStage 1 (BitVec.ofNat 8 (↑i : Nat)) 1 0 data ∧ u.nvm.sets[Fin.ofNat 5 (↑i : Nat)] = { state := 1 : Image } ∧ data.length ≤ 240 ∧ u.granting h r ((fun p limit => { who := Requester.nvm (some p), kind := 6, cost := 8, prio := 3, at_ := u.now, limit := some limit : LeaveReq }) h.port l)) ∧
  (∃ (dt : Nat) (h : Hdr) (i : Fin 4) (scope : Byte) (s : State) (u : State), u = s.ticked dt ∧
    u.runs h (Body.fwActivate 1 (BitVec.ofNat 8 (↑i : Nat)) scope) ∧ BitVec.toNat scope ≤ 1 ∧
    u.nvm.sets[Fin.ofNat 5 (↑i : Nat)].state ≠ 2) ∧
  (∃ (dt : Nat) (h : Hdr) (i : Fin 4) (scope : Byte) (s : State) (u : State), u = s.ticked dt ∧
    u.runs h (Body.fwActivate 1 (BitVec.ofNat 8 (↑i : Nat)) scope) ∧ BitVec.toNat scope ≤ 1 ∧
    u.nvm.sets[Fin.ofNat 5 (↑i : Nat)].state = 2 ∧ u.pwr.pfActive = false ∧ u.refuseLeave 8 = none) ∧
  (∃ (dt : Nat) (h : Hdr) (s : State) (u : State), u = s.ticked dt ∧ u.runs h Body.fwStatus) ∧
  (∃ (dt : Nat) (s : State) (u : State) (n : Fin 2), u = s.ticked dt ∧ u.nvm.trial = true ∧ u.nvm.running = (↑n : Nat) ∧
    u.nvm.activeSlot = (↑n : Nat) ∧ u.sys.cmdReady = true ∧ u.sys.readyAt + 4000000000 ≤ u.now) ∧
  (∃ (dt : Nat) (s : State) (u : State) (n : Fin 2), u = s.ticked dt ∧ u.nvm.trial = true ∧ u.nvm.running = (↑n : Nat) ∧
    u.nvm.activeSlot = (↑n : Nat) ∧ u.sys.cmdReady = true ∧ u.now < u.sys.readyAt + 4000000000) := ⟨
  ⟨(0:Nat), { up with pwr := { up.pwr with pfHold := true }, nvm := { up.nvm with jobs := [.append] } }, _, rfl, by decide +kernel⟩,
  ⟨(0:Nat), ([.append] : List NvmJob), running (withJobs up [.commit .p3, .append]) .p3 (.calCommit 1) .nvm, _, Port.p3, waitNvm, rfl, by decide +kernel⟩,
  ⟨(0:Nat), ([] : List NvmJob), withAppend (withJobs up [.append]), _, rfl, by decide +kernel⟩,
  ⟨(4000000000:Nat), trial (staged up), _, rfl, by decide +kernel⟩,
  ⟨(0:Nat), withAppend (withJobs up [.append]), _, rfl, by decide +kernel⟩,
  ⟨(4000000000:Nat), hdr .p0, (2 : Fin 4), ([1,2,3,4] : List Byte), trial (staged up), _, rfl, by decide +kernel⟩,
  ⟨(0:Nat), hdr .p3, (2 : Fin 4), ([1,2,3,4] : List Byte), waiting3 (.fwStage 1 2 1 0 [1,2,3,4]) (some (1, 2)) (staging2 up), _, (900:Nat), ({ h := hdr .p3, body := .fwStage 1 2 1 0 [1,2,3,4], wait := .nvm, since := 0 } : Running), rfl, by decide +kernel⟩,
  ⟨(0:Nat), hdr .p3, (2 : Fin 4), (1:Byte), withAppend (withJobs up [.append]), _, rfl, by decide +kernel⟩,
  ⟨(4000000000:Nat), hdr .p0, (2 : Fin 4), (1:Byte), trial (staged up), _, rfl, by decide +kernel⟩,
  ⟨(4000000000:Nat), hdr .p0, trial (staged up), _, rfl, by decide +kernel⟩,
  ⟨(4000000000:Nat), trial (staged up), _, (0 : Fin 2), rfl, by decide +kernel⟩,
  ⟨(3999999999:Nat), trial (staged up), _, (0 : Fin 2), rfl, by decide +kernel⟩⟩

theorem witness_TheAuditLog :
  (∃ (dt : Nat) (h : Hdr) (count : Word) (s : State) (u : State) (x : Word × Entry) (xs : List (Word × Entry)), u = s.ticked dt ∧ u.runs h (Body.logRead 4294967295 count) ∧ 1 ≤ BitVec.toNat count ∧ BitVec.toNat count ≤ 7 ∧ u.heldEntries = x :: xs) ∧
  (∃ (dt : Nat) (h : Hdr) (count : Word) (s : State) (u : State), u = s.ticked dt ∧
    u.runs h (Body.logRead 4294967295 count) ∧ (count = 0 ∨ 7 < BitVec.toNat count)) ∧
  (∃ (dt : Nat) (h : Hdr) (mark : Wide) (s : State) (u : State), u = s.ticked dt ∧ u.runs h (Body.logMark mark)) ∧
  (∃ (dt : Nat) (h : Hdr) (s : State) (u : State) (x : Word × Entry) (xs : List (Word × Entry)), u = s.ticked dt ∧
    u.runs h Body.logStatus ∧ u.heldEntries = x :: xs) ∧
  (∃ (dt : Nat) (s : State) (u : State) (e : Word × Nat × Entry) (es : List (Word × Nat × Entry)), u = s.ticked dt ∧
    u.twin.state = TwinState.single ∧ u.audit.flushing = 0 ∧ u.audit.staged = e :: es ∧
    (16 ≤ u.audit.staged.length ∨ e.snd.fst + 2000000 ≤ u.now)) ∧
  (∃ (dt : Nat) (s : State) (u : State), u = s.ticked dt ∧ u.twin.state = TwinState.single ∧
    (u.audit.flushing ≠ 0 ∨ u.audit.staged = [])) ∧
  (∃ (dt : Nat) (s : State) (u : State), u = s.ticked dt ∧ u.twin.state = TwinState.single ∧ u.idlePorts ∧
    u.audit.merged = 0 ∧ (∀ (p : Port), p ∈ allPorts → (u.port p).entryWait = none) ∧ u.audit.flushing ≠ 0) ∧
  (∃ (dt : Nat) (s : State) (u : State) (e : Half), u = s.ticked dt ∧ u.twin.state = TwinState.single ∧ u.idlePorts ∧
    u.audit.merged = 0 ∧ (∀ (p : Port), p ∈ allPorts → (u.port p).entryWait = none) ∧ u.pwr.pfActive = true ∧
    u.pwr.pfSafe = false ∧ u.audit.epochWrite = some e) := ⟨
  ⟨(2000000:Nat), hdr .p0, (1:Word), staged1 up, _, ((0, entry0) : Word × Entry), ([] : List (Word × Entry)), rfl, by decide +kernel⟩,
  ⟨(0:Nat), hdr .p0, (8:Word), pf (staged1 up), _, rfl, by decide +kernel⟩,
  ⟨(2000000:Nat), hdr .p0, (9:Wide), staged1 up, _, rfl, by decide +kernel⟩,
  ⟨(2000000:Nat), hdr .p0, staged1 up, _, ((0, entry0) : Word × Entry), ([] : List (Word × Entry)), rfl, by decide +kernel⟩,
  ⟨(2000000:Nat), staged1 up, _, ((0, 0, entry0) : Word × Nat × Entry), ([] : List (Word × Nat × Entry)), rfl, by decide +kernel⟩,
  ⟨(0:Nat), flushing (staged1 up), _, rfl, by decide +kernel⟩,
  ⟨(0:Nat), flushing (staged1 up), _, rfl, by decide +kernel⟩,
  ⟨(0:Nat), pf (staged1 up), _, (3 : Half), rfl, by decide +kernel⟩⟩

theorem witness_DmaStartsAndCommands :
  (∃ (dt : Nat) (ch : Fin 32) (s : State) (u : State), u = s.ticked dt ∧ u.dma.chans[ch].state ≠ 0) ∧
  (∃ (dt : Nat) (ch : Fin 32) (s : State) (u : State), u = s.ticked dt ∧ u.dma.chans[ch].state = 0 ∧
    u.dma.chans[ch].act.heavy = false) ∧
  (∃ (dt : Nat) (ch : Fin 32) (s : State) (u : State), u = s.ticked dt ∧ u.dma.chans[ch].state = 0 ∧
    u.dma.chans[ch].act.heavy = true ∧ u.refuseLeave 10 = none) ∧
  (∃ (dt : Nat) (h : Hdr) (first : Byte) (count : Byte) (s : State) (u : State), u = s.ticked dt ∧
    u.runs h (Body.dmaStatus first count) ∧ BitVec.toNat first + BitVec.toNat count ≤ 32 ∧ 1 ≤ BitVec.toNat count ∧
    BitVec.toNat count ≤ 8) ∧
  (∃ (dt : Nat) (h : Hdr) (first : Byte) (count : Byte) (s : State) (u : State), u = s.ticked dt ∧
    u.runs h (Body.dmaStatus first count) ∧ 31 < BitVec.toNat first) ∧
  (∃ (dt : Nat) (h : Hdr) (first : Byte) (s : State) (u : State), u = s.ticked dt ∧ u.runs h (Body.dmaAbort first) ∧
    u.idlePorts ∧ BitVec.toNat first < 32 ∧ h.port = Port.p0 ∧ BitVec.toNat first < 24) ∧
  (∃ (dt : Nat) (h : Hdr) (first : Byte) (s : State) (u : State), u = s.ticked dt ∧ u.runs h (Body.dmaAbort first) ∧
    u.idlePorts ∧ BitVec.toNat first < 32 ∧ (h.port ≠ Port.p0 ∨ 24 ≤ BitVec.toNat first) ∧
    u.dma.chans[Fin.ofNat 32 (BitVec.toNat first)].state = 0) ∧
  (∃ (dt : Nat) (h : Hdr) (first : Byte) (s : State) (u : State), u = s.ticked dt ∧ u.runs h (Body.dmaAbort first) ∧
    u.idlePorts ∧ BitVec.toNat first < 32 ∧ (h.port ≠ Port.p0 ∨ 24 ≤ BitVec.toNat first) ∧
    u.dma.chans[Fin.ofNat 32 (BitVec.toNat first)].state = 4 ∧
    u.dma.chans[Fin.ofNat 32 (BitVec.toNat first)].burst.isSome = true ∧
    u.dma.chans[Fin.ofNat 32 (BitVec.toNat first)].abortAt = none) := ⟨
  ⟨(0:Nat), (3 : Fin 32), chan (withMem up) 3 (desc 0x1000 0x2000 64 1) fun x => { x with state := 4, burst := some 64, residue := 64 }, _, rfl, by decide +kernel⟩,
  ⟨(0:Nat), (3 : Fin 32), chan (withMem up) 3 (desc 0x1000 0x2000 64 1) id, _, rfl, by decide +kernel⟩,
  ⟨(0:Nat), (3 : Fin 32), chan (withMem up) 3 (desc 0x1000 0x2000 64 0x41) id, _, rfl, by decide +kernel⟩,
  ⟨(0:Nat), hdr .p3, (3 : Byte), (2:Byte), chan (withMem up) 3 (desc 0x1000 0x2000 64 1) id, _, rfl, by decide +kernel⟩,
  ⟨(0:Nat), hdr .p0, (32 : Byte), (2:Byte), chan (withMem up) 3 (desc 0x1001 0x2000 64 1) id, _, rfl, by decide +kernel⟩,
  ⟨(0:Nat), hdr .p0, (3 : Byte), chan (withMem up) 3 (desc 0x1000 0x2000 64 0x41) id, _, rfl, by decide +kernel⟩,
  ⟨(0:Nat), hdr .p3, (3 : Byte), chan (withMem up) 3 (desc 0x1000 0x2000 64 1) id, _, rfl, by decide +kernel⟩,
  ⟨(0:Nat), hdr .p3, (3 : Byte), chan (withMem up) 3 (desc 0x1000 0x2000 64 1) fun x => { x with state := 4, burst := some 64, residue := 64 }, _, rfl, by decide +kernel⟩⟩

theorem witness_DmaSetsAndRequests :
  (∃ (dt : Nat) (ch : Fin 32) (s : State) (u : State), u = s.ticked dt ∧ u.dma.chans[ch].shadow.valid = false) ∧
  (∃ (dt : Nat) (ch : Fin 32) (s : State) (u : State), u = s.ticked dt ∧ u.dma.chans[ch].shadow.valid = true) ∧
  (∃ (dt : Nat) (ch : Fin 32) (s : State) (u : State), u = s.ticked dt ∧
    (u.dma.chans[ch].state = 0 ∨ u.dma.chans[ch].state = 6)) ∧
  (∃ (dt : Nat) (ch : Fin 32) (s : State) (u : State), u = s.ticked dt ∧ u.dma.chans[ch].state ≠ 0 ∧
    u.dma.chans[ch].state ≠ 6) ∧
  (∃ (dt : Nat) (s : State) (u : State) (line : Fin 48), u = s.ticked dt ∧
    u.lineOwner (↑(Fin.ofNat 96 (↑line : Nat)) : Nat) = none) ∧
  (∃ (dt : Nat) (s : State) (u : State) (line : Fin 48), u = s.ticked dt ∧
    u.lineOwner (↑(Fin.ofNat 96 (↑line : Nat)) : Nat) ≠ none) ∧
  (∃ (dt : Nat) (s : State) (u : State) (line : Fin 256) (n : Nat), u = s.ticked dt ∧ 48 ≤ (↑line : Nat) ∧
    (↑line : Nat) ≤ 79 ∧ n < 256 ∧ u.lineOwner (↑(Fin.ofNat 96 (↑line : Nat)) : Nat) = none) ∧
  (∃ (dt : Nat) (s : State) (u : State) (line : Fin 256) (n : Nat), u = s.ticked dt ∧ 48 ≤ (↑line : Nat) ∧
    (↑line : Nat) ≤ 79 ∧ n < 256 ∧ u.lineOwner (↑(Fin.ofNat 96 (↑line : Nat)) : Nat) ≠ none) ∧
  (∃ (dt : Nat) (s : State) (u : State) (line : Fin 256), u = s.ticked dt ∧ ((↑line : Nat) < 48 ∨ 79 < (↑line : Nat))) ∧
  (∃ (dt : Nat) (s : State) (u : State) (i : Fin 16) (n : Nat), u = s.ticked dt ∧ n < 256 ∧
    u.lineOwner (↑(Fin.ofNat 96 (80 + (↑i : Nat))) : Nat) = none) ∧
  (∃ (dt : Nat) (s : State) (u : State) (i : Fin 16) (n : Nat), u = s.ticked dt ∧ n < 256 ∧
    u.lineOwner (↑(Fin.ofNat 96 (80 + (↑i : Nat))) : Nat) ≠ none) := ⟨
  ⟨(0:Nat), (3 : Fin 32), up, _, rfl, by decide +kernel⟩,
  ⟨(0:Nat), (3 : Fin 32), boundTo 5, _, rfl, by decide +kernel⟩,
  ⟨(0:Nat), (3 : Fin 32), up, _, rfl, by decide +kernel⟩,
  ⟨(0:Nat), (3 : Fin 32), boundTo 5, _, rfl, by decide +kernel⟩,
  ⟨(0:Nat), up, _, (5 : Fin 48), rfl, by decide +kernel⟩,
  ⟨(0:Nat), boundTo 5, _, (5 : Fin 48), rfl, by decide +kernel⟩,
  ⟨(0:Nat), up, _, (50 : Fin 256), (255:Nat), rfl, by decide +kernel⟩,
  ⟨(0:Nat), boundTo 50, _, (50 : Fin 256), (255:Nat), rfl, by decide +kernel⟩,
  ⟨(0:Nat), { boundTo 82 with dma := { (boundTo 82).dma with lines := (boundTo 82).dma.lines.set 82 10 } }, _, (150 : Fin 256), rfl, by decide +kernel⟩,
  ⟨(0:Nat), up, _, (2 : Fin 16), (200:Nat), rfl, by decide +kernel⟩,
  ⟨(0:Nat), { boundTo 82 with dma := { (boundTo 82).dma with lines := (boundTo 82).dma.lines.set 82 10 } }, _, (2 : Fin 16), (255:Nat), rfl, by decide +kernel⟩⟩

theorem witness_DmaMovesData :
  (∃ (dt : Nat) (ch : Fin 32) (d : Fin 32) (s : State) (u : State), u = s.ticked dt ∧ u.domOn 17 = true ∧
    (∀ (e : Fin 32), e ≠ d → u.dma.chans[e].burst = none) ∧ d ≠ ch ∧ u.canBurst ch = true ∧ u.outbid ch = false ∧
    u.dma.chans[d].burst = none ∧ u.dma.chans[ch].act.paced = false) ∧
  (∃ (dt : Nat) (ch : Fin 32) (d : Fin 32) (s : State) (u : State) (l : Fin 96), u = s.ticked dt ∧ u.domOn 17 = true ∧
    (∀ (e : Fin 32), e ≠ d → u.dma.chans[e].burst = none) ∧ d ≠ ch ∧ u.canBurst ch = true ∧ u.outbid ch = false ∧
    u.dma.chans[d].burst = none ∧ u.dma.chans[ch].act.paced = true ∧ u.dma.chans[ch].act.req = (↑l : Nat)) ∧
  (∃ (dt : Nat) (ch : Fin 32) (d : Fin 32) (s : State) (u : State), u = s.ticked dt ∧ u.domOn 17 = true ∧
    (∀ (e : Fin 32), e ≠ d → u.dma.chans[e].burst = none) ∧ d ≠ ch ∧ u.canBurst ch = true ∧ u.outbid ch = false ∧
    u.dma.chans[d].burst.isSome = true ∧ u.dma.chans[d].state = 4 ∧ u.dma.chans[d].act.prio < u.dma.chans[ch].act.prio) ∧
  (∃ (dt : Nat) (ch : Fin 32) (d : Fin 32) (s : State) (u : State), u = s.ticked dt ∧ u.domOn 17 = true ∧
    (∀ (e : Fin 32), e ≠ d → u.dma.chans[e].burst = none) ∧ d ≠ ch ∧ u.dma.chans[d].burst = none ∧ u.canBurst ch = false) ∧
  (∃ (dt : Nat) (ch : Fin 32) (s : State) (u : State), u = s.ticked dt ∧ u.dma.chans[ch].state = 4 ∧
    u.dma.chans[ch].burst = some u.dma.chans[ch].residue ∧ u.dma.chans[ch].abortAt = none ∧ u.dma.chans[ch].buf = none ∧
    u.dma.chans[ch].prefetch = none ∧ u.dma.chans[ch].act.chain = false ∧
    inLpddr (u.dma.chans[ch].from_ u.dma.chans[ch].residue) = true ∧
    inLpddr (u.dma.chans[ch].to_ u.dma.chans[ch].residue) = true ∧
    u.dma.chans[ch].to_ u.dma.chans[ch].residue + u.dma.chans[ch].residue ≤ u.installed ∧
    (∀ (d : Fin 32), u.dma.chans[d].state ≠ 5)) ∧
  (∃ (dt : Nat) (ch : Fin 32) (s : State) (u : State), u = s.ticked dt ∧
    u.dma.chans[ch].burst ≠ some u.dma.chans[ch].residue) := ⟨
  ⟨(0:Nat), (3 : Fin 32), (4 : Fin 32), burstReady, _, rfl, by decide +kernel⟩,
  ⟨(0:Nat), (3 : Fin 32), (4 : Fin 32), { boundTo 5 with dma := { (boundTo 5).dma with lines := (boundTo 5).dma.lines.set 5 10 } }, _, (5 : Fin 96), rfl, by decide +kernel⟩,
  ⟨(0:Nat), (3 : Fin 32), (4 : Fin 32), prio, _, rfl, by decide +kernel⟩,
  ⟨(0:Nat), (5 : Fin 32), (4 : Fin 32), burstReady, _, rfl, by decide +kernel⟩,
  ⟨(0:Nat), (3 : Fin 32), lastBurst 0x1, _, rfl, by decide +kernel⟩,
  ⟨(0:Nat), (3 : Fin 32), prio, _, rfl, by decide +kernel⟩⟩

theorem witness_DmaEndsEarly :
  (∃ (dt : Nat) (ch : Fin 32) (s : State) (u : State), u = s.ticked dt ∧ u.idlePorts ∧
    (∀ (d : Fin 32), u.dma.chans[d].state ≠ 5) ∧ u.dma.chans[ch].prefetch = none ∧ u.dma.chans[ch].state = 3) ∧
  (∃ (dt : Nat) (ch : Fin 32) (s : State) (u : State), u = s.ticked dt ∧ u.idlePorts ∧
    (∀ (d : Fin 32), u.dma.chans[d].state ≠ 5) ∧ u.dma.chans[ch].prefetch = none ∧ u.dma.chans[ch].state = 4 ∧
    u.dma.chans[ch].burst.isSome = true ∧ u.dma.chans[ch].abortAt = none) ∧
  (∃ (dt : Nat) (ch : Fin 32) (s : State) (u : State), u = s.ticked dt ∧ u.idlePorts ∧
    (∀ (d : Fin 32), u.dma.chans[d].state ≠ 5) ∧ u.dma.chans[ch].prefetch = none ∧ u.dma.chans[ch].state = 0) ∧
  (∃ (dt : Nat) (ch : Fin 32) (s : State) (u : State), u = s.ticked dt ∧ u.idlePorts ∧
    (∀ (d : Fin 32), u.dma.chans[d].state ≠ 5) ∧ u.dma.chans[ch].prefetch = none ∧ u.dma.chans[ch].state = 6 ∧
    u.dma.chans[ch].act.paced = false) ∧
  (∃ (dt : Nat) (ch : Fin 32) (s : State) (u : State), u = s.ticked dt ∧ u.idlePorts ∧
    (∀ (d : Fin 32), u.dma.chans[d].state ≠ 5) ∧ u.dma.chans[ch].prefetch = none ∧ u.dma.chans[ch].state ≠ 6) ∧
  (∃ (dt : Nat) (ch : Fin 32) (len : Nat) (s : State) (u : State), u = s.ticked dt ∧ u.idlePorts ∧
    u.dma.chans[ch].burst = some len ∧ u.dma.chans[ch].state = 4 ∧ u.dma.chans[ch].to_ len + len ≤ lpWindow ∧
    inLpddr (u.dma.chans[ch].from_ len) = true) ∧
  (∃ (dt : Nat) (ch : Fin 32) (len : Nat) (s : State) (u : State), u = s.ticked dt ∧ u.idlePorts ∧
    u.dma.chans[ch].burst = some len ∧ u.dma.chans[ch].state = 4 ∧ u.dma.chans[ch].to_ len + len ≤ lpWindow ∧
    inLpddr (u.dma.chans[ch].from_ len) = true ∧ len = u.dma.chans[ch].residue) ∧
  (∃ (dt : Nat) (ch : Fin 32) (s : State) (u : State) (since : Nat), u = s.ticked dt ∧ u.dma.chans[ch].waitAt = some since) ∧
  (∃ (dt : Nat) (ch : Fin 32) (s : State) (u : State), u = s.ticked dt ∧ u.dma.chans[ch].burst.isSome = true) ∧
  (∃ (dt : Nat) (ch : Fin 32) (s : State) (u : State), u = s.ticked dt ∧ u.dma.chans[ch].state = 6) := ⟨
  ⟨(5000000:Nat), (3 : Fin 32), boundTo 5, _, rfl, by decide +kernel⟩,
  ⟨(500000:Nat), (3 : Fin 32), lastBurst 0x1, _, rfl, by decide +kernel⟩,
  ⟨(5000000:Nat), (3 : Fin 32), up, _, rfl, by decide +kernel⟩,
  ⟨(5000000:Nat), (3 : Fin 32), chan up 3 (desc 0x1000 0x2000 64 1) fun x => { x with state := 6 }, _, rfl, by decide +kernel⟩,
  ⟨(5000000:Nat), (3 : Fin 32), up, _, rfl, by decide +kernel⟩,
  ⟨(500000:Nat), (3 : Fin 32), (64:Nat), lastBurst 0x1, _, rfl, by decide +kernel⟩,
  ⟨(500000:Nat), (3 : Fin 32), (64:Nat), lastBurst 0x1, _, rfl, by decide +kernel⟩,
  ⟨(50000:Nat), (3 : Fin 32), chan up 3 (desc 0x1000 0x2000 64 1) fun x => { x with state := 5, waitAt := some 0 }, _, (0:Nat), rfl, by decide +kernel⟩,
  ⟨(500000:Nat), (3 : Fin 32), lastBurst 0x1, _, rfl, by decide +kernel⟩,
  ⟨(5000000:Nat), (3 : Fin 32), chan up 3 (desc 0x1000 0x2000 64 1) fun x => { x with state := 6 }, _, rfl, by decide +kernel⟩⟩

theorem witness_BudgetAndDomains :
  (∃ (dt : Nat) (h : Hdr) (budget : Word) (s : State) (u : State), u = s.ticked dt ∧ u.runs h (Body.pwrBudget budget) ∧
    200 ≤ BitVec.toNat budget ∧ BitVec.toNat budget ≤ 1240 ∧ u.locked 3841 65535 = false ∧ u.openFor 3841 65535 = none ∧
    u.nvm.calWait = false) ∧
  (∃ (dt : Nat) (h : Hdr) (budget : Word) (s : State) (u : State), u = s.ticked dt ∧ u.runs h (Body.pwrBudget budget) ∧
    (BitVec.toNat budget < 200 ∨ 1240 < BitVec.toNat budget)) ∧
  (∃ (dt : Nat) (h : Hdr) (s : State) (u : State), u = s.ticked dt ∧ u.runs h Body.pwrStatus ∧ u.pwr.queue = []) ∧
  (∃ (dt : Nat) (h : Hdr) (d : Fin 22) (s : State) (u : State), u = s.ticked dt ∧
    u.runs h (Body.pwrDomain (BitVec.ofNat 8 (↑d : Nat)) 2) ∧ u.pwr.doms[d].state = DomState.on) ∧
  (∃ (dt : Nat) (h : Hdr) (d : Fin 22) (s : State) (u : State), u = s.ticked dt ∧
    u.runs h (Body.pwrDomain (BitVec.ofNat 8 (↑d : Nat)) 2) ∧ u.pwr.doms[d].state = DomState.off ∧ u.footed d = true ∧
    u.refuseLeave (onCost (↑d : Nat)) = none) ∧
  (∃ (dt : Nat) (h : Hdr) (d : Fin 22) (s : State) (u : State) (n : Nat), u = s.ticked dt ∧
    u.runs h (Body.pwrDomain (BitVec.ofNat 8 (↑d : Nat)) 1) ∧ u.idlePorts ∧ u.nvm.calWait = false ∧
    u.pwr.doms[d].state = DomState.on ∧ retainCost (↑d : Nat) = some n ∧ u.inUse_ d = false ∧
    u.carries_ d DomState.retain = false) ∧
  (∃ (dt : Nat) (h : Hdr) (d : Fin 22) (s : State) (u : State), u = s.ticked dt ∧
    u.runs h (Body.pwrDomain (BitVec.ofNat 8 (↑d : Nat)) 1) ∧ u.idlePorts ∧ u.nvm.calWait = false ∧
    u.pwr.doms[d].state = DomState.on ∧ (retainCost (↑d : Nat) = none ∨ u.inUse_ d = true)) ∧
  (∃ (dt : Nat) (h : Hdr) (d : Fin 22) (s : State) (u : State), u = s.ticked dt ∧
    u.runs h (Body.pwrDomain (BitVec.ofNat 8 (↑d : Nat)) 0) ∧ u.idlePorts ∧ u.nvm.calWait = false ∧
    u.pwr.doms[d].state = DomState.on ∧ u.inUse_ d = false ∧ u.carries_ d DomState.off = false) ∧
  (∃ (dt : Nat) (d : Fin 22) (s : State) (u : State), u = s.ticked dt ∧ u.pwr.doms[d].state = DomState.changing ∧
    u.footed d = true) ∧
  (∃ (dt : Nat) (d : Fin 22) (s : State) (u : State), u = s.ticked dt ∧
    (u.pwr.doms[d].state ≠ DomState.changing ∨ u.footed d = false)) := ⟨
  ⟨(0:Nat), hdr .p3, (700:Word), up, _, rfl, by decide +kernel⟩,
  ⟨(0:Nat), hdr .p3, (100:Word), up, _, rfl, by decide +kernel⟩,
  ⟨(0:Nat), hdr .p3, up, _, rfl, by decide +kernel⟩,
  ⟨(0:Nat), hdr .p3, (15 : Fin 22), up, _, rfl, by decide +kernel⟩,
  ⟨(0:Nat), hdr .p3, (15 : Fin 22), offDom up 15, _, rfl, by decide +kernel⟩,
  ⟨(0:Nat), hdr .p3, (15 : Fin 22), up, _, (2:Nat), rfl, by decide +kernel⟩,
  ⟨(0:Nat), hdr .p3, (21 : Fin 22), up, _, rfl, by decide +kernel⟩,
  ⟨(0:Nat), hdr .p3, (15 : Fin 22), up, _, rfl, by decide +kernel⟩,
  ⟨(90000:Nat), (15 : Fin 22), changing up 15, _, rfl, by decide +kernel⟩,
  ⟨(0:Nat), (15 : Fin 22), up, _, rfl, by decide +kernel⟩⟩

theorem witness_LeaveAndStandby :
  (∃ (dt : Nat) (r : LeaveReq) (s : State) (u : State), u = s.ticked dt ∧ u.pwr.queue = [r] ∧ u.nvm.calWait = false ∧
    r.limit = none ∧ r.cost + u.standingUnits ≤ u.budget ∧ u.grantedUnits + r.cost ≤ u.budget ∧ r.who = Requester.lanes ∧
    r.kind = 3) ∧
  (∃ (dt : Nat) (r : LeaveReq) (d : Fin 22) (s : State) (u : State), u = s.ticked dt ∧ u.pwr.queue = [r] ∧
    u.nvm.calWait = false ∧ r.limit = none ∧ r.cost + u.standingUnits ≤ u.budget ∧ u.grantedUnits + r.cost ≤ u.budget ∧
    r.who = Requester.domain d none ∧ r.kind = 1) ∧
  (∃ (dt : Nat) (r : LeaveReq) (s : State) (u : State), u = s.ticked dt ∧ u.pwr.queue = [r] ∧ u.nvm.calWait = false ∧
    r.limit = none ∧ r.cost + u.standingUnits ≤ u.budget ∧ u.budget < u.grantedUnits + r.cost) ∧
  (∃ (dt : Nat) (d : Fin 22) (s : State) (u : State), u = s.ticked dt ∧ u.pwr.doms[d].state = DomState.off ∧
    (u.asked fun w =>     match w with     | Requester.domain k port => k == d     | x => false) =   false ∧
    u.refuseLeave (onCost (↑d : Nat)) = none) ∧
  (∃ (dt : Nat) (d : Fin 22) (s : State) (u : State), u = s.ticked dt ∧ u.pwr.doms[d].state = DomState.on) ∧
  (∃ (dt : Nat) (s : State) (u : State), u = s.ticked dt ∧ u.linkU 0 1 = 0 ∧ u.nvm.calWait = false) ∧
  (∃ (dt : Nat) (r : LeaveReq) (s : State) (u : State) (c : Fin 64) (limit : Nat), u = s.ticked dt ∧ u.pwr.queue = [r] ∧
    r.who = Requester.move c ∧ r.limit = some limit ∧ limit ≤ u.now) ∧
  (∃ (dt : Nat) (r : LeaveReq) (s : State) (u : State) (c : Fin 64) (limit : Nat), u = s.ticked dt ∧ u.pwr.queue = [r] ∧
    r.who = Requester.move c ∧ r.limit = some limit ∧ u.now < limit) ∧
  (∃ (dt : Nat) (s : State) (u : State), u = s.ticked dt ∧ u.pwr.standbyAsked = true ∧ u.mgmtIdle = true) ∧
  (∃ (dt : Nat) (s : State) (u : State), u = s.ticked dt ∧ (u.pwr.standbyAsked = false ∨ u.mgmtIdle = false)) := ⟨
  ⟨(0:Nat), lanesReq, queued up [lanesReq], _, rfl, by decide +kernel⟩,
  ⟨(0:Nat), domReq, (15 : Fin 22), queued (offDom up 15) [domReq], _, rfl, by decide +kernel⟩,
  ⟨(0:Nat), lanesReq, queued (up.writeBoth 0x0F01 65535 0 [250, 0]) [lanesReq], _, rfl, by decide +kernel⟩,
  ⟨(0:Nat), (15 : Fin 22), offDom up 15, _, rfl, by decide +kernel⟩,
  ⟨(0:Nat), (15 : Fin 22), queued up [lanesReq], _, rfl, by decide +kernel⟩,
  ⟨(0:Nat), offDom up 15, _, rfl, by decide +kernel⟩,
  ⟨(100:Nat), moveReq, queued up [moveReq], _, (5 : Fin 64), (100:Nat), rfl, by decide +kernel⟩,
  ⟨(99:Nat), moveReq, queued up [moveReq], _, (5 : Fin 64), (100:Nat), rfl, by decide +kernel⟩,
  ⟨(100:Nat), { up with pwr := { up.pwr with standbyAsked := true } }, _, rfl, by decide +kernel⟩,
  ⟨(0:Nat), offDom up 15, _, rfl, by decide +kernel⟩⟩

theorem witness_WellheadAndPowerFailure :
  (∃ (dt : Nat) (s : State) (u : State) (i : Fin 24), u = s.ticked dt ∧
    (fun is_ => ∀ (r : Fin 32), ¬u.ruleU (↑r : Nat) 1 1 ∈ is_) [(↑i : Nat), 24, 25]) ∧
  (∃ (dt : Nat) (s : State) (u : State) (i : Fin 7), u = s.ticked dt ∧
    (fun is_ => ∀ (r : Fin 32), ¬u.ruleU (↑r : Nat) 1 1 ∈ is_) [32 + (↑i : Nat)]) ∧
  (∃ (dt : Nat) (s : State) (u : State), u = s.ticked dt ∧ (fun is_ => ∀ (r : Fin 32), ¬u.ruleU (↑r : Nat) 1 1 ∈ is_) [41]) ∧
  (∃ (dt : Nat) (s : State) (u : State) (r : Fin 32) (since : Nat), u = s.ticked dt ∧ u.ruleU (↑r : Nat) 0 1 = 1 ∧
    u.compares (↑r : Nat) 0 = true ∧ u.inputDead (u.ruleU (↑r : Nat) 1 1) = false ∧ u.wh.since[r] = some since ∧
    BitVec.getLsbD u.wh.active (↑r : Nat) = false ∧ u.ruleU (↑r : Nat) 3 1 = 1 ∧
    since + 400 * u.ruleU (↑r : Nat) 12 4 ≤ u.now ∧ u.ruleU (↑r : Nat) 10 1 ≤ 3) ∧
  (∃ (dt : Nat) (s : State) (u : State) (r : Fin 32) (since : Nat), u = s.ticked dt ∧ u.ruleU (↑r : Nat) 0 1 = 1 ∧
    u.compares (↑r : Nat) 0 = true ∧ u.inputDead (u.ruleU (↑r : Nat) 1 1) = false ∧ u.wh.since[r] = some since ∧
    BitVec.getLsbD u.wh.active (↑r : Nat) = false ∧ u.ruleU (↑r : Nat) 3 1 = 1 ∧
    u.now < since + 400 * u.ruleU (↑r : Nat) 12 4) ∧
  (∃ (dt : Nat) (s : State) (u : State), u = s.ticked dt ∧ (∀ (r : Fin 32), u.ruleU (↑r : Nat) 1 1 ≠ 40) ∧
    u.pwr.pfActive = false) ∧
  (∃ (dt : Nat) (s : State) (u : State), u = s.ticked dt ∧ (∀ (r : Fin 32), u.ruleU (↑r : Nat) 1 1 ≠ 40) ∧
    u.pwr.pfActive = true) := ⟨
  ⟨(0:Nat), noRules up, _, (3 : Fin 24), rfl, by decide +kernel⟩,
  ⟨(0:Nat), noRules { up with pwr := { up.pwr with pfActive := true, pfHold := true } }, _, (3 : Fin 7), rfl, by decide +kernel⟩,
  ⟨(0:Nat), noRules up, _, rfl, by decide +kernel⟩,
  ⟨(4000:Nat), rule up, _, (30 : Fin 32), (0 : Nat), rfl, by decide +kernel⟩,
  ⟨(3999:Nat), rule up, _, (30 : Fin 32), (0 : Nat), rfl, by decide +kernel⟩,
  ⟨(0:Nat), noRules up, _, rfl, by decide +kernel⟩,
  ⟨(0:Nat), noRules { up with pwr := { up.pwr with pfActive := true, pfHold := true } }, _, rfl, by decide +kernel⟩⟩

theorem witness_ResetsAndBoot :
  (∃ (dt : Nat) (b : BootRun) (s : State) (u : State), u = s.ticked dt ∧ b.lastStep = 0) ∧
  (∃ (b : BootRun), 9 ≤ b.lastStep) ∧
  (∃ (b : BootRun), b.lastStep ≤ 4) ∧
  (∃ (dt : Nat) (b : BootRun) (s : State) (u : State), u = s.ticked dt ∧ b.lastStep = 0 ∧ u.sys.cmdReady = false ∧
    u.pwr.standby = none ∧ u.sys.bootRef + 80000000 ≤ u.now) ∧
  (∃ (dt : Nat) (b : BootRun) (s : State) (u : State) (p : Port) (due : Nat), u = s.ticked dt ∧ b.lastStep = 0 ∧
    u.sys.resetDue = some (3, p, due) ∧ due ≤ u.now) ∧
  (∃ (dt : Nat) (s : State) (u : State), u = s.ticked dt ∧ (u.sys.cmdReady = true ∨ u.now < u.sys.bootRef + 80000000)) ∧
  (∃ (dt : Nat) (s : State) (u : State) (p : Port) (due : Nat), u = s.ticked dt ∧ u.sys.resetDue = some (0, p, due) ∧
    due ≤ u.now ∧ u.idlePorts ∧ (∀ (q : Port), q ∈ allPorts → (u.port q).intake = none) ∧
    (∀ (n : Fin 64), u.mb.sems[n] = 0) ∧ u.sys.factoryTest = false) ∧
  (∃ (dt : Nat) (s : State) (u : State), u = s.ticked dt ∧ u.sys.resetDue = none) := ⟨
  ⟨(0:Nat), bootTo 0, up, _, rfl, by decide +kernel⟩,
  ⟨bootTo 9, by decide +kernel⟩,
  ⟨bootTo 0, by decide +kernel⟩,
  ⟨(80000000:Nat), bootTo 0, trial State.reset, _, rfl, by decide +kernel⟩,
  ⟨(80:Nat), bootTo 0, due 3 up, _, Port.p3, (50:Nat), rfl, by decide +kernel⟩,
  ⟨(0:Nat), up, _, rfl, by decide +kernel⟩,
  ⟨(80:Nat), due 0 up, _, Port.p3, (50:Nat), rfl, by decide +kernel⟩,
  ⟨(0:Nat), up, _, rfl, by decide +kernel⟩⟩

theorem witness_WindowTransfers :
  (∃ (dt : Nat) (s : State) (u : State), u = s.ticked dt ∧ 3 ≤ u.win.maxWrite ∧ u.win.dynAddr.isSome = true) ∧
  (∃ (dt : Nat) (s : State) (u : State), u = s.ticked dt ∧ 3 ≤ u.win.maxWrite ∧ u.win.dynAddr.isSome = true ∧
    u.txFull = false) ∧
  (∃ (dt : Nat) (s : State) (u : State), u = s.ticked dt ∧ 3 ≤ u.win.maxWrite ∧ u.win.dynAddr.isSome = true ∧
    u.txFull = true) ∧
  (∃ (dt : Nat) (s : State) (u : State), u = s.ticked dt ∧ 3 ≤ u.win.maxWrite ∧ u.win.dynAddr.isSome = true ∧
    u.win.hdrDdr = true) ∧
  (∃ (dt : Nat) (s : State) (u : State) (code : Byte), u = s.ticked dt ∧ 3 ≤ u.win.maxWrite ∧
    u.win.dynAddr.isSome = true ∧ u.win.hdrDdr = true ∧ code ≠ 32) ∧
  (∃ (dt : Nat) (s : State) (u : State), u = s.ticked dt ∧ 3 ≤ u.win.maxWrite ∧ u.win.dynAddr = none) ∧
  (∃ (dt : Nat) (s : State) (u : State) (k : Fin 4), u = s.ticked dt ∧ u.win.dynAddr.isSome = true ∧ 4 ≤ u.win.maxRead ∧
    u.win.readPtr = 4 * (↑k : Nat)) ∧
  (∃ (dt : Nat) (s : State) (u : State) (k : Fin 4), u = s.ticked dt ∧ u.win.dynAddr.isSome = true ∧ 4 ≤ u.win.maxRead ∧
    u.win.readPtr = 4 * (↑k : Nat) ∧ u.win.hdrDdr = true) ∧
  (∃ (dt : Nat) (s : State) (u : State), u = s.ticked dt ∧ u.win.dynAddr.isSome = true ∧ 4 ≤ u.win.maxRead ∧
    u.rxFull = true ∧ (u.port Port.p0).outgoing = [] ∧ u.win.readPtr = 512 + replyLast (u.mbBytes 1 0) ∧
    replyLast (u.mbBytes 1 0) < 256) ∧
  (∃ (dt : Nat) (s : State) (u : State), u = s.ticked dt ∧ u.win.dynAddr.isSome = true ∧ 4 ≤ u.win.maxRead ∧
    u.rxFull = false ∧ u.win.readPtr = 512) ∧
  (∃ (dt : Nat) (s : State) (u : State) (code : Byte), u = s.ticked dt ∧ u.win.dynAddr.isSome = true ∧
    4 ≤ u.win.maxRead ∧ u.win.hdrDdr = true ∧ code ≠ 160) := ⟨
  ⟨(0:Nat), hdrMode (i3c (at_ up 4)), _, rfl, by decide +kernel⟩,
  ⟨(0:Nat), hdrMode (i3c (at_ up 4)), _, rfl, by decide +kernel⟩,
  ⟨(0:Nat), full (i3c (at_ up 0x200)) 0 [], _, rfl, by decide +kernel⟩,
  ⟨(0:Nat), hdrMode (i3c (at_ up 4)), _, rfl, by decide +kernel⟩,
  ⟨(0:Nat), hdrMode (i3c (at_ up 4)), _, (0x21 : Byte), rfl, by decide +kernel⟩,
  ⟨(0:Nat), up, _, rfl, by decide +kernel⟩,
  ⟨(0:Nat), hdrMode (i3c (at_ up 4)), _, (1 : Fin 4), rfl, by decide +kernel⟩,
  ⟨(0:Nat), hdrMode (i3c (at_ up 4)), _, (1 : Fin 4), rfl, by decide +kernel⟩,
  ⟨(0:Nat), full (i3c (at_ up 0x213)) 1 [1,2,0,0,3], _, rfl, by decide +kernel⟩,
  ⟨(0:Nat), full (i3c (at_ up 0x200)) 0 [], _, rfl, by decide +kernel⟩,
  ⟨(0:Nat), hdrMode (i3c (at_ up 4)), _, (0x21 : Byte), rfl, by decide +kernel⟩⟩

theorem witness_CommonCommandCodes :
  (∃ (dt : Nat) (s : State) (u : State), u = s.ticked dt ∧ u.win.dynAddr = none) ∧
  (∃ (dt : Nat) (static : BitVec 7) (s : State) (u : State), u = s.ticked dt ∧ u.win.dynAddr = none ∧
    static.toNat = 48 + u.sys.addrSel % 8) ∧
  (∃ (dt : Nat) (static : BitVec 7) (s : State) (u : State), u = s.ticked dt ∧ u.win.dynAddr = none ∧
    static.toNat ≠ 48 + u.sys.addrSel % 8) ∧
  (∃ (dt : Nat) (s : State) (u : State), u = s.ticked dt ∧ u.win.dynAddr.isSome = true) ∧
  (∃ (dt : Nat) (v : Half) (s : State) (u : State), u = s.ticked dt ∧ u.win.dynAddr.isSome = true ∧
    258 ≤ BitVec.toNat v ∧ BitVec.toNat v ≤ 1024) ∧
  (∃ (dt : Nat) (v : Half) (s : State) (u : State), u = s.ticked dt ∧ u.win.dynAddr.isSome = true ∧
    256 ≤ BitVec.toNat v ∧ BitVec.toNat v ≤ 1024) ∧
  (∃ (dt : Nat) (v : Half) (s : State) (u : State), u = s.ticked dt ∧ u.win.dynAddr.isSome = true ∧
    (BitVec.toNat v < 256 ∨ 1024 < BitVec.toNat v)) ∧
  (∃ (dt : Nat) (s : State) (u : State), u = s.ticked dt ∧ u.ev.notify = false ∧ u.ev.escalate = false ∧
    u.sys.faultLow = u.faultLevel ∧ u.win.ibiPending = true) ∧
  (∃ (dt : Nat) (s : State) (u : State), u = s.ticked dt ∧ u.ev.notify = false ∧ u.ev.escalate = false ∧
    u.sys.faultLow = u.faultLevel ∧ u.win.ibiPending = false) := ⟨
  ⟨(0:Nat), up, _, rfl, by decide +kernel⟩,
  ⟨(0:Nat), (0x30 : BitVec 7), up, _, rfl, by decide +kernel⟩,
  ⟨(0:Nat), (0x31 : BitVec 7), up, _, rfl, by decide +kernel⟩,
  ⟨(0:Nat), hdrMode (i3c up), _, rfl, by decide +kernel⟩,
  ⟨(0:Nat), (258 : Half), hdrMode (i3c { up with win := { up.win with ibiPending := true, cause := 5, protoError := true } }), _, rfl, by decide +kernel⟩,
  ⟨(0:Nat), (258 : Half), hdrMode (i3c { up with win := { up.win with ibiPending := true, cause := 5, protoError := true } }), _, rfl, by decide +kernel⟩,
  ⟨(0:Nat), (255 : Half), hdrMode (i3c up), _, rfl, by decide +kernel⟩,
  ⟨(0:Nat), hdrMode (i3c { up with win := { up.win with ibiPending := true, cause := 5, protoError := true } }), _, rfl, by decide +kernel⟩,
  ⟨(0:Nat), up, _, rfl, by decide +kernel⟩⟩

theorem witness_SlotsIntakesAndTheDoorbell :
  (∃ (dt : Nat) (i : Nat) (s : State) (u : State), u = s.ticked dt ∧ u.accepting = true ∧ u.win.hwWait = false ∧
    oldestSlot u.mb.chans[0] = some i ∧ (u.port Port.p0).intake = none) ∧
  (∃ (dt : Nat) (i : Nat) (s : State) (u : State), u = s.ticked dt ∧ u.accepting = true ∧
    oldestSlot u.mb.chans[2] = some i ∧ (u.port Port.p1).intake = none) ∧
  (∃ (dt : Nat) (p : Port) (h : Hdr) (s : State) (u : State), u = s.ticked dt ∧ u.accepting = true ∧
    (p = Port.p0 ∨ p = Port.p1 ∨ p = Port.p3) ∧ h.port = p ∧ h.mirror = none ∧ u.twin.state = TwinState.single ∧
    u.twin.mirrors = [] ∧ (∀ (q : Port), q ∈ allPorts → q ≠ p → (u.port q).intake = none) ∧
    (u.port p).intake = some (Inbound.parsed h (Body.sysReset 0)) ∧ u.portFree p = true ∧ (u.port p).kept = none ∧
    u.audit.staged.length < 24 ∧ u.checkCmd { h := h, body := Body.sysReset 0 : Cmd } = none) ∧
  (∃ (dt : Nat) (s : State) (u : State), u = s.ticked dt ∧ u.accepting = false) ∧
  (∃ (dt : Nat) (s : State) (u : State) (ch : Fin 10) (k : Fin 2), u = s.ticked dt ∧ outbound ch = true ∧
    (u.mb.chans[ch].slots.getD (↑k : Nat) { : Slot }).full = true ∧
    (u.mb.chans[ch].slots.getD (↑k : Nat) { : Slot }).timedOut = false ∧
    (u.mb.chans[ch].slots.getD (↑k : Nat) { : Slot }).since + u.mbTicks ≤ u.now) ∧
  (∃ (dt : Nat) (s : State) (u : State) (ch : Fin 10) (k : Fin 2), u = s.ticked dt ∧ outbound ch = true ∧
    (u.mb.chans[ch].slots.getD (↑k : Nat) { : Slot }).full = true ∧
    (u.mb.chans[ch].slots.getD (↑k : Nat) { : Slot }).timedOut = false ∧
    u.now < (u.mb.chans[ch].slots.getD (↑k : Nat) { : Slot }).since + u.mbTicks) ∧
  (∃ (dt : Nat) (x : Slot) (y : Slot) (s : State) (u : State), u = s.ticked dt ∧ u.mb.chans[0].slots = [x] ∧
    u.mb.chans[1].slots = [y] ∧ x.full = true) ∧
  (∃ (dt : Nat) (x : Slot) (y : Slot) (s : State) (u : State), u = s.ticked dt ∧ u.mb.chans[0].slots = [x] ∧
    u.mb.chans[1].slots = [y] ∧ x.full = false ∧ u.accepting = true) ∧
  (∃ (dt : Nat) (x : Slot) (y : Slot) (s : State) (u : State), u = s.ticked dt ∧ u.mb.chans[0].slots = [x] ∧
    u.mb.chans[1].slots = [y] ∧ x.full = false ∧ u.accepting = false ∧ y.full = false ∧ (u.port Port.p0).outgoing = []) ∧
  (∃ (dt : Nat) (x : Slot) (y : Slot) (s : State) (u : State), u = s.ticked dt ∧ u.mb.chans[0].slots = [x] ∧
    u.mb.chans[1].slots = [y] ∧ x.full = false ∧ u.accepting = false ∧ y.full = true) ∧
  (∃ (dt : Nat) (x : Slot) (y : Slot) (s : State) (u : State), u = s.ticked dt ∧ u.mb.chans[0].slots = [x] ∧
    u.mb.chans[1].slots = [y] ∧ u.win.hwWait = true ∧ u.accepting = false ∧ y.full = false) ∧
  (∃ (dt : Nat) (x : Slot) (y : Slot) (s : State) (u : State), u = s.ticked dt ∧ u.mb.chans[0].slots = [x] ∧
    u.mb.chans[1].slots = [y] ∧ u.win.hwWait = false) := ⟨
  ⟨(0:Nat), (0:Nat), full up 0 [9,1,0,0], _, rfl, by decide +kernel⟩,
  ⟨(0:Nat), (0:Nat), full up 2 [9,1,0,0], _, rfl, by decide +kernel⟩,
  ⟨(0:Nat), Port.p3, hdr .p3, up.setPort .p3 fun q => { q with intake := some (.parsed (hdr .p3) (.sysReset 0)) }, _, rfl, by decide +kernel⟩,
  ⟨(0:Nat), offCmd up, _, rfl, by decide +kernel⟩,
  ⟨(500000:Nat), offCmd (full up 1 [3]), _, (1 : Fin 10), (0 : Fin 2), rfl, by decide +kernel⟩,
  ⟨(0:Nat), offCmd (full up 1 [3]), _, (1 : Fin 10), (0 : Fin 2), rfl, by decide +kernel⟩,
  ⟨(0:Nat), ({ full := true, bytes := [9,1,0,0] } : Slot), mbSlot false, full up 0 [9,1,0,0], _, rfl, by decide +kernel⟩,
  ⟨(0:Nat), mbSlot false, mbSlot false, up, _, rfl, by decide +kernel⟩,
  ⟨(0:Nat), mbSlot false, mbSlot false, offCmd up, _, rfl, by decide +kernel⟩,
  ⟨(0:Nat), mbSlot false, ({ full := true, bytes := [3] } : Slot), offCmd (full up 1 [3]), _, rfl, by decide +kernel⟩,
  ⟨(0:Nat), mbSlot false, mbSlot false, { offCmd up with win := { up.win with hwWait := true } }, _, rfl, by decide +kernel⟩,
  ⟨(0:Nat), mbSlot false, mbSlot false, up, _, rfl, by decide +kernel⟩⟩

theorem witness_OutboundTimeouts :
  (∃ (dt : Nat) (ch : Fin 10) (k : Fin 2) (s : State) (u : State), u = s.ticked dt ∧
    (ch = 1 ∨ ch = 3 ∨ ch = 5 ∨ ch = 6 ∨ ch = 9) ∧ (u.mb.chans[ch].slots.getD (↑k : Nat) { : Slot }).full = true ∧
    (u.mb.chans[ch].slots.getD (↑k : Nat) { : Slot }).timedOut = false ∧ u.twin.mirrors = [] ∧
    (u.mb.chans[ch].slots.getD (↑k : Nat) { : Slot }).since + 400 * max 50 (BitVec.toNat u.mb.limit) < u.now) := ⟨(500000:Nat), (1 : Fin 10), (0 : Fin 2), full up 1 [3], _, rfl, by decide +kernel⟩

theorem witness_TemperatureReports :
  (∃ (dt : Nat) (mc : Fin 6) (s : State) (u : State), u = s.ticked dt ∧
    (u.mem.ctls[mc].state = 2 ∨ u.mem.ctls[mc].state = 3)) := ⟨(0:Nat), (2 : Fin 6), up.setMc 2 fun x => { x with state := 2 }, _, rfl, by decide +kernel⟩

theorem witness_SemaphoreReads :
  (∃ (dt : Nat) (owner : Byte) (n : Fin 64) (s : State) (u : State), u = s.ticked dt ∧ owner ≠ 0 ∧ u.mb.sems[n] = 0) ∧
  (∃ (dt : Nat) (owner : Byte) (n : Fin 64) (s : State) (u : State), u = s.ticked dt ∧ owner ≠ 0 ∧ u.mb.sems[n] ≠ 0) ∧
  (∃ (dt : Nat) (owner : Byte) (s : State) (u : State), u = s.ticked dt ∧ owner ≠ 0) := ⟨
  ⟨(0:Nat), (0x11 : Byte), (5 : Fin 64), up, _, rfl, by decide +kernel⟩,
  ⟨(0:Nat), (0x11 : Byte), (5 : Fin 64), { up with mb := { up.mb with sems := up.mb.sems.set 5 0x12 } }, _, rfl, by decide +kernel⟩,
  ⟨(0:Nat), (0x11 : Byte), up, _, rfl, by decide +kernel⟩⟩

theorem witness_SemaphoresHaveOneOwner :
  (∃ (dt : Nat) (owner : Byte) (n : Fin 64) (s : State) (u : State), u = s.ticked dt ∧ owner ≠ 0 ∧ u.mb.sems[n] = 0) ∧
  (∃ (dt : Nat) (n : Fin 64) (s : State) (u : State), u = s.ticked dt ∧ u.mb.sems[n] ≠ 0) ∧
  (∃ (dt : Nat) (owner : Byte) (n : Fin 64) (s : State) (u : State), u = s.ticked dt ∧ owner ≠ 0 ∧ u.mb.sems[n] = owner) ∧
  (∃ (dt : Nat) (owner : Byte) (n : Fin 64) (s : State) (u : State), u = s.ticked dt ∧ u.mb.sems[n] ≠ owner) := ⟨
  ⟨(0:Nat), (0x11 : Byte), (5 : Fin 64), up, _, rfl, by decide +kernel⟩,
  ⟨(0:Nat), (5 : Fin 64), { up with mb := { up.mb with sems := up.mb.sems.set 5 0x12 } }, _, rfl, by decide +kernel⟩,
  ⟨(0:Nat), (0x12 : Byte), (5 : Fin 64), { up with mb := { up.mb with sems := up.mb.sems.set 5 0x12 } }, _, rfl, by decide +kernel⟩,
  ⟨(0:Nat), (0x11 : Byte), (5 : Fin 64), up, _, rfl, by decide +kernel⟩⟩

theorem witness_TestPortScans :
  (∃ (dt : Nat) (s : State) (u : State), u = s.ticked dt ∧ u.jtag.ir ≠ 44) ∧
  (∃ (dt : Nat) (x : Slot) (y : Slot) (s : State) (u : State), u = s.ticked dt ∧ u.jtag.ir = 44 ∧ u.domOn 21 = true ∧
    u.mb.chans[8].slots = [x] ∧ u.mb.chans[9].slots = [y]) ∧
  (∃ (dt : Nat) (x : Slot) (y : Slot) (s : State) (u : State), u = s.ticked dt ∧ u.jtag.ir = 44 ∧ u.domOn 21 = true ∧
    u.mb.chans[8].slots = [x] ∧ u.mb.chans[9].slots = [y] ∧ x.full = false ∧ u.jtag.writePtr ≤ 252) ∧
  (∃ (dt : Nat) (x : Slot) (y : Slot) (s : State) (u : State), u = s.ticked dt ∧ u.jtag.ir = 44 ∧ u.domOn 21 = true ∧
    u.mb.chans[8].slots = [x] ∧ u.mb.chans[9].slots = [y] ∧ x.full = true) ∧
  (∃ (dt : Nat) (x : Slot) (y : Slot) (s : State) (u : State), u = s.ticked dt ∧ u.jtag.ir = 44 ∧ u.domOn 21 = true ∧
    u.mb.chans[8].slots = [x] ∧ u.mb.chans[9].slots = [y] ∧ y.full = true ∧ u.jtag.lastOp = 2 ∧
    u.jtag.readPtr + 4 ≤ replyLast y.bytes) ∧
  (∃ (dt : Nat) (x : Slot) (y : Slot) (s : State) (u : State), u = s.ticked dt ∧ u.jtag.ir = 44 ∧ u.domOn 21 = true ∧
    u.mb.chans[8].slots = [x] ∧ u.mb.chans[9].slots = [y] ∧ (u.port Port.p3).outgoing = []) ∧
  (∃ (dt : Nat) (x : Slot) (y : Slot) (s : State) (u : State), u = s.ticked dt ∧ u.jtag.ir = 44 ∧ u.domOn 21 = true ∧
    u.mb.chans[8].slots = [x] ∧ u.mb.chans[9].slots = [y] ∧ x.full = false ∧ u.accepting = true) := ⟨
  ⟨(0:Nat), up, _, rfl, by decide +kernel⟩,
  ⟨(0:Nat), mbSlot false, ({ full := true, bytes := [1] } : Slot), jt (full up 9 [1]), _, rfl, by decide +kernel⟩,
  ⟨(0:Nat), mbSlot false, ({ full := true, bytes := [1] } : Slot), jt (full up 9 [1]), _, rfl, by decide +kernel⟩,
  ⟨(0:Nat), ({ full := true, bytes := [1] } : Slot), ({ full := false, bytes := [] } : Slot), jt (full up 8 [1]), _, rfl, by decide +kernel⟩,
  ⟨(0:Nat), mbSlot false, ({ full := true, bytes := [1] } : Slot), jt (full up 9 [1]), _, rfl, by decide +kernel⟩,
  ⟨(0:Nat), mbSlot false, ({ full := true, bytes := [1] } : Slot), jt (full up 9 [1]), _, rfl, by decide +kernel⟩,
  ⟨(0:Nat), mbSlot false, ({ full := true, bytes := [1] } : Slot), jt (full up 9 [1]), _, rfl, by decide +kernel⟩⟩

theorem witness_MemoryWritesExactly :
  (∃ (d : Nat → Byte) (m : List Host.Cell), Memory.wf d m = true) ∧
  (∃ (d : Nat → Byte) (m : List Host.Cell) (vs : List Byte) (i : Nat), Memory.wf d m = true ∧ i < vs.length) ∧
  (∃ (d : Nat → Byte) (m : List Host.Cell) (a : Nat) (vs : List Byte) (b : Nat), Memory.wf d m = true ∧
    (b < a ∨ a + vs.length ≤ b)) := ⟨
  ⟨zeroByte, ([(3, 1), (5, 2)] : List Host.Cell), by decide +kernel⟩,
  ⟨zeroByte, ([(3, 1), (5, 2)] : List Host.Cell), ([7,0] : List Byte), (1:Nat), by decide +kernel⟩,
  ⟨zeroByte, ([(3, 1), (5, 2)] : List Host.Cell), (4:Nat), ([7,0] : List Byte), (3:Nat), by decide +kernel⟩⟩

theorem witness_PacketsRoundTrip :
  (∃ (b : Body), b.fits = true) := ⟨Body.regWrite 3 [1,2,3,4,5], by decide +kernel⟩

theorem witness_ShortPacketsAndUnmappedChannels :
  (∃ (dt : Nat) (port : Fin 32) (vc : Fin 32) (c : Fin 64) (s : State) (u : State), u = s.ticked dt ∧ u.hears port vc c ∧
    u.lineScan (↑c : Nat) = true ∧ u.ctxs[c].stopping = false ∧ u.twin.state = TwinState.single ∧
    u.ctxs[c].frameOpen = false ∧ u.ctxs[c].startAt < u.now) ∧
  (∃ (dt : Nat) (port : Fin 32) (vc : Fin 32) (c : Fin 64) (s : State) (u : State), u = s.ticked dt ∧ u.hears port vc c ∧
    u.lineScan (↑c : Nat) = true ∧ u.ctxs[c].stopping = false ∧ u.ctxs[c].frameOpen = true) ∧
  (∃ (dt : Nat) (port : Fin 32) (vc : Fin 32) (c : Fin 64) (s : State) (u : State), u = s.ticked dt ∧ u.hears port vc c ∧
    u.lineScan (↑c : Nat) = true ∧ u.ctxs[c].stopping = false ∧ u.ctxs[c].frameOpen = false) ∧
  (∃ (dt : Nat) (port : Fin 32) (vc : Fin 32) (c : Fin 64) (s : State) (u : State) (l : Half), u = s.ticked dt ∧
    u.hears port vc c ∧ u.lineScan (↑c : Nat) = true ∧ u.ctxs[c].stopping = false ∧ u.au 513 (↑c : Nat) 14 1 = 1 ∧
    u.ctxs[c].lastLn = some l) ∧
  (∃ (dt : Nat) (port : Fin 32) (vc : Fin 32) (c : Fin 64) (s : State) (u : State), u = s.ticked dt ∧ u.hears port vc c ∧
    u.lineScan (↑c : Nat) = true ∧ u.ctxs[c].stopping = false) ∧
  (∃ (dt : Nat) (port : Fin 32) (vc : Fin 32) (s : State) (u : State), u = s.ticked dt ∧ u.inletOn port = true ∧
    ((↑vc : Nat) < 16 → u.ctxAt (↑port : Nat) (↑vc : Nat) = none)) ∧
  (∃ (dt : Nat) (port : Fin 32) (vc : Fin 32) (s : State) (u : State) (d : Fin 64), u = s.ticked dt ∧
    u.inletOn port = true ∧ ((↑vc : Nat) < 16 → u.ctxAt (↑port : Nat) (↑vc : Nat) = none) ∧ (↑d : Nat) ≠ 16 ∧
    (↑d : Nat) ≠ 17) := ⟨
  ⟨(10:Nat), (3 : Fin 32), (1 : Fin 32), (5 : Fin 64), streaming false, _, rfl, by decide +kernel⟩,
  ⟨(10:Nat), (3 : Fin 32), (1 : Fin 32), (5 : Fin 64), streaming true, _, rfl, by decide +kernel⟩,
  ⟨(10:Nat), (3 : Fin 32), (1 : Fin 32), (5 : Fin 64), streaming false, _, rfl, by decide +kernel⟩,
  ⟨(10:Nat), (3 : Fin 32), (1 : Fin 32), (5 : Fin 64), streaming true, _, (3 : Half), rfl, by decide +kernel⟩,
  ⟨(10:Nat), (3 : Fin 32), (1 : Fin 32), (5 : Fin 64), streaming true, _, rfl, by decide +kernel⟩,
  ⟨(10:Nat), (3 : Fin 32), (2 : Fin 32), streaming true, _, rfl, by decide +kernel⟩,
  ⟨(10:Nat), (3 : Fin 32), (2 : Fin 32), streaming true, _, (0x12 : Fin 64), rfl, by decide +kernel⟩⟩

theorem witness_LinesEnterOrLeaveGaps :
  (∃ (dt : Nat) (port : Fin 32) (k : LinePacket) (s : State) (u : State), u = s.ticked dt ∧ u.inletOn port = true ∧
    u.inlets[port].deskewAsked = false ∧ (∀ (c : Fin 64), u.ctxs[c].stopping = false) ∧ k.sotGood = false) ∧
  (∃ (dt : Nat) (port : Fin 32) (k : LinePacket) (s : State) (u : State), u = s.ticked dt ∧ u.inletOn port = true ∧
    u.inlets[port].deskewAsked = false ∧ (∀ (c : Fin 64), u.ctxs[c].stopping = false) ∧ k.sotGood = true ∧
    (↑k.header : Nat) = 2) ∧
  (∃ (dt : Nat) (port : Fin 32) (c : Fin 64) (k : LinePacket) (s : State) (u : State), u = s.ticked dt ∧
    u.lineComes port c k ∧ k.crcGood = true ∧ u.fits port (packetBytes (u.au 513 (↑c : Nat) 12 2) (bitsPerPixel (u.au 513 (↑c : Nat) 3 1)) false) false = true) ∧
  (∃ (dt : Nat) (port : Fin 32) (c : Fin 64) (k : LinePacket) (s : State) (u : State), u = s.ticked dt ∧
    u.lineComes port c k ∧ k.crcGood = false ∧ u.fits port 32 true = true) ∧
  (∃ (dt : Nat) (port : Fin 32) (c : Fin 64) (k : LinePacket) (s : State) (u : State), u = s.ticked dt ∧
    u.lineComes port c k ∧ k.crcGood = true ∧ u.fits port (packetBytes (u.au 513 (↑c : Nat) 12 2) (bitsPerPixel (u.au 513 (↑c : Nat) 3 1)) false) false = false ∧ u.fits port 32 true = true) := ⟨
  ⟨(10:Nat), (3 : Fin 32), line 0 false false, streaming true, _, rfl, by decide +kernel⟩,
  ⟨(10:Nat), (3 : Fin 32), line 2 true false, streaming true, _, rfl, by decide +kernel⟩,
  ⟨(10:Nat), (3 : Fin 32), (5 : Fin 64), line 0 true true, streaming true, _, rfl, by decide +kernel⟩,
  ⟨(10:Nat), (3 : Fin 32), (5 : Fin 64), line 0 true false, streaming true, _, rfl, by decide +kernel⟩,
  ⟨(10:Nat), (3 : Fin 32), (5 : Fin 64), line 0 true true, full3 (streaming true) 260090, _, rfl, by decide +kernel⟩⟩

theorem witness_NonImagePacketsAndPortConditions :
  (∃ (dt : Nat) (port : Fin 32) (vc : Fin 32) (c : Fin 64) (d : Fin 64) (s : State) (u : State), u = s.ticked dt ∧
    u.hears port vc c ∧ (↑d : Nat) ≠ 16 ∧ (↑d : Nat) ≠ 17) ∧
  (∃ (dt : Nat) (port : Fin 32) (vc : Fin 32) (c : Fin 64) (d : Fin 64) (s : State) (u : State), u = s.ticked dt ∧
    u.hears port vc c ∧ (↑d : Nat) = 18 ∧ (u.au 513 (↑c : Nat) 15 1).testBit 0 = true ∧
    u.ctxs[c].buffer.frame = u.ctxs[c].frame ∧ u.ctxs[c].buffer.fn = u.ctxs[c].sensorFn) ∧
  (∃ (dt : Nat) (port : Fin 32) (vc : Fin 32) (c : Fin 64) (d : Fin 64) (s : State) (u : State), u = s.ticked dt ∧
    u.hears port vc c ∧ ((↑d : Nat) = 16 ∨ (↑d : Nat) = 17)) ∧
  (∃ (dt : Nat) (port : Fin 32) (s : State) (u : State), u = s.ticked dt ∧ u.inletOn port = true ∧
    u.au 515 (↑port : Nat) 0 1 = 1) ∧
  (∃ (dt : Nat) (port : Fin 32) (s : State) (u : State) (c : Fin 64), u = s.ticked dt ∧ u.inlets[port].deskew ≠ 2 ∧
    u.portContext port = some c ∧ u.au 515 (↑port : Nat) 3 1 ≠ 0 ∧ u.prof (↑c : Nat) 27 1 ≠ 0 ∧ u.streams c = true ∧
    u.lineScan (↑c : Nat) = true) ∧
  (∃ (dt : Nat) (port : Fin 32) (s : State) (u : State) (lanes : BitVec 4), u = s.ticked dt ∧ u.inletOn port = true ∧
    lanes &&& u.laneMask port ≠ 0) ∧
  (∃ (dt : Nat) (port : Fin 32) (s : State) (u : State), u = s.ticked dt ∧ u.inletOn port = true) ∧
  (∃ (dt : Nat) (port : Fin 32) (s : State) (u : State), u = s.ticked dt ∧ u.inlets[port].ulps = true) := ⟨
  ⟨(10:Nat), (3 : Fin 32), (1 : Fin 32), (5 : Fin 64), (0x12 : Fin 64), streaming true, _, rfl, by decide +kernel⟩,
  ⟨(10:Nat), (3 : Fin 32), (1 : Fin 32), (5 : Fin 64), (0x12 : Fin 64), streaming true, _, rfl, by decide +kernel⟩,
  ⟨(10:Nat), (3 : Fin 32), (1 : Fin 32), (5 : Fin 64), (0x10 : Fin 64), (streaming true).setInlet 3 fun x => { x with ulps := true }, _, rfl, by decide +kernel⟩,
  ⟨(10:Nat), (3 : Fin 32), streaming true, _, rfl, by decide +kernel⟩,
  ⟨(10:Nat), (3 : Fin 32), (streaming true).writeBoth 0x0202 0 27 [1], _, (5 : Fin 64), rfl, by decide +kernel⟩,
  ⟨(10:Nat), (3 : Fin 32), streaming true, _, (2 : BitVec 4), rfl, by decide +kernel⟩,
  ⟨(10:Nat), (3 : Fin 32), streaming true, _, rfl, by decide +kernel⟩,
  ⟨(10:Nat), (3 : Fin 32), (streaming true).setInlet 3 fun x => { x with ulps := true }, _, rfl, by decide +kernel⟩⟩

theorem witness_WaitingGapsAndSweeps :
  (∃ (dt : Nat) (port : Fin 32) (g : LineTag) (s : State) (u : State), u = s.ticked dt ∧ u.inlets[port].waiting = [g] ∧
    g.gap = true ∧ u.fits port 32 true = true) ∧
  (∃ (dt : Nat) (port : Fin 32) (s : State) (u : State), u = s.ticked dt ∧ u.fits port 32 true = false) ∧
  (∃ (dt : Nat) (c : Fin 64) (s : State) (u : State), u = s.ticked dt ∧ u.streams c = true ∧ u.ctxs[c].noData = false ∧
    u.au 513 (↑c : Nat) 16 4 ≠ 0 ∧ u.ctxs[c].lineAt + 400 * u.au 513 (↑c : Nat) 16 4 ≤ u.now ∧ u.portOf (↑c : Nat) < 32) ∧
  (∃ (dt : Nat) (c : Fin 64) (s : State) (u : State), u = s.ticked dt ∧
    u.now < u.ctxs[c].lineAt + 400 * u.au 513 (↑c : Nat) 16 4) ∧
  (∃ (dt : Nat) (port : Fin 32) (taps : List Nat) (eyes : List Nat) (s : State) (u : State), u = s.ticked dt ∧
    u.inlets[port].deskew = 2 ∧ u.nvm.runs_ = [] ∧ u.sweepGood port taps eyes (Config.freeMeasure u.freeCtr % 1024) = true) ∧
  (∃ (dt : Nat) (port : Fin 32) (taps : List Nat) (eyes : List Nat) (s : State) (u : State), u = s.ticked dt ∧
    u.inlets[port].deskew = 2 ∧ u.nvm.runs_ = [] ∧ u.sweepGood port taps eyes (Config.freeMeasure u.freeCtr % 1024) = false) := ⟨
  ⟨(4000:Nat), (3 : Fin 32), gapTag, waits (streaming true), _, rfl, by decide +kernel⟩,
  ⟨(3999:Nat), (3 : Fin 32), full3 (waits (streaming true)) 262140, _, rfl, by decide +kernel⟩,
  ⟨(4000:Nat), (5 : Fin 64), waits (streaming true), _, rfl, by decide +kernel⟩,
  ⟨(3999:Nat), (5 : Fin 64), full3 (waits (streaming true)) 262140, _, rfl, by decide +kernel⟩,
  ⟨(3999:Nat), (3 : Fin 32), ([10,11] : List Nat), ([400,401] : List Nat), startTaps (sweeping (streaming true)), _, rfl, by decide +kernel, by decide +kernel, by
    simp only [State.sweepGood, Bool.and_eq_true, decide_eq_true_eq]
    exact ⟨⟨by decide +kernel, Nat.le_trans (Nat.le_of_lt_succ (Nat.mod_lt (Config.freeMeasure _) (show 1024 > 0 by decide))) (by decide +kernel)⟩, by decide +kernel⟩⟩,
  ⟨(3999:Nat), (3 : Fin 32), ([10,11] : List Nat), ([200,401] : List Nat), startTaps (sweeping (streaming true)), _, rfl, by decide +kernel, by decide +kernel, by
    simp only [State.sweepGood, Bool.and_eq_false_iff]
    exact .inl (.inl (by decide +kernel))⟩⟩

theorem witness_RefusedCommandChangesNothing :
  (∃ (dt : Nat) (h : Hdr) (b : Body) (i : Instr) (st : Nat) (d : Nat) (s : State) (u : State), u = s.ticked dt ∧
    Body.row dt h b = some i ∧ u.takes h ∧ u.checkCmd { h := h, body := b : Cmd } = some (st, d)) := ⟨(10:Nat), hdr .p1, (.testBist 1 : Body), (.testBist 10 (hdr .p1) 1 : Instr), (4:Nat), (0:Nat), up, _, rfl, by decide +kernel⟩

theorem witness_CommandsReachTheirPort :
  (∃ (dt : Nat) (h : Hdr) (b : Body) (i : Instr) (k : Kept) (s : State) (u : State), u = s.ticked dt ∧
    Body.row dt h b = some i ∧ (h.port = Port.p0 ∨ h.port = Port.p1 ∨ h.port = Port.p3) ∧ u.accepting = true ∧
    (u.port h.port).intake = none ∧ u.portFree h.port = true ∧ u.audit.staged.length < 32 ∧
    (u.port h.port).kept = some k ∧ k.seq = h.seq ∧ k.check = h.check ∧ k.status ≠ 1) ∧
  (∃ (dt : Nat) (h : Hdr) (b : Body) (i : Instr) (s : State) (u : State) (j : Nat), u = s.ticked dt ∧
    Body.row dt h b = some i ∧ (h.port = Port.p0 ∨ h.port = Port.p1 ∨ h.port = Port.p3) ∧ h.mirror = none ∧
    u.accepting = false ∧ freeSlot u.mb.chans[h.port.outChan] = some j) ∧
  (∃ (dt : Nat) (h : Hdr) (b : Body) (i : Instr) (s : State) (u : State), u = s.ticked dt ∧ Body.row dt h b = some i ∧
    (h.port = Port.p0 ∨ h.port = Port.p1 ∨ h.port = Port.p3) ∧ h.mirror = none ∧ u.accepting = true ∧
    (u.port h.port).intake = none ∧ u.portFree h.port = false) ∧
  (∃ (dt : Nat) (h : Hdr) (b : Body) (i : Instr) (s : State) (u : State), u = s.ticked dt ∧ Body.row dt h b = some i ∧
    (h.port = Port.p0 ∨ h.port = Port.p1 ∨ h.port = Port.p3) ∧ h.mirror = none ∧ u.accepting = true ∧
    (u.port h.port).intake.isSome = true) ∧
  (∃ (dt : Nat) (h : Hdr) (b : Body) (i : Instr) (s : State) (u : State), u = s.ticked dt ∧ Body.row dt h b = some i ∧
    (h.port = Port.p0 ∨ h.port = Port.p1 ∨ h.port = Port.p3) ∧ h.mirror = none ∧ u.accepting = true ∧
    (u.port h.port).intake = none ∧ u.portFree h.port = true ∧ (u.port h.port).kept = none ∧
    u.checkCmd { h := h, body := b : Cmd } = none ∧ b.readOnly = false ∧ 24 ≤ u.audit.staged.length) := ⟨
  ⟨(10:Nat), hdr .p0, (.sysInfo : Body), (.sysInfo 10 (hdr .p0) : Instr), ({ seq := 7, check := 5, status := 0, bytes := replyBytes 1 7 0 0 0 0 0 [] } : Kept), keptS up, _, rfl, by decide +kernel⟩,
  ⟨(10:Nat), hdr .p0, (.sysInfo : Body), (.sysInfo 10 (hdr .p0) : Instr), State.reset, _, (0 : Nat), rfl, by decide +kernel⟩,
  ⟨(10:Nat), hdr .p0, (.sysInfo : Body), (.sysInfo 10 (hdr .p0) : Instr), busyP0 up, _, rfl, by decide +kernel⟩,
  ⟨(10:Nat), hdr .p0, (.sysInfo : Body), (.sysInfo 10 (hdr .p0) : Instr), intakeP0 up, _, rfl, by decide +kernel⟩,
  ⟨(10:Nat), hdr .p0, (.sysReset 0 : Body), (.sysReset 10 (hdr .p0) 0 : Instr), full24 up, _, rfl, by decide +kernel⟩⟩

theorem witness_SystemCommandsAndReads :
  (∃ (dt : Nat) (h : Hdr) (s : State) (u : State), u = s.ticked dt ∧ u.runs h Body.sysInfo) ∧
  (∃ (dt : Nat) (h : Hdr) (s : State) (u : State) (scope : Word), u = s.ticked dt ∧ u.runs h (Body.sysReset scope) ∧
    (scope = 0 ∨ scope = 1)) ∧
  (∃ (dt : Nat) (h : Hdr) (s : State) (u : State) (scope : Word), u = s.ticked dt ∧ u.runs h (Body.sysReset scope) ∧
    scope ≠ 0 ∧ scope ≠ 1) ∧
  (∃ (dt : Nat) (h : Hdr) (offset : Word) (count : Word) (s : State) (u : State), u = s.ticked dt ∧
    u.runs h (Body.regRead offset count) ∧ badOffset offset (BitVec.toNat count) = true) ∧
  (∃ (dt : Nat) (h : Hdr) (offset : Word) (count : Word) (s : State) (u : State), u = s.ticked dt ∧
    u.runs h (Body.regRead offset count) ∧ badOffset offset (BitVec.toNat count) = false ∧
    (count = 0 ∨ 32 < BitVec.toNat count)) ∧
  (∃ (dt : Nat) (h : Hdr) (offset : Word) (count : Word) (s : State) (u : State), u = s.ticked dt ∧
    u.runs h (Body.regRead offset count) ∧ badOffset offset (BitVec.toNat count) = false ∧ 1 ≤ BitVec.toNat count ∧
    BitVec.toNat count ≤ 32 ∧ ((h.port = Port.p0 ∨ h.port = Port.p1) ∧ BitVec.toNat offset / 2 ^ 20 = 56 ∧
    touchesFirmwareSem (BitVec.toNat offset % 2 ^ 20) (BitVec.toNat count) = true)) ∧
  (∃ (dt : Nat) (h : Hdr) (offset : Word) (count : Word) (s : State) (u : State), u = s.ticked dt ∧
    u.runs h (Body.regRead offset count) ∧ badOffset offset (BitVec.toNat count) = false ∧ 1 ≤ BitVec.toNat count ∧
    BitVec.toNat count ≤ 32 ∧ ¬((h.port = Port.p0 ∨ h.port = Port.p1) ∧ BitVec.toNat offset / 2 ^ 20 = 56 ∧
    touchesFirmwareSem (BitVec.toNat offset % 2 ^ 20) (BitVec.toNat count) = true)) := ⟨
  ⟨(10:Nat), hdr .p0, up, _, rfl, by decide +kernel⟩,
  ⟨(10:Nat), hdr .p0, up, _, (0:Word), rfl, by decide +kernel⟩,
  ⟨(10:Nat), hdr .p0, up, _, (7:Word), rfl, by decide +kernel⟩,
  ⟨(10:Nat), hdr .p0, (0x03400102:Word), (2:Word), up, _, rfl, by decide +kernel⟩,
  ⟨(10:Nat), hdr .p0, (0x03400100:Word), (0:Word), up, _, rfl, by decide +kernel⟩,
  ⟨(10:Nat), hdr .p0, (0x0380013C:Word), (2:Word), up, _, rfl, by decide +kernel⟩,
  ⟨(10:Nat), hdr .p0, (0x03400100:Word), (2:Word), up, _, rfl, by decide +kernel⟩⟩

theorem witness_RegisterWrites :
  (∃ (dt : Nat) (h : Hdr) (offset : Word) (v : Word) (s : State) (u : State), u = s.ticked dt ∧
    u.runs h (Body.regWrite offset [v]) ∧ badOffset offset 1 = false ∧
    firmwareOnly (BitVec.toNat offset / 2 ^ 20) (BitVec.toNat offset % 2 ^ 20) [v] = true ∧
    (h.port = Port.p3 → u.sys.factoryTest = false)) ∧
  (∃ (dt : Nat) (h : Hdr) (offset : Word) (v : Word) (s : State) (u : State), u = s.ticked dt ∧
    u.runs h (Body.regWrite offset [v]) ∧ badOffset offset 1 = false ∧
    (BitVec.toNat offset / 2 ^ 20 = 53 ∨ BitVec.toNat offset / 2 ^ 20 = 54 ∨ BitVec.toNat offset / 2 ^ 20 = 55) ∧
    BitVec.toNat offset % 2 ^ 20 ≠ 3840) ∧
  (∃ (dt : Nat) (h : Hdr) (offset : Word) (v : Word) (s : State) (u : State), u = s.ticked dt ∧
    u.runs h (Body.regWrite offset [v]) ∧ badOffset offset 1 = false ∧ BitVec.toNat offset / 2 ^ 20 = 50 ∧
    BitVec.toNat offset % 2 ^ 20 = 260) ∧
  (∃ (dt : Nat) (h : Hdr) (offset : Word) (v : Word) (s : State) (u : State) (p : Fin 32), u = s.ticked dt ∧
    u.runs h (Body.regWrite offset [v]) ∧ badOffset offset 1 = false ∧ BitVec.toNat offset / 2 ^ 20 = (↑p : Nat) ∧
    BitVec.toNat offset % 2 ^ 20 = 12 ∧ v = 2) ∧
  (∃ (dt : Nat) (offset : Word) (s : State) (u : State), u = s.ticked dt ∧ badOffset offset 1 = true) ∧
  (∃ (dt : Nat) (offset : Word) (s : State) (u : State) (q : Fin 43), u = s.ticked dt ∧ badOffset offset 1 = false ∧
    BitVec.toNat offset / 2 ^ 20 = 57 ∧ BitVec.toNat offset % 2 ^ 20 = 1024 + 4 * (↑q : Nat)) ∧
  (∃ (dt : Nat) (offset : Word) (s : State) (u : State), u = s.ticked dt ∧ badOffset offset 1 = false ∧
    BitVec.toNat offset / 2 ^ 20 = 52 ∧ BitVec.toNat offset % 2 ^ 20 = 256) ∧
  (∃ (dt : Nat) (offset : Word) (s : State) (u : State), u = s.ticked dt ∧ badOffset offset 1 = false ∧
    BitVec.toNat offset / 2 ^ 20 = 47 ∧ BitVec.toNat offset % 2 ^ 20 = 12) := ⟨
  ⟨(10:Nat), hdr .p3, (0x03800304:Word), (0x20005:Word), up, _, rfl, by decide +kernel⟩,
  ⟨(10:Nat), hdr .p0, (0x03500000:Word), (0x80:Word), up, _, rfl, by decide +kernel⟩,
  ⟨(10:Nat), hdr .p0, (0x03200104:Word), (0x80:Word), up, _, rfl, by decide +kernel⟩,
  ⟨(10:Nat), hdr .p0, (0x0030000C:Word), (2:Word), up, _, (3 : Fin 32), rfl, by decide +kernel⟩,
  ⟨(10:Nat), (0x02F0000D:Word), up, _, rfl, by decide +kernel⟩,
  ⟨(10:Nat), (0x03900404:Word), up, _, (1 : Fin 43), rfl, by decide +kernel⟩,
  ⟨(10:Nat), (0x03400100:Word), up, _, rfl, by decide +kernel⟩,
  ⟨(10:Nat), (0x02F0000C:Word), up, _, rfl, by decide +kernel⟩⟩

theorem witness_RecordCopies :
  (∃ (dt : Nat) (h : Hdr) (id : Half) (inst : Half) (off : Word) (first : Bool) (last : Bool) (data : List Byte) (s : State) (u : State), u = s.ticked dt ∧ u.runs h (Body.recWrite id inst off first last data) ∧ u.writable h.port (BitVec.toNat id) (BitVec.toNat inst) (BitVec.toNat off) first data ∧ badField (fieldsOf (BitVec.toNat id) (BitVec.toNat inst)) (BitVec.toNat off) data data.length = none) ∧
  (∃ (dt : Nat) (h : Hdr) (id : Half) (inst : Half) (off : Word) (first : Bool) (last : Bool) (data : List Byte) (s : State) (u : State) (a : Nat), u = s.ticked dt ∧ u.runs h (Body.recWrite id inst off first last data) ∧ u.writable h.port (BitVec.toNat id) (BitVec.toNat inst) (BitVec.toNat off) first data ∧ badField (fieldsOf (BitVec.toNat id) (BitVec.toNat inst)) (BitVec.toNat off) data data.length = some a) ∧
  (∃ (dt : Nat) (h : Hdr) (id : Half) (inst : Half) (off : Word) (count : Word) (s : State) (u : State), u = s.ticked dt ∧ u.runs h (Body.recRead id inst off count) ∧ id ≠ 774 ∧ recExists (BitVec.toNat id) (BitVec.toNat inst) = true ∧ 4 ≤ BitVec.toNat count ∧ BitVec.toNat count ≤ 224 ∧ BitVec.toNat count % 4 = 0 ∧ BitVec.toNat off % 4 = 0 ∧ BitVec.toNat off + BitVec.toNat count ≤ recSize (BitVec.toNat id)) ∧
  (∃ (dt : Nat) (h : Hdr) (id : Half) (inst : Half) (off : Word) (count : Word) (s : State) (u : State), u = s.ticked dt ∧ u.runs h (Body.recRead id inst off count) ∧ id ≠ 774 ∧ recExists (BitVec.toNat id) (BitVec.toNat inst) = true ∧ 4 ≤ BitVec.toNat count ∧ BitVec.toNat count ≤ 224 ∧ BitVec.toNat count % 4 = 0 ∧ (BitVec.toNat off % 4 ≠ 0 ∨ recSize (BitVec.toNat id) < BitVec.toNat off + BitVec.toNat count)) := ⟨
  ⟨(10:Nat), hdr .p0, (0x0201:Half), (5:Half), (8:Word), true, true, ([16,0,0,0] : List Byte), camera, _, rfl, by decide +kernel⟩,
  ⟨(10:Nat), hdr .p0, (0x0201:Half), (5:Half), (0:Word), true, false, ([1,99,1,0x2A] : List Byte), camera, _, (1:Nat), rfl, by decide +kernel⟩,
  ⟨(10:Nat), hdr .p0, (0x0201:Half), (5:Half), (8:Word), (8:Word), camera, _, rfl, by decide +kernel⟩,
  ⟨(10:Nat), { hdr .p1 with active := true }, (0x0201:Half), (5:Half), (2:Word), (8:Word), camera, _, rfl, by decide +kernel⟩⟩

theorem witness_RecordsBecomeActive :
  (∃ (dt : Nat) (h : Hdr) (kind : Byte) (ctx : Half) (boundary : Word) (pairs : List (Half × Half)) (s : State) (u : State), u = s.ticked dt ∧ u.runs h (Body.recApply kind ctx boundary pairs) ∧ u.applies (BitVec.toNat kind) (BitVec.toNat ctx) (List.map (fun p => (BitVec.toNat p.fst, BitVec.toNat p.snd)) pairs) ∧ kind = 0 ∧ u.inconsistent { old := u.recs.active, new := activated u.recs (List.map (fun p => (BitVec.toNat p.fst, BitVec.toNat p.snd)) pairs), pairs := List.map (fun p => (BitVec.toNat p.fst, BitVec.toNat p.snd)) pairs : Change } = none ∧ { old := u.recs.active, new := activated u.recs (List.map (fun p => (BitVec.toNat p.fst, BitVec.toNat p.snd)) pairs), pairs := List.map (fun p => (BitVec.toNat p.fst, BitVec.toNat p.snd)) pairs : Change }.retrains = false ∧ u.applyHeld (List.map (fun p => (BitVec.toNat p.fst, BitVec.toNat p.snd)) pairs) = false) ∧
  (∃ (dt : Nat) (h : Hdr) (kind : Byte) (ctx : Half) (boundary : Word) (pairs : List (Half × Half)) (s : State) (u : State), u = s.ticked dt ∧ u.runs h (Body.recApply kind ctx boundary pairs) ∧ u.applies (BitVec.toNat kind) (BitVec.toNat ctx) (List.map (fun p => (BitVec.toNat p.fst, BitVec.toNat p.snd)) pairs) ∧ kind = 1 ∧ u.inconsistent { old := u.recs.active, new := activated u.recs (List.map (fun p => (BitVec.toNat p.fst, BitVec.toNat p.snd)) pairs), pairs := List.map (fun p => (BitVec.toNat p.fst, BitVec.toNat p.snd)) pairs : Change } = none ∧ (u.rowBoundary boundary (List.map (fun p => (BitVec.toNat p.fst, BitVec.toNat p.snd)) pairs)).snd = false) ∧
  (∃ (dt : Nat) (h : Hdr) (kind : Byte) (ctx : Half) (boundary : Word) (pairs : List (Half × Half)) (s : State) (u : State), u = s.ticked dt ∧ u.runs h (Body.recApply kind ctx boundary pairs) ∧ u.applies (BitVec.toNat kind) (BitVec.toNat ctx) (List.map (fun p => (BitVec.toNat p.fst, BitVec.toNat p.snd)) pairs) ∧ kind = 2 ∧ u.inconsistent { old := u.recs.active, new := activated u.recs (List.map (fun p => (BitVec.toNat p.fst, BitVec.toNat p.snd)) pairs), pairs := List.map (fun p => (BitVec.toNat p.fst, BitVec.toNat p.snd)) pairs : Change } = none ∧ (u.frameBoundary (BitVec.toNat ctx) boundary).snd = false) ∧
  (∃ (dt : Nat) (h : Hdr) (kind : Byte) (ctx : Half) (boundary : Word) (pairs : List (Half × Half)) (s : State) (u : State) (off : Nat), u = s.ticked dt ∧ u.runs h (Body.recApply kind ctx boundary pairs) ∧ u.applies (BitVec.toNat kind) (BitVec.toNat ctx) (List.map (fun p => (BitVec.toNat p.fst, BitVec.toNat p.snd)) pairs) ∧ u.inconsistent { old := u.recs.active, new := activated u.recs (List.map (fun p => (BitVec.toNat p.fst, BitVec.toNat p.snd)) pairs), pairs := List.map (fun p => (BitVec.toNat p.fst, BitVec.toNat p.snd)) pairs : Change } = some off) ∧
  (∃ (dt : Nat) (s : State) (u : State), u = s.ticked dt ∧ u.grid.valid = true ∧ u.tref (u.grid.row + 1) ≤ u.clock.ext ∧
    u.recs.scheduled = [] ∧ u.recs.rows = [] ∧ u.cf.state = 0) ∧
  (∃ (dt : Nat) (s : State) (u : State), u = s.ticked dt ∧ u.clock.ext < u.tref (u.grid.row + 1)) := ⟨
  ⟨(10:Nat), hdr .p0, (0:Byte), (5:Half), (0:Word), ([(0x0201, 5)] : List (Half × Half)), change 0x0201 5 8 [99] camera, _, rfl, by decide +kernel⟩,
  ⟨(10:Nat), hdr .p0, (1:Byte), (0:Half), (6:Word), ([(0x0704, 5)] : List (Half × Half)), gridOn camera, _, rfl, by decide +kernel⟩,
  ⟨(10:Nat), hdr .p0, (2:Byte), (5:Half), (0:Word), ([(0x0201, 5)] : List (Half × Half)), change 0x0201 5 14 [0] (streaming true), _, rfl, by decide +kernel⟩,
  ⟨(10:Nat), hdr .p0, (0:Byte), (5:Half), (0:Word), ([(0x0201, 5)] : List (Half × Half)), change 0x0201 5 12 [99] camera, _, (24 : Nat), rfl, by decide +kernel⟩,
  ⟨(40000000:Nat), gridOn { camera with recs := { camera.recs with opens := [{ id := 0x201, inst := 5, port := .p0, at_ := 0 }] } }, _, rfl, by decide +kernel⟩,
  ⟨(10:Nat), gridOn camera, _, rfl, by decide +kernel⟩⟩

theorem witness_StreamsStart :
  (∃ (dt : Nat) (h : Hdr) (s : State) (u : State), u = s.ticked dt ∧ u.takes h ∧ h.port = Port.p0 ∧
    h.epochCheck = false ∧ u.win.dynAddr = none) ∧
  (∃ (dt : Nat) (h : Hdr) (mask : Wide) (s : State) (u : State), u = s.ticked dt ∧ u.runs h (Body.streamStart mask) ∧
    (mask = 0 ∨ ((maskCtxs mask).any fun x => !u.ctxEnabled (↑x : Nat)) = true)) ∧
  (∃ (dt : Nat) (h : Hdr) (mask : Wide) (s : State) (u : State), u = s.ticked dt ∧ u.runs h (Body.streamStart mask) ∧
    mask ≠ 0 ∧ (∀ (x : Fin 64), x ∈ maskCtxs mask → u.ctxEnabled (↑x : Nat) = true ∧ u.streams x = true)) ∧
  (∃ (dt : Nat) (h : Hdr) (mask : Wide) (c : Fin 64) (s : State) (u : State), u = s.ticked dt ∧
    u.runs h (Body.streamStart mask) ∧ mask = 1#64 <<< (↑c : Nat) ∧ u.ctxEnabled (↑c : Nat) = true ∧
    u.streams c = false ∧ u.twinPair = false ∧ u.refuseLeave (u.contextCost c) = none) ∧
  (∃ (dt : Nat) (p : Port) (r : Running) (mask : Wide) (m : Wide) (at_ : Int) (s : State) (u : State), u = s.ticked dt ∧
    (u.port p).running = some r ∧ r.wait = Waiting.streamTick mask at_ ∧ r.body = Body.streamStart m ∧
    (∀ (q : Port), q ∈ allPorts → q ≠ p → (u.port q).running = none) ∧ at_ ≤ u.clock.ext ∧
    (∀ (x : Fin 64), x ∈ maskCtxs mask → u.lineScan (↑x : Nat) = true)) ∧
  (∃ (dt : Nat) (p : Port) (r : Running) (mask : Wide) (m : Wide) (at_ : Int) (s : State) (u : State), u = s.ticked dt ∧
    (u.port p).running = some r ∧ r.wait = Waiting.streamTick mask at_ ∧ r.body = Body.streamStart m ∧
    (∀ (q : Port), q ∈ allPorts → q ≠ p → (u.port q).running = none) ∧ u.clock.ext < at_) := ⟨
  ⟨(10:Nat), hdr .p0, camera, _, rfl, by decide +kernel⟩,
  ⟨(10:Nat), hdr .p1, (0:Wide), camera, _, rfl, by decide +kernel⟩,
  ⟨(10:Nat), hdr .p1, (32:Wide), streaming false, _, rfl, by decide +kernel⟩,
  ⟨(10:Nat), hdr .p1, (32:Wide), (5 : Fin 64), camera, _, rfl, by decide +kernel⟩,
  ⟨(10:Nat), Port.p0, ({ h := hdr .p0, body := .streamStart 32, wait := .streamTick 32 0, since := 0 } : Running), (32:Wide), (32:Wide), (0:Int), startWait { camera with clock := { camera.clock with ext := 5 } }, _, rfl, by decide +kernel⟩,
  ⟨(10:Nat), Port.p0, ({ h := hdr .p0, body := .streamStart 32, wait := .streamTick 32 0, since := 0 } : Running), (32:Wide), (32:Wide), (0:Int), startWait { camera with clock := { camera.clock with ext := -50 } }, _, rfl, by decide +kernel⟩⟩

theorem witness_StreamsStopAndReport :
  (∃ (dt : Nat) (h : Hdr) (s : State) (u : State), u = s.ticked dt ∧ u.runs h (Body.streamStop 0)) ∧
  (∃ (dt : Nat) (h : Hdr) (mask : Wide) (s : State) (u : State), u = s.ticked dt ∧ u.runs h (Body.streamStop mask) ∧
    mask ≠ 0 ∧ (∀ (x : Fin 64), x ∈ maskCtxs mask → u.streams x = false) ∧ u.twinPair = false ∧ u.idlePorts) ∧
  (∃ (dt : Nat) (h : Hdr) (mask : Wide) (c : Fin 64) (s : State) (u : State), u = s.ticked dt ∧
    u.runs h (Body.streamStop mask) ∧ mask = 1#64 <<< (↑c : Nat) ∧ u.streams c = true ∧ u.lineScan (↑c : Nat) = true ∧
    u.twinPair = false) ∧
  (∃ (dt : Nat) (h : Hdr) (s : State) (u : State), u = s.ticked dt ∧ u.runs h Body.streamStatus) ∧
  (∃ (dt : Nat) (h : Hdr) (ctx : Half) (what : Byte) (serial : Word) (off : Word) (count : Word) (s : State) (u : State), u = s.ticked dt ∧ u.runs h (Body.statsRead ctx what serial off count) ∧ BitVec.toNat ctx < 64 ∧ BitVec.toNat what ≤ 3 ∧ 4 ≤ BitVec.toNat count ∧ BitVec.toNat count ≤ 224 ∧ BitVec.toNat count % 4 = 0 ∧ u.statsSource (Fin.ofNat 64 (BitVec.toNat ctx)) (BitVec.toNat what) serial = none) ∧
  (∃ (dt : Nat) (h : Hdr) (ctx : Half) (what : Byte) (serial : Word) (off : Word) (count : Word) (s : State) (u : State) (k : Word) (bytes : List Byte), u = s.ticked dt ∧ u.runs h (Body.statsRead ctx what serial off count) ∧ BitVec.toNat ctx < 64 ∧ BitVec.toNat what ≤ 3 ∧ 4 ≤ BitVec.toNat count ∧ BitVec.toNat count ≤ 224 ∧ BitVec.toNat count % 4 = 0 ∧ u.statsSource (Fin.ofNat 64 (BitVec.toNat ctx)) (BitVec.toNat what) serial = some (k, bytes) ∧ BitVec.toNat off < bytes.length) ∧
  (∃ (dt : Nat) (h : Hdr) (ctx : Half) (what : Byte) (serial : Word) (off : Word) (count : Word) (s : State) (u : State) (k : Word) (bytes : List Byte), u = s.ticked dt ∧ u.runs h (Body.statsRead ctx what serial off count) ∧ BitVec.toNat ctx < 64 ∧ BitVec.toNat what ≤ 3 ∧ 4 ≤ BitVec.toNat count ∧ BitVec.toNat count ≤ 224 ∧ BitVec.toNat count % 4 = 0 ∧ u.statsSource (Fin.ofNat 64 (BitVec.toNat ctx)) (BitVec.toNat what) serial = some (k, bytes) ∧ bytes.length ≤ BitVec.toNat off) := ⟨
  ⟨(10:Nat), hdr .p1, camera, _, rfl, by decide +kernel⟩,
  ⟨(10:Nat), hdr .p1, (32:Wide), camera, _, rfl, by decide +kernel⟩,
  ⟨(10:Nat), hdr .p1, (32:Wide), (5 : Fin 64), camStats, _, rfl, by decide +kernel⟩,
  ⟨(10:Nat), hdr .p1, camera, _, rfl, by decide +kernel⟩,
  ⟨(10:Nat), hdr .p1, (5:Half), (0:Byte), (0:Word), (0:Word), (8:Word), camera, _, rfl, by decide +kernel⟩,
  ⟨(10:Nat), hdr .p1, (5:Half), (2:Byte), (0:Word), (0:Word), (8:Word), camStats, _, (0 : Word), ((((camStats.ticked 10).statsSource 5 2 0).map (·.2)).getD []), rfl, by decide +kernel⟩,
  ⟨(10:Nat), hdr .p1, (5:Half), (2:Byte), (0:Word), (9999:Word), (8:Word), camStats, _, (0 : Word), ((((camStats.ticked 10).statsSource 5 2 0).map (·.2)).getD []), rfl, by decide +kernel⟩⟩

theorem witness_EventsClearAndReport :
  (∃ (dt : Nat) (h : Hdr) (k : Fin 53) (mask : Word) (s : State) (u : State), u = s.ticked dt ∧
    u.runs h (Body.evtClear (BitVec.ofNat 8 (↑k : Nat)) mask) ∧ mask &&& ~~~definedMask (↑k : Nat) = 0 ∧
    u.ev.blocks[k].status &&& mask &&& u.ev.blocks[k].cause = 0) ∧
  (∃ (dt : Nat) (h : Hdr) (k : Fin 53) (mask : Word) (s : State) (u : State), u = s.ticked dt ∧
    u.runs h (Body.evtClear (BitVec.ofNat 8 (↑k : Nat)) mask) ∧ mask &&& ~~~definedMask (↑k : Nat) = 0 ∧
    u.ev.blocks[k].status &&& mask &&& u.ev.blocks[k].cause ≠ 0) ∧
  (∃ (dt : Nat) (h : Hdr) (k : Fin 53) (mask : Word) (s : State) (u : State), u = s.ticked dt ∧
    u.runs h (Body.evtClear (BitVec.ofNat 8 (↑k : Nat)) mask) ∧ mask &&& ~~~definedMask (↑k : Nat) ≠ 0) ∧
  (∃ (dt : Nat) (h : Hdr) (k : Fin 53) (s : State) (u : State), u = s.ticked dt ∧
    u.runs h (Body.evtStatus (BitVec.ofNat 8 (↑k : Nat)))) ∧
  (∃ (dt : Nat) (h : Hdr) (s : State) (u : State), u = s.ticked dt ∧ u.runs h (Body.evtStatus 255)) ∧
  (∃ (dt : Nat) (h : Hdr) (k : Fin 53) (bit : Byte) (sev : Byte) (s : State) (u : State), u = s.ticked dt ∧
    u.runs h (Body.evtSeverity (BitVec.ofNat 8 (↑k : Nat)) bit sev) ∧
    BitVec.toNat bit < (resetSeverities (↑k : Nat)).length ∧ BitVec.toNat sev ≤ 3 ∧
    ¬((resetSeverities (↑k : Nat)).getD (BitVec.toNat bit) 0 = 3 ∧ BitVec.toNat sev < 2) ∧
    u.locked 3585 (↑k : Nat) = false ∧ u.openFor 3585 (↑k : Nat) = none) ∧
  (∃ (dt : Nat) (h : Hdr) (k : Fin 53) (bit : Byte) (sev : Byte) (s : State) (u : State), u = s.ticked dt ∧
    u.runs h (Body.evtSeverity (BitVec.ofNat 8 (↑k : Nat)) bit sev) ∧
    BitVec.toNat bit < (resetSeverities (↑k : Nat)).length ∧ (3 < BitVec.toNat sev ∨ (resetSeverities (↑k : Nat)).getD (BitVec.toNat bit) 0 = 3 ∧ BitVec.toNat sev < 2)) := ⟨
  ⟨(10:Nat), hdr .p0, (3 : Fin 53), (1:Word), evt 0 up, _, rfl, by decide +kernel⟩,
  ⟨(10:Nat), hdr .p0, (3 : Fin 53), (3:Word), evt 2 up, _, rfl, by decide +kernel⟩,
  ⟨(10:Nat), hdr .p0, (3 : Fin 53), (0x80000003:Word), evt 2 up, _, rfl, by decide +kernel⟩,
  ⟨(10:Nat), hdr .p1, (3 : Fin 53), evt 0 up, _, rfl, by decide +kernel⟩,
  ⟨(10:Nat), hdr .p1, evt 0 up, _, rfl, by decide +kernel⟩,
  ⟨(10:Nat), hdr .p0, (3 : Fin 53), (1:Byte), (3:Byte), evt 0 up, _, rfl, by decide +kernel⟩,
  ⟨(10:Nat), hdr .p0, (3 : Fin 53), (1:Byte), (4:Byte), evt 2 up, _, rfl, by decide +kernel⟩⟩

theorem witness_FactoryTests :
  (∃ (dt : Nat) (h : Hdr) (k : Fin 53) (bit : Fin 32) (us : Word) (s : State) (u : State), u = s.ticked dt ∧
    u.runs h (Body.evtInject (BitVec.ofNat 8 (↑k : Nat)) (BitVec.ofNat 8 (↑bit : Nat)) 0 us) ∧
    { block := (↑k : Nat), bit := (↑bit : Nat) : Src }.defined = true) ∧
  (∃ (dt : Nat) (h : Hdr) (k : Fin 53) (bit : Fin 32) (us : Word) (s : State) (u : State), u = s.ticked dt ∧
    u.runs h (Body.evtInject (BitVec.ofNat 8 (↑k : Nat)) (BitVec.ofNat 8 (↑bit : Nat)) 1 us) ∧
    { block := (↑k : Nat), bit := (↑bit : Nat) : Src }.defined = true ∧ 1 ≤ BitVec.toNat us ∧ BitVec.toNat us ≤ 1000000) ∧
  (∃ (dt : Nat) (k : Fin 53) (bit : Fin 32) (s : State) (u : State) (due : Nat), u = s.ticked dt ∧
    List.find? (fun x => x.fst == { block := (↑k : Nat), bit := (↑bit : Nat) : Src }) u.ev.holds = some ({ block := (↑k : Nat), bit := (↑bit : Nat) : Src }, due) ∧ due ≤ u.now) ∧
  (∃ (dt : Nat) (k : Fin 53) (bit : Fin 32) (s : State) (u : State) (due : Nat), u = s.ticked dt ∧
    List.find? (fun x => x.fst == { block := (↑k : Nat), bit := (↑bit : Nat) : Src }) u.ev.holds = some ({ block := (↑k : Nat), bit := (↑bit : Nat) : Src }, due) ∧ u.now < due) ∧
  (∃ (dt : Nat) (h : Hdr) (s : State) (u : State), u = s.ticked dt ∧ u.runs h (Body.testMode 1) ∧ h.port = Port.p3 ∧
    ((∀ (c : Fin 64), u.streams c = false) ∧ u.au 2817 65535 0 1 = 0 ∧ u.domOn 21 = true)) ∧
  (∃ (dt : Nat) (h : Hdr) (s : State) (u : State), u = s.ticked dt ∧ u.runs h (Body.testMode 1) ∧
    (h.port ≠ Port.p3 ∨ ¬((∀ (c : Fin 64), u.streams c = false) ∧ u.au 2817 65535 0 1 = 0 ∧ u.domOn 21 = true))) ∧
  (∃ (dt : Nat) (h : Hdr) (s : State) (u : State), u = s.ticked dt ∧ u.runs h (Body.testMode 0) ∧ u.ev.holds = []) ∧
  (∃ (dt : Nat) (h : Hdr) (targets : Word) (s : State) (u : State), u = s.ticked dt ∧ u.runs h (Body.testBist targets) ∧
    u.sys.factoryTest = true ∧ u.idlePorts ∧ 1 ≤ BitVec.toNat targets ∧ BitVec.toNat targets ≤ 63 ∧
    BitVec.toNat targets % 8 ≠ 0) ∧
  (∃ (dt : Nat) (h : Hdr) (targets : Word) (s : State) (u : State), u = s.ticked dt ∧ u.runs h (Body.testBist targets) ∧
    u.sys.factoryTest = true ∧ u.idlePorts ∧ 1 ≤ BitVec.toNat targets ∧ BitVec.toNat targets ≤ 63 ∧
    BitVec.toNat targets % 8 = 0) := ⟨
  ⟨(10:Nat), hdr .p3, (3 : Fin 53), (1 : Fin 32), (5:Word), factory up, _, rfl, by decide +kernel⟩,
  ⟨(10:Nat), hdr .p3, (3 : Fin 53), (1 : Fin 32), (5:Word), factory up, _, rfl, by decide +kernel⟩,
  ⟨(20:Nat), (3 : Fin 53), (1 : Fin 32), held up, _, (20:Nat), rfl, by decide +kernel⟩,
  ⟨(10:Nat), (3 : Fin 53), (1 : Fin 32), held up, _, (20:Nat), rfl, by decide +kernel⟩,
  ⟨(20:Nat), hdr .p3, up, _, rfl, by decide +kernel⟩,
  ⟨(20:Nat), hdr .p3, streaming true, _, rfl, by decide +kernel⟩,
  ⟨(20:Nat), hdr .p3, up, _, rfl, by decide +kernel⟩,
  ⟨(10:Nat), hdr .p3, (2:Word), factory up, _, rfl, by decide +kernel⟩,
  ⟨(10:Nat), hdr .p3, (8:Word), factory up, _, rfl, by decide +kernel⟩⟩

theorem witness_SensorWritesAndReads :
  (∃ (dt : Nat) (h : Hdr) (sensor : Half) (reg : Half) (data : List Byte) (s : State) (u : State), u = s.ticked dt ∧
    u.runs h (Body.sensWrite sensor reg data) ∧ (u.port h.port).fetch = none ∧ u.twinPair = false ∧
    u.routed (BitVec.toNat sensor) = false) ∧
  (∃ (dt : Nat) (h : Hdr) (sensor : Half) (reg : Half) (data : List Byte) (s : State) (u : State), u = s.ticked dt ∧
    u.runs h (Body.sensWrite sensor reg data) ∧ (u.port h.port).fetch = none ∧ u.twinPair = false ∧
    u.routed (BitVec.toNat sensor) = true ∧ (u.sluice.released = true ∨ u.busU (↑(u.busOf (BitVec.toNat sensor)) : Nat) 0 1 = 0)) ∧
  (∃ (dt : Nat) (h : Hdr) (sensor : Half) (reg : Half) (data : List Byte) (s : State) (u : State), u = s.ticked dt ∧
    u.runs h (Body.sensWrite sensor reg data) ∧ (u.port h.port).fetch = none ∧ u.twinPair = false ∧
    u.routed (BitVec.toNat sensor) = true ∧ u.sluice.released = false ∧
    u.busU (↑(u.busOf (BitVec.toNat sensor)) : Nat) 0 1 ≠ 0 ∧ 1 ≤ data.length ∧ data.length ≤ 64 ∧
    u.busU (↑(u.busOf (BitVec.toNat sensor)) : Nat) 1 1 = 1 ∧ u.sluice.buses[u.busOf (BitVec.toNat sensor)].posted < 16) ∧
  (∃ (dt : Nat) (h : Hdr) (sensor : Half) (reg : Half) (data : List Byte) (s : State) (u : State), u = s.ticked dt ∧
    u.runs h (Body.sensWrite sensor reg data) ∧ (u.port h.port).fetch = none ∧ u.twinPair = false ∧
    u.routed (BitVec.toNat sensor) = true ∧ u.sluice.released = false ∧
    u.busU (↑(u.busOf (BitVec.toNat sensor)) : Nat) 0 1 ≠ 0 ∧ 1 ≤ data.length ∧ data.length ≤ 64 ∧
    u.busU (↑(u.busOf (BitVec.toNat sensor)) : Nat) 1 1 = 1 ∧ 16 ≤ u.sluice.buses[u.busOf (BitVec.toNat sensor)].posted) ∧
  (∃ (dt : Nat) (h : Hdr) (sensor : Half) (reg : Half) (data : List Byte) (s : State) (u : State), u = s.ticked dt ∧
    u.runs h (Body.sensWrite sensor reg data) ∧ (u.port h.port).fetch = none ∧ u.twinPair = false ∧
    u.routed (BitVec.toNat sensor) = true ∧ u.sluice.released = false ∧
    u.busU (↑(u.busOf (BitVec.toNat sensor)) : Nat) 0 1 ≠ 0 ∧ 1 ≤ data.length ∧ data.length ≤ 64 ∧
    u.busU (↑(u.busOf (BitVec.toNat sensor)) : Nat) 1 1 ≠ 1) ∧
  (∃ (dt : Nat) (h : Hdr) (sensor : Half) (reg : Half) (count : Byte) (s : State) (u : State), u = s.ticked dt ∧
    u.runs h (Body.sensRead sensor reg count) ∧ u.routed (BitVec.toNat sensor) = true ∧ u.sluice.released = false ∧
    u.busU (↑(u.busOf (BitVec.toNat sensor)) : Nat) 0 1 ≠ 0 ∧ 1 ≤ BitVec.toNat count ∧ BitVec.toNat count ≤ 64 ∧
    u.twinPair = false ∧ (u.port h.port).fetch = none) ∧
  (∃ (dt : Nat) (h : Hdr) (sensor : Half) (reg : Half) (count : Byte) (s : State) (u : State) (f : Fetch), u = s.ticked dt ∧ u.runs h (Body.sensRead sensor reg count) ∧ u.routed (BitVec.toNat sensor) = true ∧ u.sluice.released = false ∧ u.busU (↑(u.busOf (BitVec.toNat sensor)) : Nat) 0 1 ≠ 0 ∧ 1 ≤ BitVec.toNat count ∧ BitVec.toNat count ≤ 64 ∧ u.twinPair = false ∧ (u.port h.port).fetch = some f ∧ (fun f => f.seq = h.seq ∧ f.sensor = BitVec.toNat sensor ∧ f.reg = BitVec.toNat reg ∧ f.count = BitVec.toNat count) f ∧ f.result = none) ∧
  (∃ (dt : Nat) (h : Hdr) (sensor : Half) (reg : Half) (count : Byte) (s : State) (u : State) (f : Fetch) (bytes : List Byte), u = s.ticked dt ∧ u.runs h (Body.sensRead sensor reg count) ∧ u.routed (BitVec.toNat sensor) = true ∧ u.sluice.released = false ∧ u.busU (↑(u.busOf (BitVec.toNat sensor)) : Nat) 0 1 ≠ 0 ∧ 1 ≤ BitVec.toNat count ∧ BitVec.toNat count ≤ 64 ∧ u.twinPair = false ∧ (u.port h.port).fetch = some f ∧ (fun f => f.seq = h.seq ∧ f.sensor = BitVec.toNat sensor ∧ f.reg = BitVec.toNat reg ∧ f.count = BitVec.toNat count) f ∧ f.result = some (0, bytes) ∧ u.now < f.doneAt + 4000000) ∧
  (∃ (dt : Nat) (h : Hdr) (sensor : Half) (reg : Half) (count : Byte) (s : State) (u : State) (f : Fetch) (code : Nat) (bytes : List Byte), u = s.ticked dt ∧ u.runs h (Body.sensRead sensor reg count) ∧ u.routed (BitVec.toNat sensor) = true ∧ u.sluice.released = false ∧ u.busU (↑(u.busOf (BitVec.toNat sensor)) : Nat) 0 1 ≠ 0 ∧ 1 ≤ BitVec.toNat count ∧ BitVec.toNat count ≤ 64 ∧ u.twinPair = false ∧ code ≠ 0 ∧ (u.port h.port).fetch = some f ∧ (fun f => f.seq = h.seq ∧ f.sensor = BitVec.toNat sensor ∧ f.reg = BitVec.toNat reg ∧ f.count = BitVec.toNat count) f ∧ f.result = some (code, bytes) ∧ u.now < f.doneAt + 4000000) ∧
  (∃ (dt : Nat) (s : State) (u : State) (p : Port) (f : Fetch), u = s.ticked dt ∧ (u.port p).fetch = some f ∧
    f.result.isSome = true ∧ f.doneAt + 4000000 ≤ u.now) ∧
  (∃ (dt : Nat) (s : State) (u : State) (p : Port), u = s.ticked dt ∧ (u.port p).fetch = none) := ⟨
  ⟨(10:Nat), hdr .p0, (3:Half), (9:Half), ([1,2] : List Byte), up, _, rfl, by decide +kernel⟩,
  ⟨(10:Nat), hdr .p0, (3:Half), (9:Half), ([1,2] : List Byte), sensor 0 0, _, rfl, by decide +kernel⟩,
  ⟨(10:Nat), hdr .p0, (3:Half), (9:Half), ([1,2] : List Byte), sensor 1 1, _, rfl, by decide +kernel⟩,
  ⟨(10:Nat), hdr .p0, (3:Half), (9:Half), ([1,2] : List Byte), q4 (List.replicate 16 pw) (sensor 1 1), _, rfl, by decide +kernel⟩,
  ⟨(10:Nat), hdr .p0, (3:Half), (9:Half), ([1,2] : List Byte), sensor 0 1, _, rfl, by decide +kernel⟩,
  ⟨(10:Nat), hdr .p0, (3:Half), (9:Half), (2:Byte), sensor 1 1, _, rfl, by decide +kernel⟩,
  ⟨(10:Nat), hdr .p0, (3:Half), (9:Half), (2:Byte), withFetch (fch none) (sensor 1 1), _, fch none, rfl, by decide +kernel⟩,
  ⟨(10:Nat), hdr .p0, (3:Half), (9:Half), (2:Byte), withFetch (fch (some (0, [5,6]))) (sensor 1 1), _, fch (some (0, [5,6])), ([5,6] : List Byte), rfl, by decide +kernel⟩,
  ⟨(10:Nat), hdr .p0, (3:Half), (9:Half), (2:Byte), withFetch (fch (some (2, []))) (sensor 1 1), _, fch (some (2, [])), (2:Nat), ([] : List Byte), rfl, by decide +kernel⟩,
  ⟨(4000000:Nat), withFetch (fch (some (2, []))) (sensor 1 1), _, Port.p0, fch (some (2, [])), rfl, by decide +kernel⟩,
  ⟨(10:Nat), up, _, Port.p0, rfl, by decide +kernel⟩⟩

theorem witness_SensorSequencesAndExposure :
  (∃ (dt : Nat) (h : Hdr) (sensor : Half) (flags : Byte) (writes : List SeqWrite) (s : State) (u : State), u = s.ticked dt ∧ u.runs h (Body.sensSeq sensor flags writes) ∧ (u.port h.port).fetch = none ∧ u.routed (BitVec.toNat sensor) = true ∧ u.sluice.released = false ∧ u.busU (↑(u.busOf (BitVec.toNat sensor)) : Nat) 0 1 ≠ 0 ∧ u.twinPair = false ∧ 1 ≤ writes.length ∧ writes.length ≤ 16 ∧ BitVec.toNat flags ≤ 1 ∧ (∀ (w : SeqWrite), w ∈ writes → 1 ≤ BitVec.toNat w.size ∧ BitVec.toNat w.size ≤ 4)) ∧
  (∃ (dt : Nat) (h : Hdr) (sensor : Half) (flags : Byte) (writes : List SeqWrite) (s : State) (u : State) (w : SeqWrite) (ws : List SeqWrite), u = s.ticked dt ∧ u.runs h (Body.sensSeq sensor flags writes) ∧ (u.port h.port).fetch = none ∧ u.routed (BitVec.toNat sensor) = true ∧ u.sluice.released = false ∧ u.busU (↑(u.busOf (BitVec.toNat sensor)) : Nat) 0 1 ≠ 0 ∧ u.twinPair = false ∧ 1 ≤ writes.length ∧ writes.length ≤ 16 ∧ BitVec.toNat flags ≤ 1 ∧ writes = w :: ws ∧ 4 < BitVec.toNat w.size) ∧
  (∃ (dt : Nat) (h : Hdr) (count : Word) (s : State) (u : State) (e : PlogEntry) (es : List PlogEntry), u = s.ticked dt ∧
    u.runs h (Body.sensErrlog 4294967295 count) ∧ 1 ≤ BitVec.toNat count ∧ BitVec.toNat count ≤ 13 ∧
    u.sluice.plog = e :: es) ∧
  (∃ (dt : Nat) (h : Hdr) (ctx : Fin 64) (ns : Word) (gain : Word) (s : State) (u : State), u = s.ticked dt ∧
    u.runs h (Body.expoSet (BitVec.ofNat 16 (↑ctx : Nat)) 0 0 ns gain) ∧ (u.safeNs (↑ctx : Nat)).snd ≠ 0 ∧
    (u.safeNs (↑ctx : Nat)).fst ≤ (u.safeNs (↑ctx : Nat)).snd ∧
    u.expoTxns (↑ctx : Nat) (exposureCount (u.tmpl (↑ctx : Nat) 8 4) (BitVec.toNat ns)) (BitVec.toNat gain) = [] ∧
    100 ≤ BitVec.toNat ns ∧ BitVec.toNat ns ≤ 100000000 ∧ exposureCount (u.tmpl (↑ctx : Nat) 8 4) (BitVec.toNat ns) ≤ u.tmpl (↑ctx : Nat) 12 4 ∧ BitVec.toNat gain ≤ u.tmpl (↑ctx : Nat) 16 4 ∧ u.sluice.released = false ∧ u.routed (u.prof (↑ctx : Nat) 4 2) = false ∧ u.expo.ctxs[ctx].sets = [] ∧ u.streams ctx = false ∧ u.trigMode (↑ctx : Nat) ≠ 2 ∧ u.idlePorts) ∧
  (∃ (dt : Nat) (h : Hdr) (ctx : Fin 64) (ns : Word) (gain : Word) (s : State) (u : State), u = s.ticked dt ∧
    u.runs h (Body.expoSet (BitVec.ofNat 16 (↑ctx : Nat)) 0 0 ns gain) ∧ (u.safeNs (↑ctx : Nat)).snd ≠ 0 ∧
    (u.safeNs (↑ctx : Nat)).fst ≤ (u.safeNs (↑ctx : Nat)).snd ∧
    u.expoTxns (↑ctx : Nat) (exposureCount (u.tmpl (↑ctx : Nat) 8 4) (BitVec.toNat ns)) (BitVec.toNat gain) = [] ∧
    (BitVec.toNat ns < 100 ∨ 100000000 < BitVec.toNat ns)) := ⟨
  ⟨(10:Nat), hdr .p0, (3:Half), (1:Byte), ([⟨9,2,0x1234⟩] : List SeqWrite), plogged (sensor 1 1), _, rfl, by decide +kernel⟩,
  ⟨(10:Nat), hdr .p0, (3:Half), (1:Byte), ([⟨9,5,0x1234⟩] : List SeqWrite), plogged (sensor 1 1), _, (⟨9,5,0x1234⟩ : SeqWrite), ([] : List SeqWrite), rfl, by decide +kernel⟩,
  ⟨(10:Nat), hdr .p0, (2:Word), plogged (sensor 1 1), _, ple, ([] : List PlogEntry), rfl, by decide +kernel⟩,
  ⟨(10:Nat), hdr .p0, (5 : Fin 64), (1000:Word), (16:Word), exposing, _, rfl, by decide +kernel⟩,
  ⟨(10:Nat), hdr .p0, (5 : Fin 64), (99:Word), (16:Word), exposing, _, rfl, by decide +kernel⟩⟩

theorem witness_BusWork :
  (∃ (dt : Nat) (bus : Fin 32) (w : Work) (ws : List Work) (s : State) (u : State), u = s.ticked dt ∧ u.idlePorts ∧
    u.busIdle bus = true ∧ u.sluice.buses[bus].stuck = false ∧ u.sluice.buses[bus].mode ≠ 2 ∧
    u.sluice.buses[bus].queue = w :: ws ∧ w.kind.isExpo = false ∧ w.at_ = none ∧ w.booked = false ∧ w.kind.guarded = false) ∧
  (∃ (dt : Nat) (bus : Fin 32) (w : Work) (ws : List Work) (s : State) (u : State), u = s.ticked dt ∧ u.idlePorts ∧
    u.busIdle bus = true ∧ u.sluice.buses[bus].stuck = false ∧ u.sluice.buses[bus].mode ≠ 2 ∧
    u.sluice.buses[bus].queue = w :: ws ∧ w.kind.isExpo = false ∧ w.at_ = none ∧ w.booked = false ∧
    w.kind.guarded = true ∧ u.semFree bus = true) ∧
  (∃ (dt : Nat) (bus : Fin 32) (w : Work) (ws : List Work) (s : State) (u : State), u = s.ticked dt ∧ u.idlePorts ∧
    u.busIdle bus = true ∧ u.sluice.buses[bus].stuck = false ∧ u.sluice.buses[bus].mode ≠ 2 ∧
    u.sluice.buses[bus].queue = w :: ws ∧ w.kind.isExpo = false ∧ w.at_ = none ∧ w.booked = false ∧
    w.kind.guarded = true ∧ u.semFree bus = false) ∧
  (∃ (dt : Nat) (bus : Fin 32) (w : Work) (ws : List Work) (s : State) (u : State), u = s.ticked dt ∧ u.idlePorts ∧
    u.busIdle bus = true ∧ u.sluice.buses[bus].stuck = false ∧ u.sluice.buses[bus].mode ≠ 2 ∧
    u.sluice.buses[bus].queue = w :: ws ∧ w.kind.isExpo = false ∧ w.at_ = none ∧ w.booked = true ∧ w.kind.guarded = false) ∧
  (∃ (dt : Nat) (bus : Fin 32) (w : Work) (p : Port) (seq : Word) (x : Txn) (s : State) (u : State), u = s.ticked dt ∧
    u.idlePorts ∧ u.sluice.buses[bus].cur = some w ∧ u.sluice.buses[bus].busy = true ∧
    w.kind = WorkKind.posted p seq false ∧ w.txns = [x] ∧ w.done = 0 ∧ w.failed = none ∧ u.semHeld bus = false ∧
    u.sluice.buses[bus].mode = u.busU (↑bus : Nat) 0 1) ∧
  (∃ (dt : Nat) (bus : Fin 32) (w : Work) (p : Port) (seq : Word) (x : Txn) (s : State) (u : State), u = s.ticked dt ∧
    u.idlePorts ∧ u.sluice.buses[bus].cur = some w ∧ u.sluice.buses[bus].busy = true ∧
    w.kind = WorkKind.posted p seq false ∧ w.txns = [x] ∧ w.done = 0 ∧ w.failed = none ∧ u.semHeld bus = false ∧
    u.sluice.buses[bus].mode = u.busU (↑bus : Nat) 0 1 ∧ u.sluice.buses[bus].repeats < u.busU (↑bus : Nat) 2 1) ∧
  (∃ (dt : Nat) (bus : Fin 32) (w : Work) (p : Port) (seq : Word) (x : Txn) (s : State) (u : State), u = s.ticked dt ∧
    u.idlePorts ∧ u.sluice.buses[bus].cur = some w ∧ u.sluice.buses[bus].busy = true ∧
    w.kind = WorkKind.posted p seq false ∧ w.txns = [x] ∧ w.done = 0 ∧ w.failed = none ∧ u.semHeld bus = false ∧
    u.sluice.buses[bus].mode = u.busU (↑bus : Nat) 0 1 ∧ u.busU (↑bus : Nat) 2 1 ≤ u.sluice.buses[bus].repeats) ∧
  (∃ (dt : Nat) (bus : Fin 32) (w : Work) (p : Port) (seq : Word) (x : Txn) (s : State) (u : State), u = s.ticked dt ∧
    u.idlePorts ∧ u.sluice.buses[bus].cur = some w ∧ u.sluice.buses[bus].busy = true ∧
    w.kind = WorkKind.posted p seq false ∧ w.txns = [x] ∧ w.done = 0 ∧ w.failed = none ∧ u.semHeld bus = false ∧
    u.sluice.buses[bus].mode = u.busU (↑bus : Nat) 0 1 ∧ u.sluice.buses[bus].since + 400 * u.busU (↑bus : Nat) 12 4 < u.now) ∧
  (∃ (dt : Nat) (bus : Fin 32) (w : Work) (p : Port) (seq : Word) (x : Txn) (s : State) (u : State), u = s.ticked dt ∧
    u.idlePorts ∧ u.sluice.buses[bus].cur = some w ∧ u.sluice.buses[bus].busy = true ∧
    w.kind = WorkKind.posted p seq false ∧ w.txns = [x] ∧ w.done = 0 ∧ w.failed = none ∧ u.semHeld bus = false ∧
    u.sluice.buses[bus].mode = u.busU (↑bus : Nat) 0 1 ∧ u.now ≤ u.sluice.buses[bus].since + 400 * u.busU (↑bus : Nat) 12 4) := ⟨
  ⟨(10:Nat), (4 : Fin 32), pw, ([gw] : List Work), q4 [pw, gw] (sensor 1 1), _, rfl, by decide +kernel⟩,
  ⟨(10:Nat), (4 : Fin 32), gw, ([pw] : List Work), q4 [gw, pw] (sensor 1 1), _, rfl, by decide +kernel⟩,
  ⟨(10:Nat), (4 : Fin 32), gw, ([pw] : List Work), semBusy (q4 [gw, pw] (sensor 1 1)), _, rfl, by decide +kernel⟩,
  ⟨(10:Nat), (4 : Fin 32), { pw with booked := true }, ([gw] : List Work), q4 [{ pw with booked := true }, gw] (sensor 1 1), _, rfl, by decide +kernel⟩,
  ⟨(10:Nat), (4 : Fin 32), pw, Port.p0, (7:Word), ({ reg := 9, data := [1] } : Txn), cur4 pw true 0 (sensor 1 1), _, rfl, by decide +kernel⟩,
  ⟨(10:Nat), (4 : Fin 32), pw, Port.p0, (7:Word), ({ reg := 9, data := [1] } : Txn), cur4 pw true 0 (sensor 1 1), _, rfl, by decide +kernel⟩,
  ⟨(40001:Nat), (4 : Fin 32), pw, Port.p0, (7:Word), ({ reg := 9, data := [1] } : Txn), cur4 pw true 1 (sensor 1 1), _, rfl, by decide +kernel⟩,
  ⟨(40001:Nat), (4 : Fin 32), pw, Port.p0, (7:Word), ({ reg := 9, data := [1] } : Txn), cur4 pw true 1 (sensor 1 1), _, rfl, by decide +kernel⟩,
  ⟨(10:Nat), (4 : Fin 32), pw, Port.p0, (7:Word), ({ reg := 9, data := [1] } : Txn), cur4 pw true 0 (sensor 1 1), _, rfl, by decide +kernel⟩⟩

theorem witness_BusRecoveryAndSemaphores :
  (∃ (dt : Nat) (bus : Fin 32) (s : State) (u : State) (due : Nat), u = s.ticked dt ∧ u.idlePorts ∧
    u.sluice.buses[bus].retryAt = some due ∧ u.sluiceRuns = true ∧ u.sluice.buses[bus].stuck = false ∧ due ≤ u.now) ∧
  (∃ (dt : Nat) (bus : Fin 32) (s : State) (u : State) (due : Nat), u = s.ticked dt ∧ u.idlePorts ∧
    u.sluice.buses[bus].retryAt = some due ∧ u.sluiceRuns = true ∧ u.sluice.buses[bus].stuck = false ∧ u.now < due) ∧
  (∃ (dt : Nat) (bus : Fin 32) (s : State) (u : State) (w : Work) (ws : List Work) (since : Nat), u = s.ticked dt ∧
    u.sluice.buses[bus].semWait = some since ∧ u.sluice.buses[bus].queue = w :: ws ∧ w.booked = false ∧ w.at_ = none ∧
    w.kind.guarded = true ∧ w.kind.isExpo = false ∧ u.sluice.buses[bus].cur = none ∧ u.sluice.buses[bus].busy = false ∧
    u.sluiceRuns = true ∧ u.sluice.buses[bus].stuck = false ∧ u.sluice.buses[bus].mode ≠ 2 ∧
    (∀ (q : Work), q ∈ ws → q.booked = false) ∧ u.semFree bus = true) ∧
  (∃ (dt : Nat) (bus : Fin 32) (s : State) (u : State) (w : Work) (ws : List Work) (since : Nat), u = s.ticked dt ∧
    u.sluice.buses[bus].semWait = some since ∧ u.sluice.buses[bus].queue = w :: ws ∧ w.booked = false ∧ w.at_ = none ∧
    w.kind.guarded = true ∧ w.kind.isExpo = false ∧ u.sluice.buses[bus].cur = none ∧ u.sluice.buses[bus].busy = false ∧
    u.sluiceRuns = true ∧ u.sluice.buses[bus].stuck = false ∧ u.sluice.buses[bus].mode ≠ 2 ∧
    (∀ (q : Work), q ∈ ws → q.booked = false) ∧ u.semFree bus = false) ∧
  (∃ (dt : Nat) (bus : Fin 32) (s : State) (u : State) (since : Nat), u = s.ticked dt ∧
    u.sluice.buses[bus].semWait = some since ∧ u.sluice.buses[bus].semLong = false ∧ since + 40000 < u.now) ∧
  (∃ (dt : Nat) (bus : Fin 32) (s : State) (u : State) (since : Nat), u = s.ticked dt ∧
    u.sluice.buses[bus].semWait = some since ∧ u.sluice.buses[bus].semLong = false ∧ u.now ≤ since + 40000) ∧
  (∃ (dt : Nat) (bus : Fin 32) (s : State) (u : State), u = s.ticked dt ∧ u.sluice.buses[bus].daaDue = true ∧
    u.sluice.buses[bus].mode = 2 ∧ u.busU (↑bus : Nat) 0 1 = 2 ∧ u.sluice.buses[bus].cur = none ∧ u.semFree bus = true) := ⟨
  ⟨(2000:Nat), (4 : Fin 32), (cur4 pw false 1 (sensor 1 1)).setBus 4 fun x => { x with retryAt := some 2000 }, _, (2000:Nat), rfl, by decide +kernel⟩,
  ⟨(1999:Nat), (4 : Fin 32), (cur4 pw false 1 (sensor 1 1)).setBus 4 fun x => { x with retryAt := some 2000 }, _, (2000:Nat), rfl, by decide +kernel⟩,
  ⟨(1999:Nat), (4 : Fin 32), (q4 [gw,pw] (sensor 1 1)).setBus 4 fun x => { x with semWait := some 0 }, _, gw, ([pw] : List Work), (0:Nat), rfl, by decide +kernel⟩,
  ⟨(40001:Nat), (4 : Fin 32), (semBusy (q4 [gw,pw] (sensor 1 1))).setBus 4 fun x => { x with semWait := some 0 }, _, gw, ([pw] : List Work), (0:Nat), rfl, by decide +kernel⟩,
  ⟨(40001:Nat), (4 : Fin 32), (semBusy (q4 [gw,pw] (sensor 1 1))).setBus 4 fun x => { x with semWait := some 0 }, _, (0:Nat), rfl, by decide +kernel⟩,
  ⟨(1999:Nat), (4 : Fin 32), (q4 [gw,pw] (sensor 1 1)).setBus 4 fun x => { x with semWait := some 0 }, _, (0:Nat), rfl, by decide +kernel⟩,
  ⟨(1:Nat), (4 : Fin 32), (sensor 1 2).setBus 4 fun x => { x with daaDue := true }, _, rfl, by decide +kernel⟩⟩

theorem witness_QueuesCrossFlushAndFail :
  (∃ (dt : Nat) (p : Fin 32) (s : State) (u : State), u = s.ticked dt ∧ (∀ (r : Fin 8), u.runnels[r].cur = none) ∧
    u.queues[inletQueue p].state = 3) ∧
  (∃ (dt : Nat) (q : Fin 43) (s : State) (u : State), u = s.ticked dt ∧ u.queues[q].state ≠ 3) ∧
  (∃ (dt : Nat) (q : Fin 43) (s : State) (u : State), u = s.ticked dt ∧ u.idlePorts ∧
    (u.queues[q].state = 1 ∨ u.queues[q].state = 4)) ∧
  (∃ (dt : Nat) (p : Fin 32) (s : State) (u : State), u = s.ticked dt ∧ u.idlePorts ∧
    (u.queues[inletQueue p].state = 1 ∨ u.queues[inletQueue p].state = 4)) ∧
  (∃ (dt : Nat) (p : Fin 32) (s : State) (u : State), u = s.ticked dt ∧ (∀ (r : Fin 8), u.runnels[r].cur = none) ∧
    (u.queues[inletQueue p].state = 2 ∨ u.queues[inletQueue p].state = 3)) ∧
  (∃ (dt : Nat) (s : State) (u : State), u = s.ticked dt ∧ (u.queues[40].state = 2 ∨ u.queues[40].state = 3)) ∧
  (∃ (dt : Nat) (q : Fin 43) (s : State) (u : State), u = s.ticked dt ∧ u.queues[q].state ≠ 2 ∧ u.queues[q].state ≠ 3) := ⟨
  ⟨(10:Nat), (3 : Fin 32), inq [pkt] (qst 3 3 (by decide) (streaming true)), _, rfl, by decide +kernel⟩,
  ⟨(10:Nat), (3 : Fin 43), inq [pkt] (qst 3 4 (by decide) (streaming true)), _, rfl, by decide +kernel⟩,
  ⟨(10:Nat), (3 : Fin 43), inq [pkt] (qst 3 4 (by decide) (streaming true)), _, rfl, by decide +kernel⟩,
  ⟨(10:Nat), (3 : Fin 32), inq [pkt] (qst 3 4 (by decide) (streaming true)), _, rfl, by decide +kernel⟩,
  ⟨(10:Nat), (3 : Fin 32), inq [pkt] (qst 3 3 (by decide) (streaming true)), _, rfl, by decide +kernel⟩,
  ⟨(10:Nat), inq [pkt] (qst 3 2 (by decide) (qst 40 2 (by decide) (streaming true))), _, rfl, by decide +kernel⟩,
  ⟨(10:Nat), (3 : Fin 43), inq [pkt] (qst 3 4 (by decide) (streaming true)), _, rfl, by decide +kernel⟩⟩

theorem witness_ItemsOfARunnel :
  (∃ (dt : Nat) (r : Fin 8) (s : State) (u : State) (c : Fin 64) (k : InPacket) (ks : List InPacket), u = s.ticked dt ∧
    u.runnelOn r = true ∧ u.runnels[r].next = none ∧ u.markHeads.candidate (↑r : Nat) c = k :: ks) ∧
  (∃ (dt : Nat) (r : Fin 8) (s : State) (u : State), u = s.ticked dt ∧ u.au 770 (↑r : Nat) 0 1 ≠ 1) ∧
  (∃ (dt : Nat) (r : Fin 8) (i : Item) (s : State) (u : State), u = s.ticked dt ∧ u.runnels[r].next = some i ∧
    u.runnels[r].cur = none ∧ i.area = false) ∧
  (∃ (dt : Nat) (r : Fin 8) (i : Item) (s : State) (u : State), u = s.ticked dt ∧ u.idlePorts ∧
    u.runnels[r].cur = some i ∧ u.runnels[r].state ≠ 4 ∧ itemComplete (u.curPackets (↑r : Nat)) = true) ∧
  (∃ (dt : Nat) (r : Fin 8) (i : Item) (s : State) (u : State), u = s.ticked dt ∧ u.runnels[r].cur = some i ∧
    itemComplete (u.curPackets (↑r : Nat)) = false) ∧
  (∃ (dt : Nat) (r : Fin 8) (i : Item) (s : State) (u : State), u = s.ticked dt ∧ u.runnels[r].cur = some i ∧
    i.startAt + ticksOfMs 10 < u.now ∧ u.runnels[r].watched = false) ∧
  (∃ (dt : Nat) (r : Fin 8) (s : State) (u : State), u = s.ticked dt ∧ u.runnels[r].state = 3 ∧
    itemComplete (u.curPackets (↑r : Nat)) = true) := ⟨
  ⟨(10:Nat), (2 : Fin 8), seen1 (inq [pkt] (running2 (streaming true))), _, (5 : Fin 64), pkt, ([] : List InPacket), rfl, by decide +kernel⟩,
  ⟨(1:Nat), (2 : Fin 8), (running2 camera).writeBoth 0x0302 2 0 [0], _, rfl, by decide +kernel⟩,
  ⟨(10:Nat), (2 : Fin 8), item, next2 (seen1 (inq [pkt] (running2 (streaming true)))), _, rfl, by decide +kernel⟩,
  ⟨(10:Nat), (2 : Fin 8), item, cur2 (seen1 (inq [pkt] (running2 (streaming true)))), _, rfl, by decide +kernel⟩,
  ⟨(4000001:Nat), (2 : Fin 8), item, (cur2 ((running2 (streaming true)))), _, rfl, by decide +kernel⟩,
  ⟨(4000001:Nat), (2 : Fin 8), item, (cur2 ((running2 (streaming true)))), _, rfl, by decide +kernel⟩,
  ⟨(1:Nat), (2 : Fin 8), (cur2 (seen1 (inq [pkt] (running2 (streaming true))))).setRunnel 2 fun x => { x with state := 3 }, _, rfl, by decide +kernel⟩⟩

theorem witness_MapBlocksMovesAndRecords :
  (∃ (dt : Nat) (r : Fin 8) (s : State) (u : State), u = s.ticked dt ∧ u.runnels[r].state ≠ 4) ∧
  (∃ (dt : Nat) (r : Fin 8) (s : State) (u : State), u = s.ticked dt ∧ u.runnels[r].state = 4 ∧
    u.runnels[r].stallAt + ticksOfUs (u.au 770 (↑r : Nat) 4 4) ≤ u.now) ∧
  (∃ (dt : Nat) (r : Fin 8) (s : State) (u : State), u = s.ticked dt ∧ u.runnels[r].state = 4 ∧
    u.now < u.runnels[r].stallAt + ticksOfUs (u.au 770 (↑r : Nat) 4 4)) ∧
  (∃ (dt : Nat) (c : Fin 64) (s : State) (u : State), u = s.ticked dt ∧ u.ctxs[c].moving = true ∧
    u.ctxs[c].runnel ≠ u.au 769 (↑c : Nat) 0 1 ∧ u.au 769 (↑c : Nat) 0 1 < 8 ∧ u.inlets[u.itemPort c].queue = [] ∧
    (∀ (w : Fin 8), u.runnels[w].cur = none) ∧ (u.holds fun w =>     match w with     | Requester.move d => d == c     | x => false) =   true) ∧
  (∃ (dt : Nat) (r : Fin 8) (s : State) (u : State) (d : Fin 64) (k : StatsRec) (rest : List (Fin 64 × StatsRec)), u = s.ticked dt ∧ u.runnels[r].publish = (d, k) :: rest) ∧
  (∃ (dt : Nat) (r : Fin 8) (c : Fin 64) (s : State) (u : State), u = s.ticked dt ∧ u.runnelOf c = (↑r : Nat)) := ⟨
  ⟨(1:Nat), (2 : Fin 8), cur2 (running2 camera), _, rfl, by decide +kernel⟩,
  ⟨(40000:Nat), (2 : Fin 8), stalled (running2 (streaming true)), _, rfl, by decide +kernel⟩,
  ⟨(1:Nat), (2 : Fin 8), stalled (running2 (streaming true)), _, rfl, by decide +kernel⟩,
  ⟨(40000:Nat), (5 : Fin 64), moving (running2 (streaming true)), _, rfl, by decide +kernel⟩,
  ⟨(1:Nat), (2 : Fin 8), stalled (running2 (streaming true)), _, (5 : Fin 64), ({} : StatsRec), ([] : List (Fin 64 × StatsRec)), rfl, by decide +kernel⟩,
  ⟨(1:Nat), (2 : Fin 8), (5 : Fin 64), cur2 (running2 camera), _, rfl, by decide +kernel⟩⟩

theorem witness_RowsOfTheGrid :
  (∃ (dt : Nat) (r : Fin 8) (q : ViewRow) (rest : List ViewRow) (s : State) (u : State), u = s.ticked dt ∧
    u.runnels[r].path = q :: rest ∧ u.idlePorts ∧ u.clock.ext < u.rowDeadline q.row ∧ u.feeds q.row q.view = false) ∧
  (∃ (dt : Nat) (r : Fin 8) (q : ViewRow) (rest : List ViewRow) (s : State) (u : State), u = s.ticked dt ∧
    u.runnels[r].path = q :: rest ∧ u.idlePorts ∧ u.clock.ext < u.rowDeadline q.row ∧ u.feeds q.row q.view = true ∧
    u.cf.state = 1 ∧ u.cf.first ≤ q.row ∧ q.row < u.cf.oldest + (↑(basinRows u.recs.active) : Int) ∧
    u.cf.oldest ≤ q.row ∧ u.isSealed q.row = false ∧ (u.collected q.row).has q.view = false ∧ q.odd = false ∧
    (∀ (p : Int), u.cf.prev[q.view] = some p → p < q.row) ∧ u.stagingFill + blockBytes q.count (u.usedBands q.row q.view).length ≤ 4194304) ∧
  (∃ (dt : Nat) (s : State) (u : State), u = s.ticked dt ∧ u.cf.state = 1 ∧ u.isSealed u.cf.oldest = false ∧
    u.rowDeadline u.cf.oldest ≤ u.clock.ext ∧ u.cf.oldest ≤ u.cf.top) ∧
  (∃ (dt : Nat) (s : State) (u : State) (q : SealedRow), u = s.ticked dt ∧ u.cf.state = 1 ∧
    List.find? (fun q => q.row == u.cf.oldest) u.cf.sealed = some q) ∧
  (∃ (dt : Nat) (s : State) (u : State), u = s.ticked dt ∧ u.cf.state = 1 ∧
    List.find? (fun q => q.row == u.cf.oldest) u.cf.sealed = none) ∧
  (∃ (dt : Nat) (s : State) (u : State) (m : MergedRow) (ms : List MergedRow), u = s.ticked dt ∧ u.cf.out = m :: ms ∧
    m.at_ + ticksOfUs 25 < u.now) ∧
  (∃ (dt : Nat) (v : Fin 64) (s : State) (u : State), u = s.ticked dt ∧ 1024 ≤ u.cf.quiet[v] ∧
    u.cf.silent.getLsbD (↑v : Nat) = false) ∧
  (∃ (dt : Nat) (a : Arrival) (n : Nat) (es : List (Fin 64 × Int × Nat)) (s : State) (u : State), u = s.ticked dt ∧
    Memory.wf zeroByte u.lpddr = true ∧ u.cf.staged = (a.vr.view, a.vr.row, n) :: es ∧
    u.cf.collecting = [{ row := a.vr.row, arrivals := [a] : CollectRow }]) := ⟨
  ⟨(1:Nat), (2 : Fin 8), vrow, ([] : List ViewRow), path2 (merging 0), _, rfl, by decide +kernel⟩,
  ⟨(1:Nat), (2 : Fin 8), vrow, ([] : List ViewRow), path2 (merging 1), _, rfl, by decide +kernel⟩,
  ⟨(2000:Nat), { merging 1 with cf := { (merging 1).cf with top := 1 } }, _, rfl, by decide +kernel⟩,
  ⟨(2000:Nat), { merging 1 with cf := { (merging 1).cf with sealed := [sealed0], quiet := (merging 1).cf.quiet.set 5 1024 } }, _, sealed0, rfl, by decide +kernel⟩,
  ⟨(1:Nat), path2 (merging 0), _, rfl, by decide +kernel⟩,
  ⟨(10001:Nat), { merging 1 with cf := { (merging 1).cf with out := [mrow] } }, _, mrow, ([] : List MergedRow), rfl, by decide +kernel⟩,
  ⟨(2000:Nat), (5 : Fin 64), { merging 1 with cf := { (merging 1).cf with sealed := [sealed0], quiet := (merging 1).cf.quiet.set 5 1024 } }, _, rfl, by decide +kernel⟩,
  ⟨(1:Nat), ({ vr := vrow, at_ := 1 } : Arrival), (128:Nat), ([] : List (Fin 64 × Int × Nat)), { merging 1 with cf := { (merging 1).cf with staged := [(5, 1, 128)], collecting := [{ row := 1, arrivals := [{ vr := vrow, at_ := 1 }] }] } }, _, rfl, by decide +kernel⟩⟩

theorem witness_PiecesLeaveTheWeir :
  (∃ (dt : Nat) (m : MergedRow) (ms : List MergedRow) (s : State) (u : State), u = s.ticked dt ∧ u.cf.out = m :: ms ∧
    u.weir.held = [] ∧ u.twin.holdSince = none ∧ u.twin.state = TwinState.single) ∧
  (∃ (dt : Nat) (p : Piece) (rest : List Piece) (s : State) (u : State), u = s.ticked dt ∧ u.weir.held = p :: rest) ∧
  (∃ (dt : Nat) (q : Fin 8) (p : Piece) (rest : List Piece) (s : State) (u : State), u = s.ticked dt ∧
    u.weir.held = p :: rest ∧ p.stream = (↑q : Nat) ∧ u.spill[q].dropRow ≠ some p.row ∧ 8 ≤ p.bytes.length ∧
    u.roomFor q p = true) ∧
  (∃ (dt : Nat) (q : Fin 8) (p : Piece) (rest : List Piece) (s : State) (u : State), u = s.ticked dt ∧
    u.weir.held = p :: rest ∧ p.stream = (↑q : Nat) ∧ u.spill[q].dropRow ≠ some p.row ∧ 8 ≤ p.bytes.length ∧
    u.roomFor q p = false ∧ u.queueBlocked q = true) ∧
  (∃ (dt : Nat) (q : Fin 8) (p : Piece) (rest : List Piece) (s : State) (u : State), u = s.ticked dt ∧
    u.weir.held = p :: rest ∧ p.stream = (↑q : Nat) ∧ u.spill[q].dropRow ≠ some p.row ∧ 8 ≤ p.bytes.length ∧
    u.roomFor q p = false ∧ u.queueBlocked q = false ∧ u.weir.refusedAt = none) ∧
  (∃ (dt : Nat) (s : State) (u : State) (at_ : Nat), u = s.ticked dt ∧ u.weir.refusedAt = some at_ ∧
    u.weir.stalled = false ∧ at_ + ticksOfUs 25 < u.now) ∧
  (∃ (dt : Nat) (s : State) (u : State) (at_ : Nat), u = s.ticked dt ∧ u.weir.refusedAt = some at_ ∧
    u.now ≤ at_ + ticksOfUs 25) ∧
  (∃ (dt : Nat) (s : State) (u : State), u = s.ticked dt ∧ u.weir.state = 1 ∧ u.weir.learnLeft = 0) ∧
  (∃ (dt : Nat) (s : State) (u : State), u = s.ticked dt ∧ u.weir.learnLeft ≠ 0) := ⟨
  ⟨(1:Nat), mrow, ([] : List MergedRow), { merging 1 with cf := { (merging 1).cf with out := [mrow] } }, _, rfl, by decide +kernel⟩,
  ⟨(1:Nat), piece, ([] : List Piece), qst (launchQueue 2).val 2 (by decide) (holds2 up), _, rfl, by decide +kernel⟩,
  ⟨(1:Nat), (2 : Fin 8), piece, ([] : List Piece), qst (launchQueue 2).val 2 (by decide) (holds2 up), _, rfl, by decide +kernel⟩,
  ⟨(1:Nat), (2 : Fin 8), piece, ([] : List Piece), qst (launchQueue 2).val 5 (by decide) (holds2 up), _, rfl, by decide +kernel⟩,
  ⟨(1:Nat), (2 : Fin 8), piece, ([] : List Piece), linkUp (qst (launchQueue 2).val 5 (by decide) (holds2 up)), _, rfl, by decide +kernel⟩,
  ⟨(10001:Nat), up.setWeir fun w => { w with refusedAt := some 0 }, _, (0:Nat), rfl, by decide +kernel⟩,
  ⟨(10000:Nat), up.setWeir fun w => { w with refusedAt := some 0, state := 1, learnLeft := 0 }, _, (0:Nat), rfl, by decide +kernel⟩,
  ⟨(10000:Nat), up.setWeir fun w => { w with refusedAt := some 0, state := 1, learnLeft := 0 }, _, rfl, by decide +kernel⟩,
  ⟨(10000:Nat), up.setWeir fun w => { w with refusedAt := some 0, state := 1, learnLeft := 3 }, _, rfl, by decide +kernel⟩⟩

theorem witness_FramesLeave :
  (∃ (dt : Nat) (s : State) (u : State), u = s.ticked dt ∧ (u.link.tr.state = 7 ∧ u.link.txIdle = false ∧
    u.link.resend = 0 ∧ u.link.acks = [] ∧ u.replyWaits = none ∧ u.link.echoes = []) ∧ u.link.statusDue = true ∧
    u.credit 8 32 = true) ∧
  (∃ (dt : Nat) (q : Fin 8) (p : Piece) (s : State) (u : State), u = s.ticked dt ∧ (u.link.tr.state = 7 ∧
    u.link.txIdle = false ∧ u.link.resend = 0 ∧ u.link.acks = [] ∧ u.replyWaits = none ∧ u.link.echoes = []) ∧
    u.link.statusDue = false ∧ u.pickPiece = some (q, p) ∧ p.bytes.length = 64) ∧
  (∃ (dt : Nat) (s : State) (u : State), u = s.ticked dt ∧ u.link.tr.state ≠ 7) ∧
  (∃ (dt : Nat) (q : Fin 8) (s : State) (u : State) (p : Piece), u = s.ticked dt ∧ u.launchHead q = some p ∧
    u.eligible p = true) ∧
  (∃ (dt : Nat) (q : Fin 8) (s : State) (u : State) (at_ : Nat), u = s.ticked dt ∧ u.spill[q].eligibleAt = some at_ ∧
    at_ + ticksOfUs (u.linkU 16 4) ≤ u.now) ∧
  (∃ (dt : Nat) (q : Fin 8) (s : State) (u : State), u = s.ticked dt ∧ u.spill[q].eligibleAt = none) ∧
  (∃ (dt : Nat) (s : State) (u : State), u = s.ticked dt ∧ u.linkU 14 2 ≠ 0 ∧ u.linkOpen = true ∧
    u.link.statusAt + ticksOfUs (u.linkU 14 2) ≤ u.now ∧ u.credit 8 32 = true) ∧
  (∃ (dt : Nat) (s : State) (u : State), u = s.ticked dt ∧ u.linkU 14 2 ≠ 0 ∧ u.linkOpen = true ∧
    u.link.statusAt + ticksOfUs (u.linkU 14 2) ≤ u.now ∧ u.credit 8 32 = false) ∧
  (∃ (dt : Nat) (c : Fin 9) (s : State) (u : State) (at_ : Nat), u = s.ticked dt ∧
    u.refreshStarved.link.starved[c] = some at_ ∧ at_ + ticksOfUs (u.linkU 16 4) ≤ u.now) := ⟨
  ⟨(1:Nat), lnk (fun l => { l with statusDue := true }) active, _, rfl, by decide +kernel⟩,
  ⟨(1:Nat), (2 : Fin 8), lp, spill2 active, _, rfl, by decide +kernel⟩,
  ⟨(1:Nat), spill2 up, _, rfl, by decide +kernel⟩,
  ⟨(1:Nat), (2 : Fin 8), spill2 up, _, lp, rfl, by decide +kernel⟩,
  ⟨(40000:Nat), (2 : Fin 8), (spill2 active).setLaunch 2 fun x => { x with eligibleAt := some 0 }, _, (0:Nat), rfl, by decide +kernel⟩,
  ⟨(1:Nat), (2 : Fin 8), spill2 up, _, rfl, by decide +kernel⟩,
  ⟨(40000:Nat), (spill2 (active.writeBoth 0x0B01 65535 14 [1,0])), _, rfl, by decide +kernel⟩,
  ⟨(40000:Nat), lnk (fun l => { l with limits := Vector.replicate 9 0, starved := Vector.replicate 9 (some 0) }) (spill2 (active.writeBoth 0x0B01 65535 14 [1,0])), _, rfl, by decide +kernel⟩,
  ⟨(40000:Nat), (2 : Fin 9), lnk (fun l => { l with limits := Vector.replicate 9 0, starved := Vector.replicate 9 (some 0) }) (spill2 (active.writeBoth 0x0B01 65535 14 [1,0])), _, (0:Nat), rfl, by decide +kernel⟩⟩

theorem witness_FramesAndControlBlocksArrive :
  (∃ (dt : Nat) (s : State) (u : State), u = s.ticked dt ∧ u.linkOpen = true) ∧
  (∃ (dt : Nat) (n : Nat) (s : State) (u : State), u = s.ticked dt ∧ u.linkOpen = true ∧ u.link.replay ≠ [] ∧
    (∀ (f : TxFrame), f ∈ u.link.replay → seqLe f.lseq (BitVec.ofNat 16 n) = false) ∧ u.link.replayCount < 4) ∧
  (∃ (dt : Nat) (s : State) (u : State) (f : TxFrame) (fs : List TxFrame), u = s.ticked dt ∧ u.linkOpen = true ∧
    u.link.replay = f :: fs ∧ u.link.resend < u.link.replay.length ∧ u.link.replayCount < 4 ∧
    f.sentAt + ticksOfNs (u.linkU 6 2) ≤ u.now) ∧
  (∃ (dt : Nat) (s : State) (u : State) (f : TxFrame) (fs : List TxFrame), u = s.ticked dt ∧ u.linkOpen = true ∧
    u.link.replay = f :: fs ∧ u.link.resend < u.link.replay.length ∧ u.link.replayCount < 4 ∧
    u.now < f.sentAt + ticksOfNs (u.linkU 6 2)) ∧
  (∃ (dt : Nat) (c : Fin 9) (limit : Word) (s : State) (u : State), u = s.ticked dt ∧ u.linkOpen = true ∧
    0 ≤ BitVec.toInt (limit - u.link.limits[c])) ∧
  (∃ (dt : Nat) (c : Fin 9) (limit : Word) (s : State) (u : State), u = s.ticked dt ∧ u.linkOpen = true ∧
    BitVec.toInt (limit - u.link.limits[c]) < 0) ∧
  (∃ (dt : Nat) (p : Fin 18) (s : State) (u : State), u = s.ticked dt ∧ u.linkOpen = true ∧
    u.link.tr.active (↑p : Nat) = true) ∧
  (∃ (dt : Nat) (slot : Fin 2) (s : State) (u : State), u = s.ticked dt ∧ u.linkOpen = true ∧ u.accepting = true ∧
    u.mb.chans[2].slots.length = 2 ∧ (u.mb.chans[2].slots.getD (↑slot : Nat) { : Slot }).full = false) ∧
  (∃ (dt : Nat) (slot : Fin 2) (s : State) (u : State), u = s.ticked dt ∧ u.linkOpen = true ∧
    (u.mb.chans[2].slots.getD (↑slot : Nat) { : Slot }).full = true) ∧
  (∃ (dt : Nat) (n : Nat) (s : State) (u : State), u = s.ticked dt ∧ u.linkOpen = true ∧
    BitVec.ofNat 16 n ≠ u.link.nextRx ∧ seqLe (BitVec.ofNat 16 n) u.link.nextRx = false ∧ u.link.nakAt = none) ∧
  (∃ (dt : Nat) (slot : Fin 2) (s : State) (u : State), u = s.ticked dt ∧ u.linkOpen = true ∧
    u.link.replySent.contains (↑slot : Nat) = true ∧ (u.port Port.p1).outgoing = [] ∧ u.mb.chans[3].slots.length = 2) ∧
  (∃ (dt : Nat) (s : State) (u : State), u = s.ticked dt ∧ u.linkOpen = true ∧ u.syncMode = false) ∧
  (∃ (dt : Nat) (s : State) (u : State), u = s.ticked dt ∧ u.linkOpen = true ∧ u.link.nakAt = none) := ⟨
  ⟨(400000:Nat), full2 active, _, rfl, by decide +kernel⟩,
  ⟨(1:Nat), (4:Nat), lnk (fun l => { l with replay := [txf], nextTx := 6, replySent := [1] }) active, _, rfl, by decide +kernel⟩,
  ⟨(400000:Nat), lnk (fun l => { l with replay := [txf], nextTx := 6, replySent := [1] }) active, _, txf, ([] : List TxFrame), rfl, by decide +kernel⟩,
  ⟨(1:Nat), lnk (fun l => { l with replay := [txf], nextTx := 6, replySent := [1] }) active, _, txf, ([] : List TxFrame), rfl, by decide +kernel⟩,
  ⟨(1:Nat), (2 : Fin 9), (1001:Word), lnk (fun l => { l with replay := [txf], nextTx := 6 }) (active.writeBoth 0x0B01 65535 6 [200, 0]), _, rfl, by decide +kernel⟩,
  ⟨(400000:Nat), (2 : Fin 9), (999:Word), full2 active, _, rfl, by decide +kernel⟩,
  ⟨(400000:Nat), (2 : Fin 18), full2 active, _, rfl, by decide +kernel⟩,
  ⟨(1:Nat), (1 : Fin 2), lnk (fun l => { l with replay := [txf], nextTx := 6, replySent := [1] }) active, _, rfl, by decide +kernel⟩,
  ⟨(400000:Nat), (1 : Fin 2), full2 active, _, rfl, by decide +kernel⟩,
  ⟨(400000:Nat), (4:Nat), full2 active, _, rfl, by decide +kernel⟩,
  ⟨(1:Nat), (1 : Fin 2), lnk (fun l => { l with replay := [txf], nextTx := 6, replySent := [1] }) active, _, rfl, by decide +kernel⟩,
  ⟨(400000:Nat), lnk (fun l => { l with replay := [txf], nextTx := 6, replySent := [1] }) active, _, rfl, by decide +kernel⟩,
  ⟨(400000:Nat), full2 active, _, rfl, by decide +kernel⟩⟩

theorem witness_TrainingAndHandshake :
  (∃ (dt : Nat) (s : State) (u : State), u = s.ticked dt ∧ ((u.holds fun w => w == Requester.lanes) = true ∧
    u.link.rot = none) ∧ u.linkEnabled false = true ∧ u.link.tr.state = 0) ∧
  (∃ (dt : Nat) (s : State) (u : State), u = s.ticked dt ∧ ((u.holds fun w => w == Requester.lanes) = true ∧
    u.link.rot = none) ∧ u.linkEnabled false = true ∧ u.link.tr.state = 1 ∧ u.link.tr.waitLeave = false ∧
    u.link.tr.attemptAt + ticksOfMs (u.retryMs false) ≤ u.now) ∧
  (∃ (dt : Nat) (s : State) (u : State), u = s.ticked dt ∧ ((u.holds fun w => w == Requester.lanes) = true ∧
    u.link.rot = none) ∧ u.linkEnabled false = true ∧ u.link.tr.state = 1 ∧ u.link.tr.waitLeave = false ∧
    u.now < u.link.tr.attemptAt + ticksOfMs (u.retryMs false)) ∧
  (∃ (dt : Nat) (s : State) (u : State), u = s.ticked dt ∧ ((u.holds fun w => w == Requester.lanes) = true ∧
    u.link.rot = none) ∧ u.linkEnabled false = true ∧ u.link.tr.state = 1 ∧ u.link.tr.waitLeave = false) ∧
  (∃ (dt : Nat) (s : State) (u : State), u = s.ticked dt ∧ ((u.holds fun w => w == Requester.lanes) = true ∧
    u.link.rot = none) ∧ u.link.tr.waitLeave = true) ∧
  (∃ (dt : Nat) (s : State) (u : State), u = s.ticked dt ∧ u.link.tr.state = 2 ∧ u.now ≤ u.link.tr.stageAt + stageTicks 2) ∧
  (∃ (dt : Nat) (s : State) (u : State), u = s.ticked dt ∧ u.idlePorts ∧ u.link.tr.state = 2 ∧
    u.link.tr.stageAt + stageTicks 2 ≤ u.now) ∧
  (∃ (dt : Nat) (s : State) (u : State), u = s.ticked dt ∧ u.idlePorts ∧ u.link.tr.state = 3 ∧
    u.link.tr.stageAt + ticksOfUs 500 ≤ u.now) ∧
  (∃ (dt : Nat) (h : Hello) (s : State) (u : State), u = s.ticked dt ∧ u.link.tr.state = 6 ∧ u.goodHello false h = true ∧
    u.idlePorts ∧ h.seen = false) ∧
  (∃ (dt : Nat) (h : Hello) (s : State) (u : State), u = s.ticked dt ∧ u.link.tr.state = 6 ∧ u.goodHello false h = true ∧
    u.idlePorts ∧ h.seen = true ∧ u.link.tr.partner = 0 ∧ h.session ≠ 0) ∧
  (∃ (dt : Nat) (s : State) (u : State), u = s.ticked dt ∧ u.link.tr.state ≠ 6) ∧
  (∃ (dt : Nat) (p : Fin 18) (s : State) (u : State), u = s.ticked dt ∧ u.linkOpen = true ∧
    u.link.tr.active (↑p : Nat) = true ∧ (u.holds fun w => w == Requester.lanes) = true ∧ u.link.rot = none) := ⟨
  ⟨(1:Nat), grantLanes (trn (fun t => { t with state := 0, pllLocked := false }) active), _, rfl, by decide +kernel⟩,
  ⟨(4000000:Nat), grantLanes (trn (fun t => { t with state := 1 }) active), _, rfl, by decide +kernel⟩,
  ⟨(3999999:Nat), grantLanes (trn (fun t => { t with state := 1 }) active), _, rfl, by decide +kernel⟩,
  ⟨(4000000:Nat), grantLanes (trn (fun t => { t with state := 1 }) active), _, rfl, by decide +kernel⟩,
  ⟨(3999999:Nat), grantLanes (trn (fun t => { t with state := 1, waitLeave := true }) active), _, rfl, by decide +kernel⟩,
  ⟨(1:Nat), grantLanes (trn (fun t => { t with state := 2 }) active), _, rfl, by decide +kernel⟩,
  ⟨(160000:Nat), grantLanes (trn (fun t => { t with state := 2 }) active), _, rfl, by decide +kernel⟩,
  ⟨(200000:Nat), grantLanes (trn (fun t => { t with state := 3 }) active), _, rfl, by decide +kernel⟩,
  ⟨(2:Nat), ({ ident := 1, epoch := 0, limits := List.replicate 9 7, nextSeq := 0, version := 1, session := 9, rate := 3, widthMax := 2, goodLanes := 0xFF, seen := false } : Hello), (trn (fun t => { t with state := 6, partner := 0 }) active), _, rfl, by decide +kernel⟩,
  ⟨(2:Nat), ({ ident := 1, epoch := 0, limits := List.replicate 9 7, nextSeq := 0, version := 1, session := 9, rate := 3, widthMax := 2, goodLanes := 0xFF, seen := true } : Hello), (trn (fun t => { t with state := 6, partner := 0 }) active), _, rfl, by decide +kernel⟩,
  ⟨(2:Nat), grantLanes active, _, rfl, by decide +kernel⟩,
  ⟨(2:Nat), (2 : Fin 18), grantLanes active, _, rfl, by decide +kernel⟩⟩

theorem witness_RotationIdleAndLinkCommands :
  (∃ (dt : Nat) (s : State) (u : State), u = s.ticked dt ∧ u.canRotate = true ∧ u.roundDue = true ∧ u.link.tr.width ≠ 0) ∧
  (∃ (dt : Nat) (r : Rotation) (s : State) (u : State), u = s.ticked dt ∧ u.link.rot = some r ∧ r.step = 1) ∧
  (∃ (dt : Nat) (r : Rotation) (s : State) (u : State), u = s.ticked dt ∧ u.link.rot = some r ∧ r.step = 3) ∧
  (∃ (dt : Nat) (r : Rotation) (mui : Nat) (mv : Nat) (s : State) (u : State), u = s.ticked dt ∧ u.link.rot = some r ∧
    r.step = 4 ∧ u.linkU 20 2 ≤ mui ∧ u.linkU 22 2 ≤ mv) ∧
  (∃ (dt : Nat) (r : Rotation) (s : State) (u : State), u = s.ticked dt ∧ u.link.rot = some r ∧ r.step = 1 ∧
    r.since + ticksOfUs 200 ≤ u.now ∧ u.link.round = [] ∧ u.nvm.runs_ = []) ∧
  (∃ (dt : Nat) (s : State) (u : State), u = s.ticked dt ∧ u.idleDue = true) ∧
  (∃ (dt : Nat) (s : State) (u : State), u = s.ticked dt ∧ u.link.tr.state = 8 ∧ u.trafficDue = true) ∧
  (∃ (dt : Nat) (h : Hdr) (s : State) (u : State), u = s.ticked dt ∧ u.runs h Body.linkStatus) ∧
  (∃ (dt : Nat) (h : Hdr) (flags : Word) (s : State) (u : State), u = s.ticked dt ∧ u.runs h (Body.linkRetrain flags) ∧
    u.linkEnabled false = false) ∧
  (∃ (dt : Nat) (h : Hdr) (flags : Word) (s : State) (u : State), u = s.ticked dt ∧ u.runs h (Body.linkRetrain flags) ∧
    u.linkEnabled false = true ∧ BitVec.toNat flags ≤ 3 ∧ ((u.holds fun w => w == Requester.lanes) = true ∧
    u.link.rot = none) ∧ u.linkOpen = false) ∧
  (∃ (dt : Nat) (h : Hdr) (r : TestReq) (s : State) (u : State), u = s.ticked dt ∧ u.runs h (Body.linkTest r) ∧
    testBad r = none ∧ r.mode = 0 ∧ u.link.test = none) ∧
  (∃ (dt : Nat) (h : Hdr) (r : TestReq) (s : State) (u : State), u = s.ticked dt ∧ u.runs h (Body.linkTest r) ∧
    testBad r = none ∧ r.mode ≠ 0 ∧ u.linkEnabled false = true ∧ ((u.holds fun w => w == Requester.lanes) = true ∧
    u.link.rot = none) ∧ u.link.test = none ∧ r.duration ≠ 0 ∧ u.idlePorts) ∧
  (∃ (dt : Nat) (h : Hdr) (r : TestReq) (t0 : Nat) (s : State) (u : State), u = s.ticked dt ∧ h.port = Port.p0 ∧
    (u.port Port.p0).running = some { h := h, body := Body.linkTest r, wait := Waiting.linkTest, since := t0 : Running } ∧ (∀ (p : Port), p ∈ allPorts → p ≠ Port.p0 → (u.port p).running = none) ∧ t0 + ticksOfUs (BitVec.toNat r.duration) ≤ u.now ∧ u.link.test = some r ∧ ((u.holds fun w => w == Requester.lanes) = true ∧ u.link.rot = none)) ∧
  (∃ (dt : Nat) (r : TestReq) (t0 : Nat) (s : State) (u : State), u = s.ticked dt ∧ u.link.test = some r ∧
    u.link.injectAt = some t0 ∧ r.inject ≠ 0 ∧ r.injectPeriod ≠ 0 ∧ r.mode = 1 ∧
    t0 + ticksOfUs (BitVec.toNat r.injectPeriod) ≤ u.now) := ⟨
  ⟨(2:Nat), lnk (fun l => { l with roundAsked := true }) active, _, rfl, by decide +kernel⟩,
  ⟨(80000:Nat), rota 1, lnk (fun l => { l with rot := some (rota 1) }) active, _, rfl, by decide +kernel⟩,
  ⟨(80000:Nat), rota 3, lnk (fun l => { l with rot := some (rota 3) }) active, _, rfl, by decide +kernel⟩,
  ⟨(80000:Nat), rota 4, (500:Nat), (500:Nat), lnk (fun l => { l with rot := some (rota 4) }) active, _, rfl, by decide +kernel⟩,
  ⟨(80000:Nat), rota 1, lnk (fun l => { l with rot := some (rota 1) }) active, _, rfl, by decide +kernel⟩,
  ⟨(80000:Nat), active.writeBoth 0x0B01 65535 3 [1], _, rfl, by decide +kernel⟩,
  ⟨(80000:Nat), trn (fun t => { t with state := 8}) (spill2 active), _, rfl, by decide +kernel⟩,
  ⟨(1:Nat), hdr .p0, up, _, rfl, by decide +kernel⟩,
  ⟨(1:Nat), hdr .p0, (1:Word), up, _, rfl, by decide +kernel⟩,
  ⟨(1:Nat), hdr .p0, (1:Word), grantLanes (trn (fun t => { t with state := 1}) active), _, rfl, by decide +kernel⟩,
  ⟨(1:Nat), hdr .p0, req 0 5, active, _, rfl, by decide +kernel⟩,
  ⟨(1:Nat), hdr .p0, req 1 5, grantLanes (trn (fun t => { t with state := 1}) active), _, rfl, by decide +kernel⟩,
  ⟨(2000:Nat), hdr .p0, req 1 5, (0:Nat), testing (grantLanes active), _, rfl, by decide +kernel⟩,
  ⟨(2000:Nat), req 1 5, (0:Nat), testing (grantLanes active), _, rfl, by decide +kernel⟩⟩

theorem witness_Time :
  (∃ (dt : Nat) (h : Hdr) (value : Word) (s : State) (u : State), u = s.ticked dt ∧ u.runs h (Body.timeSet 0 0 value 0) ∧
    u.idlePorts ∧ u.clock.pendingSet = none ∧ -1000000000 ≤ BitVec.toInt value ∧ BitVec.toInt value ≤ 1000000000 ∧
    value ≠ 0) ∧
  (∃ (dt : Nat) (h : Hdr) (value : Word) (s : State) (u : State), u = s.ticked dt ∧ u.runs h (Body.timeSet 1 0 value 0) ∧
    u.anyStreams = true) ∧
  (∃ (dt : Nat) (value : Word) (at_ : Int) (s : State) (u : State), u = s.ticked dt ∧ u.idlePorts ∧
    u.clock.pendingSet = some (TimeChange.set false value false, at_) ∧ at_ ≤ u.clock.ext) ∧
  (∃ (dt : Nat) (value : Word) (at_ : Int) (s : State) (u : State), u = s.ticked dt ∧ u.idlePorts ∧
    u.clock.pendingSet = some (TimeChange.set false value false, at_) ∧ u.clock.ext < at_) ∧
  (∃ (dt : Nat) (h : Hdr) (incr : Word) (flags : Word) (s : State) (u : State), u = s.ticked dt ∧
    u.runs h (Body.timeIncr incr flags) ∧ BitVec.getLsbD flags 0 = false ∧ u.idlePorts ∧ 39845888 ≤ BitVec.toNat incr ∧
    BitVec.toNat incr ≤ 44040192) ∧
  (∃ (dt : Nat) (h : Hdr) (incr : Word) (flags : Word) (s : State) (u : State), u = s.ticked dt ∧
    u.runs h (Body.timeIncr incr flags) ∧ BitVec.getLsbD flags 0 = false ∧ u.idlePorts ∧ BitVec.toNat incr < 39845888) ∧
  (∃ (dt : Nat) (incr : Word) (at_ : Int) (rest : List (TimeChange × Int)) (s : State) (u : State), u = s.ticked dt ∧
    u.idlePorts ∧ u.clock.mirrored = (TimeChange.incr incr false, at_) :: rest ∧ at_ ≤ u.clock.ext) ∧
  (∃ (dt : Nat) (h : Hdr) (s : State) (u : State), u = s.ticked dt ∧ u.runs h Body.timeRead) ∧
  (∃ (dt : Nat) (s : State) (u : State), u = s.ticked dt ∧ u.clock.counted < u.clock.ext / 2 ^ 32) ∧
  (∃ (dt : Nat) (s : State) (u : State), u = s.ticked dt ∧ u.clock.ext / 2 ^ 32 ≤ u.clock.counted) ∧
  (∃ (dt : Nat) (s : State) (u : State), u = s.ticked dt ∧ u.syncMode = true ∧ u.followsLead = false ∧
    u.clock.holdover = false ∧ u.clock.beaconAt + ticksOfUs (u.au 3329 65535 4 4) ≤ u.now) ∧
  (∃ (dt : Nat) (s : State) (u : State), u = s.ticked dt ∧ u.syncMode = true ∧ u.followsLead = false ∧
    u.clock.holdover = false ∧ u.now < u.clock.beaconAt + ticksOfUs (u.au 3329 65535 4 4)) := ⟨
  ⟨(40000:Nat), hdr .p0, (100:Word), sync up, _, rfl, by decide +kernel⟩,
  ⟨(1:Nat), hdr .p0, (100:Word), streaming true, _, rfl, by decide +kernel⟩,
  ⟨(1:Nat), (100:Word), (0:Int), clk (fun k => { k with pendingSet := some (.set false 100 false, 0), mirrored := [(.incr 0x02600000 false, 0)] }) up, _, rfl, by decide +kernel⟩,
  ⟨(1:Nat), (100:Word), (2000:Int), clk (fun k => { k with pendingSet := some (.set false 100 false, 2000) }) up, _, rfl, by decide +kernel⟩,
  ⟨(40000:Nat), hdr .p0, (0x02600000:Word), (0:Word), sync up, _, rfl, by decide +kernel⟩,
  ⟨(1:Nat), hdr .p0, (0x025FFFFF:Word), (0:Word), streaming true, _, rfl, by decide +kernel⟩,
  ⟨(1:Nat), (0x02600000:Word), (0:Int), ([] : List (TimeChange × Int)), clk (fun k => { k with pendingSet := some (.set false 100 false, 0), mirrored := [(.incr 0x02600000 false, 0)] }) up, _, rfl, by decide +kernel⟩,
  ⟨(40000:Nat), hdr .p0, sync up, _, rfl, by decide +kernel⟩,
  ⟨(1:Nat), clk (fun k => { k with ext := 2^32 }) up, _, rfl, by decide +kernel⟩,
  ⟨(40000:Nat), sync up, _, rfl, by decide +kernel⟩,
  ⟨(40000:Nat), sync up, _, rfl, by decide +kernel⟩,
  ⟨(39999:Nat), sync up, _, rfl, by decide +kernel⟩⟩

theorem witness_TriggersAndCaptures :
  (∃ (dt : Nat) (h : Hdr) (r : TrigReq) (o : Fin 48) (s : State) (u : State) (k : Nat), u = s.ticked dt ∧
    u.runs h (Body.trigSchedule r) ∧ BitVec.toNat r.output = (↑o : Nat) ∧ u.trigBad r = some k) ∧
  (∃ (dt : Nat) (h : Hdr) (r : TrigReq) (o : Fin 48) (s : State) (u : State), u = s.ticked dt ∧
    u.runs h (Body.trigSchedule r) ∧ BitVec.toNat r.output = (↑o : Nat) ∧ u.trigBad r = none ∧ r.mode = 0) ∧
  (∃ (dt : Nat) (h : Hdr) (r : TrigReq) (o : Fin 48) (s : State) (u : State), u = s.ticked dt ∧
    u.runs h (Body.trigSchedule r) ∧ BitVec.toNat r.output = (↑o : Nat) ∧ u.trigBad r = none ∧ r.mode = 1 ∧
    (∀ (w : Fin 48), u.trig.outs[w].mode ≠ 3)) ∧
  (∃ (dt : Nat) (o : Fin 48) (x : OneShot) (s : State) (u : State), u = s.ticked dt ∧ u.trig.outs[o].mode = 0 ∧
    u.trig.outs[o].follow = [] ∧ u.trig.outs[o].left = none ∧ u.trig.outs[o].pulse = none ∧ u.trig.outs[o].expo = false ∧
    x.expo = false ∧ u.trig.outs[o].oneShots = [x] ∧ x.start ≤ u.clock.ext) ∧
  (∃ (dt : Nat) (o : Fin 48) (x : OneShot) (s : State) (u : State), u = s.ticked dt ∧ u.trig.outs[o].mode = 0 ∧
    u.trig.outs[o].follow = [] ∧ u.trig.outs[o].left = none ∧ u.trig.outs[o].pulse = none ∧ u.trig.outs[o].expo = false ∧
    x.expo = false ∧ u.trig.outs[o].oneShots = [x] ∧ u.clock.ext < x.start) ∧
  (∃ (dt : Nat) (o : Fin 48) (s : State) (u : State) (p : Int × Int), u = s.ticked dt ∧ u.trig.outs[o].pulse = some p ∧
    p.snd ≤ u.clock.ext) ∧
  (∃ (dt : Nat) (i : Fin 8) (s : State) (u : State), u = s.ticked dt ∧ u.au 3331 (↑i : Nat) 0 1 = 1 ∧
    (u.au 3331 (↑i : Nat) 1 1).testBit 0 = true ∧ u.trig.evins[i].ring.length < 64 ∧
    (∀ (w : Fin 48), u.trig.outs[w].mode ≠ 3) ∧ u.twin.state = TwinState.single) ∧
  (∃ (dt : Nat) (h : Hdr) (i : Fin 8) (s : State) (u : State) (k : Capture) (input : Byte), u = s.ticked dt ∧
    BitVec.toNat input = (↑i : Nat) ∧ u.runs h (Body.evinRead input 4294967295 1) ∧ u.trig.evins[i].ring = [k] ∧
    u.trig.evins[i].next = k.serial + 1) := ⟨
  ⟨(1:Nat), hdr .p0, tr 9 5000, (3 : Fin 48), outOn up, _, (18:Nat), rfl, by decide +kernel⟩,
  ⟨(1:Nat), hdr .p0, tr 0 5000, (3 : Fin 48), out3 (fun x => { x with oneShots := [shot 0] }) (outOn up), _, rfl, by decide +kernel⟩,
  ⟨(1:Nat), hdr .p0, tr 1 5000, (3 : Fin 48), outOn up, _, rfl, by decide +kernel⟩,
  ⟨(1:Nat), (3 : Fin 48), shot 0, out3 (fun x => { x with oneShots := [shot 0] }) (outOn up), _, rfl, by decide +kernel⟩,
  ⟨(1:Nat), (3 : Fin 48), shot 5000, out3 (fun x => { x with oneShots := [shot 5000] }) (outOn up), _, rfl, by decide +kernel⟩,
  ⟨(1:Nat), (3 : Fin 48), captured (out3 (fun x => { x with pulse := some (0,0) }) (outOn up)), _, ((0, 0) : Int × Int), rfl, by decide +kernel⟩,
  ⟨(1:Nat), (2 : Fin 8), outOn up, _, rfl, by decide +kernel⟩,
  ⟨(1:Nat), hdr .p0, (2 : Fin 8), captured (out3 (fun x => { x with pulse := some (0,0) }) (outOn up)), _, cap1, (2:Byte), rfl, by decide +kernel⟩⟩

theorem witness_FramesOfThePartner :
  (∃ (dt : Nat) (s : State) (u : State), u = s.ticked dt ∧ (u.gl.state = 7 ∧ u.twin.gelainUp = true ∧
    u.ev.escalate = false ∧ u.twin.mirrors = []) ∧ u.queues[41].state = 2) ∧
  (∃ (dt : Nat) (s : State) (u : State), u = s.ticked dt ∧ (u.gl.state = 7 ∧ u.twin.gelainUp = true ∧
    u.ev.escalate = false ∧ u.twin.mirrors = []) ∧ u.queues[41].state ≠ 2) ∧
  (∃ (dt : Nat) (hb : Heart) (s : State) (u : State), u = s.ticked dt ∧ (u.gl.state = 7 ∧ u.twin.gelainUp = true ∧
    u.ev.escalate = false ∧ u.twin.mirrors = []) ∧ u.twin.state = TwinState.lead ∧ hb.state = 4 ∧
    hb.epoch = u.twin.epoch ∧ BitVec.toNat hb.ident / 2 ^ 14 ≠ 0) ∧
  (∃ (dt : Nat) (e : DigestEntry) (own : Digest) (s : State) (u : State), u = s.ticked dt ∧ (u.gl.state = 7 ∧
    u.twin.gelainUp = true ∧ u.ev.escalate = false ∧ u.twin.mirrors = []) ∧ u.twin.state = TwinState.lead ∧
    u.twin.theirs = [] ∧ u.twin.own = [own] ∧ own.row = e.row ∧ own.digest = e.digest) ∧
  (∃ (dt : Nat) (e : DigestEntry) (own : Digest) (s : State) (u : State), u = s.ticked dt ∧ (u.gl.state = 7 ∧
    u.twin.gelainUp = true ∧ u.ev.escalate = false ∧ u.twin.mirrors = []) ∧ u.twin.state = TwinState.lead ∧
    u.twin.theirs = [] ∧ u.twin.own = [own] ∧ own.row = e.row ∧ own.digest ≠ e.digest ∧ u.settling e.row = false ∧
    own.arrived = e.arrived) ∧
  (∃ (dt : Nat) (g : TagEntry) (w : TagWait) (s : State) (u : State), u = s.ticked dt ∧ (u.gl.state = 7 ∧
    u.twin.gelainUp = true ∧ u.ev.escalate = false ∧ u.twin.mirrors = []) ∧ u.twin.state = TwinState.shadow ∧
    u.twin.tags = [w] ∧ w.fits g = true ∧ w.kind = 2 ∧ w.index < 64 ∧ (BitVec.toInt (g.time - w.time)).natAbs ≤ 40) ∧
  (∃ (dt : Nat) (slot : Fin 2) (s : State) (u : State), u = s.ticked dt ∧ (u.gl.state = 7 ∧ u.twin.gelainUp = true ∧
    u.ev.escalate = false ∧ u.twin.mirrors = []) ∧ u.accepting = true ∧ u.mb.chans[4].slots.length = 2 ∧
    (u.mb.chans[4].slots.getD (↑slot : Nat) { : Slot }).full = false) ∧
  (∃ (dt : Nat) (slot : Fin 2) (s : State) (u : State), u = s.ticked dt ∧ (u.gl.state = 7 ∧ u.twin.gelainUp = true ∧
    u.ev.escalate = false ∧ u.twin.mirrors = []) ∧ u.mb.chans[7].slots.length = 2 ∧
    (u.mb.chans[7].slots.getD (↑slot : Nat) { : Slot }).full = false) ∧
  (∃ (dt : Nat) (s : State) (u : State), u = s.ticked dt ∧ (u.gl.state = 7 ∧ u.twin.gelainUp = true ∧
    u.ev.escalate = false ∧ u.twin.mirrors = []) ∧ u.mb.chans[5].slots.length = 2 ∧ (u.port Port.p2).outgoing = []) ∧
  (∃ (dt : Nat) (c : StateChunk) (s : State) (u : State) (a : Nat) (bs : List Byte), u = s.ticked dt ∧ (u.gl.state = 7 ∧
    u.twin.gelainUp = true ∧ u.ev.escalate = false ∧ u.twin.mirrors = []) ∧ u.twin.state = TwinState.admitting ∧
    c.good = true ∧ c.last = false ∧ c.item = StateItem.memory a bs ∧ u.lateStrip a = false) ∧
  (∃ (dt : Nat) (epoch : Half) (s : State) (u : State), u = s.ticked dt ∧ u.gl.state = 7 ∧ u.twin.gelainUp = true ∧
    u.ev.escalate = false ∧ u.idlePorts ∧ u.twin.state = TwinState.shadow ∧ epoch = u.twin.epoch ∧ u.twin.swap = none) ∧
  (∃ (dt : Nat) (row : Word) (w : Swap) (s : State) (u : State), u = s.ticked dt ∧ u.gl.state = 7 ∧
    u.twin.gelainUp = true ∧ u.ev.escalate = false ∧ u.idlePorts ∧ u.twin.state = TwinState.lead ∧ u.twin.swap = some w ∧
    w.row = row) ∧
  (∃ (dt : Nat) (s : State) (u : State), u = s.ticked dt ∧ u.gl.state = 7 ∧ u.twin.gelainUp = true ∧
    u.ev.escalate = false ∧ u.idlePorts ∧ u.twin.state = TwinState.quarantine ∧ u.twin.swap = none) ∧
  (∃ (dt : Nat) (s : State) (u : State), u = s.ticked dt ∧ u.gl.state = 7 ∧ u.twin.gelainUp = true ∧
    u.ev.escalate = false ∧ u.idlePorts ∧ u.twin.state = TwinState.admitting ∧ u.twin.swap = none) ∧
  (∃ (dt : Nat) (epoch : Half) (s : State) (u : State), u = s.ticked dt ∧ u.gl.state = 7 ∧ u.twin.gelainUp = true ∧
    u.ev.escalate = false ∧ u.idlePorts ∧ u.twin.state = TwinState.leadAlone ∧ epoch = u.twin.epoch ∧
    BitVec.toNat u.twin.partnerIdent / 2 ^ 14 ≠ 0 ∧ u.twin.swap = none ∧ u.twin.admitting = true) := ⟨
  ⟨(1:Nat), tw (fun t => { t with own := [own9] }) (pair .lead), _, rfl, by decide +kernel⟩,
  ⟨(1:Nat), { pair .admitting with queues := (pair .admitting).queues.set 41 { state := 1 } }, _, rfl, by decide +kernel⟩,
  ⟨(1:Nat), hrt, tw (fun t => { t with own := [own9] }) (pair .lead), _, rfl, by decide +kernel⟩,
  ⟨(1:Nat), de 3, own9, tw (fun t => { t with own := [own9] }) (pair .lead), _, rfl, by decide +kernel⟩,
  ⟨(1:Nat), de 4, own9, tw (fun t => { t with own := [own9] }) (pair .lead), _, rfl, by decide +kernel⟩,
  ⟨(1:Nat), te, twt, tw (fun t => { t with tags := [twt] }) (pair .shadow), _, rfl, by decide +kernel⟩,
  ⟨(1:Nat), (1 : Fin 2), tw (fun t => { t with own := [own9] }) (pair .lead), _, rfl, by decide +kernel⟩,
  ⟨(1:Nat), (1 : Fin 2), tw (fun t => { t with own := [own9] }) (pair .lead), _, rfl, by decide +kernel⟩,
  ⟨(1:Nat), tw (fun t => { t with own := [own9] }) (pair .lead), _, rfl, by decide +kernel⟩,
  ⟨(1:Nat), chk, { pair .admitting with queues := (pair .admitting).queues.set 41 { state := 1 } }, _, (64:Nat), ([1,2,3] : List Byte), rfl, by decide +kernel⟩,
  ⟨(1:Nat), (6:Half), pair .shadow, _, rfl, by decide +kernel⟩,
  ⟨(1:Nat), (30:Word), ({ row := 30 } : Swap), tw (fun t => { t with swap := some { row := 30 } }) (pair .lead), _, rfl, by decide +kernel⟩,
  ⟨(1:Nat), (pair .quarantine), _, rfl, by decide +kernel⟩,
  ⟨(1:Nat), (pair .admitting), _, rfl, by decide +kernel⟩,
  ⟨(1:Nat), (6:Half), tw (fun t => { t with admitting := true }) (pair .leadAlone), _, rfl, by decide +kernel⟩⟩

theorem witness_TwinStates :
  (∃ (dt : Nat) (w : TagWait) (c : Fin 64) (s : State) (u : State), u = s.ticked dt ∧ u.twin.tags = [w] ∧
    w.index = (↑c : Nat) ∧ w.at_ + ticksOfNs (u.twinU 6 2) ≤ u.now) ∧
  (∃ (dt : Nat) (d : Digest) (s : State) (u : State), u = s.ticked dt ∧ u.twin.own = [d] ∧ d.at_ + ticksOfUs 1000 ≤ u.now) ∧
  (∃ (dt : Nat) (m : MirrorWait) (t0 : Nat) (s : State) (u : State), u = s.ticked dt ∧ u.twin.mirrors = [m] ∧
    BitVec.getLsbD m.word 2 = true ∧ m.sentAt = some t0 ∧ m.reply = none ∧ t0 + ticksOfUs 1000 ≤ u.now) ∧
  (∃ (dt : Nat) (t0 : Nat) (s : State) (u : State), u = s.ticked dt ∧ u.twin.state = TwinState.shadow ∧
    u.twin.holdSince = some t0 ∧ t0 + ticksOfUs 50 < u.now) ∧
  (∃ (dt : Nat) (s : State) (u : State), u = s.ticked dt ∧ u.twin.hbAlive = false ∧ u.twin.jointAt = none) ∧
  (∃ (dt : Nat) (s : State) (u : State), u = s.ticked dt ∧ u.twin.hbAlive = true ∧ u.twin.state = TwinState.shadow ∧
    u.twin.gelainUp = true) ∧
  (∃ (dt : Nat) (s : State) (u : State), u = s.ticked dt ∧ u.twin.state = TwinState.lead ∧ u.twin.gelainUp = true ∧
    u.gl.state = 7 ∧ u.twin.frameAt + ticksOfUs 20 ≤ u.now ∧ u.twin.swap = none ∧ u.twin.admitting = false ∧
    u.twin.mirrors = []) ∧
  (∃ (dt : Nat) (t0 : Nat) (s : State) (u : State), u = s.ticked dt ∧ u.twin.state = TwinState.shadowDetached ∧
    u.twin.deciding = true ∧ u.twin.jointAt = some t0 ∧ t0 + ticksOfUs (u.twinU 0 2) ≤ u.now) ∧
  (∃ (dt : Nat) (s : State) (u : State), u = s.ticked dt ∧ u.twin.state = TwinState.forming ∧
    u.twin.formAt + ticksOfMs (u.twinU 8 2) ≤ u.now ∧ u.twin.gelainUp = false ∧ u.twin.hbAlive = true) ∧
  (∃ (dt : Nat) (s : State) (u : State), u = s.ticked dt ∧ u.twin.state = TwinState.forming ∧
    u.twin.formAt + ticksOfMs (u.twinU 8 2) ≤ u.now ∧ u.twin.gelainUp = false ∧ u.twin.hbAlive = false) ∧
  (∃ (dt : Nat) (h : Hdr) (s : State) (u : State), u = s.ticked dt ∧ u.runs h Body.twinStatus) ∧
  (∃ (dt : Nat) (h : Hdr) (row : Word) (s : State) (u : State), u = s.ticked dt ∧ u.receives h ∧ h.port = Port.p0 ∧
    u.checkCmd { h := h, body := Body.roleSwap row : Cmd } = none ∧ u.twin.state = TwinState.lead ∧
    u.ev.escalate = false ∧ u.maySwap = true ∧ 4 ≤ BitVec.toInt (row - u.rowNo) ∧ row ≠ 0) ∧
  (∃ (dt : Nat) (h : Hdr) (row : Word) (s : State) (u : State), u = s.ticked dt ∧ u.receives h ∧ h.port = Port.p0 ∧
    u.checkCmd { h := h, body := Body.roleSwap row : Cmd } = none ∧ u.twin.state = TwinState.lead ∧
    u.ev.escalate = false ∧ u.maySwap = false) ∧
  (∃ (dt : Nat) (h : Hdr) (s : State) (u : State), u = s.ticked dt ∧ u.receives h ∧ h.port = Port.p0 ∧
    u.checkCmd { h := h, body := Body.twinAdmit : Cmd } = none ∧ u.twin.state = TwinState.leadAlone ∧
    u.twin.mirrors = [] ∧ u.mayAdmit = true) ∧
  (∃ (dt : Nat) (h : Hdr) (s : State) (u : State), u = s.ticked dt ∧ u.receives h ∧ h.port = Port.p0 ∧
    u.checkCmd { h := h, body := Body.twinAdmit : Cmd } = none ∧ u.twin.state = TwinState.leadAlone ∧
    u.twin.mirrors = [] ∧ u.mayAdmit = false) ∧
  (∃ (dt : Nat) (w : Swap) (s : State) (u : State), u = s.ticked dt ∧ u.idlePorts ∧ u.twin.swap = some w ∧
    u.rowNo = w.row ∧ u.twin.state = TwinState.shadow ∧ u.twin.gelainUp = true ∧ u.twin.hbAlive = true) ∧
  (∃ (dt : Nat) (w : Swap) (s : State) (u : State), u = s.ticked dt ∧ u.idlePorts ∧ u.twin.swap = some w ∧
    u.rowNo = w.row ∧ u.twin.state = TwinState.lead ∧ w.confirmed = true ∧ w.handover = true) ∧
  (∃ (dt : Nat) (s : State) (u : State), u = s.ticked dt ∧ u.twin.state = TwinState.leadAlone ∧
    u.twin.admitRow = some u.rowNo) ∧
  (∃ (dt : Nat) (s : State) (u : State) (e : Half), u = s.ticked dt ∧ u.audit.epochWrite = some e ∧
    u.pwr.pfHold = false) := ⟨
  ⟨(400000:Nat), twt, (5 : Fin 64), tw (fun t => { t with tags := [twt], own := [own9], mirrors := [mw], hbAlive := false }) (pair .lead), _, rfl, by decide +kernel⟩,
  ⟨(400000:Nat), own9, tw (fun t => { t with tags := [twt], own := [own9], mirrors := [mw], hbAlive := false }) (pair .lead), _, rfl, by decide +kernel⟩,
  ⟨(400000:Nat), mw, (0:Nat), tw (fun t => { t with tags := [twt], own := [own9], mirrors := [mw], hbAlive := false }) (pair .lead), _, rfl, by decide +kernel⟩,
  ⟨(400000:Nat), (0:Nat), tw (fun t => { t with holdSince := some 0 }) (pair .shadow), _, rfl, by decide +kernel⟩,
  ⟨(400000:Nat), tw (fun t => { t with gelainUp := false, hbAlive := false }) (pair .forming), _, rfl, by decide +kernel⟩,
  ⟨(400000:Nat), tw (fun t => { t with holdSince := some 0 }) (pair .shadow), _, rfl, by decide +kernel⟩,
  ⟨(400000:Nat), (pair .lead), _, rfl, by decide +kernel⟩,
  ⟨(400000:Nat), (0:Nat), tw (fun t => { t with deciding := true, jointAt := some 0 }) (pair .shadowDetached), _, rfl, by decide +kernel⟩,
  ⟨(400000:Nat), tw (fun t => { t with gelainUp := false }) (pair .forming), _, rfl, by decide +kernel⟩,
  ⟨(400000:Nat), tw (fun t => { t with gelainUp := false, hbAlive := false }) (pair .forming), _, rfl, by decide +kernel⟩,
  ⟨(1:Nat), hdr .p0, up, _, rfl, by decide +kernel⟩,
  ⟨(1:Nat), hdr .p0, (30:Word), (pair .lead), _, rfl, by decide +kernel⟩,
  ⟨(1:Nat), hdr .p0, (30:Word), epw (rowSwap (pair .lead)), _, rfl, by decide +kernel⟩,
  ⟨(1:Nat), hdr .p0, tw (fun t => { t with partnerState := some 6 }) (pair .leadAlone), _, rfl, by decide +kernel⟩,
  ⟨(1:Nat), hdr .p0, (rowSwap (pair .leadAlone)), _, rfl, by decide +kernel⟩,
  ⟨(1:Nat), ({ row := 0, confirmed := true, handover := true } : Swap), (rowSwap (pair .shadow)), _, rfl, by decide +kernel⟩,
  ⟨(1:Nat), ({ row := 0, confirmed := true, handover := true } : Swap), epw (rowSwap (pair .lead)), _, rfl, by decide +kernel⟩,
  ⟨(1:Nat), (rowSwap (pair .leadAlone)), _, rfl, by decide +kernel⟩,
  ⟨(1:Nat), epw (rowSwap (pair .lead)), _, (6:Half), rfl, by decide +kernel⟩⟩

end Sys2Proof.Tests
end

section
/-!
SUPPORT. What the shared operations of a command do: ports and slots, the end of a step, the reply of a command, and the state
in which a command that is taken executes.
-/
namespace Sys2Proof.Machine

/-! ### Ports and slots -/

theorem Port.idx_injective {p q : Port} (h : p.idx = q.idx) : p = q := by
  have hv : p.idx.val = q.idx.val := congrArg Fin.val h
  cases p <;> cases q <;> simp [Port.idx] at hv ⊢ <;> omega

@[simp] theorem State.port_setPort_same (s : State) (p : Port) (f : PortState → PortState) :
    (s.setPort p f).port p = f (s.port p) := upd_same ..

theorem State.port_setPort_ne (s : State) {p q : Port} (f : PortState → PortState) (h : q ≠ p) :
    (s.setPort p f).port q = s.port q :=
  upd_ne _ _ _ _ fun e => h (Port.idx_injective e).symm

theorem updAt_get_same {α : Type} (l : List α) (i : Nat) (f : α → α) (h : i < l.length) :
    (updAt l i f)[i]? = some (f l[i]) := by
  induction l generalizing i with
  | nil => exact absurd h (Nat.not_lt_zero i)
  | cons x xs ih =>
    cases i with
    | zero => rfl
    | succ i => exact ih i (Nat.lt_of_succ_lt_succ h)

theorem freeSlot_lt {c : Chan} {i : Nat} (h : freeSlot c = some i) : i < c.slots.length :=
  List.mem_range.1 (List.mem_of_find?_eq_some h)

/-- R75: the slot that was filled is full, with the packet. -/
theorem State.slot_fillSlot (s : State) (ch : Fin 10) (i : Nat) (bs : List Byte) (h : i < s.mb.chans[ch].slots.length) :
    ∃ x, (s.fillSlot ch i bs).mb.chans[ch].slots[i]? = some x ∧ x.full = true ∧ x.bytes = bs := by
  refine ⟨{ full := true, bytes := bs, since := s.now, order := s.mb.rings + 1 }, ?_, rfl, rfl⟩
  simp only [State.fillSlot, State.setSlot, State.setChan, upd_same]
  exact updAt_get_same _ _ _ h

/-! ### What a step ends with -/

theorem State.port_of_quiet {s t : State} (h : t.quiet = s.quiet) (p : Port) : t.port p = s.port p := by
  show t.quiet.port p = s.quiet.port p
  rw [h]

theorem State.recs_of_quiet {s t : State} (h : t.quiet = s.quiet) : t.recs = s.recs := by
  show t.quiet.recs = s.quiet.recs
  rw [h]

/-- Only the channel to the partner is left out of the quiet state. -/
theorem State.chan_of_quiet {s t : State} (h : t.quiet = s.quiet) (c : Fin 10) (hc : c ≠ 6) :
    t.mb.chans[c] = s.mb.chans[c] := by
  have kept : ∀ x : State, x.quiet.mb.chans[c] = x.mb.chans[c] := fun x => by
    show (x.mb.chans.set 6 { slots := [] })[c.val] = _
    exact Vector.getElem_set_ne _ _ fun e => hc (Fin.ext e.symm)
  rw [← kept s, ← kept t, h]

theorem State.still_of_quiet {s t : State} (h : t.quiet = s.quiet) : t.still = s.still := by
  have hl : t.link = s.link := by
    show t.quiet.link = s.quiet.link
    rw [h]
  unfold State.still
  rw [h, hl]

@[simp] theorem State.port_settle (s : State) (q : List Instr) (p : Port) : (s.settle q).port p = s.port p :=
  State.port_of_quiet (State.quiet_settle s q) p

@[simp] theorem State.recs_settle (s : State) (q : List Instr) : (s.settle q).recs = s.recs :=
  State.recs_of_quiet (State.quiet_settle s q)

@[simp] theorem State.still_settle (s : State) (q : List Instr) : (s.settle q).still = s.still :=
  State.still_of_quiet (State.quiet_settle s q)

/-- A step whose effect is `e` becomes `e`, with the sources set that `e` has set. -/
theorem becomes_settle {u e : State} {l : List (Nat × Nat)} (h : newlySet u e l) (q : List Instr) :
    becomes u e (e.settle q) l :=
  ⟨State.quiet_settle e q, (h.trans (newlySet_settle e q)).of_eq_list (List.append_nil l)⟩

/-- A step whose effect touches no event becomes that effect. -/
theorem becomes_settle_nil {u e : State} (h : e.ev.blocks = u.ev.blocks) (q : List Instr) : becomes u e (e.settle q) [] :=
  becomes_settle (newlySet_of_eq h) q

/-! ### What a reply leaves alone -/

@[simp] theorem State.still_setPort (s : State) (p : Port) (f : PortState → PortState) : (s.setPort p f).still = s.still := rfl

@[simp] theorem State.still_stage (s : State) (e : Entry) : (s.stage e).still = s.still :=
  State.still_of_quiet (State.quiet_stage s e)

@[simp] theorem State.still_raise (s : State) (k b : Nat) : (s.raise k b).still = s.still :=
  State.still_of_quiet (State.quiet_raise s k b)

@[simp] theorem State.still_unkeep (s : State) (c : Cmd) : (s.unkeep c).still = s.still := rfl

@[simp] theorem State.still_deliver (s : State) (p : Port) (bs : List Byte) : (s.deliver p bs).still = s.still := by
  unfold State.deliver
  split
  · rfl
  · cases p with
    | p2 => dsimp only; split <;> rfl
    | _ => rfl

@[simp] theorem State.still_send (s : State) (c : Cmd) (status : Nat) (bs : List Byte) : (s.send c status bs).still = s.still := by
  rw [State.send, State.still_deliver, State.still_setPort, State.still_unkeep]

@[simp] theorem State.still_answer (s : State) (c : Cmd) (status rflags : Nat) (used : Word) (bs : List Byte) :
    (s.answer c status rflags used bs).still = s.still := by
  unfold State.answer
  split
  · exact State.still_send ..
  · dsimp only
    split
    · rw [State.still_send, State.still_stage]
    · rw [State.still_raise, State.still_unkeep, State.still_setPort]

@[simp] theorem State.still_endDecided (s : State) (c : Cmd) (status detail : Nat) :
    (s.endDecided c status detail).still = s.still := by
  unfold State.endDecided
  dsimp only
  split
  · rfl
  · show ((s.setPort _ _).raise 49 19).still = _
    rw [State.still_raise, State.still_setPort]

/-- A reply touches nothing but ports and mailboxes. -/
@[simp] theorem State.still_reply (s : State) (c : Cmd) (status detail : Nat) (pl : List Byte) (rflags : Nat) (used : Word) :
    (s.reply c status detail pl rflags used).still = s.still := by
  unfold State.reply
  extract_lets decided rflags' bytes
  split
  · exact State.still_endDecided ..
  · split
    · split
      · exact State.still_answer ..
      · rfl
    · exact State.still_answer ..

/-! ### What a reply brings -/

/-- A reply given in `x` to a command of `h` is the reply that `State.answered` speaks of in `u`: the port hands its commands to
firmware at once and has none in execution, nothing is mirrored, the command's audit entry finds its place, and all that the
reply is made of is as in `u`. -/
structure State.RepliesAs (u x : State) (h : Hdr) : Prop where
  direct : h.port = .p0 ∨ h.port = .p1 ∨ h.port = .p3
  unmirrored : x.twin.mirrors = []
  idle : (x.port h.port).running = none
  room : x.audit.staged.length < 32
  others : ∀ p, p ≠ h.port → x.port p = u.port p
  chan : x.mb.chans[h.port.outChan] = u.mb.chans[h.port.outChan]
  epoch : x.twin.epoch = u.twin.epoch
  ident : x.ident = u.ident

theorem Port.outChan_ne_partner {p : Port} (h : p = .p0 ∨ p = .p1 ∨ p = .p3) : p.outChan ≠ 6 := by
  rcases h with rfl | rfl | rfl <;> decide

theorem State.port_deliver_ne (s : State) {p q : Port} (bs : List Byte) (h : q ≠ p) : (s.deliver p bs).port q = s.port q := by
  unfold State.deliver
  split
  · exact State.port_setPort_ne _ _ h
  · cases p with
    | p2 => dsimp only; split <;> rfl
    | _ => rfl

/-- R77: a delivery changes of its port only the replies that wait for a slot. -/
theorem State.port_deliver_same (s : State) (p : Port) (bs : List Byte) :
    ((s.deliver p bs).port p).running = (s.port p).running ∧ ((s.deliver p bs).port p).kept = (s.port p).kept := by
  unfold State.deliver
  split
  · rw [State.port_setPort_same]; exact ⟨rfl, rfl⟩
  · cases p with
    | p2 => dsimp only; split <;> exact ⟨rfl, rfl⟩
    | _ => exact ⟨rfl, rfl⟩

/-- R77: a reply that finds an empty slot stands in it. -/
theorem State.slot_deliver (s : State) (p : Port) (bs : List Byte) {i : Nat} (h : freeSlot s.mb.chans[p.outChan] = some i) :
    ∃ x, (s.deliver p bs).mb.chans[p.outChan].slots[i]? = some x ∧ x.full = true ∧ x.bytes = bs := by
  have hf := State.slot_fillSlot s p.outChan i bs (freeSlot_lt h)
  unfold State.deliver
  rw [h]
  cases p with
  | p2 => dsimp only; split <;> exact hf
  | _ => exact hf

/-- R56: a reply that is sent answers the command. -/
theorem State.answered_send {u x : State} {h : Hdr} {b : Body} {status detail : Nat} {pl : List Byte}
    (others : ∀ p, p ≠ h.port → x.port p = u.port p)
    (chan : x.mb.chans[h.port.outChan] = u.mb.chans[h.port.outChan]) :
    u.answered (x.send ⟨h, b⟩ status (u.replyTo h b status detail pl)) h b status detail pl := by
  unfold State.send
  refine ⟨?_, ?_, fun i hi => ?_, fun p hp => ?_⟩
  · rw [(State.port_deliver_same ..).1, State.port_setPort_same]
  · rw [(State.port_deliver_same ..).2, State.port_setPort_same]
  · exact State.slot_deliver _ _ _ (chan ▸ hi)
  · rw [State.port_deliver_ne _ _ hp, State.port_setPort_ne _ _ hp]
    exact others p hp

@[simp] theorem State.port_stage (s : State) (e : Entry) (p : Port) : (s.stage e).port p = s.port p := by
  unfold State.stage; split <;> rfl

@[simp] theorem State.port_raise (s : State) (k b : Nat) (p : Port) : (s.raise k b).port p = s.port p :=
  State.port_of_quiet (State.quiet_raise s k b) p

@[simp] theorem State.port_unkeep (s : State) (c : Cmd) (p : Port) : (s.unkeep c).port p = s.port p := rfl

@[simp] theorem State.mb_stage (s : State) (e : Entry) : (s.stage e).mb = s.mb := by
  unfold State.stage; split <;> rfl

/-- R18, R54: RFLAGS as the reply gives them: LATE_TIE is added when the command won a tie. -/
def State.tieFlags (s : State) (c : Cmd) (rflags : Nat) : Nat :=
  if s.wonTie c && rflags % 2 == 0 then rflags + 1 else rflags

theorem State.tieFlags_of_idle {s : State} {c : Cmd} (h : (s.port c.h.port).running = none) (rflags : Nat) :
    s.tieFlags c rflags = rflags := by
  have htie : s.wonTie c = false := by simp [State.wonTie, h]
  unfold State.tieFlags
  rw [htie]
  rfl

/-- R54: with nothing mirrored, a reply is written, or waits for its audit entry's place. -/
theorem State.reply_eq_answer (x : State) (c : Cmd) (status detail : Nat) (pl : List Byte) (rflags : Nat) (used : Word)
    (hd : c.h.port = .p0 ∨ c.h.port = .p1 ∨ c.h.port = .p3) (hm : x.twin.mirrors = []) :
    x.reply c status detail pl rflags used =
      x.answer c status (x.tieFlags c rflags) used
        (replyBytes c.body.opcode c.h.seq status (x.tieFlags c rflags) detail x.twin.epoch.toNat x.ident pl) := by
  have hmirror : x.mirrorOf c = none := by simp [State.mirrorOf, hm]
  unfold State.reply
  rw [hmirror]
  rcases hd with e | e | e <;> rw [e] <;> rfl

/-- R68, R72: with a place for its entry, a reply is sent, whether or not its command writes an entry. -/
theorem State.answered_answer {u x : State} {h : Hdr} {b : Body} {status detail : Nat} {pl : List Byte} (rflags : Nat)
    (used : Word) (room : x.audit.staged.length < 32) (others : ∀ p, p ≠ h.port → x.port p = u.port p)
    (chan : x.mb.chans[h.port.outChan] = u.mb.chans[h.port.outChan]) :
    u.answered (x.answer ⟨h, b⟩ status rflags used (u.replyTo h b status detail pl)) h b status detail pl := by
  unfold State.answer
  split
  · exact State.answered_send others chan
  · dsimp only
    refine State.answered_send (fun p hp => ?_) ?_
    · rw [State.port_stage]; exact others p hp
    · rw [State.mb_stage]; exact chan

theorem State.RepliesAs.answered_reply {u x : State} {h : Hdr} (hx : u.RepliesAs x h) (b : Body) (status detail : Nat)
    (pl : List Byte) (used : Word) :
    u.answered (x.reply ⟨h, b⟩ status detail pl 0 used) h b status detail pl := by
  have hbytes : replyBytes b.opcode h.seq status 0 detail x.twin.epoch.toNat x.ident pl = u.replyTo h b status detail pl := by
    rw [hx.epoch, hx.ident]; rfl
  rw [State.reply_eq_answer x ⟨h, b⟩ status detail pl 0 used hx.direct hx.unmirrored, State.tieFlags_of_idle hx.idle, hbytes]
  exact State.answered_answer 0 used hx.room hx.others hx.chan

/-- What a step ends with takes no answer back. -/
theorem State.answered.settle {u x : State} {h : Hdr} {b : Body} {status detail : Nat} {pl : List Byte}
    (hx : u.answered x h b status detail pl) (hp : h.port = .p0 ∨ h.port = .p1 ∨ h.port = .p3) (q : List Instr) :
    u.answered (x.settle q) h b status detail pl := by
  obtain ⟨hrun, hkept, hslot, hothers⟩ := hx
  have hch := State.chan_of_quiet (State.quiet_settle x q) h.port.outChan (Port.outChan_ne_partner hp)
  refine ⟨?_, ?_, fun i hi => ?_, fun p hne => ?_⟩
  · rw [State.port_settle]; exact hrun
  · rw [State.port_settle]; exact hkept
  · rw [hch]; exact hslot i hi
  · rw [State.port_settle]; exact hothers p hne

/-! ### Commands that are taken -/

/-- The state in which a command that reaches firmware at once executes: the twin's ports keep it until it is answered (R84),
and its port was accepted last (R38). -/
def State.taken (s : State) (c : Cmd) : State := { s with mb := (s.keepCmd c).mb, lastPort := c.h.port.toNat }

theorem State.keepCmd_eq (s : State) (c : Cmd) : s.keepCmd c = { s with mb := (s.keepCmd c).mb } := by
  unfold State.keepCmd
  dsimp only
  split <;> rfl

@[simp] theorem State.chans_taken (s : State) (c : Cmd) : (s.taken c).mb.chans = s.mb.chans := by
  show (s.keepCmd c).mb.chans = _
  unfold State.keepCmd
  dsimp only
  split <;> rfl

@[simp] theorem State.port_taken (s : State) (c : Cmd) (p : Port) : (s.taken c).port p = s.port p := rfl

@[simp] theorem State.still_taken (s : State) (c : Cmd) : (s.taken c).still = s.still := rfl

/-- R424: without a partner a command executes in the unit itself. -/
theorem State.execute_of_single {s : State} (hs : s.twin.state = .single) (c : Cmd) : s.execute c = s.run c := by
  unfold State.execute
  rw [hs]
  by_cases hm : mirrored c.body = true <;> simp [hm]

/-- R72: a command that nobody decided before executes while audit staging has room. -/
theorem State.launchCmd_of_room {s : State} {h : Hdr} {b : Body} (hm : h.mirror = none) (hr : s.audit.staged.length < 24) :
    s.launchCmd ⟨h, b⟩ = s.execute ⟨h, b⟩ := by
  unfold State.launchCmd
  simp [hm, Nat.not_le.2 hr]

/-- R53, R56: a command that repeats none and passes every check is launched. -/
theorem State.acceptCmd_of_new {s : State} {c : Cmd}
    (hk : ∀ k ∈ (s.port c.h.port).kept, ¬(k.seq = c.h.seq ∧ k.check = c.h.check ∧ k.status ≠ 1))
    (hc : s.checkCmd c = none) :
    s.acceptCmd c none = ({ s with lastPort := c.h.port.toNat } : State).launchCmd c := by
  have hfresh : ({ s with lastPort := c.h.port.toNat } : State).checkCmd c = none := hc
  have hkept : (({ s with lastPort := c.h.port.toNat } : State).port c.h.port).kept = (s.port c.h.port).kept := rfl
  unfold State.acceptCmd
  dsimp only
  rw [hfresh, hkept]
  split
  · next k e => exact if_neg (hk k e)
  · rfl

/-- R37: a command of a port that is free, with its intake empty, is accepted as it arrives. -/
theorem State.submit_of_receives {u : State} {h : Hdr} (hr : u.receives h) (b : Body) :
    u.submit h b = (u.keepCmd ⟨h, b⟩).acceptCmd ⟨h, b⟩ none := by
  obtain ⟨hport, hmir, hacc, hintake, hfree, -, -⟩ := hr
  have hfree' : (u.keepCmd ⟨h, b⟩).portFree h.port = true := by rw [State.keepCmd_eq]; exact hfree
  obtain ⟨port, seq, epochCheck, active, leaveWait, epoch, check, mirror⟩ := h
  dsimp only at hport hmir hintake hfree'
  subst hmir
  unfold State.submit
  rcases hport with rfl | rfl | rfl <;> simp [hacc, hintake, hfree']

theorem State.runs_port {u : State} {h : Hdr} {b : Body} (hr : u.runs h b) : h.port = .p0 ∨ h.port = .p1 ∨ h.port = .p3 := by
  obtain ⟨⟨⟨hport, -⟩, -⟩, -⟩ := hr
  exact hport

theorem State.runs_mirror {u : State} {h : Hdr} {b : Body} (hr : u.runs h b) : h.mirror = none := by
  obtain ⟨⟨⟨-, hmirror, -⟩, -⟩, -⟩ := hr
  exact hmirror

theorem State.runs_unmirrored {u : State} {h : Hdr} {b : Body} (hr : u.runs h b) : u.twin.mirrors = [] := by
  obtain ⟨⟨-, -, hnone⟩, -⟩ := hr
  exact hnone

/-- R37, R53, R56, R72, R424: a command that a port hands to firmware at once, and that passes every check, executes. -/
theorem State.submit_of_runs {u : State} {h : Hdr} {b : Body} (hr : u.runs h b) :
    u.submit h b = (u.taken ⟨h, b⟩).run ⟨h, b⟩ := by
  obtain ⟨⟨hrec, hsingle, -⟩, hcheck⟩ := hr
  have hsub := State.submit_of_receives hrec b
  obtain ⟨-, hmir, -, -, -, hkept, hroom⟩ := hrec
  calc u.submit h b = (u.keepCmd ⟨h, b⟩).acceptCmd ⟨h, b⟩ none := hsub
    _ = (u.taken ⟨h, b⟩).launchCmd ⟨h, b⟩ := by
      rw [State.keepCmd_eq]
      exact State.acceptCmd_of_new (s := { u with mb := (u.keepCmd ⟨h, b⟩).mb }) hkept hcheck
    _ = (u.taken ⟨h, b⟩).execute ⟨h, b⟩ :=
      State.launchCmd_of_room (s := u.taken ⟨h, b⟩) hmir hroom
    _ = (u.taken ⟨h, b⟩).run ⟨h, b⟩ :=
      State.execute_of_single (s := u.taken ⟨h, b⟩) hsingle _

theorem State.repliesAs_taken {u : State} {h : Hdr} {b : Body} (hr : u.runs h b) : u.RepliesAs (u.taken ⟨h, b⟩) h := by
  have hport := State.runs_port hr
  have hnone := State.runs_unmirrored hr
  obtain ⟨⟨⟨-, -, -, -, hfree, -, hroom⟩, -⟩, -⟩ := hr
  have hidle : (u.port h.port).running = none := by
    simp only [State.portFree, Bool.and_eq_true, Option.isNone_iff_eq_none] at hfree
    obtain ⟨⟨hidle, -⟩, -⟩ := hfree
    exact hidle
  exact { direct := hport, unmirrored := hnone, idle := hidle, room := Nat.lt_trans hroom (by decide), others := fun _ _ => rfl
          chan := by rw [State.chans_taken], epoch := rfl, ident := rfl }

theorem State.RepliesAs.congr {u x y : State} {h : Hdr} (hx : u.RepliesAs x h) (ports : y.ports = x.ports)
    (chans : y.mb.chans = x.mb.chans) (audit : y.audit.staged = x.audit.staged) (twin : y.twin = x.twin)
    (active : y.recs.active = x.recs.active) : u.RepliesAs y h := by
  have hport : ∀ p, y.port p = x.port p := fun p => by unfold State.port; rw [ports]
  have hident : y.ident = x.ident := by unfold State.ident State.deviceId State.au; rw [twin, active]
  exact { direct := hx.direct, unmirrored := twin ▸ hx.unmirrored, idle := hport _ ▸ hx.idle, room := audit ▸ hx.room
          others := fun p hp => (hport p).trans (hx.others p hp), chan := chans ▸ hx.chan, epoch := twin ▸ hx.epoch
          ident := hident.trans hx.ident }

/-- Every command of a port reaches its port after `dt` ticks, and the step settles. -/
theorem exec_of_row {dt : Nat} {h : Hdr} {b : Body} {c : Instr} (hc : b.row dt h = some c) (s : State) :
    exec c s = .next (((s.ticked dt).submit h b).settle s.pending) := by
  cases b with
  | badLength o p => exact nomatch hc
  | unknown o p => exact nomatch hc
  | _ => cases hc; rfl

/-- A command that runs and whose meaning ends with a reply is answered so; what it did beside stays as it left it. -/
theorem State.submit_answers {u x : State} {h : Hdr} {b : Body} {status detail : Nat} {pl : List Byte} {used : Word}
    (hr : u.runs h b) (hx : u.RepliesAs x h)
    (hrun : (u.taken ⟨h, b⟩).run ⟨h, b⟩ = x.reply ⟨h, b⟩ status detail pl 0 used) (q : List Instr) :
    u.answered ((u.submit h b).settle q) h b status detail pl ∧ ((u.submit h b).settle q).still = x.still := by
  rw [State.submit_of_runs hr, hrun]
  refine ⟨(hx.answered_reply b status detail pl used).settle hx.direct _, ?_⟩
  rw [State.still_settle, State.still_reply]

theorem exec_answers {dt : Nat} {h : Hdr} {b : Body} {c : Instr} {s x : State} {status detail : Nat} {pl : List Byte}
    {used : Word} (hc : b.row dt h = some c) (hr : (s.ticked dt).runs h b) (hx : (s.ticked dt).RepliesAs x h)
    (hrun : ((s.ticked dt).taken ⟨h, b⟩).run ⟨h, b⟩ = x.reply ⟨h, b⟩ status detail pl 0 used) :
    ∃ t, exec c s = .next t ∧ (s.ticked dt).answered t h b status detail pl ∧ t.still = x.still :=
  ⟨_, exec_of_row hc s, State.submit_answers hr hx hrun _⟩

/-- A command that runs and ends with OK in the state `x`. -/
theorem exec_ok {dt : Nat} {h : Hdr} {b : Body} {c : Instr} {s x : State} {pl : List Byte} (hc : b.row dt h = some c)
    (hr : (s.ticked dt).runs h b) (hx : (s.ticked dt).RepliesAs x h)
    (hrun : ((s.ticked dt).taken ⟨h, b⟩).run ⟨h, b⟩ = x.ok ⟨h, b⟩ pl) :
    ∃ t, exec c s = .next t ∧ (s.ticked dt).answered t h b 0 0 pl ∧ t.still = x.still :=
  exec_answers (x := x) hc hr hx hrun

/-- A command that runs and only reads. -/
theorem exec_reads {dt : Nat} {h : Hdr} {b : Body} {c : Instr} {s : State} {pl : List Byte} (hc : b.row dt h = some c)
    (hr : (s.ticked dt).runs h b)
    (hrun : ((s.ticked dt).taken ⟨h, b⟩).run ⟨h, b⟩ = ((s.ticked dt).taken ⟨h, b⟩).ok ⟨h, b⟩ pl) :
    ∃ t, exec c s = .next t ∧ (s.ticked dt).answered t h b 0 0 pl ∧ t.still = (s.ticked dt).still :=
  exec_ok (x := (s.ticked dt).taken ⟨h, b⟩) hc hr (State.repliesAs_taken hr) hrun

/-- A command that runs and is refused by its own meaning changes nothing. -/
theorem exec_fails {dt : Nat} {h : Hdr} {b : Body} {c : Instr} {s : State} {status detail : Nat} (hc : b.row dt h = some c)
    (hr : (s.ticked dt).runs h b)
    (hrun : ((s.ticked dt).taken ⟨h, b⟩).run ⟨h, b⟩ = ((s.ticked dt).taken ⟨h, b⟩).fail ⟨h, b⟩ status detail) :
    ∃ t, exec c s = .next t ∧ (s.ticked dt).answered t h b status detail [] ∧ t.still = (s.ticked dt).still :=
  exec_answers (x := (s.ticked dt).taken ⟨h, b⟩) hc hr (State.repliesAs_taken hr) hrun

/-- A command that runs and has a bad parameter changes nothing. -/
theorem exec_bad {dt : Nat} {h : Hdr} {b : Body} {c : Instr} {s : State} {off : Nat} (hc : b.row dt h = some c)
    (hr : (s.ticked dt).runs h b)
    (hrun : ((s.ticked dt).taken ⟨h, b⟩).run ⟨h, b⟩ = ((s.ticked dt).taken ⟨h, b⟩).bad ⟨h, b⟩ off) :
    ∃ t, exec c s = .next t ∧ (s.ticked dt).answered t h b 5 off [] ∧ t.still = (s.ticked dt).still :=
  exec_fails hc hr hrun

/-- What is still is equal in the records too. -/
theorem State.recs_of_still {s t : State} (h : t.still = s.still) : t.recs = s.recs := by
  show t.still.recs = s.still.recs
  rw [h]

/-- States that are still but for their records. -/
theorem State.still_of_still_recs {s t : State} (h : t.still = s.still) (r : Records) :
    ({ t with recs := r } : State).still = ({ s with recs := r } : State).still := by
  show ({ t.still with recs := r } : State) = { s.still with recs := r }
  rw [h]

theorem State.openFor_congr {s t : State} (h : t.recs = s.recs) (id inst : Nat) : t.openFor id inst = s.openFor id inst := by
  unfold State.openFor
  rw [h]

end Sys2Proof.Machine
end

section
/-!
SUPPORT. The state after reset (R7, R76, R94, R96, R363, R492, R567, R579).
-/
namespace Sys2Proof.Machine

/-! ### After reset -/

/-- R492: no source is set after reset. -/
theorem State.statusBit_reset (k : Fin 53) (b : Nat) : State.reset.statusBit k b = false := by
  have hk : State.reset.ev.blocks[k] = {} := Vector.getElem_replicate _
  unfold State.statusBit
  rw [hk]
  exact BitVec.getLsbD_zero

/-- R76: every slot of every channel is empty after reset. -/
theorem State.slot_reset (c : Fin 10) (i : Nat) : (State.reset.mb.chans[c].slots.getD i {}).full = false := by
  have hempty : ∀ c : Fin 10, ∀ x ∈ State.reset.mb.chans[c].slots, x.full = false := by decide
  rw [List.getD_eq_getElem?_getD]
  rcases h : State.reset.mb.chans[c].slots[i]? with _ | x
  · rfl
  · exact hempty c x (List.mem_of_getElem? h)

/-- R475, R476, R46: before CMD_READY, with no rule of the Wellhead active and no cause set, no pin is driven. -/
theorem State.pinsAgree_reset : State.reset.pinsAgree := ⟨rfl, rfl, rfl⟩

/-- Settles O4: each value is the field's reset value; those of a table hold entry by entry. -/
theorem resetValues : Obligations.ResetValues := by
  unfold Obligations.ResetValues
  have hsem : ∀ n : Fin 64, State.reset.mb.sems[n] = 0 := fun n => Vector.getElem_replicate n.isLt
  have hctx : ∀ c : Fin 64, State.reset.ctxs[c].streaming = false := fun c =>
    congrArg CtxState.streaming (Vector.getElem_replicate c.isLt)
  have hdma : ∀ c : Fin 32, State.reset.dma.chans[c].state = 0 := fun c =>
    congrArg DmaChan.state (Vector.getElem_replicate c.isLt)
  exact ⟨⟨State.statusBit_reset, hsem, State.slot_reset, rfl, rfl, rfl, rfl, rfl, rfl, hctx, rfl, rfl, rfl, rfl, hdma, rfl⟩,
    State.pinsAgree_reset⟩

end Sys2Proof.Machine
end

section
/-!
SUPPORT. Writes of registers (R7, R58 to R61): what a write does at each offset that a statement speaks of.
-/
namespace Sys2Proof.Machine

/-! ### Register writes -/

/-- R7: the reserved blocks 53 to 55 ignore what is written. -/
theorem State.writeReg_reserved (s : State) (owner : Byte) {block off : Nat} (v : Word)
    (hb : block = 53 ∨ block = 54 ∨ block = 55) (ho : off ≠ 0xF00) : s.writeReg owner block off v = s := by
  unfold State.writeReg
  rw [if_neg ho]
  rcases hb with rfl | rfl | rfl <;> rfl

/-- R245: SL_PLOG_ACK. -/
theorem State.writeReg_plogAck (s : State) (owner : Byte) (v : Word) :
    s.writeReg owner 50 0x104 v = s.ackPlog (v.setWidth 16) := rfl

/-- R125: CNT_CLEAR without DESKEW_REQ. -/
theorem State.writeReg_cntClear (s : State) (owner : Byte) (p : Fin 32) :
    s.writeReg owner p.val 0x00C 2 = s.clearCounters p := by
  unfold State.writeReg
  rw [if_neg (by decide), dif_pos p.isLt, if_pos rfl]
  rfl

/-- CHECK_FAIL of Q_STAT. -/
theorem State.writeReg_checkFail (s : State) (owner : Byte) (q : Fin 43) (v : Word) :
    s.writeReg owner 57 (0x400 + 4 * q.val) v = s.setQueue q fun x => { x with checkFail := v.getLsbD 7 } := by
  have hq := q.isLt
  have hentry : entryAt 0x400 43 (0x400 + 4 * q.val) = some q.val := by
    unfold entryAt
    rw [if_pos (by omega)]
    exact congrArg some (by omega)
  unfold State.writeReg
  rw [if_neg (by omega), dif_neg (by decide)]
  simp [hentry]

/-- The watchdog count of the boot register. -/
theorem State.writeReg_wdCount (s : State) (owner : Byte) (v : Word) :
    s.writeReg owner 52 0x100 v = { s with sys := { s.sys with wdCount := v.toNat / 4096 % 16 } } := rfl

/-- The background selection of the Weir. -/
theorem State.writeReg_backgroundSelect (s : State) (owner : Byte) (v : Word) :
    s.writeReg owner 47 0x00C v =
      s.setWeir fun w => { w with selSlot := v.toNat / 65536 % 4, selCol := v.toNat % 16384 } := by
  have hcol : bitsOf v.toNat 13 0 = v.toNat % 16384 := congrArg (· % 16384) (Nat.div_one v.toNat)
  rw [← hcol]
  rfl

/-- R61: no field outside the mailboxes, the queues and the DMA engine is firmware only. -/
theorem firmwareOnly_eq_false {block : Nat} (off : Nat) (words : List Word) (h56 : block ≠ 56) (h57 : block ≠ 57)
    (h51 : block ≠ 51) : firmwareOnly block off words = false := by
  simp [firmwareOnly, h56, h57, h51]

/-! ### REG_WRITE of one word -/

theorem State.runRegWrite_ok (s : State) (c : Cmd) {offset : Word} (v : Word) (hoff : badOffset offset 1 = false)
    (hfw : firmwareOnly (offset.toNat / 2 ^ 20) (offset.toNat % 2 ^ 20) [v] = false) :
    s.runRegWrite c offset [v] =
      (s.writeReg (portOwner c.h.port) (offset.toNat / 2 ^ 20) (offset.toNat % 2 ^ 20) v).ok c [] := by
  have hlen : ¬([v].length < 1 ∨ 16 < [v].length) := by simp
  have hoff' : ¬badOffset offset [v].length = true := by rw [List.length_singleton, hoff]; exact Bool.false_ne_true
  unfold State.runRegWrite
  extract_lets block off
  rw [if_neg hlen, if_neg hoff', hfw, Bool.false_and, if_neg Bool.false_ne_true]
  rfl

theorem State.runRegWrite_denied (s : State) (c : Cmd) {offset : Word} (v : Word) (hoff : badOffset offset 1 = false)
    (hfw : firmwareOnly (offset.toNat / 2 ^ 20) (offset.toNat % 2 ^ 20) [v] = true)
    (hport : c.h.port = .p3 → s.sys.factoryTest = false) :
    s.runRegWrite c offset [v] = s.fail c 3 c.h.port.toNat := by
  have hno : (c.h.port == .p3 && s.sys.factoryTest) = false := by
    by_cases hp : c.h.port = .p3
    · rw [hport hp, Bool.and_false]
    · rw [beq_false_of_ne hp, Bool.false_and]
  have hlen : ¬([v].length < 1 ∨ 16 < [v].length) := by simp
  have hoff' : ¬badOffset offset [v].length = true := by rw [List.length_singleton, hoff]; exact Bool.false_ne_true
  unfold State.runRegWrite
  extract_lets block off
  rw [if_neg hlen, if_neg hoff', hfw, hno]
  rfl

/-- A REG_WRITE of one word whose effect is the state `x` is answered OK, and nothing else changes. -/
theorem exec_regWrite {dt : Nat} {h : Hdr} {offset v : Word} {s x : State} (hr : (s.ticked dt).runs h (.regWrite offset [v]))
    (hoff : badOffset offset 1 = false)
    (hfw : firmwareOnly (offset.toNat / 2 ^ 20) (offset.toNat % 2 ^ 20) [v] = false)
    (hx : (s.ticked dt).RepliesAs x h)
    (hw : ((s.ticked dt).taken ⟨h, .regWrite offset [v]⟩).writeReg (portOwner h.port) (offset.toNat / 2 ^ 20)
      (offset.toNat % 2 ^ 20) v = x) :
    ∃ t, exec (.regWrite dt h offset [v]) s = .next t ∧ (s.ticked dt).answered t h (.regWrite offset [v]) 0 0 [] ∧
      t.still = x.still :=
  exec_ok rfl hr hx ((State.runRegWrite_ok _ _ v hoff hfw).trans (by rw [hw]))

/-- R7: a plain register write of firmware, after `dt` ticks. -/
theorem exec_registerWritePlain_eq (dt : Nat) (offset v : Word) (s : State) :
    exec (.registerWritePlain dt offset v) s = .next ((if badOffset offset 1 then s.ticked dt
      else (s.ticked dt).writeReg 0x10 (offset.toNat / 2 ^ 20) (offset.toNat % 2 ^ 20) v).settle s.pending) := rfl

/-- A plain register write of firmware at a good offset, whose effect is the state `x` and touches no event, becomes `x`. -/
theorem exec_registerWritePlain {dt : Nat} {offset v : Word} {s x : State} (hoff : badOffset offset 1 = false)
    (hw : (s.ticked dt).writeReg 0x10 (offset.toNat / 2 ^ 20) (offset.toNat % 2 ^ 20) v = x)
    (hev : x.ev.blocks = (s.ticked dt).ev.blocks) :
    ∃ t, exec (.registerWritePlain dt offset v) s = .next t ∧ becomes (s.ticked dt) x t [] := by
  refine ⟨x.settle s.pending, ?_, becomes_settle_nil hev _⟩
  rw [exec_registerWritePlain_eq, hoff, if_neg Bool.false_ne_true, hw]

/-- Settles O13: each offset by what a write does there; the reply leaves the effect alone. -/
theorem registerWrites : Obligations.RegisterWrites := by
  unfold Obligations.RegisterWrites
  refine ⟨fun dt h offset v s => ?_, fun dt offset v s => ?_⟩
  · intro u block off b hr hoff
    have hx := State.repliesAs_taken hr
    refine ⟨fun hfw hport => ?_, fun hb ho => ?_, fun hb ho => ?_, fun p hb ho hv => ?_⟩
    · exact exec_fails rfl hr (State.runRegWrite_denied _ _ v hoff hfw hport)
    · exact exec_regWrite (x := u.taken ⟨h, b⟩) hr hoff (firmwareOnly_eq_false _ _ (by omega) (by omega) (by omega)) hx
        (State.writeReg_reserved _ _ v hb ho)
    · refine exec_regWrite (x := (u.taken ⟨h, b⟩).ackPlog (v.setWidth 16)) hr hoff
        (firmwareOnly_eq_false _ _ (by omega) (by omega) (by omega)) (hx.congr rfl rfl rfl rfl rfl) ?_
      show State.writeReg _ _ block off v = _
      rw [hb, ho, State.writeReg_plogAck]
    · have hp := p.isLt
      subst hv
      refine exec_regWrite (x := (u.taken ⟨h, b⟩).clearCounters p) hr hoff
        (firmwareOnly_eq_false _ _ (by omega) (by omega) (by omega)) (hx.congr rfl rfl rfl rfl rfl) ?_
      show State.writeReg _ _ block off 2 = _
      rw [hb, ho, State.writeReg_cntClear]
  · intro u block off
    refine ⟨fun hoff => ?_, fun q hoff hb ho => ?_, fun hoff hb ho => ?_, fun hoff hb ho => ?_⟩
    · refine ⟨u.settle s.pending, ?_, becomes_settle_nil rfl _⟩
      rw [exec_registerWritePlain_eq, hoff, if_pos rfl]
    · refine exec_registerWritePlain hoff ?_ rfl
      show State.writeReg _ _ block off v = _
      rw [hb, ho, State.writeReg_checkFail]
    · refine exec_registerWritePlain hoff ?_ rfl
      show State.writeReg _ _ block off v = _
      rw [hb, ho, State.writeReg_wdCount]
    · refine exec_registerWritePlain hoff ?_ rfl
      show State.writeReg _ _ block off v = _
      rw [hb, ho, State.writeReg_backgroundSelect]

end Sys2Proof.Machine
end

section
/-!
SUPPORT. The records a host writes and reads (R10, R62 to R64).
-/
namespace Sys2Proof.Machine

/-! ### REC_WRITE and REC_READ -/

theorem recShape_isNone_of_recExists {id inst : Nat} (h : recExists id inst = true) : (recShape id).isNone = false := by
  unfold recExists at h
  split at h
  · exact absurd h Bool.false_ne_true
  · next e => rw [e]; rfl

/-- R63: a last piece closes its record; any other leaves it open for its port. -/
theorem State.openFor_noteOpen (s : State) (id inst : Nat) (p : Port) (last : Bool) :
    (s.noteOpen id inst p last).openFor id inst = if last then none else some p := by
  have hrest : (s.recs.opens.filter fun o => !(o.id == id && o.inst == inst)).find? (fun o => o.id == id && o.inst == inst) =
      none := by
    rw [List.find?_eq_none]
    intro o ho
    simpa only [Bool.not_eq_true, Bool.not_eq_true'] using (List.mem_filter.1 ho).2
  unfold State.noteOpen State.openFor
  dsimp only
  cases last with
  | true => rw [if_pos rfl, hrest]; rfl
  | false =>
    rw [if_neg Bool.false_ne_true, List.find?_append, hrest]
    simp

/-- A piece of a record touches nothing but the records. -/
theorem State.noteOpen_writePending_recs (u : State) (id inst off : Nat) (data : List Byte) (p : Port) (last : Bool) :
    ({ (u.writePending id inst off data).noteOpen id inst p last with recs := u.recs } : State) = u := rfl

/-- R10, R63: what REC_WRITE does with a piece it takes: the first bad field refuses it, else it joins the pending copy. -/
theorem State.runRecWrite_of_writable (s : State) (c : Cmd) (id inst : Half) (off : Word) (first last : Bool)
    (data : List Byte) (hm : c.h.mirror = none)
    (hw : s.writable c.h.port id.toNat inst.toNat off.toNat first data) :
    s.runRecWrite c id inst off first last data =
      (badField (fieldsOf id.toNat inst.toNat) off.toNat data data.length).elim
        (((s.writePending id.toNat inst.toNat off.toNat data).noteOpen id.toNat inst.toNat c.h.port last).ok c [])
        fun a => s.bad c (28 + (a - off.toNat)) := by
  obtain ⟨hid, hex, halign, hlen, hfirst, hunlocked, hown, hmap⟩ := hw
  have hport : fetchPort c.h = c.h.port := by unfold fetchPort; rw [hm]
  have hid' : (id.toNat == 0x0306) = false := beq_false_of_ne hid
  have hfits : ¬(off.toNat % 4 != 0 ∨ s.recLength id.toNat inst.toNat < off.toNat + data.length) := by
    unfold State.recLength
    rw [if_neg hid, halign]
    simpa using hlen
  have hopen : (!first && s.openFor id.toNat inst.toNat != some c.h.port) = false := by
    rcases hfirst with e | e <;> simp [e]
  have hother : (s.openFor id.toNat inst.toNat).any (· != c.h.port) = false := by
    rcases e : s.openFor id.toNat inst.toNat with _ | q
    · rfl
    · simpa using hown q e
  unfold State.runRecWrite
  simp only [hid', hport, recShape_isNone_of_recExists hex, hex, hfits, hopen, hmap, hunlocked, hother, Bool.false_and,
    Bool.not_false, Bool.true_and, Bool.not_true, Bool.or_false, Bool.false_eq_true, if_false]
  rcases badField (fieldsOf id.toNat inst.toNat) off.toNat data data.length with _ | a <;> rfl

theorem State.runRecWrite_good {s : State} {c : Cmd} {id inst : Half} {off : Word} {first : Bool} {data : List Byte}
    (hm : c.h.mirror = none) (hw : s.writable c.h.port id.toNat inst.toNat off.toNat first data)
    (hgood : badField (fieldsOf id.toNat inst.toNat) off.toNat data data.length = none) (last : Bool) :
    s.runRecWrite c id inst off first last data =
      ((s.writePending id.toNat inst.toNat off.toNat data).noteOpen id.toNat inst.toNat c.h.port last).ok c [] := by
  rw [State.runRecWrite_of_writable s c id inst off first last data hm hw, hgood]
  rfl

theorem State.runRecWrite_badField {s : State} {c : Cmd} {id inst : Half} {off : Word} {first : Bool} {data : List Byte}
    {a : Nat} (hm : c.h.mirror = none) (hw : s.writable c.h.port id.toNat inst.toNat off.toNat first data)
    (hbad : badField (fieldsOf id.toNat inst.toNat) off.toNat data data.length = some a) (last : Bool) :
    s.runRecWrite c id inst off first last data = s.bad c (28 + (a - off.toNat)) := by
  rw [State.runRecWrite_of_writable s c id inst off first last data hm hw, hbad]
  rfl

/-- R64: REC_READ of a record that exists, with a good COUNT, and an OFFSET in its range. -/
theorem State.runRecRead_ok (s : State) (c : Cmd) {id inst : Half} {off count : Word} (hid : id ≠ 0x0306)
    (hex : recExists id.toNat inst.toNat = true) (h4 : 4 ≤ count.toNat) (h224 : count.toNat ≤ 224)
    (hmod : count.toNat % 4 = 0) (halign : off.toNat % 4 = 0) (hin : off.toNat + count.toNat ≤ recSize id.toNat) :
    s.runRecRead c id inst off count =
      s.ok c (recBytes (if c.h.active then s.recs.active else s.recs.pending) id.toNat inst.toNat off.toNat count.toNat ++
        leWord (crc32c (recBytes (if c.h.active then s.recs.active else s.recs.pending) id.toNat inst.toNat 0
          (recSize id.toNat)))) := by
  have hne : id.toNat ≠ 0x0306 := fun e => hid (BitVec.eq_of_toNat_eq e)
  have hid' : (id.toNat == 0x0306) = false := beq_false_of_ne hne
  have hcount : ¬(count.toNat < 4 ∨ 224 < count.toNat ∨ count.toNat % 4 ≠ 0) := by omega
  have hrange : ¬(off.toNat % 4 != 0 ∨ s.recLength id.toNat inst.toNat < off.toNat + count.toNat) := by
    unfold State.recLength
    rw [if_neg hne, halign]
    simpa using hin
  unfold State.runRecRead
  simp only [hid', recShape_isNone_of_recExists hex, hex, hcount, hrange, Bool.false_and, Bool.not_false, Bool.true_and,
    Bool.not_true, Bool.or_false, Bool.false_eq_true, if_false]

/-- R64: REC_READ with a good COUNT, but an OFFSET that is misaligned or leaves the record. -/
theorem State.runRecRead_badOffset (s : State) (c : Cmd) {id inst : Half} {off count : Word} (hid : id ≠ 0x0306)
    (hex : recExists id.toNat inst.toNat = true) (h4 : 4 ≤ count.toNat) (h224 : count.toNat ≤ 224)
    (hmod : count.toNat % 4 = 0) (hbad : off.toNat % 4 ≠ 0 ∨ recSize id.toNat < off.toNat + count.toNat) :
    s.runRecRead c id inst off count = s.bad c 20 := by
  have hne : id.toNat ≠ 0x0306 := fun e => hid (BitVec.eq_of_toNat_eq e)
  have hid' : (id.toNat == 0x0306) = false := beq_false_of_ne hne
  have hcount : ¬(count.toNat < 4 ∨ 224 < count.toNat ∨ count.toNat % 4 ≠ 0) := by omega
  have hrange : off.toNat % 4 != 0 ∨ s.recLength id.toNat inst.toNat < off.toNat + count.toNat := by
    unfold State.recLength
    rw [if_neg hne]
    simpa using hbad
  unfold State.runRecRead
  simp only [hid', recShape_isNone_of_recExists hex, hex, hcount, hrange, Bool.false_and, Bool.not_false, Bool.true_and,
    Bool.not_true, Bool.or_false, Bool.false_eq_true, if_false, if_true]

/-- A REC_WRITE of a good piece is answered OK; the pending copy and the open state of its record are all that changed. -/
theorem exec_recWrite_good {dt : Nat} {h : Hdr} {id inst : Half} {off : Word} {first last : Bool} {data : List Byte}
    {s : State} (hr : (s.ticked dt).runs h (.recWrite id inst off first last data))
    (hw : (s.ticked dt).writable h.port id.toNat inst.toNat off.toNat first data)
    (hgood : badField (fieldsOf id.toNat inst.toNat) off.toNat data data.length = none) :
    ∃ t, exec (.recWrite dt h id inst off first last data) s = .next t ∧
      (s.ticked dt).answered t h (.recWrite id inst off first last data) 0 0 [] ∧
      t.still = (((s.ticked dt).writePending id.toNat inst.toNat off.toNat data).noteOpen id.toNat inst.toNat h.port
        last).still := by
  let c : Cmd := ⟨h, .recWrite id inst off first last data⟩
  let x := (((s.ticked dt).taken c).writePending id.toNat inst.toNat off.toNat data).noteOpen id.toNat inst.toNat h.port last
  have hmir : h.mirror = none := State.runs_mirror hr
  have hw' : ((s.ticked dt).taken c).writable h.port id.toNat inst.toNat off.toNat first data := hw
  have hx : (s.ticked dt).RepliesAs x h := (State.repliesAs_taken hr).congr rfl rfl rfl rfl rfl
  have hrun : ((s.ticked dt).taken c).run c = x.ok c [] := State.runRecWrite_good (c := c) hmir hw' hgood last
  obtain ⟨t, hexec, hans, hstill⟩ := exec_ok (x := x) rfl hr hx hrun
  exact ⟨t, hexec, hans, hstill.trans (State.still_of_still_recs (State.still_taken (s.ticked dt) c) _)⟩

/-- Settles O16: the pending copy is written by an operation that touches nothing else, and a reply touches no record. -/
theorem recordCopies : Obligations.RecordCopies := by
  unfold Obligations.RecordCopies
  refine ⟨fun dt h id inst off first last data s => ?_, fun dt h id inst off count s => ?_⟩
  · intro u b hr hw
    refine ⟨fun hgood => ?_, fun a hbad => ?_⟩
    · obtain ⟨t, hexec, hans, hstill⟩ := exec_recWrite_good (last := last) hr hw hgood
      have hrecs := State.recs_of_still hstill
      refine ⟨t, hexec, hans, ?_, ?_, ?_, ?_⟩
      · rw [hrecs]; rfl
      · rw [hrecs]; rfl
      · rw [State.openFor_congr hrecs, State.openFor_noteOpen]
      · rw [State.still_of_still_recs hstill u.recs, State.noteOpen_writePending_recs]
    · have hmir : h.mirror = none := State.runs_mirror hr
      have hw' : (u.taken ⟨h, b⟩).writable h.port id.toNat inst.toNat off.toNat first data := hw
      exact exec_bad rfl hr (State.runRecWrite_badField (s := u.taken ⟨h, b⟩) (c := ⟨h, b⟩) hmir hw' hbad last)
  · intro u b m hr hid hex
    refine ⟨fun h4 h224 hmod halign hin => ?_, fun h4 h224 hmod hbad => ?_⟩
    · obtain ⟨t, hexec, hans, hstill⟩ := exec_reads rfl hr (State.runRecRead_ok _ _ hid hex h4 h224 hmod halign hin)
      exact ⟨t, hexec, hstill, hans⟩
    · obtain ⟨t, hexec, hans, hstill⟩ := exec_bad rfl hr (State.runRecRead_badOffset _ _ hid hex h4 h224 hmod hbad)
      exact ⟨t, hexec, hstill, hans⟩

end Sys2Proof.Machine
end

section
/-!
SUPPORT. What follows an activation of records (R13, R64) changes no record and mirrors no command.
-/
namespace Sys2Proof.Machine

/-! ### Operations that change no record -/

/-- The records are `r`, and no command is mirrored. -/
structure State.RecsAre (r : Records) (s : State) : Prop where
  recs : s.recs = r
  unmirrored : s.twin.mirrors = []

theorem State.RecsAre.of_twin {r : Records} {s t : State} (h : s.RecsAre r) (hr : t.recs = s.recs) (ht : t.twin = s.twin) :
    t.RecsAre r := ⟨hr.trans h.recs, ht ▸ h.unmirrored⟩

theorem State.RecsAre.ite {r : Records} {x y : State} {p : Prop} [Decidable p] (hx : x.RecsAre r) (hy : y.RecsAre r) :
    State.RecsAre r (if p then x else y) := by
  split <;> assumption

theorem State.RecsAre.foldl {r : Records} {α : Type} {f : State → α → State} (l : List α) {s : State} (h : s.RecsAre r)
    (hf : ∀ s a, State.RecsAre r s → State.RecsAre r (f s a)) : State.RecsAre r (l.foldl f s) := by
  induction l generalizing s with
  | nil => exact h
  | cons a l ih => exact ih (hf s a h)

@[simp] theorem State.twin_stage (s : State) (e : Entry) : (s.stage e).twin = s.twin := by
  unfold State.stage; split <;> rfl

@[simp] theorem State.twin_occur (s : State) (c : Src) (x y : Bool) : (s.occur c x y).twin = s.twin := by
  unfold State.occur
  split
  · dsimp only
    split
    · rfl
    · rw [State.twin_stage]
  · rfl

@[simp] theorem State.twin_noteOverflow (s t : State) : (s.noteOverflow t).twin = t.twin := by
  unfold State.noteOverflow
  split
  · exact State.twin_occur ..
  · rfl

@[simp] theorem State.twin_raise (s : State) (k b : Nat) : (s.raise k b).twin = s.twin :=
  (State.twin_noteOverflow ..).trans (State.twin_occur ..)

@[simp] theorem State.twin_raiseHeld (s : State) (k b : Nat) : (s.raiseHeld k b).twin = s.twin :=
  (State.twin_noteOverflow ..).trans (State.twin_occur ..)

section
variable {r : Records} {s : State}

theorem State.RecsAre.stage (h : s.RecsAre r) (e : Entry) : (s.stage e).RecsAre r :=
  h.of_twin (State.recs_of_quiet (State.quiet_stage s e)) (State.twin_stage s e)

theorem State.RecsAre.noteOverflow (h : s.RecsAre r) (t : State) : (t.noteOverflow s).RecsAre r :=
  h.of_twin (State.recs_of_quiet (State.quiet_noteOverflow t s)) (State.twin_noteOverflow t s)

theorem State.RecsAre.log (h : s.RecsAre r) (e : Entry) : (s.log e).RecsAre r := (h.stage e).noteOverflow s

theorem State.RecsAre.raise (h : s.RecsAre r) (k b : Nat) : (s.raise k b).RecsAre r :=
  h.of_twin (State.recs_of_quiet (State.quiet_raise s k b)) (State.twin_raise s k b)

theorem State.RecsAre.raiseHeld (h : s.RecsAre r) (k b : Nat) : (s.raiseHeld k b).RecsAre r :=
  h.of_twin (State.recs_of_quiet (State.quiet_raiseHeld s k b)) (State.twin_raiseHeld s k b)

theorem State.RecsAre.raiseIf (h : s.RecsAre r) (p : Bool) (k b : Nat) : (s.raiseIf p k b).RecsAre r :=
  .ite (h.raise k b) h

theorem State.RecsAre.raiseLevel (h : s.RecsAre r) (p : Bool) (k b : Nat) : (s.raiseLevel p k b).RecsAre r := by
  unfold State.raiseLevel
  split
  · refine .ite (.ite h (h.raiseHeld k b)) ?_
    unfold State.causeGone
    split <;> exact ⟨h.recs, h.unmirrored⟩
  · exact h

/-! ### Replies -/

theorem State.twin_deliver (s : State) (p : Port) (bs : List Byte) : (s.deliver p bs).twin = s.twin := by
  unfold State.deliver
  split
  · rfl
  · cases p with
    | p2 => dsimp only; split <;> rfl
    | _ => rfl

theorem State.twin_send (s : State) (c : Cmd) (status : Nat) (bs : List Byte) : (s.send c status bs).twin = s.twin :=
  State.twin_deliver _ _ _

theorem State.twin_answer (s : State) (c : Cmd) (status rflags : Nat) (used : Word) (bs : List Byte) :
    (s.answer c status rflags used bs).twin = s.twin := by
  unfold State.answer
  split
  · exact State.twin_send ..
  · dsimp only
    split
    · rw [State.twin_send, State.twin_stage]
    · exact State.twin_raise ..

theorem State.RecsAre.answer (h : s.RecsAre r) (c : Cmd) (status rflags : Nat) (used : Word) (bs : List Byte) :
    (s.answer c status rflags used bs).RecsAre r :=
  h.of_twin (State.recs_of_still (State.still_answer ..)) (State.twin_answer ..)

theorem State.mirrors_endDecided (s : State) (c : Cmd) (status detail : Nat) :
    (s.endDecided c status detail).twin.mirrors = s.twin.mirrors := by
  unfold State.endDecided
  dsimp only
  split
  · rfl
  · exact congrArg Twin.mirrors (State.twin_raise _ 49 19)

theorem State.RecsAre.reply (h : s.RecsAre r) (c : Cmd) (status detail : Nat) (pl : List Byte) (rflags : Nat) (used : Word) :
    (s.reply c status detail pl rflags used).RecsAre r := by
  refine ⟨(State.recs_of_still (State.still_reply ..)).trans h.recs, ?_⟩
  have hm : s.mirrorOf c = none := by simp [State.mirrorOf, h.unmirrored]
  unfold State.reply
  extract_lets decided rflags' bytes
  rw [hm]
  split
  · rw [State.mirrors_endDecided]; exact h.unmirrored
  · exact (h.answer ..).unmirrored

theorem State.RecsAre.applyReply (h : s.RecsAre r) (c : Cmd) (a : Scheduled) : (s.applyReply c a).RecsAre r := h.reply ..

/-! ### Leave -/

theorem State.RecsAre.release (h : s.RecsAre r) (f : Requester → Bool) : (s.release f).RecsAre r := ⟨h.recs, h.unmirrored⟩

theorem State.RecsAre.denyLeave (h : s.RecsAre r) (q : LeaveReq) (cause status : Nat) :
    (s.denyLeave q cause status).RecsAre r := by
  unfold State.denyLeave
  extract_lets waited w s1
  have h1 : s1.RecsAre r := ⟨h.recs, h.unmirrored⟩
  exact (h1.raise 52 16).log _

theorem State.RecsAre.askSelf (h : s.RecsAre r) (who : Requester) (kind cost prio : Nat) :
    (s.askSelf who kind cost prio).1.RecsAre r := by
  unfold State.askSelf
  dsimp only
  split
  · exact h.denyLeave ..
  · exact ⟨h.recs, h.unmirrored⟩

/-! ### What a record that became active does -/

theorem State.RecsAre.endRun (h : s.RecsAre r) (x : CalSession) : (s.endRun x).RecsAre r := by
  unfold State.endRun
  extract_lets s1 s2 w s3 s4 s5
  have h3 : s3.RecsAre r := .ite ⟨h.recs, h.unmirrored⟩ ⟨h.recs, h.unmirrored⟩
  have h4 : s4.RecsAre r := h3.raiseIf _ 52 20
  have h5 : s5.RecsAre r := .ite ⟨h4.recs, h4.unmirrored⟩ h4
  split
  · exact h5
  · split
    · exact h5.reply ..
    · exact h5

theorem State.RecsAre.partEnded (h : s.RecsAre r) (p : CalPart) (result : Nat) (es : List CalElem) :
    (s.partEnded p result es).RecsAre r := by
  unfold State.partEnded
  extract_lets rejected s1 s2
  have h1 : s1.RecsAre r := ⟨h.recs, h.unmirrored⟩
  have h2 : s2.RecsAre r := (h1.raiseIf _ 52 21).log _
  exact h2.foldl _ fun t x ht => ht.endRun x

theorem State.RecsAre.rotationEnded (h : s.RecsAre r) (result : Nat) : (s.rotationEnded result).RecsAre r := by
  unfold State.rotationEnded
  extract_lets es l s1
  have h1 : s1.RecsAre r := ⟨h.recs, h.unmirrored⟩
  exact h1.partEnded ..

theorem State.RecsAre.closeLink (h : s.RecsAre r) : s.closeLink.RecsAre r := by
  unfold State.closeLink
  extract_lets was off s1 s2 s3
  have h0 : State.RecsAre r (if s.link.rot.isSome then s.rotationEnded 2 else s) := .ite (h.rotationEnded 2) h
  have h1 : s1.RecsAre r := ⟨h0.recs, h0.unmirrored⟩
  have h2 : s2.RecsAre r := .ite (h1.release _) h1
  have h3 : s3.RecsAre r := .ite (h2.raiseHeld 48 1) h2
  exact .ite (h3.raiseHeld 48 19) h3

theorem State.RecsAre.stageOpen (h : s.RecsAre r) (origin kind : Nat) : (s.stageOpen origin kind).RecsAre r := by
  have h1 := h.stage (s.entry origin kind (Config.freeWord s.freeCtr).toNat
    ((Config.freeWord (s.freeCtr + 1)).setWidth 64 ++ Config.freeWord (s.freeCtr + 2) |>.setWidth 64))
  exact ⟨h1.recs, h1.unmirrored⟩

theorem State.RecsAre.logTime (h : s.RecsAre r) : s.logTime.RecsAre r := (h.stageOpen 0x10 8).noteOverflow s

theorem State.RecsAre.leaveHoldover (h : s.RecsAre r) : s.leaveHoldover.RecsAre r := by
  unfold State.leaveHoldover
  exact .ite (State.RecsAre.logTime ⟨h.recs, h.unmirrored⟩) h

theorem State.RecsAre.retryRound (h : s.RecsAre r) : s.retryRound.RecsAre r := by
  have ha := h.askSelf (.calibration none) 5 20 2
  unfold State.retryRound State.askRound
  exact .ite (.ite h (.ite ⟨ha.recs, ha.unmirrored⟩ ⟨ha.recs, ha.unmirrored⟩)) h

theorem State.RecsAre.recordEffect (h : s.RecsAre r) (k : Change) (p : Nat × Nat) : (s.recordEffect k p).RecsAre r := by
  unfold State.recordEffect
  split
  · exact .ite ⟨h.recs, h.unmirrored⟩ h
  · exact ⟨h.recs, h.unmirrored⟩
  · exact .ite h.closeLink h
  · exact .ite h.leaveHoldover h
  · exact ⟨h.recs, h.unmirrored⟩
  · exact h.raise 47 23
  · exact ⟨h.recs, h.unmirrored⟩
  · exact h.retryRound
  · exact h

theorem State.RecsAre.trimStitch (h : s.RecsAre r) : s.trimStitch.RecsAre r := .ite (h.release _) h

theorem State.RecsAre.refreshPlan (h : s.RecsAre r) : s.refreshPlan.RecsAre r :=
  State.RecsAre.foldl _ ⟨h.recs, h.unmirrored⟩ fun _ _ ht => ht.raiseLevel ..

theorem State.RecsAre.afterApply (h : s.RecsAre r) (old : List Host.Cell) (pairs : List (Nat × Nat)) :
    (s.afterApply old pairs).RecsAre r := by
  unfold State.afterApply
  extract_lets k s1 s2
  have h1 : s1.RecsAre r := h.foldl _ fun t p ht => ht.recordEffect k p
  have h2 : s2.RecsAre r := .ite (h1.raiseLevel ..) h1
  exact h2.trimStitch.refreshPlan

/-! ### Activation -/

theorem State.RecsAre.askMove (h : s.RecsAre r) (p : Nat × Nat) : (s.askMove p).RecsAre r := by
  unfold State.askMove
  refine .ite ?_ h
  have ha := h.askSelf (.move (Fin.ofNat 64 p.2)) 4 (s.contextCost (Fin.ofNat 64 p.2)) 4
  exact ⟨ha.recs, ha.unmirrored⟩

theorem State.RecsAre.refreshLoad (h : s.RecsAre r) : s.refreshLoad.RecsAre r :=
  h.foldl _ fun _ _ ht => ht.raiseLevel ..

/-- R13: the records of a REC_APPLY become active together; of what follows nothing changes a record. -/
theorem State.recsAre_bringIn (s : State) (a : Scheduled) (hm : s.twin.mirrors = []) :
    (s.bringIn a).RecsAre
      { s.recs with active := activated s.recs a.pairs, scheduled := s.recs.scheduled.filter (· != a) } := by
  unfold State.bringIn State.activate
  extract_lets recs s1
  have h1 : s1.RecsAre s1.recs := ⟨rfl, hm⟩
  have h2 : (s1.logBoundary a).refreshLoad.RecsAre s1.recs := (h1.log _).refreshLoad
  exact (h2.foldl a.pairs fun t p ht => ht.askMove p).afterApply _ _

end
end Sys2Proof.Machine
end

section
/-!
SUPPORT. REC_APPLY (R11 to R15, R64), the records that time closes (R63) and the rows that time brings (R252).
-/
namespace Sys2Proof.Machine

/-! ### Acceptance of a REC_APPLY -/

/-- What a REC_APPLY of these records would change. -/
def State.changeOf (s : State) (ps : List (Nat × Nat)) : Change :=
  { old := s.recs.active, new := activated s.recs ps, pairs := ps }

/-- The REC_APPLY of a command as it is scheduled, at its boundary. -/
def State.applyOf (s : State) (c : Cmd) (kind ctx : Nat) (ps : List (Nat × Nat)) (boundary : Int) : Scheduled :=
  { kind, ctx, boundary, pairs := ps, port := c.h.port, seq := c.h.seq, originId := s.originId c.h.port, moved := false }

/-- R15: an accepted REC_APPLY is scheduled, and its records are locked. -/
def State.schedule (s : State) (a : Scheduled) : State :=
  { s with recs := { s.recs with scheduled := s.recs.scheduled ++ [a] } }

theorem getD_mem_of_lt {α : Type} (l : List α) (i : Nat) (d : α) (h : i < l.length) : l.getD i d ∈ l := by
  rw [List.getD_eq_getElem?_getD, List.getElem?_eq_getElem h, Option.getD_some]
  exact List.getElem_mem h

theorem State.applyBlocked_of_applies {s : State} {kind ctx : Nat} {ps : List (Nat × Nat)} (h : s.applies kind ctx ps) :
    s.applyBlocked (s.changeOf ps) = 0 := by
  obtain ⟨-, -, -, -, -, -, -, hfree⟩ := h
  exact hfree

/-- R11, R64: a REC_APPLY that passes its own checks and needs no leave goes on to the checks of its records together. -/
theorem State.runRecApply_of_applies (s : State) (c : Cmd) (kind : Byte) (ctx : Half) (boundary : Word)
    (pairs : List (Half × Half))
    (h : s.applies kind.toNat ctx.toNat (pairs.map fun p => (p.1.toNat, p.2.toNat))) :
    s.runRecApply c kind ctx boundary pairs =
      s.acceptApply c kind.toNat ctx.toNat boundary (pairs.map fun p => (p.1.toNat, p.2.toNat)) := by
  obtain ⟨hgrid, hkind, hpos, hmax, hctx, hall, hstitch, -⟩ := h
  unfold State.runRecApply
  extract_lets ps n kd cx k missing
  have hgrid' : ¬(kd = 1 ∧ s.grid.valid = false) := fun ⟨e, hv⟩ => Bool.noConfusion (hv.symm.trans (hgrid e))
  have hkinds : ¬(2 < kd ∨ ps.any (fun p => !s.acceptsKind k kd p) = true) := by
    rintro (e | e)
    · exact Nat.not_lt.2 hkind e
    · obtain ⟨p, hp, hbad⟩ := List.any_eq_true.1 e
      obtain ⟨-, hkindOk, -⟩ := hall p hp
      rw [hkindOk] at hbad
      exact Bool.noConfusion hbad
  have hcount : ¬(n = 0 ∨ 48 < n) := by
    have h1 : 1 ≤ n := hpos
    have h2 : n ≤ 48 := hmax
    omega
  have hframe : ¬(kd = 2 ∧ 64 ≤ cx) := fun ⟨e, hc⟩ => Nat.not_lt.2 hc (hctx e)
  have hmissing : missing = none := by
    refine List.find?_eq_none.2 fun i hi => ?_
    have hmem := getD_mem_of_lt ps i (0, 0) (List.mem_range.1 hi)
    obtain ⟨hexists, -⟩ := hall _ hmem
    rw [hexists]
    exact Bool.false_ne_true
  have haccepts : ¬(ps.any fun p => !s.accepts k kd cx p) = true := by
    intro e
    obtain ⟨p, hp, hbad⟩ := List.any_eq_true.1 e
    obtain ⟨-, -, haccept, -⟩ := hall p hp
    rw [haccept] at hbad
    exact Bool.noConfusion hbad
  have hfree : ¬(ps.any fun p => s.locked p.1 p.2 || (s.openFor p.1 p.2).isSome) = true := by
    intro e
    obtain ⟨p, hp, hbad⟩ := List.any_eq_true.1 e
    obtain ⟨-, -, -, hunlocked, hclosed⟩ := hall p hp
    rw [hunlocked, hclosed] at hbad
    exact Bool.noConfusion hbad
  have hleave : ¬(stitching k.old = 0 ∧ 0 < stitching k.new ∧ s.holds isStitch = false) := by
    rintro ⟨hold, hnew, -⟩
    rcases hstitch with e | e
    · exact Nat.lt_irrefl 0 (lt_of_lt_of_eq hnew e)
    · exact Nat.lt_irrefl 0 (lt_of_lt_of_eq e hold)
  rw [if_neg hgrid', if_neg hkinds, if_neg hcount, if_neg hframe, hmissing]
  dsimp only
  rw [if_neg haccepts, if_neg hfree, if_neg hleave]

/-- R12: a combination of records that is not consistent is refused. -/
theorem State.acceptApply_inconsistent {s : State} {ps : List (Nat × Nat)} {off : Nat}
    (h : s.inconsistent (s.changeOf ps) = some off) (c : Cmd) (kind ctx : Nat) (boundary : Word) :
    s.acceptApply c kind ctx boundary ps = s.trimStitch.bad c off := by
  have h' : s.inconsistent { old := s.recs.active, new := activated s.recs ps, pairs := ps } = some off := h
  unfold State.acceptApply
  simp only [h']

section
variable {s : State} {ps : List (Nat × Nat)} (hcons : s.inconsistent (s.changeOf ps) = none)
  (hfree : s.applyBlocked (s.changeOf ps) = 0)
include hcons hfree

/-- R13: at once. -/
theorem State.acceptApply_now (hret : (s.changeOf ps).retrains = false) (hheld : s.applyHeld ps = false) (c : Cmd)
    (ctx : Nat) (boundary : Word) :
    s.acceptApply c 0 ctx boundary ps = (s.schedule (s.applyOf c 0 ctx ps 0)).applyNow c (s.applyOf c 0 ctx ps 0) := by
  unfold State.acceptApply
  extract_lets k base
  have hcons' : s.inconsistent k = none := hcons
  have hfree' : s.applyBlocked k = 0 := hfree
  have hret' : k.retrains = false := hret
  rw [hcons', hfree']
  dsimp only
  rw [if_pos rfl, hret', if_neg Bool.false_ne_true, hheld, if_neg Bool.false_ne_true]
  rfl

/-- R11: at a row of the grid. -/
theorem State.acceptApply_row {boundary : Word} (hmoved : (s.rowBoundary boundary ps).2 = false) (c : Cmd) (ctx : Nat) :
    s.acceptApply c 1 ctx boundary ps =
      (s.scheduleRow (s.applyOf c 1 ctx ps (s.rowBoundary boundary ps).1)).applyReply c
        (s.applyOf c 1 ctx ps (s.rowBoundary boundary ps).1) := by
  unfold State.acceptApply
  extract_lets k base
  have hcons' : s.inconsistent k = none := hcons
  have hfree' : s.applyBlocked k = 0 := hfree
  rw [hcons', hfree']
  dsimp only
  rw [if_neg (by decide), if_pos rfl, hmoved]
  rfl

/-- R11: at a frame or line of a context. -/
theorem State.acceptApply_frame {ctx : Nat} {boundary : Word} (hmoved : (s.frameBoundary ctx boundary).2 = false) (c : Cmd) :
    s.acceptApply c 2 ctx boundary ps =
      (s.schedule (s.applyOf c 2 ctx ps (s.frameBoundary ctx boundary).1)).applyReply c
        (s.applyOf c 2 ctx ps (s.frameBoundary ctx boundary).1) := by
  unfold State.acceptApply
  extract_lets k base
  have hcons' : s.inconsistent k = none := hcons
  have hfree' : s.applyBlocked k = 0 := hfree
  rw [hcons', hfree']
  dsimp only
  rw [if_neg (by decide), if_neg (by decide), hmoved]
  rfl

end

/-- R15: the records of a scheduled REC_APPLY are locked. -/
theorem State.locked_of_scheduled {s : State} {a : Scheduled} (ha : a ∈ s.recs.scheduled) {p : Nat × Nat} (hp : p ∈ a.pairs) :
    s.locked p.1 p.2 = true :=
  List.any_eq_true.2 ⟨a, ha, List.contains_iff_mem.2 hp⟩

theorem State.locked_congr {s t : State} (h : t.recs = s.recs) (id inst : Nat) : t.locked id inst = s.locked id inst := by
  unfold State.locked
  rw [h]

/-- What becomes active follows from the pending and the active copies alone. -/
theorem activated_congr (ps : List (Nat × Nat)) {r r' : Records} (ha : r.active = r'.active) (hp : r.pending = r'.pending) :
    activated r ps = activated r' ps := by
  induction ps generalizing r r' with
  | nil => exact ha
  | cons p ps ih =>
    refine ih ?_ hp
    unfold activateRec
    dsimp only
    rw [ha, hp]

/-! ### A REC_APPLY that takes effect at once -/

/-- R56: an answered command leaves its port, and its reply is kept, also while the reply waits. -/
theorem State.port_answer (x : State) (c : Cmd) (status rflags : Nat) (used : Word) (bs : List Byte) :
    ((x.answer c status rflags used bs).port c.h.port).running = none ∧
      ((x.answer c status rflags used bs).port c.h.port).kept =
        some { seq := c.h.seq, check := c.h.check, status, bytes := bs } := by
  have hsend : ∀ y : State, ((y.send c status bs).port c.h.port).running = none ∧
      ((y.send c status bs).port c.h.port).kept = some { seq := c.h.seq, check := c.h.check, status, bytes := bs } := by
    intro y
    have hd := State.port_deliver_same ((y.unkeep c).setPort c.h.port fun q => { q with
      running := none, entryWait := none, kept := some { seq := c.h.seq, check := c.h.check, status, bytes := bs } }) c.h.port bs
    rw [State.port_setPort_same] at hd
    exact hd
  unfold State.answer
  split
  · exact hsend x
  · dsimp only
    split
    · exact hsend _
    · rw [State.port_raise, State.port_unkeep, State.port_setPort_same]
      exact ⟨rfl, rfl⟩

/-- R13, R64: an immediate REC_APPLY: the pending contents of its records become active together, and it is answered OK. -/
theorem State.applyNow_spec (s : State) (c : Cmd) (a : Scheduled) (hm : s.twin.mirrors = [])
    (hd : c.h.port = .p0 ∨ c.h.port = .p1 ∨ c.h.port = .p3) :
    (s.applyNow c a).recs.active = activated s.recs a.pairs ∧ (s.applyNow c a).recs.pending = s.recs.pending ∧
      ((s.applyNow c a).port c.h.port).running = none ∧
      ∃ r, ((s.applyNow c a).port c.h.port).kept = some r ∧ r.seq = c.h.seq ∧ r.status = 0 := by
  unfold State.applyNow
  extract_lets drop s1 b s2 b'
  have h2 : s2.RecsAre _ := State.recsAre_bringIn s1 { a with boundary := b } hm
  have hrecs := (h2.applyReply c { a with boundary := b' }).recs
  refine ⟨?_, ?_, ?_⟩
  · rw [hrecs]
    exact activated_congr _ rfl rfl
  · rw [hrecs]
  · unfold State.applyReply
    rw [State.reply_eq_answer s2 c 0 0 _ _ _ hd h2.unmirrored]
    exact ⟨(State.port_answer ..).1, _, (State.port_answer ..).2, rfl, rfl⟩

/-! ### Rows and open records -/

theorem Records.filter_rows_of_nil {r : Records} (h : r.rows = []) (f : RowSwitch → Bool) :
    ({ r with rows := r.rows.filter f } : Records) = r := by
  cases r
  cases h
  rfl

theorem State.filter_rows_of_nil {s : State} (h : s.recs.rows = []) (f : RowSwitch → Bool) :
    ({ s with recs := { s.recs with rows := s.recs.rows.filter f } } : State) = s := by
  rw [Records.filter_rows_of_nil h]

/-- R285: an idle Confluence seals no row. -/
theorem State.sealComplete_of_idle {s : State} (h : s.cf.state = 0) : s.sealComplete = s := by
  have hstop : s.cfStop = s := by
    unfold State.cfStop
    exact if_pos h
  unfold State.sealComplete
  rw [hstop]
  exact if_pos h

/-- R252: before its reference time the next row does not come. -/
theorem State.advanceRow_early {s : State} (h : s.clock.ext < s.tref (s.grid.row + 1)) : s.advanceRow = s := by
  unfold State.advanceRow
  rw [decide_eq_false (Int.not_le.2 h), Bool.and_false]
  rfl

/-- R252: with nothing that waits for a row, the next row does no more than become the current one. -/
theorem State.advanceRow_plain {s : State} (hv : s.grid.valid = true) (hdue : s.tref (s.grid.row + 1) ≤ s.clock.ext)
    (hsched : s.recs.scheduled = []) (hrows : s.recs.rows = []) (hcf : s.cf.state = 0) :
    s.advanceRow = { s with grid := { s.grid with row := s.grid.row + 1 } } := by
  unfold State.advanceRow
  rw [hv, decide_eq_true hdue, Bool.and_self, if_pos rfl]
  extract_lets k g s1 s2
  have hnone : s1.rowBoundaries k = s1 := by
    unfold State.rowBoundaries
    rw [show s1.recs.scheduled = [] from hsched]
    rfl
  have h2 : s2 = s1 := by
    show (s1.rowBoundaries k).sealComplete = s1
    rw [hnone]
    exact State.sealComplete_of_idle hcf
  show ({ s2 with recs := { s2.recs with rows := s2.recs.rows.filter fun w => decide (k < w.boundary + 8192) } } : State) = s1
  rw [h2]
  exact State.filter_rows_of_nil (s := s1) hrows _

/-! ### The command REC_APPLY -/

/-- The records that a REC_APPLY names. -/
abbrev recordPairs (pairs : List (Half × Half)) : List (Nat × Nat) := pairs.map fun p => (p.1.toNat, p.2.toNat)

/-- R11, R64: a REC_APPLY that runs and passes its own checks goes on to the checks of its records together. -/
theorem State.run_recApply {u : State} {h : Hdr} {kind : Byte} {ctx : Half} {boundary : Word} {pairs : List (Half × Half)}
    (happ : u.applies kind.toNat ctx.toNat (recordPairs pairs)) :
    (u.taken ⟨h, .recApply kind ctx boundary pairs⟩).run ⟨h, .recApply kind ctx boundary pairs⟩ =
      (u.taken ⟨h, .recApply kind ctx boundary pairs⟩).acceptApply ⟨h, .recApply kind ctx boundary pairs⟩ kind.toNat ctx.toNat
        boundary (recordPairs pairs) :=
  State.runRecApply_of_applies (u.taken ⟨h, .recApply kind ctx boundary pairs⟩) _ kind ctx boundary pairs happ

theorem State.RepliesAs.trimStitch {u x : State} {h : Hdr} (hx : u.RepliesAs x h) : u.RepliesAs x.trimStitch h := by
  unfold State.trimStitch
  extract_lets coming
  split
  · exact hx.congr rfl rfl rfl rfl rfl
  · exact hx

/-- The reply of a scheduled REC_APPLY whose boundary is the one named. -/
theorem State.applyReply_unmoved (s : State) (c : Cmd) (a : Scheduled) (h : a.moved = false) :
    s.applyReply c a =
      s.reply c 0 0 (leBytes 2 a.kind ++ leBytes 2 (if a.kind = 2 then a.ctx else 0) ++ leBytes 4 (wrapOf 32 a.boundary)) 0
        (BitVec.ofInt 32 a.boundary) := by
  unfold State.applyReply
  rw [h]
  rfl

section
variable {u : State} {h : Hdr} {ctx : Half} {boundary : Word} {pairs : List (Half × Half)} (q : List Instr)

/-- R13: a REC_APPLY at once. -/
theorem State.submit_recApply_now (hr : u.runs h (.recApply 0 ctx boundary pairs))
    (happ : u.applies 0 ctx.toNat (recordPairs pairs)) (hcons : u.inconsistent (u.changeOf (recordPairs pairs)) = none)
    (hret : (u.changeOf (recordPairs pairs)).retrains = false) (hheld : u.applyHeld (recordPairs pairs) = false) :
    let t := (u.submit h (.recApply 0 ctx boundary pairs)).settle q
    t.recs.active = activated u.recs (recordPairs pairs) ∧ t.recs.pending = u.recs.pending ∧
      (t.port h.port).running = none ∧ ∃ r, (t.port h.port).kept = some r ∧ r.seq = h.seq ∧ r.status = 0 := by
  let c : Cmd := ⟨h, .recApply 0 ctx boundary pairs⟩
  let v := u.taken c
  let a := v.applyOf c 0 ctx.toNat (recordPairs pairs) 0
  have hrun : u.submit h c.body = (v.schedule a).applyNow c a :=
    (State.submit_of_runs hr).trans ((State.run_recApply happ).trans
      (State.acceptApply_now (s := v) hcons (State.applyBlocked_of_applies happ) hret hheld
        c ctx.toNat boundary))
  obtain ⟨hactive, hpending, hanswer⟩ := State.applyNow_spec (v.schedule a) c a (State.runs_unmirrored hr) (State.runs_port hr)
  intro t
  have hrecs : t.recs = ((v.schedule a).applyNow c a).recs := by rw [← hrun]; exact State.recs_settle ..
  have hport : t.port h.port = ((v.schedule a).applyNow c a).port h.port := by rw [← hrun]; exact State.port_settle ..
  rw [hrecs, hport, hactive, hpending]
  exact ⟨activated_congr _ rfl rfl, rfl, hanswer⟩

/-- R11, R15: a REC_APPLY for a row of the grid. -/
theorem State.submit_recApply_row (hr : u.runs h (.recApply 1 ctx boundary pairs))
    (happ : u.applies 1 ctx.toNat (recordPairs pairs)) (hcons : u.inconsistent (u.changeOf (recordPairs pairs)) = none)
    (hmoved : (u.rowBoundary boundary (recordPairs pairs)).2 = false) :
    let t := (u.submit h (.recApply 1 ctx boundary pairs)).settle q
    t.recs.active = u.recs.active ∧ t.recs.pending = u.recs.pending ∧ (∀ p ∈ recordPairs pairs, t.locked p.1 p.2 = true) ∧
      u.answered t h (.recApply 1 ctx boundary pairs) 0 0 (leBytes 2 1 ++ leBytes 2 0 ++
        leBytes 4 (wrapOf 32 (u.rowBoundary boundary (recordPairs pairs)).1)) := by
  let c : Cmd := ⟨h, .recApply 1 ctx boundary pairs⟩
  let v := u.taken c
  let a := v.applyOf c 1 ctx.toNat (recordPairs pairs) (v.rowBoundary boundary (recordPairs pairs)).1
  have hx : u.RepliesAs (v.scheduleRow a) h := (State.repliesAs_taken hr).congr rfl rfl rfl rfl rfl
  have hrun : v.run c = (v.scheduleRow a).applyReply c a :=
    (State.run_recApply happ).trans (State.acceptApply_row (s := v) hcons (State.applyBlocked_of_applies happ) hmoved c ctx.toNat)
  obtain ⟨hans, hstill⟩ := State.submit_answers hr hx (hrun.trans (State.applyReply_unmoved _ c a rfl)) q
  have hrecs := State.recs_of_still hstill
  refine ⟨by rw [hrecs]; rfl, by rw [hrecs]; rfl, fun p hp => ?_, hans⟩
  rw [State.locked_congr hrecs]
  exact State.locked_of_scheduled (a := a) (List.mem_append_right _ (List.mem_singleton.2 rfl)) hp

/-- R11, R15: a REC_APPLY for a frame or line of a context. -/
theorem State.submit_recApply_frame (hr : u.runs h (.recApply 2 ctx boundary pairs))
    (happ : u.applies 2 ctx.toNat (recordPairs pairs)) (hcons : u.inconsistent (u.changeOf (recordPairs pairs)) = none)
    (hmoved : (u.frameBoundary ctx.toNat boundary).2 = false) :
    let t := (u.submit h (.recApply 2 ctx boundary pairs)).settle q
    t.recs.active = u.recs.active ∧ t.recs.pending = u.recs.pending ∧ (∀ p ∈ recordPairs pairs, t.locked p.1 p.2 = true) ∧
      u.answered t h (.recApply 2 ctx boundary pairs) 0 0 (leBytes 2 2 ++ leBytes 2 ctx.toNat ++
        leBytes 4 (wrapOf 32 (u.frameBoundary ctx.toNat boundary).1)) := by
  let c : Cmd := ⟨h, .recApply 2 ctx boundary pairs⟩
  let v := u.taken c
  let a := v.applyOf c 2 ctx.toNat (recordPairs pairs) (v.frameBoundary ctx.toNat boundary).1
  have hx : u.RepliesAs (v.schedule a) h := (State.repliesAs_taken hr).congr rfl rfl rfl rfl rfl
  have hrun : v.run c = (v.schedule a).applyReply c a :=
    (State.run_recApply happ).trans (State.acceptApply_frame (s := v) hcons (State.applyBlocked_of_applies happ) hmoved c)
  obtain ⟨hans, hstill⟩ := State.submit_answers hr hx (hrun.trans (State.applyReply_unmoved _ c a rfl)) q
  have hrecs := State.recs_of_still hstill
  refine ⟨by rw [hrecs]; rfl, by rw [hrecs]; rfl, fun p hp => ?_, hans⟩
  rw [State.locked_congr hrecs]
  exact State.locked_of_scheduled (a := a) (List.mem_append_right _ (List.mem_singleton.2 rfl)) hp

/-- R12: a REC_APPLY of records that do not go together. -/
theorem State.submit_recApply_inconsistent {kind : Byte} {off : Nat} (hr : u.runs h (.recApply kind ctx boundary pairs))
    (happ : u.applies kind.toNat ctx.toNat (recordPairs pairs))
    (hbad : u.inconsistent (u.changeOf (recordPairs pairs)) = some off) :
    let t := (u.submit h (.recApply kind ctx boundary pairs)).settle q
    t.recs = u.recs ∧ u.answered t h (.recApply kind ctx boundary pairs) 5 off [] := by
  let c : Cmd := ⟨h, .recApply kind ctx boundary pairs⟩
  let v := u.taken c
  have hx : u.RepliesAs v.trimStitch h := (State.repliesAs_taken hr).trimStitch
  have hrecs : v.trimStitch.recs = v.recs := (State.RecsAre.trimStitch (s := v) ⟨rfl, State.runs_unmirrored hr⟩).recs
  have hrun : v.run c = v.trimStitch.bad c off :=
    (State.run_recApply happ).trans (State.acceptApply_inconsistent (s := v) hbad c kind.toNat ctx.toNat boundary)
  obtain ⟨hans, hstill⟩ := State.submit_answers (x := v.trimStitch) hr hx hrun q
  exact ⟨(State.recs_of_still hstill).trans hrecs, hans⟩

end

theorem State.becomes_closeRecord (u : State) (id inst : Nat) (q : List Instr) :
    becomes u { u with recs := { u.recs with
      opens := u.recs.opens.filter fun o => !(o.id == id && o.inst == inst && decide (o.at_ + 40000000 ≤ u.now)) } }
      ((u.closeRecord_ id inst).settle q) [] :=
  becomes_settle_nil rfl q

/-- Settles O17: what a REC_APPLY does by the kind of its boundary, then what time does to open records and to rows. -/
theorem recordsBecomeActive : Obligations.RecordsBecomeActive := by
  unfold Obligations.RecordsBecomeActive
  refine ⟨fun dt h kind ctx boundary pairs s => ?_, fun dt id inst s => ?_⟩
  · intro u b ps k hr happ
    refine ⟨fun hkind hcons hret hheld => ?_, fun hkind hcons hmoved => ?_, fun hkind hcons hmoved => ?_, fun off hbad => ?_⟩
    · subst hkind
      exact ⟨_, exec_of_row rfl s, State.submit_recApply_now _ hr happ hcons hret hheld⟩
    · subst hkind
      exact ⟨_, exec_of_row rfl s, State.submit_recApply_row _ hr happ hcons hmoved⟩
    · subst hkind
      exact ⟨_, exec_of_row rfl s, State.submit_recApply_frame _ hr happ hcons hmoved⟩
    · exact ⟨_, exec_of_row rfl s, State.submit_recApply_inconsistent _ hr happ hbad⟩
  · intro u
    have hrow : exec (.gridRowAdvance dt) s = .next (u.advanceRow.settle s.pending) := rfl
    refine ⟨⟨(u.closeRecord_ id.toNat inst.toNat).settle s.pending, rfl, u.becomes_closeRecord ..⟩,
      fun hv hdue hsched hrows hcf => ?_, fun hearly => ?_⟩
    · rw [State.advanceRow_plain hv hdue hsched hrows hcf] at hrow
      exact ⟨_, hrow, becomes_settle_nil rfl _⟩
    · rw [State.advanceRow_early hearly] at hrow
      exact ⟨_, hrow, becomes_settle_nil rfl _⟩

end Sys2Proof.Machine
end

section
/-!
SUPPORT. What every step ends with (R475 to R479, R485), seen from the mailboxes: the semaphores and the semaphore word driven
out stay, and so does every channel while no command is mirrored.
-/
namespace Sys2Proof.Machine

/-! ### The answer to an escalation -/

/-- The mailboxes, the commands mirrored to the partner, and the semaphore word driven out. -/
def State.posted (s : State) : Mailbox × List MirrorWait × Word := (s.mb, s.twin.mirrors, s.out.sem)

theorem State.mb_of_posted {s t : State} (h : t.posted = s.posted) : t.mb = s.mb := congrArg (·.1) h

theorem State.mirrors_of_posted {s t : State} (h : t.posted = s.posted) : t.twin.mirrors = s.twin.mirrors :=
  congrArg (·.2.1) h

theorem State.outSem_of_posted {s t : State} (h : t.posted = s.posted) : t.out.sem = s.out.sem := congrArg (·.2.2) h

theorem State.posted_ite {p : Prop} [Decidable p] {x y : State} {v : Mailbox × List MirrorWait × Word} (hx : x.posted = v)
    (hy : y.posted = v) : (if p then x else y).posted = v := by
  split <;> assumption

@[simp] theorem State.posted_stage (s : State) (e : Entry) : (s.stage e).posted = s.posted := by
  unfold State.stage; split <;> rfl

@[simp] theorem State.posted_occur (s : State) (c : Src) (x y : Bool) : (s.occur c x y).posted = s.posted := by
  unfold State.occur
  split
  · exact State.posted_ite rfl (State.posted_stage ..)
  · rfl

@[simp] theorem State.posted_noteOverflow (s t : State) : (s.noteOverflow t).posted = t.posted :=
  State.posted_ite (State.posted_occur ..) rfl

@[simp] theorem State.posted_log (s : State) (e : Entry) : (s.log e).posted = s.posted := by simp [State.log]

@[simp] theorem State.posted_raise (s : State) (k b : Nat) : (s.raise k b).posted = s.posted := by simp [State.raise]

@[simp] theorem State.posted_raiseHeld (s : State) (k b : Nat) : (s.raiseHeld k b).posted = s.posted := by
  simp [State.raiseHeld]

@[simp] theorem State.posted_sendG (s : State) (f : GFrame) : (s.sendG f).posted = s.posted := State.posted_ite rfl rfl

@[simp] theorem State.posted_setEpoch (s : State) (e : Half) : (s.setEpoch e).posted = s.posted := State.posted_ite rfl rfl

/-- R408: a state that is entered is reported, and clears waits of the twin that are no mirrored commands. -/
@[simp] theorem State.posted_enter (s : State) (t : TwinState) (e : Half) : (s.enter t e).posted = s.posted := by
  unfold State.enter
  extract_lets old oldEpoch s1 w s2 a s3 s4 s5 s6 s7 u s8 leaves
  have h1 : s2.posted = s.posted := State.posted_setEpoch s e
  have h3 : s3.posted = s.posted := (State.posted_log ..).trans h1
  have h4 : s4.posted = s.posted := State.posted_ite ((State.posted_raise ..).trans h3) h3
  have h5 : s5.posted = s.posted := State.posted_ite ((State.posted_raiseHeld ..).trans h4) h4
  have h6 : s6.posted = s.posted := State.posted_ite ((State.posted_raiseHeld ..).trans h5) h5
  have h7 : s7.posted = s.posted := State.posted_ite ((State.posted_raise ..).trans h6) h6
  exact State.posted_ite (x := State.raise _ 50 23) ((State.posted_raise ..).trans h7) (State.posted_ite h7 h7)

@[simp] theorem State.posted_fence (s : State) : s.fence.posted = s.posted := by
  unfold State.fence; split <;> simp

@[simp] theorem State.posted_escalateNow (s : State) : s.escalateNow.posted = s.posted := by
  unfold State.escalateNow
  split
  · exact State.posted_ite (State.posted_sendG ..) rfl
  · exact State.posted_fence s
  · exact State.posted_fence s
  · rfl

@[simp] theorem State.posted_causeGone (s : State) (k b : Nat) : (s.causeGone k b).posted = s.posted := by
  unfold State.causeGone; split <;> rfl

theorem State.posted_causesGone (l : List (Nat × Nat × (Unit → Bool))) (s : State) :
    (l.foldl (fun s c => s.causeGone c.1 c.2.1) s).posted = s.posted := by
  induction l generalizing s with
  | nil => rfl
  | cons c l ih => exact (ih _).trans (State.posted_causeGone ..)

@[simp] theorem State.posted_refreshCauses (s : State) : s.refreshCauses.posted = s.posted := State.posted_causesGone _ s

/-! ### Mirrored commands -/

/-- R424: nothing goes out to the partner while no command is mirrored. -/
theorem State.sendMirrors_of_unmirrored {s : State} (h : s.twin.mirrors = []) : s.sendMirrors = s := by
  unfold State.sendMirrors
  rw [h]
  rfl

@[simp] theorem State.outSem_sendMirrors (s : State) : s.sendMirrors.out.sem = s.out.sem := by
  unfold State.sendMirrors
  split
  · split
    · dsimp only
      unfold State.sendG
      split <;> rfl
    · rfl
  · rfl

/-! ### The end of a step -/

/-- R46, R475, R476: the levels of the pins. -/
theorem State.posted_levels (s : State) (q : List Instr) :
    ({ s.noteCauses.drivePins with pending := q } : State).posted = s.posted := rfl

/-- Of what a step ends with only the sending of mirrored commands touches what is posted: the answer to an escalation `e`
before it, and the causes and pins after it, leave that alone. -/
theorem State.posted_settle (s : State) (q : List Instr) :
    ∃ e : State, e.posted = s.posted ∧ (s.settle q).posted = e.sendMirrors.posted := by
  refine ⟨if s.ev.escalate then s.escalateNow else s, State.posted_ite (State.posted_escalateNow s) rfl, ?_⟩
  unfold State.settle
  exact (State.posted_levels ..).trans (State.posted_refreshCauses _)

@[simp] theorem State.outSem_settle (s : State) (q : List Instr) : (s.settle q).out.sem = s.out.sem := by
  obtain ⟨e, he, hset⟩ := s.posted_settle q
  calc (s.settle q).out.sem = e.sendMirrors.out.sem := State.outSem_of_posted hset
    _ = e.out.sem := e.outSem_sendMirrors
    _ = s.out.sem := State.outSem_of_posted he

/-- R424: while no command is mirrored a step ends with the mailboxes as its effect left them. -/
theorem State.mb_settle_of_unmirrored {s : State} (h : s.twin.mirrors = []) (q : List Instr) : (s.settle q).mb = s.mb := by
  obtain ⟨e, he, hset⟩ := s.posted_settle q
  have hnone : e.twin.mirrors = [] := (State.mirrors_of_posted he).trans h
  rw [State.sendMirrors_of_unmirrored hnone, he] at hset
  exact State.mb_of_posted hset

theorem State.sems_of_quiet {s t : State} (h : t.quiet = s.quiet) : t.mb.sems = s.mb.sems := by
  show t.quiet.mb.sems = s.quiet.mb.sems
  rw [h]

/-- R94: what SEM_ERR holds. -/
theorem State.semErr_of_quiet {s t : State} (h : t.quiet = s.quiet) :
    t.mb.semNotOwner = s.mb.semNotOwner ∧ t.mb.semErrIndex = s.mb.semErrIndex := by
  show t.quiet.mb.semNotOwner = s.quiet.mb.semNotOwner ∧ t.quiet.mb.semErrIndex = s.quiet.mb.semErrIndex
  rw [h]
  exact ⟨rfl, rfl⟩

@[simp] theorem State.sems_settle (s : State) (q : List Instr) : (s.settle q).mb.sems = s.mb.sems :=
  State.sems_of_quiet (State.quiet_settle s q)

/-- R472: a source that an effect set, and that is none of the reports on the step, is set after the step. -/
theorem State.source_settle_of_newlySet {u e : State} {k b : Nat} (hset : newlySet u e [(k, b)]) (hk : k < 53)
    (hr : reportSource k b = false) (q : List Instr) : (e.settle q).source k b = true := by
  have hval : (Fin.ofNat 53 k).val = k := Nat.mod_eq_of_lt hk
  have hbit := hset.trans (newlySet_settle e q) (Fin.ofNat 53 k) b (by rw [hval]; exact hr)
  rw [hval] at hbit
  exact hbit.trans (by simp)

end Sys2Proof.Machine
end

section
/-!
SUPPORT. Semaphores (R91 to R96): what an acquiring read, a peek, a release and a forced release do.
-/
namespace Sys2Proof.Machine

/-! ### Operations -/

/-- A semaphore given to an owner; the owner 0 frees it. -/
def State.giveSem (s : State) (n : Fin 64) (owner : Byte) : State :=
  { s with mb := { s.mb with sems := s.mb.sems.set n owner } }

@[simp] theorem State.sems_giveSem (s : State) (n : Fin 64) (owner : Byte) :
    (s.giveSem n owner).mb.sems = s.mb.sems.set n owner := rfl

@[simp] theorem State.still_giveSem (s : State) (n : Fin 64) (owner : Byte) : (s.giveSem n owner).still = s.still := rfl

/-- R92: a read of a free semaphore takes it and returns GRANTED with the requester's code. -/
theorem State.semAcquire_of_free {s : State} {n : Fin 64} (h : s.mb.sems[n] = 0) (owner : Byte) :
    s.semAcquire n owner = (s.giveSem n owner, 256#32 + owner.setWidth 32) := by
  have hword : w32 (256 + owner.toNat) = 256#32 + owner.setWidth 32 := by
    rw [w32, BitVec.ofNat_add, BitVec.ofNat_toNat]
  rw [← hword]
  exact if_pos h

/-- R92: a read of an owned semaphore returns its owner's code and changes nothing. -/
theorem State.semAcquire_of_owned {s : State} {n : Fin 64} (h : s.mb.sems[n] ≠ 0) (owner : Byte) :
    s.semAcquire n owner = (s, s.mb.sems[n].setWidth 32) := by
  rw [← BitVec.ofNat_toNat]
  exact if_neg h

/-- R94: the owner frees its semaphore. -/
theorem State.semRelease_of_owner {s : State} {n : Fin 64} {owner : Byte} (h : s.mb.sems[n] = owner) (h0 : owner ≠ 0) :
    s.semRelease owner n = s.giveSem n 0 := if_pos ⟨h, h0⟩

/-- R94: a release by anyone else is noted in SEM_ERR. -/
theorem State.semRelease_of_other {s : State} {n : Fin 64} {owner : Byte} (h : s.mb.sems[n] ≠ owner) :
    s.semRelease owner n = { s with mb := { s.mb with semErrIndex := n.val, semNotOwner := true } } :=
  if_neg fun hown => h hown.1

/-- R94, R491: firmware frees any semaphore, and SEM_FORCED occurs. -/
theorem State.semForce_eq (s : State) (n : Fin 64) : s.semForce n = (s.giveSem n 0).raise 52 29 := rfl

@[simp] theorem State.sems_raise (s : State) (k b : Nat) : (s.raise k b).mb.sems = s.mb.sems :=
  State.sems_of_quiet (State.quiet_raise s k b)

/-- R96: the place of SEM_PEEKn among the registers of MAILBOX_SEM. -/
theorem entryAt_semPeek (n : Fin 64) :
    entryAt 0xF00 8 (0x200 + 4 * n.val) = none ∧ entryAt 0x000 10 (0x200 + 4 * n.val) = none ∧
      entryAt 0x100 64 (0x200 + 4 * n.val) = none ∧ entryAt 0x200 64 (0x200 + 4 * n.val) = some n.val := by
  have hn := n.isLt
  refine ⟨if_neg (by omega), if_neg (by omega), if_neg (by omega), (if_pos (by omega)).trans (congrArg some ?_)⟩
  omega

/-- R92, R96: SEM_PEEKn shows the owner and has no effect. -/
theorem State.readReg_semPeek (s : State) (owner : Byte) (n : Fin 64) :
    s.readReg owner 56 (0x200 + 4 * n.val) = (s, s.mb.sems[n].setWidth 32) := by
  obtain ⟨hevent, hstat, hsem, hpeek⟩ := entryAt_semPeek n
  have hblock : s.readReg owner 56 (0x200 + 4 * n.val) = s.readMailbox owner (0x200 + 4 * n.val) := by
    unfold State.readReg
    rw [hevent]
    rfl
  rw [hblock]
  unfold State.readMailbox
  rw [hstat, hsem, hpeek]
  simp [w32]

/-! ### Commands -/

/-- R92: the acquiring read as a command: the word read is driven out. -/
theorem exec_semAcquire_eq (dt : Nat) (owner : Byte) (n : Fin 64) (s : State) :
    exec (.semAcquire dt owner n) s = .next
      (({ ((s.ticked dt).semAcquire n owner).1 with
          out := { ((s.ticked dt).semAcquire n owner).1.out with sem := ((s.ticked dt).semAcquire n owner).2 } } :
        State).settle s.pending) := rfl

/-- R94: SEM_RELEASE as a command. -/
theorem exec_semRelease_eq (dt : Nat) (owner : Byte) (n : Fin 64) (s : State) :
    exec (.semRelease dt owner n) s = .next (((s.ticked dt).semRelease owner n).settle s.pending) := rfl

/-- R94: SEM_FORCE as a command. -/
theorem exec_semForce_eq (dt : Nat) (n : Fin 64) (s : State) :
    exec (.semForce dt n) s = .next (((s.ticked dt).semForce n).settle s.pending) := rfl

/-- R92: a free semaphore is acquired. -/
theorem exec_semAcquire_of_free {dt : Nat} {n : Fin 64} {s : State} (h : (s.ticked dt).mb.sems[n] = 0) (owner : Byte) :
    ∃ t, exec (.semAcquire dt owner n) s = .next t ∧ t.out.sem = 256#32 + owner.setWidth 32 ∧
      t.mb.sems = (s.ticked dt).mb.sems.set n owner ∧ t.still = (s.ticked dt).still := by
  refine ⟨_, exec_semAcquire_eq .., ?_⟩
  rw [State.semAcquire_of_free h]
  exact ⟨State.outSem_settle .., State.sems_settle .., State.still_settle ..⟩

/-- R92: an owned semaphore stays with its owner, whoever reads it. -/
theorem exec_semAcquire_of_owned {dt : Nat} {n : Fin 64} {s : State} (h : (s.ticked dt).mb.sems[n] ≠ 0) (owner : Byte) :
    ∃ t, exec (.semAcquire dt owner n) s = .next t ∧ t.out.sem = (s.ticked dt).mb.sems[n].setWidth 32 ∧
      t.mb.sems = (s.ticked dt).mb.sems ∧ t.still = (s.ticked dt).still := by
  refine ⟨_, exec_semAcquire_eq .., ?_⟩
  rw [State.semAcquire_of_owned h]
  exact ⟨State.outSem_settle .., State.sems_settle .., State.still_settle ..⟩

/-- Settles O7: by whether the semaphore is free; a peek is a plain read. -/
theorem semaphoreReads : Obligations.SemaphoreReads := by
  unfold Obligations.SemaphoreReads
  intro dt owner n s u _
  exact ⟨fun hfree => exec_semAcquire_of_free hfree owner, fun howned => exec_semAcquire_of_owned howned owner,
    u.readReg_semPeek owner n⟩

/-! ### One owner -/

/-- What a semaphore's own entry and the others are after it was given to an owner. -/
theorem sems_of_set {v w : Vector Byte 64} {n : Fin 64} {owner : Byte} (h : w = v.set n owner) :
    w[n] = owner ∧ ∀ m : Fin 64, m ≠ n → w[m] = v[m] := by
  subst h
  exact ⟨Vector.getElem_set_self _, fun m hm => Vector.getElem_set_ne _ _ fun e => hm (Fin.ext e.symm)⟩

/-- Settles O14: an acquiring read by whether the semaphore is free, a release by whether its owner asks, and SEM_FORCE. -/
theorem semaphoresHaveOneOwner : Obligations.SemaphoresHaveOneOwner := by
  unfold Obligations.SemaphoresHaveOneOwner
  intro dt owner n s u others
  refine ⟨fun _ hfree => ?_, fun howned => ?_, fun h0 hown => ?_, fun hother => ?_, ?_⟩
  · obtain ⟨t, ht, -, hsems, hstill⟩ := exec_semAcquire_of_free hfree owner
    obtain ⟨hself, hrest⟩ := sems_of_set hsems
    exact ⟨t, ht, hself, hrest, hstill⟩
  · obtain ⟨t, ht, -, hsems, hstill⟩ := exec_semAcquire_of_owned howned owner
    exact ⟨t, ht, hsems, hstill⟩
  · refine ⟨_, exec_semRelease_eq .., ?_⟩
    rw [State.semRelease_of_owner hown h0]
    obtain ⟨hself, hrest⟩ := sems_of_set ((State.sems_settle ..).trans (State.sems_giveSem u n 0))
    exact ⟨hself, hrest, (State.still_settle ..).trans (State.still_giveSem ..)⟩
  · refine ⟨_, exec_semRelease_eq .., ?_⟩
    rw [State.semRelease_of_other hother]
    obtain ⟨hnot, hindex⟩ := State.semErr_of_quiet (State.quiet_settle _ s.pending)
    exact ⟨State.sems_settle .., hnot, hindex, State.still_settle ..⟩
  · refine ⟨_, exec_semForce_eq .., ?_⟩
    rw [State.semForce_eq]
    obtain ⟨hself, hrest⟩ := sems_of_set
      ((State.sems_settle ..).trans ((State.sems_raise ..).trans (State.sems_giveSem u n 0)))
    have hforced : newlySet u ((u.giveSem n 0).raise 52 29) [(52, 29)] := newlySet_raise (u.giveSem n 0) 52 29 (by decide)
    exact ⟨hself, hrest, (State.still_settle ..).trans ((State.still_raise ..).trans (State.still_giveSem ..)),
      State.source_settle_of_newlySet hforced (by decide) (by decide) _⟩

end Sys2Proof.Machine
end

section
/-!
SUPPORT. The timeout of outbound mailbox slots (R81).
-/
namespace Sys2Proof.Machine

/-! ### Overdue slots -/

/-- An outbound slot became full, was not reported, and stayed full for the limit. -/
structure State.Overdue (s : State) (ch : Fin 10) (i : Nat) : Prop where
  outbound : outbound ch = true
  full : (s.mb.chans[ch].slots.getD i {}).full = true
  unreported : (s.mb.chans[ch].slots.getD i {}).timedOut = false
  due : (s.mb.chans[ch].slots.getD i {}).since + s.mbTicks ≤ s.now

/-- The slot of a channel marked as timed out, with its channel. -/
def State.markTimeout (s : State) (ch : Fin 10) (i : Nat) : State :=
  (s.setSlot ch i fun x => { x with timedOut := true }).setChan ch fun c => { c with timedOut := true }

/-- R81: an overdue slot and its channel are marked, and the mailbox service event occurs. -/
theorem State.mbTimeout_of_overdue {s : State} {ch : Fin 10} {i : Nat} (h : s.Overdue ch i) :
    s.mbTimeout ch i = (s.markTimeout ch i).raiseHeld 52 3 := by
  have hcond : (outbound ch && (s.mb.chans[ch].slots.getD i {}).full && !(s.mb.chans[ch].slots.getD i {}).timedOut &&
      decide ((s.mb.chans[ch].slots.getD i {}).since + s.mbTicks ≤ s.now)) = true := by
    rw [h.outbound, h.full, h.unreported, decide_eq_true h.due]
    rfl
  exact if_pos hcond

/-- A full slot is a slot of its channel. -/
theorem slot_of_full {l : List Slot} {i : Nat} (h : (l.getD i {}).full = true) : ∃ hi : i < l.length, l[i] = l.getD i {} := by
  by_cases hi : i < l.length
  · exact ⟨hi, by rw [List.getD_eq_getElem?_getD, List.getElem?_eq_getElem hi, Option.getD_some]⟩
  · rw [List.getD_eq_getElem?_getD, List.getElem?_eq_none (Nat.le_of_not_lt hi)] at h
    exact absurd h Bool.false_ne_true

/-- R81: the marked slot keeps its packet. -/
theorem State.slot_markTimeout {s : State} {ch : Fin 10} {i : Nat} (h : (s.mb.chans[ch].slots.getD i {}).full = true) :
    (s.markTimeout ch i).mb.chans[ch].slots[i]? = some { s.mb.chans[ch].slots.getD i {} with timedOut := true } := by
  obtain ⟨hi, hslot⟩ := slot_of_full h
  simp only [State.markTimeout, State.setSlot, State.setChan, upd_same]
  rw [updAt_get_same _ _ _ hi, hslot]

theorem State.timedOut_markTimeout (s : State) (ch : Fin 10) (i : Nat) :
    (s.markTimeout ch i).mb.chans[ch].timedOut = true := by
  simp only [State.markTimeout, State.setChan_mb, upd_same]

/-- R81: MAILBOX_TIMEOUT as a command. -/
theorem exec_mailboxTimeout_eq (dt : Nat) (ch : Fin 10) (k : Fin 2) (s : State) :
    exec (.mailboxTimeout dt ch k) s = .next (((s.ticked dt).mbTimeout ch k.val).settle s.pending) := rfl

/-- R81: the limit in ticks of 2.5 ns. -/
theorem State.mbTicks_eq (s : State) : s.mbTicks = 400 * max 50 s.mb.limit.toNat := Nat.mul_comm _ _

/-- Settles O9: an overdue slot is marked, and what the step ends with leaves the channels as no command is mirrored. -/
theorem outboundTimeouts : Obligations.OutboundTimeouts := by
  unfold Obligations.OutboundTimeouts
  intro dt ch k s u x hch hfull hnew hnone hlate
  have hout : outbound ch = true := by
    rcases hch with rfl | rfl | rfl | rfl | rfl <;> rfl
  have hover : u.Overdue ch k.val :=
    { outbound := hout, full := hfull, unreported := hnew, due := by rw [State.mbTicks_eq]; exact Nat.le_of_lt hlate }
  have hunmirrored : ((u.markTimeout ch k.val).raiseHeld 52 3).twin.mirrors = [] := by
    rw [State.twin_raiseHeld]
    exact hnone
  have hmb : (((u.markTimeout ch k.val).raiseHeld 52 3).settle s.pending).mb = (u.markTimeout ch k.val).mb :=
    (State.mb_settle_of_unmirrored hunmirrored _).trans (State.mb_of_posted (State.posted_raiseHeld _ 52 3))
  have hevent : newlySet (u.markTimeout ch k.val) ((u.markTimeout ch k.val).raiseHeld 52 3) [(52, 3)] :=
    newlySet_raiseHeld _ 52 3 (by decide)
  refine ⟨_, exec_mailboxTimeout_eq .., ?_⟩
  rw [State.mbTimeout_of_overdue hover, hmb]
  exact ⟨State.timedOut_markTimeout .., State.source_settle_of_newlySet hevent (by decide) (by decide) _,
    State.slot_markTimeout hfull⟩

end Sys2Proof.Machine
end

section
/-!
SUPPORT. The end of a queue's sweep (R140): a queue that goes out of service while the cause of its queue check stands.
-/
namespace Sys2Proof.Machine

/-! ### Replies that wait for sweeps -/

theorem State.waitingFor_of_idle {s : State} {p : Port} (h : (s.port p).running = none) (f : Waiting → Bool) :
    s.waitingFor p f = none := by
  unfold State.waitingFor
  rw [h]

/-- With no command in execution nothing is answered. -/
theorem State.answerWaiting_of_idle {s : State} (h : s.idlePorts) (f : Waiting → Bool) (g : State → Cmd → State) :
    s.answerWaiting f g = s := by
  refine List.foldlRecOn (motive := fun t => t = s) allPorts _ rfl fun t ht p hp => ?_
  rw [ht, State.waitingFor_of_idle (h p hp)]

theorem State.answerBist_of_idle {s : State} (h : s.idlePorts) : s.answerBist = s := State.answerWaiting_of_idle h _ _

theorem State.answerWakes_of_idle {s : State} (h : s.idlePorts) : s.answerWakes = s := by
  refine List.foldlRecOn (motive := fun t => t = s) (fins 22) _ rfl fun t ht d _ => ?_
  rw [ht]
  dsimp only
  rw [State.answerWaiting_of_idle h, ite_self]

/-! ### Out of service -/

theorem queueKind_inletQueue (p : Fin 32) : queueKind (inletQueue p) = .inlet p := dif_pos p.isLt

/-- R472: a cause that stands occurs no second time. -/
theorem State.raiseLevel_of_held {s : State} {k : Fin 53} {b : Nat} (h : s.ev.blocks[k].held.getLsbD b = true) :
    s.raiseLevel true k.val b = s := by
  unfold State.raiseLevel
  rw [dif_pos k.isLt, if_pos rfl]
  exact if_pos h

/-- R127: the event block of an inlet. -/
def inletBlock (p : Fin 32) : Fin 53 := ⟨p.val, by omega⟩

/-- R140: without a repair row left an inlet queue leaves service; its source does not occur while its cause stands. -/
theorem State.sweepOut_of_held {s : State} {p : Fin 32} (h : s.ev.blocks[inletBlock p].held.getLsbD 18 = true) :
    s.sweepOut (inletQueue p) = s.setQueue (inletQueue p) fun x => { x with state := 5, repairLeft := 0 } := by
  unfold State.sweepOut
  rw [queueKind_inletQueue]
  exact State.raiseLevel_of_held (k := inletBlock p) h

theorem State.sweepQueue_outOfService {s : State} {q : Fin 43} (h : s.queues[q].state = 1 ∨ s.queues[q].state = 4) :
    s.sweepQueue q .outOfService = s.sweepOut q := if_pos h

/-- R140: the end of a sweep that takes an inlet queue out of service while the cause of its queue check stands sets no source. -/
theorem exec_queueSweepEnd_of_held {dt : Nat} {p : Fin 32} {s : State} (hidle : (s.ticked dt).idlePorts)
    (hstate : (s.ticked dt).queues[inletQueue p].state = 1 ∨ (s.ticked dt).queues[inletQueue p].state = 4)
    (hheld : (s.ticked dt).ev.blocks[inletBlock p].held.getLsbD 18 = true) :
    ∃ t, exec (.queueSweepEnd dt (inletQueue p) .outOfService) s = .next t ∧ newlySet (s.ticked dt) t [] := by
  let e : State := (s.ticked dt).setQueue (inletQueue p) fun x => { x with state := 5, repairLeft := 0 }
  have heffect : (((s.ticked dt).sweepQueue (inletQueue p) .outOfService).answerBist).answerWakes = e := by
    have hidle' : e.idlePorts := hidle
    rw [State.sweepQueue_outOfService hstate, State.sweepOut_of_held hheld, State.answerBist_of_idle hidle',
      State.answerWakes_of_idle hidle']
  refine ⟨e.settle s.pending, ?_, (newlySet_of_eq rfl).trans (newlySet_settle e s.pending)⟩
  rw [← heffect]
  rfl

/-! ### A standing cause without its status bit -/

/-- The queue of inlet 0 recovers and the cause of QUEUE_CHECK stands, yet the bit of EV_STATUS is clear. No step from reset
leads here, as every occurrence that makes a cause stand sets the bit too; a statement about every state speaks of it all the
same. -/
def heldWithoutStatus : State :=
  { State.reset with
    queues := upd State.reset.queues 0 fun x => { x with state := 4 }
    ev := { State.reset.ev with blocks := upd State.reset.ev.blocks 0 fun b => { b with held := 1#32 <<< 18 } } }

theorem idlePorts_heldWithoutStatus : (heldWithoutStatus.ticked 0).idlePorts := by decide

theorem queueState_heldWithoutStatus : (heldWithoutStatus.ticked 0).queues[inletQueue 0].state = 4 := by decide

theorem held_heldWithoutStatus : (heldWithoutStatus.ticked 0).ev.blocks[inletBlock 0].held.getLsbD 18 = true := by decide

theorem statusBit_heldWithoutStatus : (heldWithoutStatus.ticked 0).statusBit 0 18 = false := by decide

/-- Refutes O31: a sweep that takes an inlet queue out of service lets QUEUE_CHECK occur only where its cause does not stand
yet, so in a state whose cause stands without its status bit the bit stays clear, where the statement has it set. -/
theorem not_queuesCrossFlushAndFail : ¬ Obligations.QueuesCrossFlushAndFail := by
  unfold Obligations.QueuesCrossFlushAndFail
  rintro ⟨hqueues, -⟩
  obtain ⟨-, -, -, -, -, -, hout⟩ := hqueues 0 0 0 heldWithoutStatus
  obtain ⟨t, ht, -, hset⟩ := hout idlePorts_heldWithoutStatus (.inr queueState_heldWithoutStatus)
  obtain ⟨t', ht', hnone⟩ :=
    exec_queueSweepEnd_of_held idlePorts_heldWithoutStatus (.inr queueState_heldWithoutStatus) held_heldWithoutStatus
  obtain rfl : t = t' := Host.Outcome.next.inj (ht.symm.trans ht')
  have hbit : t.statusBit 0 18 = true := (hset 0 18 (by decide)).trans (by simp)
  have hclear : t.statusBit 0 18 = false := (hnone 0 18 (by decide)).trans (by simp [statusBit_heldWithoutStatus])
  exact Bool.noConfusion (hbit.symm.trans hclear)

end Sys2Proof.Machine
end

section
/-!
SUPPORT. Commands whose replies come after events, and commands that wait: what a report leaves to the reply that follows it,
what a reply leaves of the events and of the port's fetch, and the step of a command that stays in execution.
-/
namespace Sys2Proof.Machine

/-! ### A reply after events -/

theorem State.length_staged_stage (s : State) (e : Entry) :
    (s.stage e).audit.staged.length ≤ s.audit.staged.length + 1 := by
  unfold State.stage
  split
  · exact Nat.le_of_eq List.length_append
  · exact Nat.le_succ _

theorem State.length_staged_occur (s : State) (c : Src) (x y : Bool) :
    (s.occur c x y).audit.staged.length ≤ s.audit.staged.length + 1 := by
  unfold State.occur
  split
  · dsimp only
    split
    · exact Nat.le_succ _
    · exact State.length_staged_stage ..
  · exact Nat.le_succ _

/-- R72: an occurrence stages one entry, and one more where it reports LOG_OVERFLOW. -/
theorem State.length_staged_raise (s : State) (k b : Nat) :
    (s.raise k b).audit.staged.length ≤ s.audit.staged.length + 2 := by
  have h1 := State.length_staged_occur s ⟨k, b⟩ false false
  have h2 := State.length_staged_occur (s.occur ⟨k, b⟩ false false) ⟨52, 4⟩ false false
  unfold State.raise State.noteOverflow
  split <;> omega

theorem State.ident_congr {s t : State} (hr : t.recs = s.recs) (ht : t.twin = s.twin) : t.ident = s.ident := by
  unfold State.ident State.deviceId State.au
  rw [hr, ht]

section
variable {u x : State} {h : Hdr}

/-- A reply may follow an event while audit staging has room for both entries. -/
theorem State.RepliesAs.raise (hx : u.RepliesAs x h) (hroom : x.audit.staged.length < 30) (k b : Nat) :
    u.RepliesAs (x.raise k b) h :=
  { direct := hx.direct
    unmirrored := by rw [State.twin_raise]; exact hx.unmirrored
    idle := by rw [State.port_raise]; exact hx.idle
    room := Nat.lt_of_le_of_lt (State.length_staged_raise x k b) (Nat.add_lt_add_right hroom 2)
    others := fun p hp => by rw [State.port_raise]; exact hx.others p hp
    chan := by rw [State.mb_of_posted (State.posted_raise x k b)]; exact hx.chan
    epoch := by rw [State.twin_raise]; exact hx.epoch
    ident := (State.ident_congr (State.recs_of_quiet (State.quiet_raise x k b)) (State.twin_raise x k b)).trans hx.ident }

/-- A reply may follow a change of its port that starts no command. -/
theorem State.RepliesAs.setPort (hx : u.RepliesAs x h) {f : PortState → PortState} (hf : ∀ q, (f q).running = q.running) :
    u.RepliesAs (x.setPort h.port f) h :=
  { direct := hx.direct, unmirrored := hx.unmirrored, room := hx.room, chan := hx.chan, epoch := hx.epoch, ident := hx.ident
    idle := by rw [State.port_setPort_same, hf]; exact hx.idle
    others := fun p hp => by rw [State.port_setPort_ne _ _ hp]; exact hx.others p hp }

theorem State.RepliesAs.enqueueWork (hx : u.RepliesAs x h) (w : Work) : u.RepliesAs (x.enqueueWork w) h :=
  hx.congr rfl rfl rfl rfl rfl

/-! ### What a reply leaves of events and fetches -/

@[simp] theorem State.ev_stage (s : State) (e : Entry) : (s.stage e).ev = s.ev := by
  unfold State.stage; split <;> rfl

theorem State.ev_deliver (s : State) (p : Port) (bs : List Byte) : (s.deliver p bs).ev = s.ev := by
  unfold State.deliver
  split
  · rfl
  · cases p with
    | p2 => dsimp only; split <;> rfl
    | _ => rfl

@[simp] theorem State.ev_send (s : State) (c : Cmd) (status : Nat) (bs : List Byte) : (s.send c status bs).ev = s.ev :=
  State.ev_deliver ..

theorem State.RepliesAs.ev_reply (hx : u.RepliesAs x h) (b : Body) (status detail : Nat) (pl : List Byte) (used : Word) :
    (x.reply ⟨h, b⟩ status detail pl 0 used).ev = x.ev := by
  rw [State.reply_eq_answer x ⟨h, b⟩ status detail pl 0 used hx.direct hx.unmirrored]
  unfold State.answer
  split
  · exact State.ev_send ..
  · rw [if_pos hx.room, State.ev_send, State.ev_stage]

theorem State.fetch_deliver (s : State) (p : Port) (bs : List Byte) : ((s.deliver p bs).port p).fetch = (s.port p).fetch := by
  unfold State.deliver
  split
  · rw [State.port_setPort_same]
  · cases p with
    | p2 => dsimp only; split <;> rfl
    | _ => rfl

theorem State.fetch_send (s : State) (c : Cmd) (status : Nat) (bs : List Byte) :
    ((s.send c status bs).port c.h.port).fetch = (s.port c.h.port).fetch := by
  unfold State.send
  rw [State.fetch_deliver, State.port_setPort_same, State.port_unkeep]

theorem State.RepliesAs.fetch_reply (hx : u.RepliesAs x h) (b : Body) (status detail : Nat) (pl : List Byte) (used : Word) :
    ((x.reply ⟨h, b⟩ status detail pl 0 used).port h.port).fetch = (x.port h.port).fetch := by
  rw [State.reply_eq_answer x ⟨h, b⟩ status detail pl 0 used hx.direct hx.unmirrored]
  unfold State.answer
  split
  · exact State.fetch_send x ⟨h, b⟩ status _
  · rw [if_pos hx.room]
    exact (State.fetch_send (x.stage _) ⟨h, b⟩ status _).trans (congrArg PortState.fetch (State.port_stage ..))

end

/-! ### Steps of commands -/

section
variable {dt : Nat} {h : Hdr} {b : Body} {c : Instr} {s x : State} {status detail : Nat} {pl : List Byte} {used : Word}

/-- A command that runs and whose meaning ends with a reply leaves its port's fetch as its meaning did. -/
theorem exec_answers_fetch (hc : b.row dt h = some c) (hr : (s.ticked dt).runs h b) (hx : (s.ticked dt).RepliesAs x h)
    (hrun : ((s.ticked dt).taken ⟨h, b⟩).run ⟨h, b⟩ = x.reply ⟨h, b⟩ status detail pl 0 used) :
    ∃ t, exec c s = .next t ∧ (t.port h.port).fetch = (x.port h.port).fetch ∧
      (s.ticked dt).answered t h b status detail pl ∧ t.still = x.still := by
  refine ⟨_, exec_of_row hc s, ?_, State.submit_answers hr hx hrun _⟩
  rw [State.port_settle, State.submit_of_runs hr, hrun]
  exact hx.fetch_reply ..

/-- A command that runs, raises one event and ends with a reply. -/
theorem exec_raises_answers {k e : Nat} (hc : b.row dt h = some c) (hr : (s.ticked dt).runs h b)
    (hx : (s.ticked dt).RepliesAs x h) (hroom : x.audit.staged.length < 30) (hk : k < 53) (he : e < 32)
    (hrep : reportSource k e = false)
    (hrun : ((s.ticked dt).taken ⟨h, b⟩).run ⟨h, b⟩ = (x.raise k e).reply ⟨h, b⟩ status detail pl 0 used) :
    ∃ t, exec c s = .next t ∧ (s.ticked dt).answered t h b status detail pl ∧ t.still = x.still ∧ t.source k e = true := by
  have hx' := hx.raise hroom k e
  obtain ⟨hans, hstill⟩ := State.submit_answers hr hx' hrun s.pending
  refine ⟨_, exec_of_row hc s, hans, hstill.trans (State.still_raise ..), ?_⟩
  have hev : newlySet (x.raise k e) ((s.ticked dt).submit h b) [] :=
    newlySet_of_eq (by rw [State.submit_of_runs hr, hrun, hx'.ev_reply])
  exact State.source_settle_of_newlySet
    (((newlySet_raise x k e he).trans hev).of_eq_list (List.append_nil _)) hk hrep _

/-- A command that runs and stays in execution waits; what it did stays as it left it. -/
theorem exec_waits {w : Waiting} (hc : b.row dt h = some c) (hr : (s.ticked dt).runs h b)
    (hports : ∀ p, x.port p = (s.ticked dt).port p) (hnow : x.now = (s.ticked dt).now)
    (hrun : ((s.ticked dt).taken ⟨h, b⟩).run ⟨h, b⟩ = x.wait ⟨h, b⟩ w) :
    ∃ t, exec c s = .next t ∧ (s.ticked dt).waits t h b w ∧ t.still = x.still := by
  refine ⟨_, exec_of_row hc s, ?_, ?_⟩
  · rw [State.submit_of_runs hr, hrun]
    unfold State.wait State.waits
    refine ⟨?_, ?_, fun p hp => ?_⟩
    · rw [State.port_settle, State.port_setPort_same, hnow]
    · rw [State.port_settle, State.port_setPort_same, hports]
    · rw [State.port_settle, State.port_setPort_ne _ _ hp, hports]
  · rw [State.still_settle, State.submit_of_runs hr, hrun]
    exact State.still_setPort ..

end

end Sys2Proof.Machine
end

section
/-!
SUPPORT. The commands that reach a sensor (R232 to R248): SENS_WRITE, SENS_READ and the end of a fetch's hold.
-/
namespace Sys2Proof.Machine

/-! ### What every sensor command does first -/

theorem State.discardFetch_of_none {s : State} {p : Port} (h : (s.port p).fetch = none) : s.discardFetch p = s := by
  unfold State.discardFetch
  rw [h]

theorem State.bookAt_of_single {s : State} (h : s.twinPair = false) (hdr : Hdr) : s.bookAt hdr = none := by
  unfold State.bookAt
  rw [h]
  rfl

theorem fetchPort_of_unmirrored {h : Hdr} (hm : h.mirror = none) : fetchPort h = h.port := by
  unfold fetchPort
  rw [hm]

/-- R229: a sensor without a routing entry. -/
theorem State.sensorCheck_unrouted {s : State} {sensor : Half} (h : s.routed sensor.toNat = false) (c : Cmd) :
    s.sensorCheck c sensor = some (s.bad c 16) := if_pos h

/-- R248: the pins of the Sluice are released, or the sensor's bus is off. -/
theorem State.sensorCheck_off {s : State} {sensor : Half} (hrouted : s.routed sensor.toNat = true)
    (h : s.sluice.released = true ∨ s.busU (s.busOf sensor.toNat) 0 1 = 0) (c : Cmd) :
    s.sensorCheck c sensor = some (s.notReady c 3) := by
  unfold State.sensorCheck
  rw [if_neg (ne_false_of_eq_true hrouted)]
  exact if_pos (by simpa using h)

/-- R229, R248: the sensor can be reached. -/
structure State.Reaches (s : State) (sensor : Half) : Prop where
  routed : s.routed sensor.toNat = true
  driven : s.sluice.released = false
  on : s.busU (s.busOf sensor.toNat) 0 1 ≠ 0

theorem State.Reaches.sensorCheck {s : State} {sensor : Half} (h : s.Reaches sensor) (c : Cmd) :
    s.sensorCheck c sensor = none := by
  unfold State.sensorCheck
  rw [h.routed, h.driven, beq_false_of_ne h.on]
  rfl

/-! ### Work that joins a bus -/

/-- The work of a sensor command outside a twin pair: it may start as soon as its turn comes. -/
abbrev sensorWork (kind : WorkKind) (sensor : Half) (ts : List Txn) : Work := { kind, sensor := sensor.toNat, txns := ts }

/-- R215: the state after the warning of a write to registers that a streaming context's template names. -/
def State.warned (s : State) (sensor : Half) (ts : List Txn) : State := s.raiseIf (s.overrides sensor.toNat ts) 50 31

section
variable (s : State) (sensor : Half) (ts : List Txn)

theorem State.quiet_warned : (s.warned sensor ts).quiet = s.quiet := State.quiet_raiseIf ..

@[simp] theorem State.still_warned : (s.warned sensor ts).still = s.still := State.still_of_quiet (State.quiet_warned ..)

@[simp] theorem State.port_warned (p : Port) : (s.warned sensor ts).port p = s.port p :=
  State.port_of_quiet (State.quiet_warned ..) p

@[simp] theorem State.recs_warned : (s.warned sensor ts).recs = s.recs := State.recs_of_quiet (State.quiet_warned ..)

@[simp] theorem State.now_warned : (s.warned sensor ts).now = s.now := by
  show (s.warned sensor ts).quiet.now = s.quiet.now
  rw [State.quiet_warned]

@[simp] theorem State.buses_warned : (s.warned sensor ts).sluice.buses = s.sluice.buses := by
  show (s.warned sensor ts).quiet.sluice.buses = s.quiet.sluice.buses
  rw [State.quiet_warned]

theorem State.twinPair_warned : (s.warned sensor ts).twinPair = s.twinPair := by
  show (s.warned sensor ts).quiet.twinPair = s.quiet.twinPair
  rw [State.quiet_warned]

theorem State.length_staged_warned : (s.warned sensor ts).audit.staged.length ≤ s.audit.staged.length + 2 := by
  unfold State.warned State.raiseIf
  split
  · exact State.length_staged_raise ..
  · exact Nat.le_add_right ..

end

theorem State.RepliesAs.warned {u x : State} {h : Hdr} (hx : u.RepliesAs x h) (hroom : x.audit.staged.length < 30)
    (sensor : Half) (ts : List Txn) : u.RepliesAs (x.warned sensor ts) h := by
  unfold State.warned State.raiseIf
  split
  · exact hx.raise hroom 50 31
  · exact hx

theorem State.busOf_congr {s t : State} (h : t.recs = s.recs) (id : Nat) : t.busOf id = s.busOf id := by
  unfold State.busOf State.route State.au
  rw [h]

theorem State.busU_congr {s t : State} (h : t.recs = s.recs) (b off n : Nat) : t.busU b off n = s.busU b off n := by
  unfold State.busU State.au
  rw [h]

theorem State.still_setBus (s : State) (b : Fin 32) (f : Bus → Bus) : (s.setBus b f).still = s.still.setBus b f := rfl

theorem State.still_enqueueWork {s t : State} (hs : s.still = t.still) (w : Work) :
    (s.enqueueWork w).still = (t.setBus (t.busOf w.sensor) fun x => { x with queue := x.queue ++ [w] }).still := by
  unfold State.enqueueWork
  rw [State.busOf_congr (State.recs_of_still hs), State.still_setBus, State.still_setBus, hs]

@[simp] theorem State.port_enqueueWork (s : State) (w : Work) (p : Port) : (s.enqueueWork w).port p = s.port p := rfl

@[simp] theorem State.now_enqueueWork (s : State) (w : Work) : (s.enqueueWork w).now = s.now := rfl

@[simp] theorem State.now_taken (s : State) (c : Cmd) : (s.taken c).now = s.now := rfl

@[simp] theorem State.expo_taken (s : State) (c : Cmd) : (s.taken c).expo = s.expo := rfl

@[simp] theorem State.time_taken (s : State) (c : Cmd) : (s.taken c).time = s.time := rfl

/-! ### SENS_WRITE -/

section
variable {s : State} {h : Hdr} {b : Body} {sensor reg : Half} {data : List Byte}

/-- A SENS_WRITE that is refused before its own parameters are looked at. -/
theorem State.runSensWrite_refused {t : State} (hm : h.mirror = none) (hf : (s.port h.port).fetch = none)
    (ht : s.sensorCheck ⟨h, b⟩ sensor = some t) : s.runSensWrite ⟨h, b⟩ sensor reg data = t := by
  simp only [State.runSensWrite, fetchPort_of_unmirrored hm, State.discardFetch_of_none hf, ht]

/-- R232: SENS_WRITE to a sensor that can be reached. -/
theorem State.runSensWrite_reaches (hm : h.mirror = none) (hf : (s.port h.port).fetch = none) (hs : s.Reaches sensor)
    (hpair : s.twinPair = false) (hdata : 1 ≤ data.length ∧ data.length ≤ 64) :
    s.runSensWrite ⟨h, b⟩ sensor reg data =
      (let v := s.warned sensor [{ reg, data }]
       let bus := s.busOf sensor.toNat
       if s.busU bus 1 1 = 1 then
         if 16 ≤ s.sluice.buses[bus].posted then (v.raise 50 12).retry ⟨h, b⟩ 0x0503
         else (v.enqueueWork (sensorWork (.posted h.port h.seq false) sensor [{ reg, data }])).ok ⟨h, b⟩ []
       else (v.enqueueWork (sensorWork (.write h.port) sensor [{ reg, data }])).wait ⟨h, b⟩ (.sluice bus)) := by
  have hlen : ¬(data.length = 0 ∨ 64 < data.length) := by omega
  have hv : (s.warned sensor [{ reg, data }]).bookAt h = none :=
    State.bookAt_of_single ((State.twinPair_warned ..).trans hpair) h
  have hbus := State.busU_congr (State.recs_warned s sensor [{ reg, data }])
  have hbuses := State.buses_warned s sensor [{ reg, data }]
  unfold State.warned at hv hbus hbuses
  simp only [State.runSensWrite, fetchPort_of_unmirrored hm, State.discardFetch_of_none hf, hs.sensorCheck, if_neg hlen, hm,
    hv, hbus, hbuses]
  rfl

end

/-! ### SENS_READ -/

/-- R234: the fetch belongs to this SENS_READ. -/
abbrev Fetch.isOf (f : Fetch) (h : Hdr) (sensor reg : Half) (count : Byte) : Prop :=
  f.seq = h.seq ∧ f.sensor = sensor.toNat ∧ f.reg = reg.toNat ∧ f.count = count.toNat

/-- R233: the fetch that a SENS_READ starts. -/
def newFetch (h : Hdr) (sensor reg : Half) (count : Byte) : Fetch :=
  { seq := h.seq, sensor := sensor.toNat, reg := reg.toNat, count := count.toNat }

/-- R234: the state with the fetch slot of a port emptied. -/
def State.emptyFetch (s : State) (p : Port) : State := s.setPort p fun q => { q with fetch := none }

section
variable {s : State} {h : Hdr} {b : Body} {sensor reg : Half} {count : Byte} {f : Fetch}

/-- R233: the first SENS_READ starts a fetch. -/
theorem State.runSensRead_starts (hm : h.mirror = none) (hs : s.Reaches sensor) (hcount : 1 ≤ count.toNat ∧ count.toNat ≤ 64)
    (hpair : s.twinPair = false) (hf : (s.port h.port).fetch = none) :
    s.runSensRead ⟨h, b⟩ sensor reg count =
      ((s.enqueueWork (sensorWork (.fetch h.port) sensor [{ reg, read := count.toNat }])).setPort h.port fun q =>
        { q with fetch := some (newFetch h sensor reg count) }).retry ⟨h, b⟩ 0x0501 := by
  have hlen : ¬(count.toNat = 0 ∨ 64 < count.toNat) := by omega
  simp only [State.runSensRead, hs.sensorCheck, if_neg hlen, fetchPort_of_unmirrored hm, hf, State.discardFetch_of_none hf,
    State.bookAt_of_single hpair]
  rfl

/-- R233: while the fetch runs, its SENS_READ is to be repeated. -/
theorem State.runSensRead_running (hm : h.mirror = none) (hs : s.Reaches sensor)
    (hcount : 1 ≤ count.toNat ∧ count.toNat ≤ 64) (hf : (s.port h.port).fetch = some f) (hmine : f.isOf h sensor reg count)
    (hres : f.result = none) : s.runSensRead ⟨h, b⟩ sensor reg count = s.retry ⟨h, b⟩ 0x0502 := by
  have hlen : ¬(count.toNat = 0 ∨ 64 < count.toNat) := by omega
  simp only [State.runSensRead, hs.sensorCheck, if_neg hlen, fetchPort_of_unmirrored hm, hf]
  rw [if_pos hmine, hres]

/-- R234: a repetition within the hold takes what the fetch brought. -/
theorem State.runSensRead_ended {code : Nat} {bytes : List Byte} (hm : h.mirror = none) (hs : s.Reaches sensor)
    (hcount : 1 ≤ count.toNat ∧ count.toNat ≤ 64) (hf : (s.port h.port).fetch = some f) (hmine : f.isOf h sensor reg count)
    (hres : f.result = some (code, bytes)) (hhold : s.now < f.doneAt + 4000000) :
    s.runSensRead ⟨h, b⟩ sensor reg count =
      if code = 0 then (s.emptyFetch h.port).reply ⟨h, b⟩ 0 0 (pad4 (padTo count.toNat bytes))
      else (s.emptyFetch h.port).reply ⟨h, b⟩ 8 code [] := by
  have hlen : ¬(count.toNat = 0 ∨ 64 < count.toNat) := by omega
  have hms : ticksOfMs 10 = 4000000 := rfl
  have hlate : ¬f.doneAt + 4000000 < s.now := by omega
  have htie : (s.now == f.doneAt + 4000000) = false := beq_false_of_ne (Nat.ne_of_lt hhold)
  obtain ⟨-, -, -, hheld⟩ := id hmine
  simp only [State.runSensRead, hs.sensorCheck, if_neg hlen, fetchPort_of_unmirrored hm, hf]
  rw [if_pos hmine, hres]
  simp only [hms, if_neg hlate, hheld]
  rw [show ((s.setPort h.port fun q => { q with fetch := none }).now == f.doneAt + 4000000) = false from htie]
  rfl

end

/-! ### The end of a hold -/

theorem State.expireFetch_due {s : State} {p : Port} {f : Fetch} (hf : (s.port p).fetch = some f)
    (hres : f.result.isSome = true) (hdue : f.doneAt + 4000000 ≤ s.now) :
    s.expireFetch p = (s.emptyFetch p).raise 50 13 := by
  have hcond : (f.result.isSome && decide (f.doneAt + ticksOfMs 10 ≤ s.now)) = true := by
    rw [hres, Bool.true_and]
    exact decide_eq_true hdue
  unfold State.expireFetch
  rw [hf]
  exact if_pos hcond

theorem State.expireFetch_of_none {s : State} {p : Port} (hf : (s.port p).fetch = none) : s.expireFetch p = s := by
  unfold State.expireFetch
  rw [hf]

/-- R234: FETCH_HOLD_EXPIRY as a command. -/
theorem exec_fetchHoldExpiry_eq (dt : Nat) (p : Port) (s : State) :
    exec (.fetchHoldExpiry dt p) s = .next (((s.ticked dt).expireFetch p).settle s.pending) := rfl

/-- R234: a hold that is over ends with its event, and the slot is empty. -/
theorem exec_fetchHoldExpiry_due {dt : Nat} {p : Port} {s : State} {f : Fetch} (hf : ((s.ticked dt).port p).fetch = some f)
    (hres : f.result.isSome = true) (hdue : f.doneAt + 4000000 ≤ (s.ticked dt).now) :
    ∃ t, exec (.fetchHoldExpiry dt p) s = .next t ∧
      becomes (s.ticked dt) ((s.ticked dt).emptyFetch p) t [(50, 13)] := by
  have hset : newlySet (s.ticked dt) (((s.ticked dt).emptyFetch p).raise 50 13) [(50, 13)] :=
    (newlySet_of_eq rfl).trans (newlySet_raise ((s.ticked dt).emptyFetch p) 50 13 (by decide))
  obtain ⟨hquiet, hsources⟩ := becomes_settle hset s.pending
  refine ⟨_, exec_fetchHoldExpiry_eq .., ?_⟩
  rw [State.expireFetch_due hf hres hdue]
  exact ⟨hquiet.trans (State.quiet_raise ..), hsources⟩

theorem exec_fetchHoldExpiry_of_none {dt : Nat} {p : Port} {s : State} (hf : ((s.ticked dt).port p).fetch = none) :
    ∃ t, exec (.fetchHoldExpiry dt p) s = .next t ∧ becomes (s.ticked dt) (s.ticked dt) t [] := by
  refine ⟨_, exec_fetchHoldExpiry_eq .., ?_⟩
  rw [State.expireFetch_of_none hf]
  exact becomes_settle_nil rfl _

/-! ### The commands -/

theorem State.room_of_runs {u : State} {h : Hdr} {b : Body} (hr : u.runs h b) : u.audit.staged.length < 24 := by
  obtain ⟨⟨⟨-, -, -, -, -, -, hroom⟩, -⟩, -⟩ := hr
  exact hroom

section
variable {dt : Nat} {h : Hdr} {sensor reg : Half} {data : List Byte} {s : State}

/-- R229: SENS_WRITE to a sensor without a routing entry. -/
theorem exec_sensWrite_unrouted (hr : (s.ticked dt).runs h (.sensWrite sensor reg data))
    (hf : ((s.ticked dt).port h.port).fetch = none) (hrouted : (s.ticked dt).routed sensor.toNat = false) :
    ∃ t, exec (.sensWrite dt h sensor reg data) s = .next t ∧
      (s.ticked dt).answered t h (.sensWrite sensor reg data) 5 16 [] ∧ t.still = (s.ticked dt).still := by
  let c : Cmd := ⟨h, .sensWrite sensor reg data⟩
  have hcheck := State.sensorCheck_unrouted (s := (s.ticked dt).taken c) hrouted c
  exact exec_bad rfl hr (State.runSensWrite_refused (State.runs_mirror hr) hf hcheck)

/-- R248: SENS_WRITE to a bus that is off or released. -/
theorem exec_sensWrite_off (hr : (s.ticked dt).runs h (.sensWrite sensor reg data))
    (hf : ((s.ticked dt).port h.port).fetch = none) (hrouted : (s.ticked dt).routed sensor.toNat = true)
    (hoff : (s.ticked dt).sluice.released = true ∨ (s.ticked dt).busU ((s.ticked dt).busOf sensor.toNat) 0 1 = 0) :
    ∃ t, exec (.sensWrite dt h sensor reg data) s = .next t ∧
      (s.ticked dt).answered t h (.sensWrite sensor reg data) 9 3 [] ∧ t.still = (s.ticked dt).still := by
  let c : Cmd := ⟨h, .sensWrite sensor reg data⟩
  have hcheck := State.sensorCheck_off (s := (s.ticked dt).taken c) hrouted hoff c
  exact exec_fails rfl hr (State.runSensWrite_refused (State.runs_mirror hr) hf hcheck)

section
variable (hr : (s.ticked dt).runs h (.sensWrite sensor reg data)) (hf : ((s.ticked dt).port h.port).fetch = none)
  (hs : (s.ticked dt).Reaches sensor) (hpair : (s.ticked dt).twinPair = false) (hdata : 1 ≤ data.length ∧ data.length ≤ 64)
include hr hf hs hpair hdata

/-- R242: a posted write joins its bus's queue and is answered. -/
theorem exec_sensWrite_posts (hposted : (s.ticked dt).busU ((s.ticked dt).busOf sensor.toNat) 1 1 = 1)
    (hfew : (s.ticked dt).sluice.buses[(s.ticked dt).busOf sensor.toNat].posted < 16) :
    ∃ t, exec (.sensWrite dt h sensor reg data) s = .next t ∧
      (s.ticked dt).answered t h (.sensWrite sensor reg data) 0 0 [] ∧
      t.still = ((s.ticked dt).setBus ((s.ticked dt).busOf sensor.toNat) fun x => { x with
        queue := x.queue ++ [sensorWork (.posted h.port h.seq false) sensor [{ reg, data }]] }).still := by
  have hrun := State.runSensWrite_reaches (s := (s.ticked dt).taken ⟨h, .sensWrite sensor reg data⟩)
    (b := .sensWrite sensor reg data) (reg := reg) (State.runs_mirror hr) hf ⟨hs.routed, hs.driven, hs.on⟩ hpair hdata
  have hqueued := hrun.trans ((if_pos hposted).trans (if_neg (Nat.not_le.2 hfew)))
  have hx := (State.repliesAs_taken hr).warned (Nat.lt_trans (State.room_of_runs hr) (by decide)) sensor [{ reg, data }]
  obtain ⟨t, ht, hans, hst⟩ := exec_ok rfl hr (hx.enqueueWork _) hqueued
  exact ⟨t, ht, hans, hst.trans (State.still_enqueueWork (State.still_warned ..) _)⟩

/-- R242: a seventeenth posted write is refused. -/
theorem exec_sensWrite_full (hposted : (s.ticked dt).busU ((s.ticked dt).busOf sensor.toNat) 1 1 = 1)
    (hmany : 16 ≤ (s.ticked dt).sluice.buses[(s.ticked dt).busOf sensor.toNat].posted) :
    ∃ t, exec (.sensWrite dt h sensor reg data) s = .next t ∧
      (s.ticked dt).answered t h (.sensWrite sensor reg data) 1 0x0503 [] ∧ t.still = (s.ticked dt).still ∧
      t.source 50 12 = true := by
  have hrun := State.runSensWrite_reaches (s := (s.ticked dt).taken ⟨h, .sensWrite sensor reg data⟩)
    (b := .sensWrite sensor reg data) (reg := reg) (State.runs_mirror hr) hf ⟨hs.routed, hs.driven, hs.on⟩ hpair hdata
  have hrefused := hrun.trans ((if_pos hposted).trans (if_pos hmany))
  have hroom := State.room_of_runs hr
  have hstaged := State.length_staged_warned ((s.ticked dt).taken ⟨h, .sensWrite sensor reg data⟩) sensor [{ reg, data }]
  have hx := (State.repliesAs_taken hr).warned (Nat.lt_trans hroom (by decide)) sensor [{ reg, data }]
  obtain ⟨t, ht, hans, hst, hset⟩ := exec_raises_answers (used := 0) rfl hr hx
    (Nat.lt_of_le_of_lt hstaged (Nat.lt_trans (Nat.add_lt_add_right hroom 2) (by decide))) (by decide) (by decide) (by decide)
    hrefused
  exact ⟨t, ht, hans, hst.trans (State.still_warned ..), hset⟩

/-- R232: a blocking write joins its bus's queue and waits. -/
theorem exec_sensWrite_waits (hblocking : (s.ticked dt).busU ((s.ticked dt).busOf sensor.toNat) 1 1 ≠ 1) :
    ∃ t, exec (.sensWrite dt h sensor reg data) s = .next t ∧
      (s.ticked dt).waits t h (.sensWrite sensor reg data) (.sluice ((s.ticked dt).busOf sensor.toNat)) ∧
      t.still = ((s.ticked dt).setBus ((s.ticked dt).busOf sensor.toNat) fun x => { x with
        queue := x.queue ++ [sensorWork (.write h.port) sensor [{ reg, data }]] }).still := by
  have hrun := State.runSensWrite_reaches (s := (s.ticked dt).taken ⟨h, .sensWrite sensor reg data⟩)
    (b := .sensWrite sensor reg data) (reg := reg) (State.runs_mirror hr) hf ⟨hs.routed, hs.driven, hs.on⟩ hpair hdata
  obtain ⟨t, ht, hw, hst⟩ := exec_waits rfl hr (fun p => by simp) (by simp) (hrun.trans (if_neg hblocking))
  exact ⟨t, ht, hw, hst.trans (State.still_enqueueWork (State.still_warned ..) _)⟩

end
end

section
variable {dt : Nat} {h : Hdr} {sensor reg : Half} {count : Byte} {s : State} {f : Fetch}

/-- R233: the first SENS_READ. -/
theorem exec_sensRead_starts (hr : (s.ticked dt).runs h (.sensRead sensor reg count)) (hs : (s.ticked dt).Reaches sensor)
    (hcount : 1 ≤ count.toNat ∧ count.toNat ≤ 64) (hpair : (s.ticked dt).twinPair = false)
    (hf : ((s.ticked dt).port h.port).fetch = none) :
    ∃ t, exec (.sensRead dt h sensor reg count) s = .next t ∧
      (t.port h.port).fetch = some (newFetch h sensor reg count) ∧
      (s.ticked dt).answered t h (.sensRead sensor reg count) 1 0x0501 [] ∧
      t.still = ((s.ticked dt).setBus ((s.ticked dt).busOf sensor.toNat) fun x => { x with
        queue := x.queue ++ [sensorWork (.fetch h.port) sensor [{ reg, read := count.toNat }]] }).still := by
  let b : Body := .sensRead sensor reg count
  have hrun := State.runSensRead_starts (s := (s.ticked dt).taken ⟨h, b⟩) (b := b) (reg := reg) (State.runs_mirror hr)
    ⟨hs.routed, hs.driven, hs.on⟩ hcount hpair hf
  have hx := ((State.repliesAs_taken hr).enqueueWork (sensorWork (.fetch h.port) sensor [{ reg, read := count.toNat }])).setPort
    (f := fun q => { q with fetch := some (newFetch h sensor reg count) }) fun _ => rfl
  obtain ⟨t, ht, hfetch, hans, hst⟩ := exec_answers_fetch (used := 0) rfl hr hx hrun
  refine ⟨t, ht, ?_, hans, hst.trans ?_⟩
  · rw [hfetch, State.port_setPort_same]
  · rw [State.still_setPort]
    exact State.still_enqueueWork (State.still_taken ..) _

/-- R233: a repetition while the fetch runs. -/
theorem exec_sensRead_running (hr : (s.ticked dt).runs h (.sensRead sensor reg count)) (hs : (s.ticked dt).Reaches sensor)
    (hcount : 1 ≤ count.toNat ∧ count.toNat ≤ 64) (hf : ((s.ticked dt).port h.port).fetch = some f)
    (hmine : f.isOf h sensor reg count) (hres : f.result = none) :
    ∃ t, exec (.sensRead dt h sensor reg count) s = .next t ∧
      (s.ticked dt).answered t h (.sensRead sensor reg count) 1 0x0502 [] ∧ t.still = (s.ticked dt).still :=
  exec_fails rfl hr (State.runSensRead_running (State.runs_mirror hr) ⟨hs.routed, hs.driven, hs.on⟩ hcount hf hmine hres)

/-- R234: a repetition within the hold. -/
theorem exec_sensRead_ended {code : Nat} {bytes : List Byte} (hr : (s.ticked dt).runs h (.sensRead sensor reg count))
    (hs : (s.ticked dt).Reaches sensor) (hcount : 1 ≤ count.toNat ∧ count.toNat ≤ 64)
    (hf : ((s.ticked dt).port h.port).fetch = some f) (hmine : f.isOf h sensor reg count)
    (hres : f.result = some (code, bytes)) (hhold : (s.ticked dt).now < f.doneAt + 4000000) :
    ∃ t, exec (.sensRead dt h sensor reg count) s = .next t ∧ (t.port h.port).fetch = none ∧
      t.still = (s.ticked dt).still ∧
      (s.ticked dt).answered t h (.sensRead sensor reg count) (if code = 0 then 0 else 8) code
        (if code = 0 then pad4 (padTo count.toNat bytes) else []) := by
  let b : Body := .sensRead sensor reg count
  have hx := (State.repliesAs_taken hr).setPort (f := fun q => { q with fetch := none }) fun _ => rfl
  have hrun := State.runSensRead_ended (s := (s.ticked dt).taken ⟨h, b⟩) (b := b) (State.runs_mirror hr)
    ⟨hs.routed, hs.driven, hs.on⟩ hcount hf hmine hres hhold
  have hreply : ((s.ticked dt).taken ⟨h, b⟩).run ⟨h, b⟩ =
      (((s.ticked dt).taken ⟨h, b⟩).emptyFetch h.port).reply ⟨h, b⟩ (if code = 0 then 0 else 8) code
        (if code = 0 then pad4 (padTo count.toNat bytes) else []) := by
    refine hrun.trans ?_
    split
    · next hcode => rw [hcode]
    · rfl
  obtain ⟨t, ht, hfetch, hans, hst⟩ := exec_answers_fetch (used := 0) rfl hr hx hreply
  refine ⟨t, ht, ?_, hst.trans (State.still_setPort ..), hans⟩
  rw [hfetch, State.port_setPort_same]

end

/-- Settles O27: a SENS_WRITE is refused, queued or waits as its sensor and bus say; a SENS_READ goes by the fetch slot of its
port, whose hold ends by itself. -/
theorem sensorWritesAndReads : Obligations.SensorWritesAndReads := by
  unfold Obligations.SensorWritesAndReads
  refine ⟨fun dt h sensor reg data s => ?_, fun dt h sensor reg count s => ?_⟩
  · intro u b bus work hr hf hpair
    refine ⟨fun hrouted => ?_, fun hrouted hoff => ?_, fun hrouted hdriven hon hmin hmax => ?_⟩
    · exact exec_sensWrite_unrouted hr hf hrouted
    · exact exec_sensWrite_off hr hf hrouted hoff
    · exact ⟨exec_sensWrite_posts hr hf ⟨hrouted, hdriven, hon⟩ hpair ⟨hmin, hmax⟩,
        exec_sensWrite_full hr hf ⟨hrouted, hdriven, hon⟩ hpair ⟨hmin, hmax⟩,
        exec_sensWrite_waits hr hf ⟨hrouted, hdriven, hon⟩ hpair ⟨hmin, hmax⟩⟩
  · intro u b bus mine
    refine ⟨fun hr hrouted hdriven hon hmin hmax hpair => ?_, fun p f => exec_fetchHoldExpiry_due,
      fun p => exec_fetchHoldExpiry_of_none⟩
    have hs : u.Reaches sensor := ⟨hrouted, hdriven, hon⟩
    refine ⟨fun hf => ?_, fun f hf hmine hres => ?_, fun f bytes hf hmine hres hhold => ?_,
      fun f code bytes hcode hf hmine hres hhold => ?_⟩
    · obtain ⟨t, ht, hfetch, ⟨-, hkept, -⟩, hst⟩ := exec_sensRead_starts hr hs ⟨hmin, hmax⟩ hpair hf
      exact ⟨t, _, ht, hfetch, ⟨rfl, rfl, rfl, rfl⟩, rfl, hkept, hst⟩
    · exact exec_sensRead_running hr hs ⟨hmin, hmax⟩ hf hmine hres
    · exact exec_sensRead_ended hr hs ⟨hmin, hmax⟩ hf hmine hres hhold
    · have hended := exec_sensRead_ended hr hs ⟨hmin, hmax⟩ hf hmine hres hhold
      rwa [if_neg hcode, if_neg hcode] at hended

end Sys2Proof.Machine
end

section
/-!
SUPPORT. SENS_SEQ, SENS_ERRLOG and SL_PLOG_ACK (R236, R244, R245), and an EXPO_SET whose template writes no register (R209 to
R212).
-/
namespace Sys2Proof.Machine

/-! ### SENS_SEQ -/

/-- R236: the transactions of a SENS_SEQ. -/
abbrev seqTxns (writes : List SeqWrite) : List Txn :=
  writes.map fun w => { reg := w.reg, data := (leWord w.data).take w.size.toNat }

/-- R236: the first write of a SENS_SEQ whose size is out of range. -/
def badSize (writes : List SeqWrite) : Option Nat :=
  writes.findIdx? fun w => decide (w.size.toNat = 0 ∨ 4 < w.size.toNat)

theorem badSize_of_good {writes : List SeqWrite} (h : ∀ w ∈ writes, 1 ≤ w.size.toNat ∧ w.size.toNat ≤ 4) :
    badSize writes = none := by
  refine List.findIdx?_eq_none_iff.2 fun w hw => decide_eq_false ?_
  have hw' := h w hw
  omega

theorem badSize_cons {w : SeqWrite} (ws : List SeqWrite) (h : 4 < w.size.toNat) : badSize (w :: ws) = some 0 := by
  unfold badSize
  rw [List.findIdx?_cons, decide_eq_true (.inr h)]
  rfl

section
variable {s : State} {h : Hdr} {b : Body} {sensor : Half} {flags : Byte} {writes : List SeqWrite}

/-- R236: SENS_SEQ to a sensor that can be reached. -/
theorem State.runSensSeq_reaches (hm : h.mirror = none) (hf : (s.port h.port).fetch = none) (hs : s.Reaches sensor)
    (hpair : s.twinPair = false) (hlen : 1 ≤ writes.length ∧ writes.length ≤ 16) (hflags : flags.toNat ≤ 1) :
    s.runSensSeq ⟨h, b⟩ sensor flags writes =
      match badSize writes with
      | some i => s.bad ⟨h, b⟩ (22 + 8 * i)
      | none => ((s.warned sensor (seqTxns writes)).enqueueWork
          (sensorWork (.seq h.port (flags == 1)) sensor (seqTxns writes))).wait ⟨h, b⟩ (.sluice (s.busOf sensor.toNat)) := by
  have hlen' : ¬(writes.length = 0 ∨ 16 < writes.length) := by omega
  have hv := State.bookAt_of_single ((State.twinPair_warned s sensor (seqTxns writes)).trans hpair) h
  have hbus := State.busOf_congr (State.recs_warned s sensor (seqTxns writes))
  unfold State.warned at hv hbus
  simp only [State.runSensSeq, fetchPort_of_unmirrored hm, State.discardFetch_of_none hf, hs.sensorCheck, if_neg hlen',
    if_neg (Nat.not_lt.2 hflags), hv, hbus]
  rfl

end

section
variable {dt : Nat} {h : Hdr} {sensor : Half} {flags : Byte} {writes : List SeqWrite} {s : State}

variable (hr : (s.ticked dt).runs h (.sensSeq sensor flags writes)) (hf : ((s.ticked dt).port h.port).fetch = none)
  (hs : (s.ticked dt).Reaches sensor) (hpair : (s.ticked dt).twinPair = false)
  (hlen : 1 ≤ writes.length ∧ writes.length ≤ 16) (hflags : flags.toNat ≤ 1)
include hr hf hs hpair hlen hflags

/-- R236: a good sequence joins its bus's queue and waits. -/
theorem exec_sensSeq_waits (hsizes : badSize writes = none) :
    ∃ t, exec (.sensSeq dt h sensor flags writes) s = .next t ∧
      (s.ticked dt).waits t h (.sensSeq sensor flags writes) (.sluice ((s.ticked dt).busOf sensor.toNat)) ∧
      t.still = ((s.ticked dt).setBus ((s.ticked dt).busOf sensor.toNat) fun x => { x with
        queue := x.queue ++ [sensorWork (.seq h.port (flags == 1)) sensor (seqTxns writes)] }).still := by
  have hrun := State.runSensSeq_reaches (s := (s.ticked dt).taken ⟨h, .sensSeq sensor flags writes⟩)
    (b := .sensSeq sensor flags writes) (State.runs_mirror hr) hf ⟨hs.routed, hs.driven, hs.on⟩ hpair hlen hflags
  rw [hsizes] at hrun
  obtain ⟨t, ht, hw, hst⟩ := exec_waits rfl hr (fun p => by simp) (by simp) hrun
  exact ⟨t, ht, hw, hst.trans (State.still_enqueueWork (State.still_warned ..) _)⟩

/-- R236: the first bad size is named by its offset. -/
theorem exec_sensSeq_bad {i : Nat} (hsize : badSize writes = some i) :
    ∃ t, exec (.sensSeq dt h sensor flags writes) s = .next t ∧
      (s.ticked dt).answered t h (.sensSeq sensor flags writes) 5 (22 + 8 * i) [] ∧ t.still = (s.ticked dt).still := by
  have hrun := State.runSensSeq_reaches (s := (s.ticked dt).taken ⟨h, .sensSeq sensor flags writes⟩)
    (b := .sensSeq sensor flags writes) (State.runs_mirror hr) hf ⟨hs.routed, hs.driven, hs.on⟩ hpair hlen hflags
  rw [hsize] at hrun
  exact exec_bad rfl hr hrun

end

/-! ### The log of posted writes that failed -/

/-- R244: SENS_ERRLOG from the oldest entry. -/
theorem State.runSensErrlog_oldest {s : State} {e : PlogEntry} {es : List PlogEntry} {count : Word}
    (hcount : 1 ≤ count.toNat ∧ count.toNat ≤ 13) (hlog : s.sluice.plog = e :: es) (c : Cmd) :
    s.runSensErrlog c 0xFFFFFFFF count =
      s.ok c (leHalf e.serial ++ leBytes 1 (e :: es).length ++ leBytes 1 s.sluice.plogLost ++ leHalf s.sluice.plogNext ++
        leBytes 1 (min count.toNat (e :: es).length) ++ leBytes 1 0 ++
        ((e :: es).take count.toNat).flatMap PlogEntry.bytes) := by
  have hrange : ¬(count.toNat = 0 ∨ 13 < count.toNat) := by omega
  simp only [State.runSensErrlog, if_neg hrange, hlog, if_true, List.length_take]

/-- R245: SL_PLOG_ACK as a command. -/
theorem exec_slPlogAck (dt : Nat) (serial : Half) (s : State) :
    ∃ t, exec (.slPlogAck dt serial) s = .next t ∧ becomes (s.ticked dt) ((s.ticked dt).ackPlog serial) t [] :=
  ⟨_, rfl, becomes_settle_nil (e := (s.ticked dt).ackPlog serial) rfl _⟩

/-! ### EXPO_SET -/

/-- R203: the template of a context's profile writes no register. -/
def State.writeless (s : State) (ctx : Fin 64) (ns gain : Word) : Prop :=
  s.expoTxns ctx (exposureCount (s.tmpl ctx 8 4) ns.toNat) gain.toNat = []

/-- R209: an EXPO_SET without a target line. -/
abbrev expoBody (ctx : Fin 64) (ns gain : Word) : Body := .expoSet (BitVec.ofNat 16 ctx.val) 0 0 ns gain

theorem toNat_ofNat_ctx (ctx : Fin 64) : (BitVec.ofNat 16 ctx.val).toNat = ctx.val :=
  Nat.mod_eq_of_lt (by omega)

/-- R205: no write must lie in the window. -/
theorem State.windowParts_nil (s : State) (ctx : Fin 64) : (s.windowParts ctx []).2 = [] := by
  unfold State.windowParts
  split <;> rfl

/-- R208, R210: the checks of an EXPO_SET that writes no register, in a window that is not empty. -/
theorem State.runExpoSet_of_writeless {s : State} {ctx : Fin 64} {ns gain : Word} (htill : (s.safeNs ctx).2 ≠ 0)
    (hnone : s.writeless ctx ns gain) (c : Cmd) :
    s.runExpoSet c (BitVec.ofNat 16 ctx.val) 0 0 ns gain =
      if ns.toNat < 100 ∨ 100000000 < ns.toNat ∨ s.tmpl ctx 12 4 < exposureCount (s.tmpl ctx 8 4) ns.toNat then s.bad c 24
      else if s.tmpl ctx 16 4 < gain.toNat then s.bad c 28
      else if s.sluice.released || (s.routed (s.prof ctx 4 2) && s.busU (s.busOf (s.prof ctx 4 2)) 0 1 == 0) then
        s.notReady c 3
      else if 4 ≤ s.expo.ctxs[ctx].sets.length then (s.raise 50 28).retry c 0x0401
      else s.placeExpo c ctx none ns.toNat gain.toNat := by
  have hctx : (BitVec.ofNat 16 ctx.val).toNat < 64 := by rw [toNat_ofNat_ctx]; exact ctx.isLt
  have hroom : ¬((s.safeNs ctx).2 = 0 ∨ (s.safeNs ctx).2 - (s.safeNs ctx).1 <
      s.estimate (s.busOf (s.prof ctx 4 2)) (s.prof ctx 4 2) []) := not_or.2 ⟨htill, Nat.not_lt_zero _⟩
  unfold State.writeless at hnone
  unfold State.runExpoSet
  rw [dif_pos hctx]
  simp only [toNat_ofNat_ctx, hnone, State.windowParts_nil]
  rw [if_neg hroom]
  rfl

/-! ### A set that is in force at once -/

/-- R211: the set of an EXPO_SET without a target line, for a context that does not stream. -/
def State.plainSet (s : State) (p : Port) (ctx : Fin 64) (ns gain : Word) : ExpoSet :=
  let count := exposureCount (s.tmpl ctx 8 4) ns.toNat
  { id := s.expo.ctxs[ctx].nextId, requested := ns.toNat, e := quantisedE (s.tmpl ctx 8 4) count, count, gain := gain.toNat
    port := some p, windowed := false
    window := s.earliestWindow ctx (s.busOf (s.prof ctx 4 2)) (s.prof ctx 4 2) [] }

@[simp] theorem State.plainSet_id (s : State) (p : Port) (ctx : Fin 64) (ns gain : Word) :
    (s.plainSet p ctx ns gain).id = s.expo.ctxs[ctx].nextId := rfl

@[simp] theorem State.plainSet_e (s : State) (p : Port) (ctx : Fin 64) (ns gain : Word) :
    (s.plainSet p ctx ns gain).e = quantisedE (s.tmpl ctx 8 4) (exposureCount (s.tmpl ctx 8 4) ns.toNat) := rfl

/-- R206, R212: the state in which such an EXPO_SET is answered: its set has joined the context's queue, the command waits for
it, and its ID is in force. -/
def State.setInForce (s : State) (c : Cmd) (ctx : Fin 64) (q : ExpoSet) : State :=
  ((s.addSet ctx q).wait c (.expo ctx q.id)).setExpo ctx fun x => { x with baseId := q.id, baseE := q.e, timeline := [] }

/-- R211, R212: the state that such an EXPO_SET leaves, but for its reply: the set has left the queue again. -/
def State.setPlaced (s : State) (h : Hdr) (ctx : Fin 64) (ns gain : Word) : State :=
  (s.setInForce ⟨h, expoBody ctx ns gain⟩ ctx (s.plainSet h.port ctx ns gain)).dropSet ctx s.expo.ctxs[ctx].nextId

theorem findSome_of_unique {α β : Type} {l : List α} {f : α → Option β} {a : α} {r : β} (hmem : a ∈ l) (ha : f a = some r)
    (hothers : ∀ x, x ≠ a → x ∈ l → f x = none) : l.findSome? f = some r := by
  have hsome : (l.findSome? f).isSome := List.findSome?_isSome_iff.2 ⟨a, hmem, by rw [ha]; rfl⟩
  obtain ⟨r', hr'⟩ := Option.isSome_iff_exists.1 hsome
  obtain ⟨x, hx, hfx⟩ := List.exists_of_findSome?_eq_some hr'
  have hxa : x = a := Classical.byContradiction fun hne => by
    rw [hothers x hne hx] at hfx
    exact nomatch hfx
  rw [hr', ← hfx, hxa, ha]

theorem Port.mem_allPorts {p : Port} (h : p = .p0 ∨ p = .p1 ∨ p = .p3) : p ∈ allPorts := by
  refine List.mem_append_left _ ?_
  rcases h with rfl | rfl | rfl <;> decide

/-- R209: the only command in execution, which waits for a set, is the one that the set answers. -/
theorem State.expoCmd_of_waits {s : State} {p : Port} {r : Running} {ctx : Fin 64} {id : Half} (hp : p ∈ allPorts)
    (hr : (s.port p).running = some r) (hw : r.wait = .expo ctx id)
    (hothers : ∀ q, q ≠ p → q ∈ allPorts → (s.port q).running = none) : s.expoCmd ctx id = some r := by
  have hown : (s.waitingFor p fun w => w == .expo ctx id) = some r := by
    unfold State.waitingFor
    rw [hr]
    exact if_pos (by rw [hw]; exact beq_self_eq_true _)
  unfold State.expoCmd
  rw [List.head?_filterMap]
  exact findSome_of_unique hp hown fun q hne hmem => State.waitingFor_of_idle (hothers q hne hmem) _

section
variable {s : State} {ctx : Fin 64} {ns gain : Word} {c : Cmd}

/-- R206: before a stream starts, the ID in force is what it begins with. -/
theorem State.changeId_of_stopped (hstop : s.streams ctx = false) (n : Word) (id : Half) (e : Nat) :
    s.changeId ctx n id e = s.setExpo ctx fun x => { x with baseId := id, baseE := e, timeline := [] } := by
  simp only [State.changeId, hstop, Bool.false_eq_true, if_false]

/-- R212: a set without a window that needs no write comes into force and is answered at once. -/
theorem State.expoAcked_of_stopped {q : ExpoSet} (hstop : s.streams ctx = false) (hq : q.windowed = false)
    (htrig : s.trigMode ctx ≠ 2) :
    s.expoAcked ctx q =
      ((s.setExpo ctx fun x => { x with baseId := q.id, baseE := q.e, timeline := [] }).expoReply ctx q).dropSet ctx q.id := by
  simp only [State.expoAcked, htrig, false_and, if_false, hq, Bool.not_false, if_true, hstop, Bool.false_eq_true,
    State.changeId_of_stopped hstop]

/-- R212: EXPO_SET of a context that does not stream, whose template writes no register. -/
theorem State.placeExpo_of_stopped (hnone : s.writeless ctx ns gain) (hstop : s.streams ctx = false)
    (htrig : s.trigMode ctx ≠ 2) :
    s.placeExpo c ctx none ns.toNat gain.toNat =
      ((s.setInForce c ctx (s.plainSet c.h.port ctx ns gain)).expoReply ctx (s.plainSet c.h.port ctx ns gain)).dropSet ctx
        s.expo.ctxs[ctx].nextId := by
  have hwidth : (s.trigMode ctx == 2) = false := beq_false_of_ne htrig
  unfold State.writeless at hnone
  simp only [State.placeExpo, hnone, hstop, hwidth, Bool.false_and, Bool.false_eq_true, if_false, if_true, State.placeSet]
  exact State.expoAcked_of_stopped hstop rfl htrig

theorem State.port_setInForce_same (q : ExpoSet) : (s.setInForce c ctx q).port c.h.port = { s.port c.h.port with
    running := some { h := c.h, body := c.body, wait := .expo ctx q.id, since := s.now } } :=
  State.port_setPort_same (s.addSet ctx q) ..

theorem State.port_setInForce_ne (q : ExpoSet) {p : Port} (hp : p ≠ c.h.port) : (s.setInForce c ctx q).port p = s.port p :=
  State.port_setPort_ne (s.addSet ctx q) _ hp

/-- R209: the reply of an EXPO_SET whose set came into force as it was placed. -/
theorem State.expoReply_setInForce (hidle : s.idlePorts) (hp : c.h.port ∈ allPorts) :
    (s.setInForce c ctx (s.plainSet c.h.port ctx ns gain)).expoReply ctx (s.plainSet c.h.port ctx ns gain) =
      (s.setInForce c ctx (s.plainSet c.h.port ctx ns gain)).reply c 0 0
        (leHalf s.expo.ctxs[ctx].nextId ++ [0, 0] ++ leWord 0 ++ leWord s.time) := by
  have hcmd : (s.setInForce c ctx (s.plainSet c.h.port ctx ns gain)).expoCmd ctx (s.plainSet c.h.port ctx ns gain).id = some
      { h := c.h, body := c.body, wait := .expo ctx (s.plainSet c.h.port ctx ns gain).id, since := s.now } :=
    State.expoCmd_of_waits hp (congrArg PortState.running (State.port_setInForce_same _)) rfl fun q hne hmem =>
      (congrArg PortState.running (State.port_setInForce_ne _ hne)).trans (hidle q hmem)
  unfold State.expoReply
  rw [hcmd]
  rfl

theorem State.placeExpo_replies (hnone : s.writeless ctx ns gain) (hstop : s.streams ctx = false)
    (htrig : s.trigMode ctx ≠ 2) (hidle : s.idlePorts) (hp : c.h.port ∈ allPorts) :
    s.placeExpo c ctx none ns.toNat gain.toNat =
      ((s.setInForce c ctx (s.plainSet c.h.port ctx ns gain)).reply c 0 0
        (leHalf s.expo.ctxs[ctx].nextId ++ [0, 0] ++ leWord 0 ++ leWord s.time)).dropSet ctx s.expo.ctxs[ctx].nextId := by
  rw [State.placeExpo_of_stopped hnone hstop htrig, State.expoReply_setInForce hidle hp]

/-! ### The contexts of exposure control -/

theorem updAll_get {α : Type} {n : Nat} (v : Vector α n) (f : Fin n → α → α) (i : Fin n) : (updAll v f)[i] = f i v[i] := by
  simp [updAll]

/-- The set is in force in its context, behind no other set. -/
theorem State.ctx_setInForce (q : ExpoSet) :
    (s.setInForce c ctx q).expo.ctxs[ctx] = { s.expo.ctxs[ctx] with
      sets := s.expo.ctxs[ctx].sets ++ [{ q with id := s.expo.ctxs[ctx].nextId }]
      nextId := nextSetId s.expo.ctxs[ctx].nextId, baseId := q.id, baseE := q.e, timeline := [] } := by
  simp only [State.setInForce, State.addSet, State.setExpo, State.wait, State.setPort, upd_same]

theorem State.ctx_setInForce_ne (q : ExpoSet) {d : Fin 64} (hd : d ≠ ctx) :
    (s.setInForce c ctx q).expo.ctxs[d] = s.expo.ctxs[d] := by
  simp only [State.setInForce, State.addSet, State.setExpo, State.wait, State.setPort, upd_ne _ _ _ _ hd.symm]

/-- R211: a set that leaves takes only sets along. -/
theorem State.ctx_dropSet (id : Half) (d : Fin 64) :
    (s.dropSet ctx id).expo.ctxs[d] = { s.expo.ctxs[d] with sets := s.expo.ctxs[d].sets.filter fun q =>
      !((d == ctx && q.id == id) || q.leader == some (ctx.val, id)) } := by
  unfold State.dropSet
  dsimp only
  rw [updAll_get]

theorem State.port_dropSet (id : Half) (p : Port) : (s.dropSet ctx id).port p = s.port p := by
  unfold State.dropSet State.port
  rfl

theorem State.mb_dropSet (id : Half) : (s.dropSet ctx id).mb = s.mb := by
  unfold State.dropSet
  rfl

theorem State.expo_dropSet_congr {t : State} (h : t.expo = s.expo) (id : Half) :
    (t.dropSet ctx id).expo = (s.dropSet ctx id).expo := by
  unfold State.dropSet
  dsimp only
  rw [h]

theorem State.ctx_setPlaced (h : Hdr) (hsets : s.expo.ctxs[ctx].sets = []) :
    (s.setPlaced h ctx ns gain).expo.ctxs[ctx] = { s.expo.ctxs[ctx] with
      sets := [], nextId := nextSetId s.expo.ctxs[ctx].nextId, baseId := s.expo.ctxs[ctx].nextId
      baseE := quantisedE (s.tmpl ctx 8 4) (exposureCount (s.tmpl ctx 8 4) ns.toNat), timeline := [] } := by
  unfold State.setPlaced
  rw [State.ctx_dropSet, State.ctx_setInForce, hsets]
  simp

theorem State.baseId_setPlaced_ne (h : Hdr) {d : Fin 64} (hd : d ≠ ctx) :
    (s.setPlaced h ctx ns gain).expo.ctxs[d].baseId = s.expo.ctxs[d].baseId := by
  unfold State.setPlaced
  rw [State.ctx_dropSet, State.ctx_setInForce_ne _ hd]

end

theorem State.expo_of_still {s t : State} (h : t.still = s.still) : t.expo = s.expo := by
  show t.still.expo = s.still.expo
  rw [h]

/-! ### The reply of a command that waits -/

/-- A command that waits, and won no tie, is answered as one that does not wait. -/
theorem State.RepliesAs.answered_waiting {u x y : State} {h : Hdr} {r : Running} (hx : u.RepliesAs x h) (mb : y.mb = x.mb)
    (audit : y.audit = x.audit) (twin : y.twin = x.twin) (recs : y.recs = x.recs)
    (others : ∀ p, p ≠ h.port → y.port p = x.port p) (waiting : (y.port h.port).running = some r) (notie : r.lateTie = false)
    (b : Body) (status detail : Nat) (pl : List Byte) (used : Word) :
    u.answered (y.reply ⟨h, b⟩ status detail pl 0 used) h b status detail pl := by
  have htie : y.tieFlags ⟨h, b⟩ 0 = 0 := by simp [State.tieFlags, State.wonTie, waiting, notie]
  have hbytes : replyBytes b.opcode h.seq status 0 detail y.twin.epoch.toNat y.ident pl = u.replyTo h b status detail pl := by
    rw [State.ident_congr recs twin, twin, hx.epoch, hx.ident]
    rfl
  rw [State.reply_eq_answer y ⟨h, b⟩ status detail pl 0 used hx.direct (twin ▸ hx.unmirrored), htie, hbytes]
  exact State.answered_answer 0 used (audit ▸ hx.room) (fun p hp => (others p hp).trans (hx.others p hp)) (mb ▸ hx.chan)

theorem State.answered_dropSet {u x : State} {h : Hdr} {b : Body} {status detail : Nat} {pl : List Byte}
    (hx : u.answered x h b status detail pl) (ctx : Fin 64) (id : Half) :
    u.answered (x.dropSet ctx id) h b status detail pl := by
  unfold State.answered at hx ⊢
  simpa only [State.port_dropSet, State.mb_dropSet] using hx

section
variable {dt : Nat} {h : Hdr} {ctx : Fin 64} {ns gain : Word} {s : State}

/-- R209 to R212: EXPO_SET of a context that does not stream, whose template writes no register. -/
theorem exec_expoSet_placed (hr : (s.ticked dt).runs h (expoBody ctx ns gain))
    (hrun : ((s.ticked dt).taken ⟨h, expoBody ctx ns gain⟩).run ⟨h, expoBody ctx ns gain⟩ =
      ((s.ticked dt).taken ⟨h, expoBody ctx ns gain⟩).placeExpo ⟨h, expoBody ctx ns gain⟩ ctx none ns.toNat gain.toNat)
    (hnone : (s.ticked dt).writeless ctx ns gain) (hstop : (s.ticked dt).streams ctx = false)
    (htrig : (s.ticked dt).trigMode ctx ≠ 2) (hidle : (s.ticked dt).idlePorts) :
    ∃ t, exec (.expoSet dt h (BitVec.ofNat 16 ctx.val) 0 0 ns gain) s = .next t ∧
      t.expo = (((s.ticked dt).taken ⟨h, expoBody ctx ns gain⟩).setPlaced h ctx ns gain).expo ∧
      (s.ticked dt).answered t h (expoBody ctx ns gain) 0 0
        (leHalf (s.ticked dt).expo.ctxs[ctx].nextId ++ [0, 0] ++ leWord 0 ++ leWord (s.ticked dt).time) := by
  have hexec := exec_of_row (dt := dt) (h := h) (b := expoBody ctx ns gain) rfl s
  have hx := State.repliesAs_taken hr
  have heffect := State.placeExpo_replies (s := (s.ticked dt).taken ⟨h, expoBody ctx ns gain⟩)
    (c := ⟨h, expoBody ctx ns gain⟩) hnone hstop htrig hidle (Port.mem_allPorts (State.runs_port hr))
  have hexpo := State.expo_taken (s.ticked dt) ⟨h, expoBody ctx ns gain⟩
  rw [State.submit_of_runs hr, hrun, heffect, hexpo, State.time_taken] at hexec
  generalize (s.ticked dt).taken ⟨h, expoBody ctx ns gain⟩ = v at hx hexec hexpo ⊢
  have hans := hx.answered_waiting (y := v.setInForce ⟨h, expoBody ctx ns gain⟩ ctx (v.plainSet h.port ctx ns gain))
    rfl rfl rfl rfl (fun p hp => State.port_setInForce_ne (c := ⟨h, expoBody ctx ns gain⟩) _ hp)
    (congrArg PortState.running (State.port_setInForce_same (c := ⟨h, expoBody ctx ns gain⟩) _)) rfl (expoBody ctx ns gain) 0 0
  refine ⟨_, hexec, ?_, (State.answered_dropSet (hans _ 0) ctx _).settle (State.runs_port hr) _⟩
  rw [State.expo_of_still (State.still_settle ..), State.setPlaced, hexpo]
  exact State.expo_dropSet_congr (State.expo_of_still (State.still_reply ..)) ..

/-- R212: what an EXPO_SET that needs no write leaves in exposure control, and its reply. -/
theorem exec_expoSet_writeless (hr : (s.ticked dt).runs h (expoBody ctx ns gain))
    (htill : ((s.ticked dt).safeNs ctx).2 ≠ 0) (hnone : (s.ticked dt).writeless ctx ns gain)
    (hns : 100 ≤ ns.toNat ∧ ns.toNat ≤ 100000000)
    (hcount : exposureCount ((s.ticked dt).tmpl ctx 8 4) ns.toNat ≤ (s.ticked dt).tmpl ctx 12 4)
    (hgain : gain.toNat ≤ (s.ticked dt).tmpl ctx 16 4) (hdriven : (s.ticked dt).sluice.released = false)
    (hrouted : (s.ticked dt).routed ((s.ticked dt).prof ctx 4 2) = false) (hsets : (s.ticked dt).expo.ctxs[ctx].sets = [])
    (hstop : (s.ticked dt).streams ctx = false) (htrig : (s.ticked dt).trigMode ctx ≠ 2) (hidle : (s.ticked dt).idlePorts) :
    ∃ t, exec (.expoSet dt h (BitVec.ofNat 16 ctx.val) 0 0 ns gain) s = .next t ∧
      t.expo.ctxs[ctx].baseId = (s.ticked dt).expo.ctxs[ctx].nextId ∧
      t.expo.ctxs[ctx].baseE =
        quantisedE ((s.ticked dt).tmpl ctx 8 4) (exposureCount ((s.ticked dt).tmpl ctx 8 4) ns.toNat) ∧
      t.expo.ctxs[ctx].nextId = nextSetId (s.ticked dt).expo.ctxs[ctx].nextId ∧ t.expo.ctxs[ctx].sets = [] ∧
      (∀ d : Fin 64, d ≠ ctx → t.expo.ctxs[d].baseId = (s.ticked dt).expo.ctxs[d].baseId) ∧
      (s.ticked dt).answered t h (expoBody ctx ns gain) 0 0
        (leHalf (s.ticked dt).expo.ctxs[ctx].nextId ++ [0, 0] ++ leWord 0 ++ leWord (s.ticked dt).time) := by
  let c : Cmd := ⟨h, expoBody ctx ns gain⟩
  have htime : ¬(ns.toNat < 100 ∨ 100000000 < ns.toNat ∨
      (s.ticked dt).tmpl ctx 12 4 < exposureCount ((s.ticked dt).tmpl ctx 8 4) ns.toNat) := by omega
  have hready : ¬((s.ticked dt).sluice.released || ((s.ticked dt).routed ((s.ticked dt).prof ctx 4 2) &&
      (s.ticked dt).busU ((s.ticked dt).busOf ((s.ticked dt).prof ctx 4 2)) 0 1 == 0)) = true := by
    rw [hdriven, hrouted]
    exact Bool.false_ne_true
  have hfew : ¬4 ≤ (s.ticked dt).expo.ctxs[ctx].sets.length := by rw [hsets]; decide
  have hchecks := State.runExpoSet_of_writeless (s := (s.ticked dt).taken c) htill hnone c
  have hplaced := hchecks.trans ((if_neg htime).trans ((if_neg (Nat.not_lt.2 hgain)).trans
    ((if_neg hready).trans (if_neg hfew))))
  have hctx := State.ctx_setPlaced (s := (s.ticked dt).taken c) (ns := ns) (gain := gain) h hsets
  obtain ⟨t, ht, hexpo, hans⟩ := exec_expoSet_placed hr hplaced hnone hstop htrig hidle
  refine ⟨t, ht, ?_⟩
  rw [hexpo, hctx]
  exact ⟨rfl, rfl, rfl, rfl, fun d hd => State.baseId_setPlaced_ne h hd, hans⟩

/-- R210: an exposure time out of range is refused before a set is placed. -/
theorem exec_expoSet_badTime (hr : (s.ticked dt).runs h (expoBody ctx ns gain))
    (htill : ((s.ticked dt).safeNs ctx).2 ≠ 0) (hnone : (s.ticked dt).writeless ctx ns gain)
    (hns : ns.toNat < 100 ∨ 100000000 < ns.toNat) :
    ∃ t, exec (.expoSet dt h (BitVec.ofNat 16 ctx.val) 0 0 ns gain) s = .next t ∧
      (s.ticked dt).answered t h (expoBody ctx ns gain) 5 24 [] ∧ t.still = (s.ticked dt).still := by
  have hchecks := State.runExpoSet_of_writeless (s := (s.ticked dt).taken ⟨h, expoBody ctx ns gain⟩) htill hnone
    ⟨h, expoBody ctx ns gain⟩
  exact exec_bad (b := expoBody ctx ns gain) rfl hr (hchecks.trans (if_pos (hns.imp_right Or.inl)))

end

/-- R244: SENS_ERRLOG as a command. -/
theorem exec_sensErrlog_oldest {dt : Nat} {h : Hdr} {count : Word} {s : State} {e : PlogEntry} {es : List PlogEntry}
    (hr : (s.ticked dt).runs h (.sensErrlog 0xFFFFFFFF count)) (hcount : 1 ≤ count.toNat ∧ count.toNat ≤ 13)
    (hlog : (s.ticked dt).sluice.plog = e :: es) :
    ∃ t, exec (.sensErrlog dt h 0xFFFFFFFF count) s = .next t ∧
      (s.ticked dt).answered t h (.sensErrlog 0xFFFFFFFF count) 0 0
        (leHalf e.serial ++ leBytes 1 (e :: es).length ++ leBytes 1 (s.ticked dt).sluice.plogLost ++
          leHalf (s.ticked dt).sluice.plogNext ++ leBytes 1 (min count.toNat (e :: es).length) ++ leBytes 1 0 ++
          ((e :: es).take count.toNat).flatMap PlogEntry.bytes) ∧ t.still = (s.ticked dt).still :=
  exec_reads rfl hr
    (State.runSensErrlog_oldest (s := (s.ticked dt).taken ⟨h, .sensErrlog 0xFFFFFFFF count⟩) hcount hlog _)

/-- Settles O28: a SENS_SEQ waits for its bus or names its first bad size; the log gives and drops its entries; an EXPO_SET that
needs no write is in force and answered in its own step. -/
theorem sensorSequencesAndExposure : Obligations.SensorSequencesAndExposure := by
  unfold Obligations.SensorSequencesAndExposure
  refine ⟨fun dt h sensor flags writes count serial s => ?_, fun dt h ctx ns gain s => ?_⟩
  · refine ⟨fun hr hf hrouted hdriven hon hpair hmin hmax hflags => ?_, fun hr hmin hmax e es hlog => ?_,
      exec_slPlogAck dt serial s⟩
    · refine ⟨fun hsizes => exec_sensSeq_waits hr hf ⟨hrouted, hdriven, hon⟩ hpair ⟨hmin, hmax⟩ hflags (badSize_of_good hsizes),
        fun w ws hws hbig => ?_⟩
      have hsize : badSize writes = some 0 := by rw [hws]; exact badSize_cons ws hbig
      exact exec_sensSeq_bad (i := 0) hr hf ⟨hrouted, hdriven, hon⟩ hpair ⟨hmin, hmax⟩ hflags hsize
    · obtain ⟨t, ht, hans, hst⟩ := exec_sensErrlog_oldest hr ⟨hmin, hmax⟩ hlog
      exact ⟨t, ht, hst, hans⟩
  · intro u cx b unit till hr htill _ hnone
    exact ⟨fun hmin hmax hcount hgain hdriven hrouted hsets hstop htrig hidle =>
        exec_expoSet_writeless hr htill hnone ⟨hmin, hmax⟩ hcount hgain hdriven hrouted hsets hstop htrig hidle,
      exec_expoSet_badTime hr htill hnone⟩

end Sys2Proof.Machine
end

section
/-!
SUPPORT. Confluence (R283 to R300): what the seal of rows keeps, the arrival of a view row that is in time, the release of the
oldest row and the drain of staged blocks.
-/
namespace Sys2Proof.Machine

/-! ### What lies beside Confluence -/

/-- The quiet state without Confluence. -/
def State.besideCf (s : State) : State := s.quiet.setCf fun _ => {}

section
variable {s t : State}

theorem State.cf_of_quiet (h : t.quiet = s.quiet) : t.cf = s.cf := by
  show t.quiet.cf = s.quiet.cf
  rw [h]

theorem State.besideCf_of_quiet (h : t.quiet = s.quiet) : t.besideCf = s.besideCf := congrArg (State.setCf · fun _ => {}) h

theorem State.runnels_of_besideCf (h : t.besideCf = s.besideCf) : t.runnels = s.runnels := by
  show t.besideCf.runnels = s.besideCf.runnels
  rw [h]

theorem State.lpddr_of_besideCf (h : t.besideCf = s.besideCf) : t.lpddr = s.lpddr := by
  show t.besideCf.lpddr = s.besideCf.lpddr
  rw [h]

theorem State.weir_of_besideCf (h : t.besideCf = s.besideCf) : t.weir = s.weir := by
  show t.besideCf.weir = s.besideCf.weir
  rw [h]

theorem State.idlePorts_of_besideCf (h : t.besideCf = s.besideCf) (hidle : s.idlePorts) : t.idlePorts := fun p hp => by
  show (t.besideCf.port p).running = none
  rw [h]
  exact hidle p hp

/-- R575: with no command in execution no STREAM_STOP is answered. -/
theorem State.answerStops_of_idle (h : s.idlePorts) : s.answerStops = s := by
  refine List.foldlRecOn (motive := fun t => t = s) allPorts _ rfl fun t ht p hp => ?_
  rw [ht, h p hp]

end

/-! ### The rows that are collected -/

theorem State.collected_congr {s t : State} (h : t.cf = s.cf) (k : Int) : t.collected k = s.collected k := by
  unfold State.collected
  rw [h]

theorem State.row_collected (s : State) (k : Int) : (s.collected k).row = k := by
  unfold State.collected
  cases hf : s.cf.collecting.find? fun q => q.row == k with
  | none => rfl
  | some q =>
    have hq := List.find?_some hf
    exact eq_of_beq hq

/-- Dropping the collection of one row leaves the collections of the others. -/
theorem find_filter_row_ne (l : List CollectRow) {j k : Int} (h : k ≠ j) :
    (l.filter fun c => c.row != j).find? (fun c => c.row == k) = l.find? fun c => c.row == k := by
  rw [List.find?_filter]
  congr 1
  funext c
  by_cases hc : c.row = k
  · simp [hc, h]
  · simp [hc]

/-- An arrival of row `k` is in the row while it is open, or in the row that was sealed. -/
def State.holdsArrival (s : State) (k : Int) (a : Arrival) : Prop :=
  a ∈ (s.collected k).arrivals ∨ ∃ w ∈ s.cf.sealed, w.row = k ∧ a ∈ w.arrivals

theorem State.holdsArrival_congr {s t : State} (h : t.cf = s.cf) {k : Int} {a : Arrival} (ha : s.holdsArrival k a) :
    t.holdsArrival k a := by
  unfold State.holdsArrival
  rw [State.collected_congr h, h]
  exact ha

/-! ### Seals -/

/-- From `s` to `t` nothing happened but seals of rows. -/
structure State.OnlySeals (s t : State) : Prop where
  beside : t.besideCf = s.besideCf
  oldest : t.cf.oldest = s.cf.oldest
  top : t.cf.top = s.cf.top
  staged : t.cf.staged = s.cf.staged
  prev : t.cf.prev = s.cf.prev
  sealed_ : ∀ w ∈ s.cf.sealed, w ∈ t.cf.sealed
  arrivals : ∀ k a, s.holdsArrival k a → t.holdsArrival k a

section
variable {s t u : State}

theorem State.OnlySeals.of_quiet (h : t.quiet = s.quiet) : s.OnlySeals t where
  beside := State.besideCf_of_quiet h
  oldest := by rw [State.cf_of_quiet h]
  top := by rw [State.cf_of_quiet h]
  staged := by rw [State.cf_of_quiet h]
  prev := by rw [State.cf_of_quiet h]
  sealed_ w hw := by rwa [State.cf_of_quiet h]
  arrivals _ _ ha := State.holdsArrival_congr (State.cf_of_quiet h) ha

theorem State.OnlySeals.refl (s : State) : s.OnlySeals s := .of_quiet rfl

theorem State.OnlySeals.trans (h : s.OnlySeals t) (h' : t.OnlySeals u) : s.OnlySeals u where
  beside := h'.beside.trans h.beside
  oldest := h'.oldest.trans h.oldest
  top := h'.top.trans h.top
  staged := h'.staged.trans h.staged
  prev := h'.prev.trans h.prev
  sealed_ w hw := h'.sealed_ w (h.sealed_ w hw)
  arrivals k a ha := h'.arrivals k a (h.arrivals k a ha)

/-- R283: whether Confluence runs or drains is no matter of its rows. -/
theorem State.OnlySeals.setState (s : State) (n : Nat) : s.OnlySeals (s.setCf fun f => { f with state := n }) where
  beside := rfl
  oldest := rfl
  top := rfl
  staged := rfl
  prev := rfl
  sealed_ _ hw := hw
  arrivals _ _ ha := ha

end

/-- The row that a seal adds. -/
def State.sealedRow (s : State) (k : Int) (byDeadline : Bool) : SealedRow :=
  { row := k, arrivals := (s.collected k).arrivals
    missing := s.chanMask k fun v => s.expected k v && !(s.collected k).has v
    idle := s.chanMask k fun v => !s.expected k v && !(s.collected k).has v
    byDeadline, lateTie := (s.collected k).lateTie, time := s.clock.ext, at_ := s.now }

/-- The collection of a row ends with the sealed row, and Confluence counts. -/
def State.withSeal (s : State) (w : SealedRow) (quiet : Vector Nat 64) (missingRows : Nat) (chanMissing : Vector Nat 16) :
    State :=
  s.setCf fun f => { f with
    collecting := f.collecting.filter (fun c => c.row != w.row), sealed := f.sealed ++ [w], quiet, missingRows, chanMissing }

/-- R285: a seal ends the collection of its row and adds the sealed row, and changes nothing else but counters. -/
theorem State.quiet_sealRow (s : State) (k : Int) (b : Bool) :
    ∃ quiet rows missing, (s.sealRow k b).quiet = (s.withSeal (s.sealedRow k b) quiet rows missing).quiet := by
  unfold State.sealRow
  extract_lets q missing idle row quiet v
  refine ⟨_, _, _, (?_ : _ = v.quiet)⟩
  split
  · rfl
  · exact State.quiet_raiseHeld v 46 0

theorem State.sealedRow_mem_sealRow (s : State) (k : Int) (b : Bool) : s.sealedRow k b ∈ (s.sealRow k b).cf.sealed := by
  obtain ⟨_, _, _, h⟩ := s.quiet_sealRow k b
  rw [State.cf_of_quiet h]
  exact List.mem_append_right _ (List.mem_singleton_self _)

/-- The arrivals of the row go with it into the sealed row; the other rows keep theirs. -/
theorem State.onlySeals_withSeal (s : State) (k : Int) (b : Bool) (quiet : Vector Nat 64) (rows : Nat)
    (missing : Vector Nat 16) : s.OnlySeals (s.withSeal (s.sealedRow k b) quiet rows missing) := by
  refine ⟨rfl, rfl, rfl, rfl, rfl, fun w hw => List.mem_append_left _ hw, fun j a ha => ?_⟩
  rcases ha with ha | ⟨w, hw, hrow⟩
  · by_cases hj : j = k
    · subst hj
      exact .inr ⟨s.sealedRow j b, List.mem_append_right _ (List.mem_singleton_self _), rfl, ha⟩
    · refine .inl ?_
      unfold State.collected State.withSeal
      rw [State.setCf_cf]
      dsimp only [State.sealedRow]
      rw [find_filter_row_ne _ hj]
      exact ha
  · exact .inr ⟨w, List.mem_append_left _ hw, hrow⟩

theorem State.onlySeals_sealRow (s : State) (k : Int) (b : Bool) : s.OnlySeals (s.sealRow k b) := by
  obtain ⟨quiet, rows, missing, h⟩ := s.quiet_sealRow k b
  exact (s.onlySeals_withSeal k b quiet rows missing).trans (.of_quiet h)

theorem State.onlySeals_sealFrom (s : State) (k : Int) (n : Nat) : s.OnlySeals (s.sealFrom k n) := by
  induction n generalizing s k with
  | zero => exact .refl s
  | succ n ih =>
    rw [State.sealFrom]
    refine State.OnlySeals.trans ?_ (ih _ _)
    split
    · exact s.onlySeals_sealRow k false
    · exact .refl s

theorem State.onlySeals_sealDue (s : State) (k : Int) (n : Nat) : s.OnlySeals (s.sealDue k n) := by
  induction n generalizing s k with
  | zero => exact .refl s
  | succ n ih =>
    rw [State.sealDue]
    split
    · exact ih s (k + 1)
    · split
      · exact (s.onlySeals_sealRow k true).trans (ih _ _)
      · exact .refl s

/-- R283: a Confluence that is asked to stop goes on, drains, or is idle when the rows it has are released. -/
theorem State.cfStop_cases (s : State) :
    s.cfStop = s ∨ s.cfStop = (s.setCf fun f => { f with state := 2 }) ∨
      (s.cf.top < s.cf.oldest ∧ s.cfStop = ({ s.setCf fun f => { f with state := 0, collecting := [], sealed := [] } with
        weir := { s.weir with state := 0 } } : State).raise 46 24) := by
  unfold State.cfStop
  split
  · exact .inl rfl
  · split
    · exact .inl rfl
    · split
      · next h => exact .inr (.inr ⟨h, rfl⟩)
      · exact .inr (.inl rfl)

theorem State.onlySeals_cfStop {s : State} (h : s.cf.oldest ≤ s.cf.top) : s.OnlySeals s.cfStop := by
  rcases s.cfStop_cases with e | e | ⟨hlt, -⟩
  · rw [e]; exact .refl s
  · rw [e]; exact .setState s 2
  · exact absurd h (Int.not_le.2 hlt)

theorem State.onlySeals_sealComplete {s : State} (h : s.cf.oldest ≤ s.cf.top) : s.OnlySeals s.sealComplete := by
  unfold State.sealComplete
  dsimp only
  split
  · exact State.onlySeals_cfStop h
  · exact (State.onlySeals_cfStop h).trans (State.onlySeals_sealFrom ..)

/-! ### The deadline of the oldest row -/

theorem State.top_le_sealTop (s : State) : s.cf.top ≤ s.sealTop := by
  unfold State.sealTop
  split
  · exact Int.le_refl _
  · exact Int.le_max_left ..

theorem State.sealDue_of_due {s : State} {k : Int} {n : Nat} (hs : s.isSealed k = false)
    (hd : s.rowDeadline k ≤ s.clock.ext) : s.sealDue k (n + 1) = (s.sealRow k true).sealDue (k + 1) n := by
  rw [State.sealDue, hs, if_neg Bool.false_ne_true, if_pos hd]

/-- R285: the oldest row is sealed at its deadline. -/
theorem State.deadlineSeal_oldest {s : State} (hstate : s.cf.state = 1) (hs : s.isSealed s.cf.oldest = false)
    (hd : s.rowDeadline s.cf.oldest ≤ s.clock.ext) (htop : s.cf.oldest ≤ s.cf.top) :
    (s.sealRow s.cf.oldest true).OnlySeals s.deadlineSeal := by
  have hle := s.top_le_sealTop
  obtain ⟨n, hn⟩ : ∃ n, (s.sealTop - s.cf.oldest + 1).toNat = n + 1 := ⟨(s.sealTop - s.cf.oldest).toNat, by omega⟩
  have hseal := s.onlySeals_sealRow s.cf.oldest true
  have hdue := (s.sealRow s.cf.oldest true).onlySeals_sealDue (s.cf.oldest + 1) n
  unfold State.deadlineSeal
  rw [if_neg (by omega), hn, State.sealDue_of_due hs hd]
  refine hdue.trans (State.onlySeals_sealComplete ?_)
  rw [hdue.oldest, hdue.top, hseal.oldest, hseal.top]
  exact htop

theorem exec_rowDeadlineSeal_oldest {dt : Nat} {s : State} (hstate : (s.ticked dt).cf.state = 1)
    (hs : (s.ticked dt).isSealed (s.ticked dt).cf.oldest = false)
    (hd : (s.ticked dt).rowDeadline (s.ticked dt).cf.oldest ≤ (s.ticked dt).clock.ext)
    (htop : (s.ticked dt).cf.oldest ≤ (s.ticked dt).cf.top) :
    ∃ t w, exec (.rowDeadlineSeal dt) s = .next t ∧ w ∈ t.cf.sealed ∧ w.row = (s.ticked dt).cf.oldest ∧
      w.byDeadline = true ∧ w.arrivals = ((s.ticked dt).collected (s.ticked dt).cf.oldest).arrivals ∧
      t.cf.oldest = (s.ticked dt).cf.oldest := by
  have hseals := (State.deadlineSeal_oldest hstate hs hd htop).trans
    (.of_quiet (State.quiet_settle (s.ticked dt).deadlineSeal s.pending))
  exact ⟨_, _, rfl, hseals.sealed_ _ (State.sealedRow_mem_sealRow ..), rfl, rfl, rfl,
    hseals.oldest.trans (State.onlySeals_sealRow ..).oldest⟩

/-! ### View rows that arrive -/

/-- R291: the bytes that a view row takes in the staging buffer. -/
abbrev State.stagedBytes (s : State) (q : ViewRow) : Nat := blockBytes q.count (s.usedBands q.row q.view).length

/-- R288, R289: a view row that passes every check, with space in the staging buffer. -/
structure State.InTime (s : State) (q : ViewRow) : Prop where
  early : s.clock.ext < s.rowDeadline q.row
  first : s.cf.first ≤ q.row
  ring : q.row < s.cf.oldest + basinRows s.recs.active
  oldest : s.cf.oldest ≤ q.row
  open_ : s.isSealed q.row = false
  new : (s.collected q.row).has q.view = false
  even : q.odd = false
  order : ∀ p, s.cf.prev[q.view] = some p → p < q.row
  space : s.stagingFill + s.stagedBytes q ≤ 4194304

/-- From `s` to `t` a view row was staged. -/
structure State.Stages (s : State) (q : ViewRow) (t : State) : Prop where
  beside : t.besideCf = s.besideCf
  oldest : t.cf.oldest = s.cf.oldest
  top : q.row ≤ t.cf.top
  staged : t.cf.staged = s.cf.staged ++ [(q.view, q.row, s.stagedBytes q)]
  prev : t.cf.prev[q.view] = some q.row
  arrival : t.holdsArrival q.row { vr := q, at_ := s.clock.ext }

section
variable {s t v : State} {q : ViewRow}

theorem State.Stages.seals (h : s.Stages q t) (hv : t.OnlySeals v) : s.Stages q v where
  beside := hv.beside.trans h.beside
  oldest := hv.oldest.trans h.oldest
  top := hv.top ▸ h.top
  staged := hv.staged.trans h.staged
  prev := hv.prev ▸ h.prev
  arrival := hv.arrivals _ _ h.arrival

/-- R289 to R293: a view row is staged, in its row that is open. -/
theorem State.stages_stageRow (h : s.InTime q) : s.Stages q (s.stageRow q) := by
  unfold State.stageRow
  extract_lets block d tie near c c' v w
  rw [if_neg (Nat.not_lt.2 h.space)]
  have hw : w.quiet = v.quiet := (State.quiet_raiseIf ..).trans (State.quiet_raiseIf ..)
  have hv : s.Stages q v := by
    refine ⟨rfl, rfl, Int.le_max_right .., rfl, ?_, .inl ?_⟩
    · show (if q.odd then s.cf.prev else s.cf.prev.set q.view (some q.row))[q.view] = some q.row
      rw [h.even, if_neg Bool.false_ne_true]
      exact Vector.getElem_set_self ..
    · have hrow : c'.row = q.row := State.row_collected s q.row
      have hc : v.collected q.row = c' := by
        show (((s.cf.collecting.filter fun x => x.row != q.row) ++ [c']).find? fun x => x.row == q.row).getD _ = c'
        have hnone : (s.cf.collecting.filter fun x => x.row != q.row).find? (fun x => x.row == q.row) = none := by
          simp [List.find?_eq_none]
        rw [List.find?_append, hnone, Option.none_or, List.find?_singleton, hrow, beq_self_eq_true]
        rfl
      rw [hc]
      exact List.mem_append_right _ (List.mem_singleton_self _)
  exact hv.seals (.of_quiet ((State.quiet_raiseLevel ..).trans hw))

/-- R288, R289: a view row that passes the checks is staged. -/
theorem State.checkRow_of_inTime (h : s.InTime q) : s.checkRow q = s.stageRow q := by
  unfold State.checkRow
  dsimp only
  refine (if_neg (Int.not_lt.2 h.first)).trans ((if_neg (Int.not_le.2 h.ring)).trans ((if_neg ?_).trans
    ((if_neg (ne_true_of_eq_false h.new)).trans (if_neg ?_))))
  · rw [h.even, if_neg Bool.false_ne_true]
    split
    · next p hp => exact ne_true_of_eq_false (decide_eq_false (Int.not_le.2 (h.order p hp)))
    · exact Bool.false_ne_true
  · rw [h.open_, decide_eq_false (Int.not_le.2 h.early)]
    exact Bool.false_ne_true

/-- R289: of a view row that is in time nothing is lost by the seals that it brings about. -/
theorem State.stages_acceptRow (hfeeds : s.feeds q.row q.view = true) (hstate : s.cf.state = 1) (h : s.InTime q) :
    s.Stages q (s.acceptRow q) := by
  have hstages := State.stages_stageRow h
  unfold State.acceptRow
  rw [if_pos hfeeds, if_neg (by omega)]
  dsimp only
  rw [State.checkRow_of_inTime h]
  exact hstages.seals (State.onlySeals_sealComplete (hstages.oldest ▸ Int.le_trans h.oldest hstages.top))

end

/-- The first view row has left a runnel's path. -/
abbrev State.leavePath (s : State) (r : Fin 8) (rest : List ViewRow) : State := s.setRunnel r fun x => { x with path := rest }

section
variable {dt : Nat} {r : Fin 8} {q : ViewRow} {rest : List ViewRow} {s : State}

/-- R289: the arrival of a view row before its deadline. -/
theorem State.arriveRow_early (hpath : s.runnels[r].path = q :: rest) (hearly : s.clock.ext < s.rowDeadline q.row) :
    s.arriveRow r = ((s.leavePath r rest).acceptRow q).answerStops := by
  unfold State.arriveRow
  rw [hpath]
  dsimp only
  rw [decide_eq_false (Int.not_le.2 hearly)]
  rfl

variable (hpath : (s.ticked dt).runnels[r].path = q :: rest) (hidle : (s.ticked dt).idlePorts)
  (hearly : (s.ticked dt).clock.ext < (s.ticked dt).rowDeadline q.row)
include hpath hidle hearly

/-- R291: a view row that no enabled channel takes is forgotten. -/
theorem exec_viewRowArrival_unfed (hfeeds : (s.ticked dt).feeds q.row q.view = false) :
    ∃ t, exec (.viewRowArrival dt r) s = .next t ∧ becomes (s.ticked dt) ((s.ticked dt).leavePath r rest) t [] := by
  have haccept : ((s.ticked dt).leavePath r rest).acceptRow q = (s.ticked dt).leavePath r rest :=
    if_neg (ne_true_of_eq_false hfeeds)
  have harrive : (s.ticked dt).arriveRow r = (s.ticked dt).leavePath r rest := by
    rw [State.arriveRow_early hpath hearly, haccept]
    exact State.answerStops_of_idle hidle
  exact ⟨_, congrArg (fun t => Host.Outcome.next (State.settle t s.pending)) harrive, becomes_settle_nil rfl s.pending⟩

/-- R289: a view row that is in time is staged, and leaves the runnel's path. -/
theorem exec_viewRowArrival_inTime (hfeeds : (s.ticked dt).feeds q.row q.view = true) (hstate : (s.ticked dt).cf.state = 1)
    (h : (s.ticked dt).InTime q) :
    ∃ t, exec (.viewRowArrival dt r) s = .next t ∧ ((s.ticked dt).leavePath r rest).Stages q t := by
  have hstages : ((s.ticked dt).leavePath r rest).Stages q (((s.ticked dt).leavePath r rest).acceptRow q) :=
    State.stages_acceptRow hfeeds hstate ⟨h.early, h.first, h.ring, h.oldest, h.open_, h.new, h.even, h.order, h.space⟩
  have harrive : (s.ticked dt).arriveRow r = ((s.ticked dt).leavePath r rest).acceptRow q := by
    rw [State.arriveRow_early hpath hearly]
    exact State.answerStops_of_idle (State.idlePorts_of_besideCf hstages.beside hidle)
  exact ⟨_, congrArg (fun t => Host.Outcome.next (State.settle t s.pending)) harrive,
    hstages.seals (.of_quiet (State.quiet_settle ..))⟩

end

/-! ### Reports of a step -/

section
variable {u e v : State} {l : List (Nat × Nat)} {K B : Nat}

/-- A step whose effect is the state `e` but for its reports. -/
theorem becomes_reported (hquiet : v.quiet = e.quiet) (hset : newlySet u v l) (q : List Instr) : becomes u e (v.settle q) l :=
  ⟨(State.quiet_settle v q).trans hquiet, (becomes_settle hset q).2⟩

theorem becomes_raise (he : e.ev.blocks = u.ev.blocks) (hB : B < 32) (q : List Instr) :
    becomes u e ((e.raise K B).settle q) [(K, B)] :=
  becomes_reported (State.quiet_raise ..) ((newlySet_of_eq he).trans (newlySet_raise e K B hB)) q

theorem becomes_raiseHeld (he : e.ev.blocks = u.ev.blocks) (hB : B < 32) (q : List Instr) :
    becomes u e ((e.raiseHeld K B).settle q) [(K, B)] :=
  becomes_reported (State.quiet_raiseHeld ..) ((newlySet_of_eq he).trans (newlySet_raiseHeld e K B hB)) q

end

/-! ### The release of the oldest row -/

/-- What a release has to show: the oldest row, the rows that wait for the Weir, the tick of the release, the memory and the
Weir's pieces. -/
def State.releaseView (s : State) : Int × List MergedRow × Nat × List Host.Cell × List Piece :=
  (s.cf.oldest, s.cf.out, s.cf.releasedAt, s.lpddr, s.weir.held)

section
variable {s t : State}

theorem State.releaseView_of_quiet (h : t.quiet = s.quiet) : t.releaseView = s.releaseView := by
  show t.quiet.releaseView = s.quiet.releaseView
  rw [h]

/-- R283: a Confluence that drains or becomes idle keeps what was released. -/
theorem State.releaseView_cfStop (s : State) : s.cfStop.releaseView = s.releaseView := by
  rcases s.cfStop_cases with e | e | ⟨-, e⟩
  · rw [e]
  · rw [e]; rfl
  · rw [e]; exact (State.releaseView_of_quiet (State.quiet_raise ..)).trans rfl

/-- R287, R295: the oldest row is released with what its slot gives. -/
theorem State.releaseView_releaseRow {q : SealedRow} (h : (s.cf.sealed.find? fun q => q.row == s.cf.oldest) = some q) :
    (s.releaseRow [] 0).releaseView =
      (s.cf.oldest + 1, s.cf.out ++ [(s.mergeRow q []).1], s.now, s.lpddr, s.weir.held) := by
  unfold State.releaseRow
  split
  · next hnone => exact absurd (h.symm.trans hnone) (Option.some_ne_none q)
  · next w hw =>
    obtain rfl : q = w := Option.some.inj (h.symm.trans hw)
    extract_lets ecc late
    split
    next m outs hm =>
    extract_lets conflicts released v1 v2 v3 v4 v5 v6
    have hmerged : (s.mergeRow q []).1 = m := congrArg Prod.fst hm
    have hcause : v4.quiet = v3.quiet := by
      show (if _ then _ else _ : State).quiet = _
      split
      · exact State.quiet_causeGone ..
      · rfl
    have hreports : v6.quiet = released.quiet := by simp [v6, v5, hcause, v3, v2, v1]
    rw [hmerged]
    exact (State.releaseView_cfStop _).trans (State.releaseView_of_quiet ((State.quiet_raiseIf ..).trans hreports))

theorem State.releaseRow_of_open (h : (s.cf.sealed.find? fun q => q.row == s.cf.oldest) = none) : s.releaseRow [] 0 = s := by
  unfold State.releaseRow
  rw [h]

end

section
variable {dt : Nat} {s : State} (hstate : (s.ticked dt).cf.state = 1)
include hstate

theorem exec_rowRelease_eq :
    exec (.rowRelease dt [] 0) s = .next ((((s.ticked dt).releaseRow [] 0).causeGone 46 28).settle s.pending) := by
  show Host.Outcome.next (State.settle (if (s.ticked dt).cf.state = 0 then _ else _) s.pending) = _
  rw [if_neg (by omega)]
  rfl

theorem exec_rowRelease_sealed {q : SealedRow}
    (h : ((s.ticked dt).cf.sealed.find? fun q => q.row == (s.ticked dt).cf.oldest) = some q) :
    ∃ t, exec (.rowRelease dt [] 0) s = .next t ∧ t.cf.oldest = (s.ticked dt).cf.oldest + 1 ∧
      t.cf.out = (s.ticked dt).cf.out ++ [((s.ticked dt).mergeRow q []).1] ∧ t.cf.releasedAt = (s.ticked dt).now ∧
      t.lpddr = (s.ticked dt).lpddr ∧ t.weir.held = (s.ticked dt).weir.held := by
  have hview := (State.releaseView_of_quiet ((State.quiet_settle _ s.pending).trans (State.quiet_causeGone _ 46 28))).trans
    (State.releaseView_releaseRow h)
  simp only [State.releaseView, Prod.mk.injEq] at hview
  exact ⟨_, exec_rowRelease_eq hstate, hview⟩

/-- R287: a row that is not sealed is not released. -/
theorem exec_rowRelease_open (h : ((s.ticked dt).cf.sealed.find? fun q => q.row == (s.ticked dt).cf.oldest) = none) :
    ∃ t, exec (.rowRelease dt [] 0) s = .next t ∧ becomes (s.ticked dt) (s.ticked dt) t [] := by
  refine ⟨_, exec_rowRelease_eq hstate, ?_⟩
  rw [State.releaseRow_of_open h]
  exact becomes_reported (State.quiet_causeGone ..) (newlySet_causeGone _ 46 28) s.pending

end

/-! ### Rows that wait for the Weir -/

/-- R296: a released row that has waited too long. -/
theorem State.stallOut_late {s : State} {m : MergedRow} {ms : List MergedRow} (h : s.cf.out = m :: ms)
    (hlate : m.at_ + ticksOfUs 25 < s.now) : s.stallOut = s.raise 46 12 := by
  unfold State.stallOut
  rw [h]
  exact if_pos (decide_eq_true hlate)

/-! ### The drain of the staging buffer -/

/-- R291, R297: where the block of a view stands in the Basin. -/
def State.blockAt (s : State) (k : Int) (v : Fin 64) : Nat :=
  s.basinBase + (wrapOf 32 k % basinRows s.recs.active) * s.slotBytes k + s.blocksBelow k v.val

/-- R293: the block of a row's only arrival drains into its slot. -/
theorem State.drainStaging_one {s : State} {a : Arrival} {n : Nat} {es : List (Fin 64 × Int × Nat)}
    (hstaged : s.cf.staged = (a.vr.view, a.vr.row, n) :: es)
    (hrow : s.cf.collecting = [{ row := a.vr.row, arrivals := [a] }]) :
    s.drainStaging 1 = { s.setCf fun f => { f with staged := es } with
      lpddr := Memory.writeList zeroByte s.lpddr (s.blockAt a.vr.row a.vr.view) (s.blockOf a) } := by
  have hblock : s.drainBlock (a.vr.view, a.vr.row, n) = { s with
      lpddr := Memory.writeList zeroByte s.lpddr (s.blockAt a.vr.row a.vr.view) (s.blockOf a) } := by
    unfold State.drainBlock
    simp only [hrow, List.flatMap_cons, List.cons_append, List.nil_append, beq_self_eq_true, Bool.and_self,
      List.find?_cons_of_pos]
    rfl
  unfold State.drainStaging
  rw [hstaged, List.take_succ_cons, List.take_zero, List.foldl_cons, List.foldl_nil, hblock]
  simp only [State.setCf, hstaged, List.drop_succ_cons, List.drop_zero]

/-- R291, R293, R297: a drain writes the bytes of the block into its slot, and no other byte. -/
theorem exec_basinStagingDrain_one {dt : Nat} {s : State} {a : Arrival} {n : Nat} {es : List (Fin 64 × Int × Nat)}
    (hwf : Memory.wf zeroByte (s.ticked dt).lpddr = true) (hstaged : (s.ticked dt).cf.staged = (a.vr.view, a.vr.row, n) :: es)
    (hrow : (s.ticked dt).cf.collecting = [{ row := a.vr.row, arrivals := [a] }]) :
    let at_ := (s.ticked dt).blockAt a.vr.row a.vr.view
    let bytes := (s.ticked dt).blockOf a
    ∃ t, exec (.basinStagingDrain dt 1) s = .next t ∧ t.cf.staged = es ∧
      (∀ i, i < bytes.length → Memory.read zeroByte t.lpddr (at_ + i) = bytes.getD i 0) ∧
      (∀ x, x < at_ ∨ at_ + bytes.length ≤ x →
        Memory.read zeroByte t.lpddr x = Memory.read zeroByte (s.ticked dt).lpddr x) ∧
      t.runnels = (s.ticked dt).runnels ∧ t.weir = (s.ticked dt).weir := by
  intro at_ bytes
  have hquiet := State.quiet_settle ((s.ticked dt).drainStaging 1) s.pending
  have hbeside := State.besideCf_of_quiet hquiet
  have hdrain := State.drainStaging_one hstaged hrow
  have hlpddr : (((s.ticked dt).drainStaging 1).settle s.pending).lpddr =
      Memory.writeList zeroByte (s.ticked dt).lpddr at_ bytes := by
    rw [State.lpddr_of_besideCf hbeside, hdrain]
  refine ⟨((s.ticked dt).drainStaging 1).settle s.pending, rfl, ?_, fun i hi => ?_, fun x hx => ?_, ?_, ?_⟩
  · rw [State.cf_of_quiet hquiet, hdrain]; rfl
  · refine (congrArg (Memory.read zeroByte · (at_ + i)) hlpddr).trans ?_
    rw [List.getD_eq_getElem?_getD, List.getElem?_eq_getElem hi, Option.getD_some]
    exact Memory.read_writeList _ _ _ _ _ hwf hi
  · exact (congrArg (Memory.read zeroByte · x) hlpddr).trans (Memory.read_writeList_ne _ _ _ _ _ hwf hx)
  · rw [State.runnels_of_besideCf hbeside, hdrain]; rfl
  · rw [State.weir_of_besideCf hbeside, hdrain]; rfl

/-- Settles O34: seals keep every arrival, so a view row in time stands in its row open or sealed; the oldest row is sealed at
its deadline and released once it is sealed; a drained block is the only change to the memory. -/
theorem rowsOfTheGrid : Obligations.RowsOfTheGrid := by
  unfold Obligations.RowsOfTheGrid
  refine ⟨fun dt r q rest s => ?_, fun dt v s => ?_, fun dt a n es r q s => ?_⟩
  · intro u block hpath hidle hearly
    refine ⟨exec_viewRowArrival_unfed hpath hidle hearly,
      fun hfeeds hstate hfirst hring holdest hopen hnew heven horder hspace => ?_⟩
    obtain ⟨t, ht, hst⟩ := exec_viewRowArrival_inTime hpath hidle hearly hfeeds hstate
      ⟨hearly, hfirst, hring, holdest, hopen, hnew, heven, horder, hspace⟩
    refine ⟨t, ht, ?_, hst.staged, hst.prev, (State.lpddr_of_besideCf hst.beside).trans rfl, _, rfl, rfl, hst.arrival⟩
    rw [State.runnels_of_besideCf hst.beside]
    exact congrArg Runnel.path (upd_same ..)
  · intro u
    refine ⟨exec_rowDeadlineSeal_oldest, fun q hstate => exec_rowRelease_sealed hstate, exec_rowRelease_open,
      fun m ms hout hlate => ⟨u.stallOut.settle s.pending, rfl, ?_⟩,
      fun hquiet hsilent => ⟨(u.viewSilent v).settle s.pending, rfl, ?_⟩⟩
    · rw [State.stallOut_late hout hlate]
      exact becomes_raise rfl (by decide) s.pending
    · rw [State.viewSilent, if_pos ⟨hquiet, hsilent⟩]
      exact becomes_raiseHeld rfl (by decide) s.pending
  · intro u k at_ bytes
    exact ⟨exec_basinStagingDrain_one, ⟨_, rfl, becomes_raiseHeld rfl (by decide) s.pending⟩,
      ⟨_, rfl, becomes_raise rfl (by decide) s.pending⟩, ⟨_, rfl, becomes_settle_nil rfl s.pending⟩⟩

end Sys2Proof.Machine
end

section
/-!
SUPPORT. The Weir (R304 to R320, R356): what the forming of a row leaves alone, the place of a piece in its launch queue, and
the piece that is discarded.
-/
namespace Sys2Proof.Machine

/-! ### What lies beside the forming of a row -/

/-- What is left without reports and without the Weir's work on a row: the twin, which no report of a source touches, and of
the Weir its SEQs, its count of rows and its last row. -/
def State.besideRow (s : State) : State :=
  { s.quiet with twin := s.twin, weir := { seqs := s.weir.seqs, rows := s.weir.rows, lastRow := s.weir.lastRow } }

section
variable {s t : State}

theorem State.weir_of_quiet (h : t.quiet = s.quiet) : t.weir = s.weir := State.weir_of_besideCf (State.besideCf_of_quiet h)

theorem State.besideRow_of_quiet (h : t.quiet = s.quiet) (htwin : t.twin = s.twin) : t.besideRow = s.besideRow := by
  unfold State.besideRow
  rw [h, htwin, State.weir_of_quiet h]

theorem State.cf_of_besideRow (h : t.besideRow = s.besideRow) : t.cf = s.cf := by
  show t.besideRow.cf = s.besideRow.cf
  rw [h]

theorem State.spill_of_besideRow (h : t.besideRow = s.besideRow) : t.spill = s.spill := by
  show t.besideRow.spill = s.besideRow.spill
  rw [h]

theorem State.twin_of_besideRow (h : t.besideRow = s.besideRow) : t.twin = s.twin := by
  show t.besideRow.twin = s.besideRow.twin
  rw [h]

/-- Of the Weir the SEQs, the count of rows and the last row. -/
theorem State.weir_of_besideRow (h : t.besideRow = s.besideRow) :
    t.weir.seqs = s.weir.seqs ∧ t.weir.rows = s.weir.rows ∧ t.weir.lastRow = s.weir.lastRow := by
  show t.besideRow.weir.seqs = s.besideRow.weir.seqs ∧ t.besideRow.weir.rows = s.besideRow.weir.rows ∧
    t.besideRow.weir.lastRow = s.besideRow.weir.lastRow
  rw [h]
  exact ⟨rfl, rfl, rfl⟩

theorem State.spill_of_quiet (h : t.quiet = s.quiet) : t.spill = s.spill := by
  show t.quiet.spill = s.quiet.spill
  rw [h]

theorem State.queues_of_quiet (h : t.quiet = s.quiet) : t.queues = s.queues := by
  show t.quiet.queues = s.quiet.queues
  rw [h]

theorem State.link_of_quiet (h : t.quiet = s.quiet) : t.link = s.link := by
  show t.quiet.link = s.quiet.link
  rw [h]

end

section
variable (s : State) (p : Bool) (k b : Nat)

@[simp] theorem State.besideRow_raise : (s.raise k b).besideRow = s.besideRow :=
  State.besideRow_of_quiet (State.quiet_raise s k b) (State.twin_raise s k b)

@[simp] theorem State.besideRow_raiseHeld : (s.raiseHeld k b).besideRow = s.besideRow :=
  State.besideRow_of_quiet (State.quiet_raiseHeld s k b) (State.twin_raiseHeld s k b)

@[simp] theorem State.besideRow_raiseIf : (s.raiseIf p k b).besideRow = s.besideRow := by
  unfold State.raiseIf
  split
  · exact State.besideRow_raise s k b
  · rfl

@[simp] theorem State.besideRow_causeGone : (s.causeGone k b).besideRow = s.besideRow := by
  unfold State.causeGone
  split <;> rfl

@[simp] theorem State.besideRow_raiseLevel : (s.raiseLevel p k b).besideRow = s.besideRow := by
  unfold State.raiseLevel
  split
  · split
    · split
      · rfl
      · exact State.besideRow_raiseHeld s k b
    · exact State.besideRow_causeGone s k b
  · rfl

end

/-! ### The forming of a row -/

/-- R310: what a row finds changed alters the Weir's learning and background alone. -/
theorem State.besideRow_beginLearn (s : State) (k : Int) : (s.beginLearn k).besideRow = s.besideRow :=
  (State.besideRow_raise ..).trans rfl

theorem State.besideRow_endLearn (s : State) : s.endLearn.besideRow = s.besideRow := by
  unfold State.endLearn
  split
  · dsimp only
    split
    · exact (State.besideRow_raiseHeld ..).trans rfl
    · rfl
  · rfl

theorem State.besideRow_weirBegin (s : State) (m : MergedRow) (cols : Nat) : (s.weirBegin m cols).besideRow = s.besideRow := by
  unfold State.weirBegin
  extract_lets slots first s1 s2 changed fresh none_ s3
  have h1 : s1.besideRow = s.besideRow := by
    show (if _ then _ else if _ then _ else _ : State).besideRow = _
    split
    · exact State.besideRow_causeGone ..
    · split
      · rfl
      · exact State.besideRow_raiseHeld ..
  have h2 : s2.besideRow = s.besideRow := (State.besideRow_endLearn s1).trans h1
  have h3 : s3.besideRow = s.besideRow := by
    refine Eq.trans ?_ h2
    show (if _ then _ else _ : State).besideRow = _
    split <;> rfl
  split
  · exact (State.besideRow_beginLearn ..).trans h3
  · exact h3

/-- A row is counted and becomes the Weir's last row. -/
def State.countRow (s : State) (row : Word) : State :=
  s.setWeir fun w => { w with rows := satInc 32 w.rows, lastRow := some row }

theorem State.besideRow_ite {p : Prop} [Decidable p] {x y e : State} (hx : x.besideRow = e.besideRow)
    (hy : y.besideRow = e.besideRow) : (if p then x else y).besideRow = e.besideRow := by
  split <;> assumption

/-- A Weir with the SEQs as they were, the row counted. -/
theorem State.besideRow_setWeir {s v : State} {w : Weir} {row : Word} (h : v.besideRow = s.besideRow)
    (hseqs : w.seqs = v.weir.seqs) (hrows : w.rows = satInc 32 v.weir.rows) (hlast : w.lastRow = some row) :
    (v.setWeir fun _ => w).besideRow = (s.countRow row).besideRow := by
  obtain ⟨hs, hr, -⟩ := State.weir_of_besideRow h
  show v.besideRow.setWeir (fun _ => { seqs := w.seqs, rows := w.rows, lastRow := w.lastRow }) =
    s.besideRow.setWeir fun _ => { seqs := s.weir.seqs, rows := satInc 32 s.weir.rows, lastRow := some row }
  rw [h, hseqs, hrows, hlast, hs, hr]

/-- R304, R318: a row that is formed is counted and becomes the last row; it takes no SEQ. -/
theorem State.besideRow_weirRow (s : State) (m : MergedRow) :
    (s.weirRow m).besideRow = (s.countRow (BitVec.ofInt 32 m.row)).besideRow := by
  unfold State.weirRow
  extract_lets cols v k u slots absent blind learning o occ kind cfgs made clamped held weir0 sends allGap
  split
  next w forced hadapt =>
  extract_lets w' s1 s2 s3 s4 s5 s6 s7 s8 s9
  obtain rfl : (weirAdapt v.weir cols slots (u 7 1) (u 8 1) (u 12 4) learning m o.spans).1 = w := congrArg Prod.fst hadapt
  obtain ⟨hseqs, hrows⟩ : w'.seqs = v.weir.seqs ∧ w'.rows = v.weir.rows := by
    show (if _ then _ else _ : Weir).seqs = _ ∧ (if _ then _ else _ : Weir).rows = _
    split <;> exact ⟨rfl, rfl⟩
  have h1 : s1.besideRow = (s.countRow (BitVec.ofInt 32 k)).besideRow :=
    State.besideRow_setWeir (State.besideRow_weirBegin s m cols) hseqs (congrArg (satInc 32) hrows) rfl
  have h2 : s2.besideRow = _ :=
    State.besideRow_ite ((State.besideRow_raiseHeld ..).trans h1) ((State.besideRow_causeGone ..).trans h1)
  have h6 : s6.besideRow = _ := (State.besideRow_raiseIf ..).trans ((State.besideRow_raiseIf ..).trans
    ((State.besideRow_raiseIf ..).trans ((State.besideRow_raiseIf ..).trans h2)))
  have h7 : s7.besideRow = _ := State.besideRow_ite h6 ((State.besideRow_raiseLevel ..).trans h6)
  have h8 : s8.besideRow = _ := (State.besideRow_raiseIf ..).trans h7
  have h9 : s9.besideRow = _ := State.besideRow_ite h8 ((State.besideRow_causeGone ..).trans h8)
  exact State.besideRow_ite ((State.besideRow_raiseHeld ..).trans h9)
    (State.besideRow_ite ((State.besideRow_causeGone ..).trans h9) h9)

/-! ### The row the Weir takes -/

/-- R418: a unit that stands alone sends no digest. -/
theorem State.noteDigest_of_single {s : State} (h : s.twin.state = .single) (m : MergedRow) : s.noteDigest m = s := by
  unfold State.noteDigest
  rw [h]
  rfl

/-- R422: a unit that stands alone ends no realignment. -/
theorem State.realignRow_of_single {s : State} (h : s.twin.state = .single) (row : Word) : s.realignRow row = s := by
  unfold State.realignRow
  rw [h]
  exact ite_self s

/-- The first of the released rows has left for the Weir. -/
abbrev State.leaveOut (s : State) (ms : List MergedRow) : State := s.setCf fun f => { f with out := ms }

/-- R304, R320: the Weir takes the next released row. -/
theorem State.besideRow_takeRow {s : State} {m : MergedRow} {ms : List MergedRow} (hout : s.cf.out = m :: ms)
    (hheld : s.weir.held = []) (hhold : s.twin.holdSince = none) (hsingle : s.twin.state = .single) :
    s.takeRow.besideRow = ((s.leaveOut ms).countRow (BitVec.ofInt 32 m.row)).besideRow := by
  have hrow := State.besideRow_weirRow (s.leaveOut ms) m
  have htwin : ((s.leaveOut ms).weirRow m).twin.state = .single :=
    (congrArg Twin.state (State.twin_of_besideRow hrow)).trans hsingle
  unfold State.takeRow
  rw [hout]
  dsimp only
  rw [hheld, hhold]
  refine (congrArg State.besideRow (if_pos rfl)).trans ?_
  rw [State.noteDigest_of_single htwin, State.realignRow_of_single htwin]
  exact (State.besideRow_causeGone ..).trans ((State.besideRow_causeGone ..).trans hrow)

/-- R320: the Weir takes no row before the pieces of the last are written. -/
theorem State.takeRow_of_held {s : State} {p : Piece} {rest : List Piece} (hheld : s.weir.held = p :: rest) :
    s.takeRow = s := by
  unfold State.takeRow
  split
  · rfl
  · rw [hheld]
    exact if_neg Bool.false_ne_true

theorem exec_weirRow_takes {dt : Nat} {s : State} {m : MergedRow} {ms : List MergedRow} (hout : (s.ticked dt).cf.out = m :: ms)
    (hheld : (s.ticked dt).weir.held = []) (hhold : (s.ticked dt).twin.holdSince = none)
    (hsingle : (s.ticked dt).twin.state = .single) :
    ∃ t, exec (.weirRow dt) s = .next t ∧ t.cf.out = ms ∧ t.weir.rows = satInc 32 (s.ticked dt).weir.rows ∧
      t.weir.lastRow = some (BitVec.ofInt 32 m.row) ∧ t.weir.seqs = (s.ticked dt).weir.seqs ∧
      t.spill = (s.ticked dt).spill := by
  have hquiet := State.quiet_settle (s.ticked dt).takeRow s.pending
  have hbeside := State.besideRow_takeRow hout hheld hhold hsingle
  obtain ⟨hseqs, hrows, hlast⟩ := State.weir_of_besideRow hbeside
  have hweir := State.weir_of_quiet hquiet
  exact ⟨(s.ticked dt).takeRow.settle s.pending, rfl,
    congrArg Confluence.out ((State.cf_of_quiet hquiet).trans (State.cf_of_besideRow hbeside)),
    (congrArg Weir.rows hweir).trans hrows, (congrArg Weir.lastRow hweir).trans hlast,
    (congrArg Weir.seqs hweir).trans hseqs,
    (State.spill_of_quiet hquiet).trans ((State.spill_of_besideRow hbeside).trans rfl)⟩

/-! ### The pieces of a row -/

/-- R313: SEQ fills the four bytes that stood for it. -/
theorem Piece.pieceStorage_numbered {p : Piece} (seq : Word) (hlen : 8 ≤ p.bytes.length) :
    pieceStorage (p.numbered seq) = pieceStorage p := by
  have hword : (leWord seq).length = 4 := by simp [leWord, leBytes]
  have hbytes : (p.numbered seq).bytes.length = p.bytes.length := by
    simp only [Piece.numbered, List.length_append, List.length_take, List.length_drop, hword]
    omega
  unfold pieceStorage
  rw [hbytes]

@[simp] theorem State.quiet_noteFill (s : State) : s.noteFill.quiet = s.quiet :=
  (State.quiet_raiseLevel ..).trans (State.quiet_raiseLevel ..)

/-- R321: a piece stands last in its launch queue, and its storage is used. -/
structure State.Stores (s : State) (q : Fin 8) (p : Piece) (t : State) : Prop where
  weir : t.weir = s.weir
  spill : ∃ x : Piece, t.spill[q].pieces = s.spill[q].pieces ++ [x] ∧ x.seq = p.seq ∧ x.row = p.row ∧ x.bytes = p.bytes
  used : t.queues[launchQueue q].used = s.queues[launchQueue q].used + pieceStorage p
  others : ∀ w : Fin 8, w ≠ q → t.spill[w] = s.spill[w]

theorem State.stores_commitPiece (s : State) (q : Fin 8) (p : Piece) (k : Int) : s.Stores q p (s.commitPiece q p k) := by
  unfold State.commitPiece
  extract_lets store timed launch late size v1 v2 v3 v4
  have hquiet : v4.noteFill.quiet = v2.quiet :=
    (State.quiet_noteFill v4).trans ((State.quiet_raiseIf ..).trans (State.quiet_raiseIf ..))
  have hspill := State.spill_of_quiet hquiet
  refine ⟨(State.weir_of_quiet hquiet).trans rfl, ?_, ?_, fun w hw => ?_⟩
  · rw [hspill]
    exact ⟨_, congrArg LaunchQueue.pieces (upd_same ..), rfl, rfl, rfl⟩
  · rw [State.queues_of_quiet hquiet]
    exact congrArg PQueue.used (upd_same ..)
  · rw [hspill]
    exact upd_ne _ _ _ _ hw.symm

section
variable {dt : Nat} {s : State} {q : Fin 8} {p : Piece} {rest : List Piece}

/-- The Weir has written or discarded the piece at which it stood. -/
def State.nextPiece (s : State) (rest : List Piece) : State :=
  s.setWeir fun w => { w with held := rest, refusedAt := none, stalled := false }

@[simp] theorem State.held_nextPiece (s : State) (rest : List Piece) : (s.nextPiece rest).weir.held = rest := rfl

@[simp] theorem State.seqs_nextPiece (s : State) (rest : List Piece) : (s.nextPiece rest).weir.seqs = s.weir.seqs := rfl

@[simp] theorem State.spill_nextPiece (s : State) (rest : List Piece) : (s.nextPiece rest).spill = s.spill := rfl

@[simp] theorem State.queues_nextPiece (s : State) (rest : List Piece) : (s.nextPiece rest).queues = s.queues := rfl

@[simp] theorem State.link_nextPiece (s : State) (rest : List Piece) : (s.nextPiece rest).link = s.link := rfl

/-- R318: a piece that is written takes its stream's SEQ, and its bytes are counted. -/
def State.writeSeq (s : State) (q : Fin 8) (p : Piece) : State :=
  (s.takeSeq q).setWeir fun w => { w with
    bytes := upd w.bytes q fun n => satAdd 38 n p.bytes.length, lastRows := w.lastRows.set q p.row }

@[simp] theorem State.seqs_writeSeq (s : State) (q : Fin 8) (p : Piece) :
    (s.writeSeq q p).weir.seqs = upd s.weir.seqs q (· + 1) := rfl

@[simp] theorem State.spill_writeSeq (s : State) (q : Fin 8) (p : Piece) : (s.writeSeq q p).spill = s.spill := rfl

@[simp] theorem State.queues_writeSeq (s : State) (q : Fin 8) (p : Piece) : (s.writeSeq q p).queues = s.queues := rfl

/-- R320, R356: the three ways of a piece whose row is not being discarded. -/
theorem State.reservePiece_eq (hheld : s.weir.held = p :: rest) (hstream : p.stream = q.val)
    (hkeep : s.spill[q].dropRow ≠ some p.row) :
    s.reservePiece q =
      if s.roomFor q p then
        ((s.writeSeq q p).commitPiece q (p.numbered s.weir.seqs[q]) (s.extendRow p.row)).nextPiece rest
      else if s.queueBlocked q then ((s.raise 47 18).dropPiece q p).nextPiece rest
      else if s.weir.refusedAt.isSome then s
      else (s.setWeir fun w => { w with refusedAt := some s.now }).raise 47 18 := by
  unfold State.reservePiece
  rw [hheld]
  dsimp only
  rw [if_neg (not_not_intro hstream), if_neg hkeep]
  rfl

/-- R356: a piece is discarded, but for the report. -/
def State.discardPiece (s : State) (q : Fin 8) (p : Piece) : State :=
  let v := (s.takeSeq q).setLaunch q fun x => { x with dropRow := some p.row }
  { v with link := { v.link with drops := v.link.drops + 1, qdrops := upd v.link.qdrops q (satInc 32) } }

@[simp] theorem State.seqs_discardPiece (s : State) (q : Fin 8) (p : Piece) :
    (s.discardPiece q p).weir.seqs = upd s.weir.seqs q (· + 1) := rfl

@[simp] theorem State.spill_discardPiece (s : State) (q : Fin 8) (p : Piece) :
    (s.discardPiece q p).spill = upd s.spill q fun x => { x with dropRow := some p.row } := rfl

@[simp] theorem State.queues_discardPiece (s : State) (q : Fin 8) (p : Piece) : (s.discardPiece q p).queues = s.queues := rfl

@[simp] theorem State.drops_discardPiece (s : State) (q : Fin 8) (p : Piece) :
    (s.discardPiece q p).link.drops = s.link.drops + 1 := rfl

theorem State.dropPiece_eq (s : State) (q : Fin 8) (p : Piece) : s.dropPiece q p = (s.discardPiece q p).raise 48 20 := rfl

theorem State.quiet_discardPiece {s t : State} (h : t.quiet = s.quiet) (q : Fin 8) (p : Piece) :
    (t.discardPiece q p).quiet = (s.discardPiece q p).quiet := congrArg (State.discardPiece · q p) h

theorem State.quiet_nextPiece {s t : State} (h : t.quiet = s.quiet) (rest : List Piece) :
    (t.nextPiece rest).quiet = (s.nextPiece rest).quiet := congrArg (State.nextPiece · rest) h

/-- R318, R320: the piece at which the Weir stood is in its launch queue. -/
structure State.Writes (s : State) (q : Fin 8) (p : Piece) (rest : List Piece) (t : State) : Prop where
  held : t.weir.held = rest
  seqs : t.weir.seqs = upd s.weir.seqs q (· + 1)
  spill : ∃ x : Piece, t.spill[q].pieces = s.spill[q].pieces ++ [x] ∧ x.seq = s.weir.seqs[q] ∧ x.row = p.row ∧
    x.bytes = p.bytes.take 4 ++ leWord s.weir.seqs[q] ++ p.bytes.drop 8
  used : t.queues[launchQueue q].used = s.queues[launchQueue q].used + pieceStorage p
  others : ∀ w : Fin 8, w ≠ q → t.spill[w] = s.spill[w]

theorem State.Writes.of_quiet {t v : State} (h : s.Writes q p rest t) (hquiet : v.quiet = t.quiet) : s.Writes q p rest v := by
  obtain ⟨held, seqs, spill, used, others⟩ := h
  rw [← State.weir_of_quiet hquiet] at held seqs
  rw [← State.spill_of_quiet hquiet] at spill others
  rw [← State.queues_of_quiet hquiet] at used
  exact ⟨held, seqs, spill, used, others⟩

/-- R318, R320: a piece for which there is room takes its SEQ and is written. -/
theorem State.writes_reservePiece (hheld : s.weir.held = p :: rest) (hstream : p.stream = q.val)
    (hkeep : s.spill[q].dropRow ≠ some p.row) (hlen : 8 ≤ p.bytes.length) (hroom : s.roomFor q p = true) :
    s.Writes q p rest (s.reservePiece q) := by
  rw [State.reservePiece_eq hheld hstream hkeep, if_pos hroom]
  have hstores := (s.writeSeq q p).stores_commitPiece q (p.numbered s.weir.seqs[q]) (s.extendRow p.row)
  obtain ⟨hweir, hspill, hused, hothers⟩ := hstores
  rw [State.spill_writeSeq] at hspill hothers
  rw [State.queues_writeSeq, Piece.pieceStorage_numbered _ hlen] at hused
  refine ⟨State.held_nextPiece .., ?_, ?_, ?_, ?_⟩
  · rw [State.seqs_nextPiece, hweir, State.seqs_writeSeq]
  · rw [State.spill_nextPiece]; exact hspill
  · rw [State.queues_nextPiece]; exact hused
  · rw [State.spill_nextPiece]; exact hothers

/-- R356: the piece at which the Weir stood is discarded, with its SEQ. -/
structure State.Discards (s : State) (q : Fin 8) (p : Piece) (rest : List Piece) (t : State) : Prop where
  held : t.weir.held = rest
  seqs : t.weir.seqs = upd s.weir.seqs q (· + 1)
  dropRow : t.spill[q].dropRow = some p.row
  pieces : t.spill[q].pieces = s.spill[q].pieces
  drops : t.link.drops = s.link.drops + 1
  queues : t.queues = s.queues

theorem State.Discards.of_quiet {t v : State} (h : s.Discards q p rest t) (hquiet : v.quiet = t.quiet) :
    s.Discards q p rest v := by
  obtain ⟨held, seqs, dropRow, pieces, drops, queues⟩ := h
  rw [← State.weir_of_quiet hquiet] at held seqs
  rw [← State.spill_of_quiet hquiet] at dropRow pieces
  rw [← State.link_of_quiet hquiet] at drops
  rw [← State.queues_of_quiet hquiet] at queues
  exact ⟨held, seqs, dropRow, pieces, drops, queues⟩

theorem State.discards_discardPiece : s.Discards q p rest ((s.discardPiece q p).nextPiece rest) where
  held := State.held_nextPiece ..
  seqs := by rw [State.seqs_nextPiece, State.seqs_discardPiece]
  dropRow := by rw [State.spill_nextPiece, State.spill_discardPiece, upd_same]
  pieces := by rw [State.spill_nextPiece, State.spill_discardPiece, upd_same]
  drops := by rw [State.link_nextPiece, State.drops_discardPiece]
  queues := by rw [State.queues_nextPiece, State.queues_discardPiece]

section
variable (hheld : s.weir.held = p :: rest) (hstream : p.stream = q.val) (hkeep : s.spill[q].dropRow ≠ some p.row)
  (hroom : s.roomFor q p = false)
include hheld hstream hkeep hroom

/-- R356: while the link is away and the queue is full a piece is discarded, and its SEQ with it. -/
theorem State.reservePiece_blocked (hblocked : s.queueBlocked q = true) :
    s.reservePiece q = ((s.raise 47 18).dropPiece q p).nextPiece rest := by
  rw [State.reservePiece_eq hheld hstream hkeep, if_neg (ne_true_of_eq_false hroom), if_pos hblocked]

theorem State.discards_reservePiece (hblocked : s.queueBlocked q = true) : s.Discards q p rest (s.reservePiece q) := by
  rw [State.reservePiece_blocked hheld hstream hkeep hroom hblocked, State.dropPiece_eq]
  exact State.discards_discardPiece.of_quiet (State.quiet_nextPiece
    ((State.quiet_raise ..).trans (State.quiet_discardPiece (State.quiet_raise ..) q p)) rest)

/-- R356: a discarded piece is reported. -/
theorem State.newlySet_reservePiece (hblocked : s.queueBlocked q = true) :
    newlySet ((s.raise 47 18).discardPiece q p) (s.reservePiece q) [(48, 20)] := by
  rw [State.reservePiece_blocked hheld hstream hkeep hroom hblocked, State.dropPiece_eq]
  exact (newlySet_raise _ 48 20 (by decide)).trans (newlySet_of_eq rfl)

/-- R320: a piece without room waits, and the tick of its first refusal is kept. -/
theorem State.reservePiece_waits (hblocked : s.queueBlocked q = false) (hfirst : s.weir.refusedAt = none) :
    s.reservePiece q = (s.setWeir fun w => { w with refusedAt := some s.now }).raise 47 18 := by
  rw [State.reservePiece_eq hheld hstream hkeep, hroom, hblocked, hfirst]
  rfl

end

/-! ### Stall and learning -/

/-- R320: a refusal that has lasted too long. -/
def State.noteStall (s : State) : State :=
  match s.weir.refusedAt with
  | some t =>
    if !s.weir.stalled && decide (t + ticksOfUs 25 < s.now) then (s.setWeir fun w => { w with stalled := true }).raise 47 7
    else s
  | none => s

theorem exec_weirStall_eq : exec (.weirStall dt) s = .next ((s.ticked dt).noteStall.settle s.pending) := rfl

/-- R320: a Weir that has waited more than 25 µs for a queue reports it. -/
theorem State.noteStall_late {at_ : Nat} (hat : s.weir.refusedAt = some at_) (hnew : s.weir.stalled = false)
    (hlate : at_ + ticksOfUs 25 < s.now) : s.noteStall = (s.setWeir fun w => { w with stalled := true }).raise 47 7 := by
  unfold State.noteStall
  rw [hat, hnew]
  exact if_pos (decide_eq_true hlate)

theorem State.noteStall_early {at_ : Nat} (hat : s.weir.refusedAt = some at_) (hearly : s.now ≤ at_ + ticksOfUs 25) :
    s.noteStall = s := by
  unfold State.noteStall
  rw [hat]
  dsimp only
  rw [decide_eq_false (Nat.not_lt.2 hearly), Bool.and_false]
  rfl

/-- R310: learning ends after its rows, and reports the cells that stayed invalid. -/
theorem State.endLearn_done (hstate : s.weir.state = 1) (hleft : s.weir.learnLeft = 0) :
    s.endLearn =
      if bgInvalid s.weir.bg s.weir.run.length s.weir.slots.length then
        (s.setWeir fun w => { w with state := 2 }).raiseHeld 47 9
      else s.setWeir fun w => { w with state := 2 } :=
  if_pos ⟨hstate, hleft⟩

theorem State.endLearn_of_left (hleft : s.weir.learnLeft ≠ 0) : s.endLearn = s := if_neg fun h => hleft h.2

theorem State.becomes_endLearn (hstate : s.weir.state = 1) (hleft : s.weir.learnLeft = 0) (is : List Instr) :
    becomes s (s.setWeir fun w => { w with state := 2 }) (s.endLearn.settle is)
      (if bgInvalid s.weir.bg s.weir.run.length s.weir.slots.length then [(47, 9)] else []) := by
  rw [State.endLearn_done hstate hleft]
  split
  · exact becomes_raiseHeld rfl (by decide) is
  · exact becomes_settle_nil rfl is

end

/-- Settles O35: a row is taken when none of the last one's pieces is left, and leaves the SEQs alone; a piece enters its launch
queue, is discarded or waits, as the room and the link have it; stall and learning report what they have to. -/
theorem piecesLeaveTheWeir : Obligations.PiecesLeaveTheWeir := by
  unfold Obligations.PiecesLeaveTheWeir
  refine ⟨fun dt q p rest m ms s => ?_, fun dt s => ?_⟩
  · intro u
    refine ⟨exec_weirRow_takes, fun hheld => ⟨u.takeRow.settle s.pending, rfl, ?_⟩, fun hheld hstream hkeep hlen =>
      ⟨fun hroom => ?_, fun hroom hblocked => ?_, fun hroom hblocked hfirst => ?_⟩⟩
    · rw [State.takeRow_of_held hheld]
      exact becomes_settle_nil rfl s.pending
    · obtain ⟨held, seqs, ⟨x, hx, hseq, hrow, hbytes⟩, used, others⟩ :=
        (State.writes_reservePiece hheld hstream hkeep hlen hroom).of_quiet (State.quiet_settle _ s.pending)
      exact ⟨(u.reservePiece q).settle s.pending, x, rfl, held, by rw [seqs, upd_same], hx, hseq, hrow, hbytes, used,
        fun w hw => ⟨others w hw, by rw [seqs, upd_ne _ _ _ _ hw.symm]⟩⟩
    · obtain ⟨held, seqs, dropRow, pieces, drops, queues⟩ :=
        (State.discards_reservePiece hheld hstream hkeep hroom hblocked).of_quiet (State.quiet_settle _ s.pending)
      have hset := State.newlySet_reservePiece hheld hstream hkeep hroom hblocked
      exact ⟨(u.reservePiece q).settle s.pending, rfl, held, by rw [seqs, upd_same], dropRow, pieces, drops,
        State.source_settle_of_newlySet hset (by decide) (by decide) s.pending, queues⟩
    · refine ⟨(u.reservePiece q).settle s.pending, rfl, ?_⟩
      rw [State.reservePiece_waits hheld hstream hkeep hroom hblocked hfirst]
      exact becomes_raise rfl (by decide) s.pending
  · intro u
    refine ⟨fun at_ hat hnew hlate => ⟨_, exec_weirStall_eq, ?_⟩,
      fun at_ hat hearly => ⟨_, exec_weirStall_eq, ?_⟩,
      fun hstate hleft => ⟨_, rfl, State.becomes_endLearn hstate hleft s.pending⟩,
      fun hleft => ⟨u.endLearn.settle s.pending, rfl, ?_⟩, ⟨_, rfl, becomes_raise rfl (by decide) s.pending⟩⟩
    · rw [State.noteStall_late hat hnew hlate]
      exact becomes_raise rfl (by decide) s.pending
    · rw [State.noteStall_early hat hearly]
      exact becomes_settle_nil rfl s.pending
    · rw [State.endLearn_of_left hleft]
      exact becomes_settle_nil rfl s.pending

end Sys2Proof.Machine
end

section
/-!
SUPPORT. What is driven out on Uahorn: reports leave every output alone, and what a step ends with adds frames to Gelain only.
-/
namespace Sys2Proof.Machine

/-! ### Reports -/

theorem State.out_ite {p : Prop} [Decidable p] {x y : State} {o : Out} (hx : x.out = o) (hy : y.out = o) :
    (if p then x else y).out = o := by
  split <;> assumption

@[simp] theorem State.out_stage (s : State) (e : Entry) : (s.stage e).out = s.out := State.out_ite rfl rfl

@[simp] theorem State.out_occur (s : State) (c : Src) (x y : Bool) : (s.occur c x y).out = s.out := by
  unfold State.occur
  split
  · exact State.out_ite rfl (State.out_stage ..)
  · rfl

@[simp] theorem State.out_noteOverflow (s t : State) : (s.noteOverflow t).out = t.out :=
  State.out_ite (State.out_occur ..) rfl

@[simp] theorem State.out_log (s : State) (e : Entry) : (s.log e).out = s.out := by simp [State.log]

@[simp] theorem State.out_raise (s : State) (k b : Nat) : (s.raise k b).out = s.out := by simp [State.raise]

@[simp] theorem State.out_raiseHeld (s : State) (k b : Nat) : (s.raiseHeld k b).out = s.out := by simp [State.raiseHeld]

@[simp] theorem State.out_raiseIf (s : State) (p : Bool) (k b : Nat) : (s.raiseIf p k b).out = s.out :=
  State.out_ite (State.out_raise ..) rfl

@[simp] theorem State.out_causeGone (s : State) (k b : Nat) : (s.causeGone k b).out = s.out := by
  unfold State.causeGone
  split <;> rfl

@[simp] theorem State.out_raiseLevel (s : State) (p : Bool) (k b : Nat) : (s.raiseLevel p k b).out = s.out := by
  unfold State.raiseLevel
  split
  · exact State.out_ite (State.out_ite rfl (State.out_raiseHeld ..)) (State.out_causeGone ..)
  · rfl

@[simp] theorem State.out_noteFill (s : State) : s.noteFill.out = s.out :=
  (State.out_raiseLevel ..).trans (State.out_raiseLevel ..)

/-! ### The end of a step -/

@[simp] theorem State.out_setEpoch (s : State) (e : Half) : (s.setEpoch e).out = s.out := State.out_ite rfl rfl

/-- R408: a state of the twin that is entered is reported, and drives nothing out. -/
@[simp] theorem State.out_enter (s : State) (t : TwinState) (e : Half) : (s.enter t e).out = s.out := by
  unfold State.enter
  extract_lets old oldEpoch s1 w s2 a s3 s4 s5 s6 s7 u s8 leaves
  have h4 : s4.out = s.out := (State.out_raiseIf ..).trans ((State.out_log ..).trans (State.out_setEpoch s e))
  have h5 : s5.out = s.out := State.out_ite ((State.out_raiseHeld ..).trans h4) h4
  have h6 : s6.out = s.out := State.out_ite ((State.out_raiseHeld ..).trans h5) h5
  have h7 : s7.out = s.out := State.out_ite ((State.out_raise ..).trans h6) h6
  exact State.out_ite (x := State.raise _ 50 23) ((State.out_raise ..).trans h7) (State.out_ite h7 h7)

@[simp] theorem State.out_fence (s : State) : s.fence.out = s.out := by
  unfold State.fence
  split <;> simp

@[simp] theorem State.uahorn_sendG (s : State) (f : GFrame) : (s.sendG f).out.uahorn = s.out.uahorn := by
  unfold State.sendG
  split <;> rfl

@[simp] theorem State.uahorn_escalateNow (s : State) : s.escalateNow.out.uahorn = s.out.uahorn := by
  unfold State.escalateNow
  split
  · split
    · exact State.uahorn_sendG ..
    · rfl
  · rw [State.out_fence]
  · rw [State.out_fence]
  · rfl

@[simp] theorem State.uahorn_sendMirrors (s : State) : s.sendMirrors.out.uahorn = s.out.uahorn := by
  unfold State.sendMirrors
  split
  · split
    · exact State.uahorn_sendG ..
    · rfl
  · rfl

theorem State.out_causesGone (l : List (Nat × Nat × (Unit → Bool))) (s : State) :
    (l.foldl (fun s c => s.causeGone c.1 c.2.1) s).out = s.out := by
  induction l generalizing s with
  | nil => rfl
  | cons c l ih => exact (ih _).trans (State.out_causeGone ..)

@[simp] theorem State.out_refreshCauses (s : State) : s.refreshCauses.out = s.out := State.out_causesGone _ s

/-- R46, R475, R476: the levels of the pins. -/
theorem State.out_levels (s : State) (q : List Instr) :
    ({ s.noteCauses.drivePins with pending := q } : State).out = s.out := rfl

/-- What every step ends with sends no frame on Uahorn. -/
@[simp] theorem State.uahorn_settle (s : State) (q : List Instr) : (s.settle q).out.uahorn = s.out.uahorn := by
  unfold State.settle
  rw [State.out_levels, State.out_refreshCauses, State.uahorn_sendMirrors]
  split
  · exact State.uahorn_escalateNow s
  · rfl

end Sys2Proof.Machine
end

section
/-!
SUPPORT. The framer (R347 to R356, R391): what a piece that launches changes, and what STATUS and credits report.
-/
namespace Sys2Proof.Machine

/-! ### STATUS -/

@[simp] theorem length_leBytes (n x : Nat) : (leBytes n x).length = n := by
  induction n generalizing x with
  | zero => rfl
  | succ n ih => exact congrArg (· + 1) (ih (x / 256))

/-- R349: a STATUS payload has 32 bytes. -/
@[simp] theorem State.length_statusPayload (s : State) : s.statusPayload.length = 32 := by
  have hqueues : ((fins 8).flatMap fun q => leBytes 1 s.spill[q].pieces.length).length = 8 := by
    simp only [List.length_flatMap, length_leBytes]
    rfl
  simp only [State.statusPayload, leWord, List.length_append, length_leBytes, hqueues]

/-! ### Frames -/

/-- R347: TX_TIME rests on the lanes, of all the link holds. -/
theorem State.txTime_setLink {s : State} {f : Link → Link} (h : (f s.link).tr = s.link.tr) : (s.setLink f).txTime = s.txTime := by
  unfold State.txTime State.laneDelay
  rw [State.setLink_link, h]
  rfl

@[simp] theorem State.txTime_consume (s : State) (c : Fin 9) (len : Nat) : (s.consume c len).txTime = s.txTime :=
  State.txTime_setLink rfl

theorem State.uahorn_emit (s : State) (type flags lseq epoch ident chan : Nat) (payload : List Byte) :
    (s.emit type flags lseq epoch ident chan payload).out.uahorn =
      s.out.uahorn ++ frameBytes type (flags + bit 2 s.clock.holdover) lseq epoch ident chan (time32 s.txTime) payload := rfl

theorem State.uahorn_sendPlain (s : State) (type : Nat) (payload : List Byte) :
    (s.sendPlain type payload).out.uahorn = s.out.uahorn ++
      frameBytes type (1 + bit 2 s.clock.holdover) 0 s.twin.epoch.toNat s.ident 0 (time32 s.txTime) payload := by
  unfold State.sendPlain
  rw [State.uahorn_emit, State.txTime_consume]
  rfl

theorem State.uahorn_sendSeq (s : State) (cls : Fin 9) (type chan : Nat) (payload : List Byte) :
    (s.sendSeq cls type chan payload).out.uahorn = s.out.uahorn ++
      frameBytes type (0 + bit 2 s.clock.holdover) s.link.nextTx.toNat s.twin.epoch.toNat s.ident chan (time32 s.txTime)
        payload := by
  unfold State.sendSeq
  rw [State.uahorn_emit, State.txTime_setLink rfl, State.txTime_consume]
  rfl

/-! ### What a launch leaves alone -/

/-- Of what the framer sends and keeps, for launch queue `q`: nothing differs. -/
structure State.SameEgress (q : Fin 8) (s t : State) : Prop where
  pieces : t.spill[q].pieces = s.spill[q].pieces
  others : ∀ w : Fin 8, w ≠ q → t.spill[w] = s.spill[w]
  replay : t.link.replay = s.link.replay
  nextTx : t.link.nextTx = s.link.nextTx
  used : t.link.used = s.link.used
  queues : t.queues = s.queues
  uahorn : t.out.uahorn = s.out.uahorn

section
variable {q : Fin 8} {s t v : State}

theorem State.SameEgress.refl (q : Fin 8) (s : State) : s.SameEgress q s := ⟨rfl, fun _ _ => rfl, rfl, rfl, rfl, rfl, rfl⟩

theorem State.SameEgress.trans (h : s.SameEgress q t) (h' : t.SameEgress q v) : s.SameEgress q v where
  pieces := h'.pieces.trans h.pieces
  others w hw := (h'.others w hw).trans (h.others w hw)
  replay := h'.replay.trans h.replay
  nextTx := h'.nextTx.trans h.nextTx
  used := h'.used.trans h.used
  queues := h'.queues.trans h.queues
  uahorn := h'.uahorn.trans h.uahorn

theorem State.SameEgress.of_quiet (h : t.quiet = s.quiet) (hout : t.out.uahorn = s.out.uahorn) : s.SameEgress q t where
  pieces := by rw [State.spill_of_quiet h]
  others _ _ := by rw [State.spill_of_quiet h]
  replay := by rw [State.link_of_quiet h]
  nextTx := by rw [State.link_of_quiet h]
  used := by rw [State.link_of_quiet h]
  queues := State.queues_of_quiet h
  uahorn := hout

theorem State.SameEgress.ite {p : Prop} [Decidable p] (h : s.SameEgress q t) (h' : s.SameEgress q v) :
    s.SameEgress q (if p then t else v) := by
  split <;> assumption

end

section
variable (q : Fin 8) (s : State)

theorem State.sameEgress_raise (k b : Nat) : s.SameEgress q (s.raise k b) :=
  .of_quiet (State.quiet_raise ..) (congrArg Out.uahorn (State.out_raise ..))

theorem State.sameEgress_raiseHeld (k b : Nat) : s.SameEgress q (s.raiseHeld k b) :=
  .of_quiet (State.quiet_raiseHeld ..) (congrArg Out.uahorn (State.out_raiseHeld ..))

theorem State.sameEgress_raiseIf (p : Bool) (k b : Nat) : s.SameEgress q (s.raiseIf p k b) :=
  .of_quiet (State.quiet_raiseIf ..) (congrArg Out.uahorn (State.out_raiseIf ..))

theorem State.sameEgress_noteFill : s.SameEgress q s.noteFill :=
  .of_quiet (State.quiet_noteFill s) (congrArg Out.uahorn (State.out_noteFill s))

theorem State.sameEgress_settle (is : List Instr) : s.SameEgress q (s.settle is) :=
  .of_quiet (State.quiet_settle ..) (State.uahorn_settle ..)

/-- R362: the clocks of the classes without credit change nothing else. -/
theorem State.refreshStarved_eq : ∃ clocks, s.refreshStarved = s.setLink fun l => { l with starved := clocks } := ⟨_, rfl⟩

@[simp] theorem State.spill_refreshStarved : s.refreshStarved.spill = s.spill := rfl

theorem State.sameEgress_refreshStarved : s.SameEgress q s.refreshStarved := ⟨rfl, fun _ _ => rfl, rfl, rfl, rfl, rfl, rfl⟩

/-- R491: a row that leaves late is counted and reported. -/
theorem State.sameEgress_noteLate (p : Piece) : s.SameEgress q (s.noteLate p) := by
  unfold State.noteLate
  split
  · exact .refl q s
  · refine .ite (State.SameEgress.trans ?_ (State.sameEgress_raise q _ 52 11)) (.refl q s)
    exact ⟨rfl, fun _ _ => rfl, rfl, rfl, rfl, rfl, rfl⟩

/-- R356: the clock of DRAIN_LIMIT touches no piece. -/
theorem State.sameEgress_setLaunch {f : LaunchQueue → LaunchQueue} (hf : (f s.spill[q]).pieces = s.spill[q].pieces) :
    s.SameEgress q (s.setLaunch q f) :=
  ⟨(congrArg LaunchQueue.pieces (upd_same ..)).trans hf, fun _ hw => upd_ne _ _ _ _ hw.symm, rfl, rfl, rfl, rfl, rfl⟩

theorem State.sameEgress_refreshEligible : s.SameEgress q (s.refreshEligible q) := by
  unfold State.refreshEligible
  split
  · exact .ite (State.sameEgress_setLaunch q s rfl) (.refl q s)
  · exact State.sameEgress_setLaunch q s rfl

end

/-! ### A launch -/

section
variable {q : Fin 8} {p : Piece} {s t v : State}

/-- R347, R353: the frame of a piece that leaves now. -/
def State.dataFrame (s : State) (q : Fin 8) (p : Piece) : TxFrame :=
  { lseq := s.link.nextTx, type := 1, chan := q, payload := p.bytes, epoch := s.twin.epoch, ident := s.ident, sentAt := s.now }

/-- R353, R355, R392: the piece has left its launch queue, in a frame that consumed credit and is kept for replay. -/
structure State.Launches (s : State) (q : Fin 8) (p : Piece) (t : State) : Prop where
  pieces : t.spill[q].pieces = s.spill[q].pieces.drop 1
  others : ∀ w : Fin 8, w ≠ q → t.spill[w] = s.spill[w]
  replay : t.link.replay = s.link.replay ++ [s.dataFrame q p]
  nextTx : t.link.nextTx = s.link.nextTx + 1
  used : t.link.used = upd s.link.used ⟨q.val, by omega⟩ fun x => x + BitVec.ofNat 32 (frameUnits p.bytes.length)
  freed : t.queues[launchQueue q].freed = s.queues[launchQueue q].freed + pieceStorage p
  uahorn : t.out.uahorn = s.out.uahorn ++ frameBytes 1 (0 + bit 2 s.clock.holdover) s.link.nextTx.toNat s.twin.epoch.toNat s.ident
    q (time32 s.txTime) p.bytes

theorem State.Launches.same (h : s.Launches q p t) (h' : t.SameEgress q v) : s.Launches q p v where
  pieces := h'.pieces.trans h.pieces
  others w hw := (h'.others w hw).trans (h.others w hw)
  replay := h'.replay.trans h.replay
  nextTx := h'.nextTx.trans h.nextTx
  used := h'.used.trans h.used
  freed := by rw [h'.queues, h.freed]
  uahorn := h'.uahorn.trans h.uahorn

/-- R355, R392, R393: a piece that launches is sent, and what follows reports on it. -/
theorem State.launches_launch (s : State) (q : Fin 8) (p : Piece) : s.Launches q p (s.launch q p) := by
  unfold State.launch
  extract_lets slip warn s1 s2 s3 s4 s5 s6
  have htime : s3.txTime = s.txTime := rfl
  have hident : s3.ident = s.ident := rfl
  have huahorn := s3.uahorn_sendSeq ⟨q.val, by omega⟩ 1 q p.bytes
  rw [htime, hident] at huahorn
  have hsent : s.Launches q p s4 := ⟨congrArg LaunchQueue.pieces (upd_same ..), fun w hw => upd_ne _ _ _ _ hw.symm, rfl, rfl, rfl,
    congrArg PQueue.freed (upd_same ..), huahorn⟩
  have h6 : s5.SameEgress q s6 := .ite (State.sameEgress_raiseHeld ..) (.refl ..)
  exact hsent.same ((State.sameEgress_raiseIf ..).trans (h6.trans ((State.sameEgress_noteLate ..).trans
    ((State.sameEgress_refreshEligible ..).trans (State.sameEgress_noteFill ..)))))

end

/-! ### What the framer sends -/

section
variable {dt : Nat} {s : State} {q : Fin 8} {p : Piece}

/-- R355: the link is in use, and no replay, MBOX_ACK, REPLY or echo is ahead of STATUS and DATA. -/
abbrev State.nothingAhead (s : State) : Prop :=
  s.link.tr.state = 7 ∧ s.link.txIdle = false ∧ s.link.resend = 0 ∧ s.link.acks = [] ∧ s.replyWaits = none ∧ s.link.echoes = []

theorem State.framerSend_of_nothingAhead (h : s.nothingAhead) : s.framerSend = s.framerData := by
  obtain ⟨hstate, hidle, hresend, hacks, hreply, hechoes⟩ := h
  have hrest : s.framerReply = s.framerData := by
    unfold State.framerReply State.framerRest
    rw [hreply, hechoes]
    rfl
  unfold State.framerSend
  rw [hstate, hidle, hresend, hacks]
  exact hrest

theorem State.framerSend_of_inactive (hstate : s.link.tr.state ≠ 7) : s.framerSend = s := if_pos (.inl hstate)

theorem State.framerData_status (hdue : s.link.statusDue = true) (hcredit : s.credit 8 32 = true) :
    s.framerData = (s.setLink fun l => { l with statusDue := false }).sendPlain 2 s.statusPayload :=
  if_pos (by rw [hdue, hcredit]; rfl)

theorem State.framerData_piece (hdue : s.link.statusDue = false) (hpick : s.pickPiece = some (q, p)) :
    s.framerData = s.launch q p := by
  unfold State.framerData
  rw [hdue, Bool.false_and, if_neg Bool.false_ne_true]
  dsimp only
  rw [if_neg Bool.false_ne_true, hpick]

theorem exec_framerSend_eq : exec (.framerSend dt) s = .next ((s.ticked dt).framerSend.refreshStarved.settle s.pending) := rfl

theorem exec_launchTimeReached_eq :
    exec (.launchTimeReached dt q) s = .next (((s.ticked dt).refreshEligible q).refreshStarved.settle s.pending) := rfl

/-- Before a step takes effect nothing has been driven out. -/
theorem State.uahorn_ticked : (s.ticked dt).out.uahorn = [] := by
  unfold State.ticked State.advance
  split <;> rfl

/-- R349, R351: a STATUS frame has left in one unit of class 8. -/
structure State.SendsStatus (s t : State) : Prop where
  statusDue : t.link.statusDue = false
  spill : t.spill = s.spill
  replay : t.link.replay = s.link.replay
  used : t.link.used = upd s.link.used 8 fun x => x + BitVec.ofNat 32 (frameUnits s.statusPayload.length)
  uahorn : t.out.uahorn = s.out.uahorn ++ frameBytes 2 (1 + bit 2 s.clock.holdover) 0 s.twin.epoch.toNat s.ident 0
    (time32 s.txTime) s.statusPayload

theorem State.sendsStatus_framerData (hdue : s.link.statusDue = true) (hcredit : s.credit 8 32 = true) :
    s.SendsStatus s.framerData := by
  have huahorn := (s.setLink fun l => { l with statusDue := false }).uahorn_sendPlain 2 s.statusPayload
  rw [State.txTime_setLink rfl] at huahorn
  rw [State.framerData_status hdue hcredit]
  exact ⟨rfl, rfl, rfl, rfl, huahorn⟩

theorem State.SendsStatus.settle {t : State} (h : s.SendsStatus t) (is : List Instr) :
    s.SendsStatus (t.refreshStarved.settle is) := by
  obtain ⟨clocks, hstarved⟩ := t.refreshStarved_eq
  rw [hstarved]
  have hquiet := State.quiet_settle (t.setLink fun l => { l with starved := clocks }) is
  have hlink := State.link_of_quiet hquiet
  exact ⟨(congrArg Link.statusDue hlink).trans h.statusDue, (State.spill_of_quiet hquiet).trans h.spill,
    (congrArg Link.replay hlink).trans h.replay, (congrArg Link.used hlink).trans h.used,
    (State.uahorn_settle ..).trans h.uahorn⟩

/-! ### DRAIN_LIMIT, STATUS_PERIOD and credits -/

/-- R391: the clock of DRAIN_LIMIT starts once. -/
theorem State.spill_refreshEligible (hhead : s.launchHead q = some p) (hmay : s.eligible p = true) :
    (s.refreshEligible q).spill = upd s.spill q fun x => { x with eligibleAt := x.eligibleAt.or (some s.now) } := by
  unfold State.refreshEligible
  rw [hhead]
  exact congrArg State.spill (if_pos hmay)

theorem State.drainOut_due {at_ : Nat} (hat : s.spill[q].eligibleAt = some at_) (hdue : at_ + ticksOfUs (s.linkU 16 4) ≤ s.now) :
    s.drainOut q = (s.setLaunch q fun x => { x with drained := true }).raiseHeld 48 19 := by
  unfold State.drainOut
  rw [hat]
  exact if_pos hdue

theorem State.drainOut_of_stopped (hat : s.spill[q].eligibleAt = none) : s.drainOut q = s := by
  unfold State.drainOut
  rw [hat]

section
variable (hperiod : s.linkU 14 2 ≠ 0) (hopen : s.linkOpen = true) (hdue : s.link.statusAt + ticksOfUs (s.linkU 14 2) ≤ s.now)
include hperiod hopen hdue

/-- R349: the period of STATUS has ended, and a new one begins. -/
theorem State.statusPeriod_of_due : s.statusPeriod =
    if s.credit 8 32 then s.setLink fun l => { l with statusAt := s.now, statusDue := true }
    else (s.setLink fun l => { l with statusAt := s.now }).raise 48 21 :=
  if_pos ⟨hperiod, hopen, hdue⟩

theorem State.becomes_statusPeriod (is : List Instr) :
    (s.credit 8 32 = true →
      becomes s (s.setLink fun l => { l with statusAt := s.now, statusDue := true }) (s.statusPeriod.settle is) []) ∧
    (s.credit 8 32 = false →
      becomes s (s.setLink fun l => { l with statusAt := s.now }) (s.statusPeriod.settle is) [(48, 21)]) := by
  rw [State.statusPeriod_of_due hperiod hopen hdue]
  constructor <;> intro hcredit
  · rw [if_pos hcredit]
    exact becomes_settle_nil rfl is
  · rw [if_neg (ne_true_of_eq_false hcredit)]
    exact becomes_raise rfl (by decide) is

end

/-- R362: a class that has lacked credit for DRAIN_LIMIT is reported. -/
theorem State.starve_due {c : Fin 9} {at_ : Nat} (hat : s.refreshStarved.link.starved[c] = some at_)
    (hdue : at_ + ticksOfUs (s.linkU 16 4) ≤ s.now) : s.starve c = s.refreshStarved.raiseHeld 48 18 := by
  unfold State.starve
  rw [hat]
  exact if_pos hdue

end

/-- Settles O36: what the framer sends by what is due, and the reports of DRAIN_LIMIT, STATUS_PERIOD and credits. -/
theorem framesLeave : Obligations.FramesLeave := by
  unfold Obligations.FramesLeave
  refine ⟨fun dt q p s => ?_, fun dt q c s => ?_⟩
  · intro u free
    refine ⟨fun hahead hdue hcredit => ?_, fun hahead hdue hpick hlen => ?_, fun hstate => ?_⟩
    · obtain ⟨statusDue, spill, replay, used, uahorn⟩ := (State.sendsStatus_framerData hdue hcredit).settle s.pending
      rw [State.length_statusPayload] at used
      rw [State.uahorn_ticked, List.nil_append] at uahorn
      refine ⟨_, exec_framerSend_eq, ?_⟩
      rw [State.framerSend_of_nothingAhead hahead]
      exact ⟨statusDue, spill, replay, used, uahorn⟩
    · obtain ⟨pieces, others, replay, nextTx, used, freed, uahorn⟩ := (u.launches_launch q p).same
        ((State.sameEgress_refreshStarved ..).trans (State.sameEgress_settle q _ s.pending))
      rw [hlen] at used
      rw [pieceStorage, hlen] at freed
      rw [State.uahorn_ticked, List.nil_append, Nat.zero_add] at uahorn
      refine ⟨_, u.dataFrame q p, exec_framerSend_eq, ?_⟩
      rw [State.framerSend_of_nothingAhead hahead, State.framerData_piece hdue hpick]
      exact ⟨pieces, replay, rfl, rfl, rfl, nextTx, used, freed, uahorn, others⟩
    · obtain ⟨clocks, hstarved⟩ := u.refreshStarved_eq
      have hquiet := State.quiet_settle (u.setLink fun l => { l with starved := clocks }) s.pending
      have hlink := State.link_of_quiet hquiet
      refine ⟨_, exec_framerSend_eq, ?_⟩
      rw [State.framerSend_of_inactive hstate, hstarved]
      exact ⟨(State.spill_of_quiet hquiet).trans rfl, (State.uahorn_settle ..).trans State.uahorn_ticked,
        (congrArg Link.replay hlink).trans rfl, (congrArg Link.used hlink).trans rfl, (State.queues_of_quiet hquiet).trans rfl⟩
  · intro u
    refine ⟨fun p hhead hmay => ?_, fun at_ hat hdue => ?_, fun hat => ?_, fun hperiod hopen hdue => ?_,
      fun at_ hat hdue => ?_⟩
    · have hspill := (State.spill_of_quiet (State.quiet_settle (u.refreshEligible q).refreshStarved s.pending)).trans
        ((State.spill_refreshStarved _).trans (State.spill_refreshEligible hhead hmay))
      refine ⟨_, exec_launchTimeReached_eq, ?_⟩
      rw [hspill, upd_same]
      exact ⟨rfl, rfl, fun w hw => upd_ne _ _ _ _ hw.symm⟩
    · refine ⟨(u.drainOut q).settle s.pending, rfl, ?_⟩
      rw [State.drainOut_due hat hdue]
      exact becomes_raiseHeld rfl (by decide) s.pending
    · refine ⟨(u.drainOut q).settle s.pending, rfl, ?_⟩
      rw [State.drainOut_of_stopped hat]
      exact becomes_settle_nil rfl s.pending
    · obtain ⟨hfalls, hskipped⟩ := State.becomes_statusPeriod hperiod hopen hdue s.pending
      exact ⟨fun hcredit => ⟨_, rfl, hfalls hcredit⟩, fun hcredit => ⟨_, rfl, hskipped hcredit⟩⟩
    · refine ⟨(u.starve c).settle s.pending, rfl, ?_⟩
      rw [State.starve_due hat hdue]
      exact becomes_raiseHeld rfl (by decide) s.pending

end Sys2Proof.Machine
end

section
/-!
SUPPORT. The receiver of the link (R331, R346, R350 to R353, R357, R369): the turn of a sequenced frame, NAK and replay, the
slots of MB2 and MB3, and beacons.
-/
namespace Sys2Proof.Machine

section
variable {s t : State}

theorem State.ports_of_quiet (h : t.quiet = s.quiet) : t.ports = s.ports := by
  show t.quiet.ports = s.quiet.ports
  rw [h]

theorem State.clock_of_quiet (h : t.quiet = s.quiet) : t.clock = s.clock := by
  show t.quiet.clock = s.quiet.clock
  rw [h]

end

/-! ### Replay -/

/-- R353: a replay of everything kept has started, but for the report. -/
def State.replayed (s : State) : State :=
  s.setLink fun l => { l with
    resend := l.replay.length, replayCount := l.replayCount + 1, replays := satInc 16 l.replays
    replaysTotal := l.replaysTotal + 1 }

section
variable {dt n : Nat} {s : State} {c : Fin 9} {limit : Word} {f : TxFrame} {fs : List TxFrame}

/-- R353: fewer than five times the kept frames are replayed. -/
theorem State.startReplay_of_few (hkept : s.link.replay ≠ []) (hfew : s.link.replayCount < 4) :
    s.startReplay = s.replayed.raise 48 16 := by
  unfold State.startReplay
  rw [List.isEmpty_eq_false_iff.2 hkept, if_neg Bool.false_ne_true, if_neg (Nat.not_le.2 hfew)]
  rfl

/-- R353: an LSEQ behind every kept frame releases none. -/
theorem State.releaseFrames_of_unseen {x : Half} (hnone : ∀ f ∈ s.link.replay, seqLe f.lseq x = false) :
    s.releaseFrames x = s.setLink fun l => { l with resend := min l.resend l.replay.length } := by
  have hkeep : (s.link.replay.filter fun f => !seqLe f.lseq x) = s.link.replay :=
    List.filter_eq_self.2 fun f hf => by rw [hnone f hf]; rfl
  unfold State.releaseFrames State.setLink
  simp only [hkeep, beq_self_eq_true, if_true]

/-- R353: an ACK releases the frames up to its LSEQ, and nothing else. -/
theorem State.releaseFrames_releases {t : State} {x : Half} (h : t.quiet = (s.releaseFrames x).quiet) :
    t.link.replay = (s.link.replay.filter fun f => !seqLe f.lseq x) ∧ t.link.nextTx = s.link.nextTx ∧ t.spill = s.spill ∧
      t.queues = s.queues := by
  rw [State.link_of_quiet h, State.spill_of_quiet h, State.queues_of_quiet h]
  exact ⟨rfl, rfl, rfl, rfl⟩

/-- R353: so a NAK of such an LSEQ replays them all. -/
theorem State.becomes_replayed_of_nak {x : Half} (hkept : s.link.replay ≠ [])
    (hnone : ∀ f ∈ s.link.replay, seqLe f.lseq x = false) (hfew : s.link.replayCount < 4) (is : List Instr) :
    becomes s s.replayed ((s.releaseFrames x).startReplay.settle is) [(48, 16)] := by
  have hstart : (s.releaseFrames x).startReplay = s.replayed.raise 48 16 := by
    rw [State.releaseFrames_of_unseen hnone]
    exact State.startReplay_of_few hkept hfew
  rw [hstart]
  exact becomes_raise rfl (by decide) is

section
variable (hkept : s.link.replay = f :: fs)
include hkept

/-- R353: the oldest frame has waited REPLAY_TIMEOUT. -/
theorem State.replayTimeout_due (hopen : s.linkOpen = true) (hrest : s.link.resend < s.link.replay.length)
    (hdue : f.sentAt + ticksOfNs (s.linkU 6 2) ≤ s.now) : s.replayTimeout = s.startReplay := by
  unfold State.replayTimeout
  rw [hopen, decide_eq_true hrest]
  split
  next heq =>
    obtain ⟨rfl, -⟩ := List.cons.inj (hkept.symm.trans heq)
    rw [decide_eq_true hdue]
    rfl
  next heq => exact absurd (hkept.symm.trans heq) (List.cons_ne_nil f fs)

theorem State.becomes_replayTimeout_due (hopen : s.linkOpen = true) (hrest : s.link.resend < s.link.replay.length)
    (hdue : f.sentAt + ticksOfNs (s.linkU 6 2) ≤ s.now) (hfew : s.link.replayCount < 4) (is : List Instr) :
    becomes s s.replayed (s.replayTimeout.settle is) [(48, 16)] := by
  rw [State.replayTimeout_due hkept hopen hrest hdue, State.startReplay_of_few (hkept ▸ List.cons_ne_nil f fs) hfew]
  exact becomes_raise rfl (by decide) is

theorem State.replayTimeout_early (hearly : s.now < f.sentAt + ticksOfNs (s.linkU 6 2)) : s.replayTimeout = s := by
  unfold State.replayTimeout
  rw [hkept]
  dsimp only
  rw [decide_eq_false (Nat.not_le.2 hearly), Bool.and_false]
  rfl

theorem State.becomes_replayTimeout_early (hearly : s.now < f.sentAt + ticksOfNs (s.linkU 6 2)) (is : List Instr) :
    becomes s s (s.replayTimeout.settle is) [] := by
  rw [State.replayTimeout_early hkept hearly]
  exact becomes_settle_nil rfl is

end

/-! ### Control blocks -/

/-- R351: a credit limit that is not below the one in force is taken. -/
theorem State.takeCredit_of_le (hopen : s.linkOpen = true) (hle : 0 ≤ (limit - s.link.limits[c]).toInt) :
    s.takeCredit c limit = (s.setLink fun l => { l with limits := l.limits.set c limit }).refreshStarved :=
  if_pos (by rw [hopen, decide_eq_true hle]; rfl)

theorem State.takeCredit_raises {t : State} (hopen : s.linkOpen = true) (hle : 0 ≤ (limit - s.link.limits[c]).toInt)
    (h : t.quiet = (s.takeCredit c limit).quiet) : t.link.limits = s.link.limits.set c limit ∧ t.link.used = s.link.used := by
  obtain ⟨clocks, hstarved⟩ := (s.setLink fun l => { l with limits := l.limits.set c limit }).refreshStarved_eq
  rw [State.takeCredit_of_le hopen hle, hstarved] at h
  rw [State.link_of_quiet h]
  exact ⟨rfl, rfl⟩

/-- R351: a credit limit below the one in force is ignored. -/
theorem State.takeCredit_of_lt (hlt : (limit - s.link.limits[c]).toInt < 0) : s.takeCredit c limit = s :=
  if_neg (by rw [decide_eq_false (Int.not_le.2 hlt), Bool.and_false]; exact Bool.false_ne_true)

theorem State.becomes_takeCredit_of_lt (hlt : (limit - s.link.limits[c]).toInt < 0) (is : List Instr) :
    becomes s s ((s.takeCredit c limit).settle is) [] := by
  rw [State.takeCredit_of_lt hlt]
  exact becomes_settle_nil rfl is

section
variable (hopen : (s.ticked dt).linkOpen = true)
include hopen

theorem exec_uahornAck_open :
    exec (.uahornAck dt n) s = .next (((s.ticked dt).releaseFrames (BitVec.ofNat 16 n)).settle s.pending) :=
  congrArg (fun t : State => Host.Outcome.next (t.settle s.pending)) (if_pos hopen)

theorem exec_uahornNak_open :
    exec (.uahornNak dt n) s = .next (((s.ticked dt).releaseFrames (BitVec.ofNat 16 n)).startReplay.settle s.pending) :=
  congrArg (fun t : State => Host.Outcome.next (t.settle s.pending)) (if_pos hopen)

theorem exec_eidleBlock_open :
    exec (.eidleBlock dt) s = .next (((s.ticked dt).setLink fun l => { l with rxIdle := true }).settle s.pending) :=
  congrArg (fun t : State => Host.Outcome.next (t.settle s.pending)) (if_pos hopen)

/-- R331: a BIP-8 mismatch of a lane that carries traffic is counted and reported. -/
theorem exec_alignMarker_mismatch {p : Fin 18} (hactive : (s.ticked dt).link.tr.active p = true) :
    exec (.alignMarker dt p true) s = .next ((((s.ticked dt).setTrainer false fun t => { t with
      lanes := upd t.lanes p fun l => { l with bipErr := satInc 16 l.bipErr } }).raise 48 10).settle s.pending) :=
  congrArg (fun t : State => Host.Outcome.next (t.settle s.pending)) 
    (if_pos (Bool.and_eq_true_iff.2 ⟨hopen, hactive⟩))

theorem exec_uahornBeacon_open {master : Wide} {seq : Half} :
    exec (.uahornBeacon dt master seq) s = .next (((s.ticked dt).takeBeacon master seq).settle s.pending) :=
  congrArg (fun t : State => Host.Outcome.next (t.settle s.pending)) (if_pos hopen)

end

end

/-! ### The turn of a frame -/

section
variable {s : State} {lseq : Nat} {effect : State → State}

/-- R352: a NAK has been sent, but for the report. -/
def State.noteNak (s : State) : State := s.setLink fun l => { l with nakAt := some s.now }

theorem State.quiet_noteNak {s t : State} (h : t.quiet = s.quiet) : t.noteNak.quiet = s.noteNak.quiet :=
  congrArg State.noteNak h

/-- R352: the first frame discarded after an accepted one is answered with a NAK. -/
theorem State.sendNak_of_none (h : s.link.nakAt = none) : s.sendNak = s.noteNak.raise 48 15 := by
  unfold State.sendNak
  rw [h]
  rfl

/-- R352: a sequenced frame was accepted. -/
def State.inTurn (s : State) : State :=
  s.setLink fun l => { l with rxIdle := false, trafficAt := s.now, nextRx := l.nextRx + 1, nakAt := none }

theorem State.acceptSeq_next (hopen : s.linkOpen = true) : s.acceptSeq s.link.nextRx.toNat effect = effect s.inTurn := by
  unfold State.acceptSeq
  rw [if_pos hopen, BitVec.ofNat_toNat, BitVec.setWidth_eq]
  exact if_pos rfl

theorem State.acceptSeq_early (hopen : s.linkOpen = true) (hne : BitVec.ofNat 16 lseq ≠ s.link.nextRx)
    (hahead : seqLe (BitVec.ofNat 16 lseq) s.link.nextRx = false) (hfirst : s.link.nakAt = none) :
    s.acceptSeq lseq effect = (s.setLink fun l => { l with rxIdle := false, trafficAt := s.now }).noteNak.raise 48 15 := by
  unfold State.acceptSeq
  rw [if_pos hopen]
  extract_lets x v
  have hlater : x ≠ v.link.nextRx := hne
  have hnew : ¬seqLe x v.link.nextRx = true := ne_true_of_eq_false hahead
  rw [if_neg hlater, if_neg hnew]
  exact State.sendNak_of_none hfirst

/-- R352: a frame ahead of its turn is answered with a NAK. -/
theorem State.becomes_acceptSeq_early (hopen : s.linkOpen = true) (hne : BitVec.ofNat 16 lseq ≠ s.link.nextRx)
    (hahead : seqLe (BitVec.ofNat 16 lseq) s.link.nextRx = false) (hfirst : s.link.nakAt = none) (is : List Instr) :
    becomes s (s.setLink fun l => { l with rxIdle := false, trafficAt := s.now, nakAt := some s.now })
      ((s.acceptSeq lseq effect).settle is) [(48, 15)] := by
  rw [State.acceptSeq_early hopen hne hahead hfirst]
  exact becomes_raise rfl (by decide) is

/-- R350: a frame that is not accepted has been counted, but for the report. -/
def State.countBad (s : State) : State := s.setLink fun l => { l with rxBad := satInc 16 l.rxBad }

/-- R350, R352: a frame with a bad CRC is counted, and answered with a NAK. -/
theorem State.becomes_badFrame_crc (hopen : s.linkOpen = true) (hfirst : s.link.nakAt = none) (is : List Instr) :
    becomes s (s.setLink fun l => { l with rxBad := satInc 16 l.rxBad, nakAt := some s.now })
      ((s.badFrame .crc).settle is) [(48, 13), (48, 15)] := by
  have hquiet : (s.countBad.raise 48 13).quiet = s.countBad.quiet := State.quiet_raise ..
  have hcount : s.badFrame .crc = (s.countBad.raise 48 13).sendNak := if_neg (ne_false_of_eq_true hopen)
  have hnak : (s.countBad.raise 48 13).link.nakAt = none := (congrArg Link.nakAt (State.link_of_quiet hquiet)).trans hfirst
  rw [hcount, State.sendNak_of_none hnak]
  have hraised : newlySet s (s.countBad.raise 48 13) [(48, 13)] := newlySet_raise s.countBad 48 13 (by decide)
  have hnoted : newlySet s (s.countBad.raise 48 13).noteNak [(48, 13)] := hraised
  have hset : newlySet s ((s.countBad.raise 48 13).noteNak.raise 48 15) [(48, 13), (48, 15)] :=
    hnoted.trans (newlySet_raise _ 48 15 (by decide))
  exact becomes_reported ((State.quiet_raise ..).trans (State.quiet_noteNak hquiet)) hset is

end

/-! ### Slots -/

@[simp] theorem State.accepting_fillSlot (s : State) (ch : Fin 10) (i : Nat) (bs : List Byte) :
    (s.fillSlot ch i bs).accepting = s.accepting := rfl

@[simp] theorem State.slots_overrun (s : State) (ch : Fin 10) :
    (s.overrun ch).mb.chans[ch].slots = s.mb.chans[ch].slots := by
  show (upd s.mb.chans ch _)[ch].slots = _
  rw [upd_same]

/-- R49, R88: while firmware accepts commands, the mailbox hardware answers none. -/
theorem State.hwAnswer_of_accepting {s : State} (h : s.accepting = true) (ch : Fin 10) (i : Nat) : s.hwAnswer ch i = s := by
  unfold State.hwAnswer
  dsimp only
  split
  · rfl
  · exact if_pos h

/-- R82: a read in the cycle of the timeout is noted in the status of its channel alone. -/
theorem State.readTie_eq (s : State) (ch : Fin 10) (i : Nat) :
    ∃ tie, s.readTie ch i = s.setChan ch fun c => { c with lateTie := tie } := by
  unfold State.readTie
  dsimp only
  split
  · exact ⟨true, rfl⟩
  · refine ⟨s.mb.chans[ch].lateTie, ?_⟩
    have hself : s.mb.chans.set ch.val s.mb.chans[ch] = s.mb.chans := Vector.set_getElem_self ch.isLt
    show s = { s with mb := { s.mb with chans := s.mb.chans.set ch.val s.mb.chans[ch] } }
    rw [hself]

section
variable {s t : State} {slot : Fin 2} {packet : List Byte}

/-- R357: a command packet fills an empty slot of MB2. -/
theorem State.takeCmd_of_empty (hacc : s.accepting = true) (hempty : (s.mb.chans[(2 : Fin 10)].slots.getD slot {}).full = false) :
    s.takeCmd slot packet = s.fillSlot 2 slot packet :=
  (if_neg (ne_true_of_eq_false hempty)).trans (State.hwAnswer_of_accepting ((State.accepting_fillSlot ..).trans hacc) 2 slot)

theorem State.takeCmd_fills (hacc : s.accepting = true) (hlen : s.mb.chans[(2 : Fin 10)].slots.length = 2)
    (hempty : (s.mb.chans[(2 : Fin 10)].slots.getD slot {}).full = false)
    (h : t.quiet = (s.inTurn.takeCmd slot packet).quiet) :
    ∃ x, t.link.nextRx = s.link.nextRx + 1 ∧ t.mb.chans[(2 : Fin 10)].slots[slot.val]? = some x ∧ x.full = true ∧
      x.bytes = packet ∧ t.ports = s.ports := by
  rw [State.takeCmd_of_empty (s := s.inTurn) hacc hempty] at h
  obtain ⟨x, hx, hfull, hbytes⟩ := s.inTurn.slot_fillSlot 2 slot packet (lt_of_lt_of_eq slot.isLt hlen.symm)
  rw [State.link_of_quiet h, State.chan_of_quiet h 2 (by decide), State.ports_of_quiet h]
  exact ⟨x, rfl, hx, hfull, hbytes, rfl⟩

theorem State.takeCmd_of_full (hfull : (s.mb.chans[(2 : Fin 10)].slots.getD slot {}).full = true) :
    s.takeCmd slot packet = (s.overrun 2).raise 48 28 := if_pos hfull

/-- R357: a command packet for a full slot is lost. -/
theorem State.takeCmd_loses (hfull : (s.mb.chans[(2 : Fin 10)].slots.getD slot {}).full = true)
    (h : t.quiet = (s.inTurn.takeCmd slot packet).quiet) :
    t.link.nextRx = s.link.nextRx + 1 ∧ t.mb.chans[(2 : Fin 10)].slots = s.mb.chans[(2 : Fin 10)].slots := by
  rw [State.takeCmd_of_full (s := s.inTurn) hfull, State.quiet_raise] at h
  rw [State.link_of_quiet h, State.chan_of_quiet h 2 (by decide), State.slots_overrun]
  exact ⟨rfl, rfl⟩

/-- R357: and the overrun is reported. -/
theorem State.takeCmd_reports (hfull : (s.mb.chans[(2 : Fin 10)].slots.getD slot {}).full = true) (is : List Instr) :
    ((s.inTurn.takeCmd slot packet).settle is).source 48 28 = true := by
  rw [State.takeCmd_of_full (s := s.inTurn) hfull]
  exact State.source_settle_of_newlySet (newlySet_raise _ 48 28 (by decide)) (by decide) (by decide) is

/-- R76: a slot of MB3 that was read is empty while no reply waits for it. -/
theorem State.clearSlot_p1 (hnone : (s.port .p1).outgoing = []) (hlen : s.mb.chans[(3 : Fin 10)].slots.length = 2) :
    (s.clearSlot 3 slot).link = s.link ∧
      (s.clearSlot 3 slot).mb.chans[(3 : Fin 10)].slots[slot.val]? = some emptySlot := by
  obtain ⟨tie, htie⟩ := s.readTie_eq 3 slot
  have hclear : s.clearSlot 3 slot = (s.setChan 3 fun c => { c with lateTie := tie }).setSlot 3 slot fun _ => emptySlot := by
    unfold State.clearSlot
    rw [htie]
    generalize hv : ((s.setChan 3 fun c => { c with lateTie := tie }).setSlot 3 slot fun _ => emptySlot) = v
    have hport : (v.port .p1).outgoing = [] := hv ▸ hnone
    change (match (v.port .p1).outgoing with
      | [] => v
      | bytes :: rest => (v.setPort .p1 fun q => { q with outgoing := rest }).deliver .p1 bytes) = v
    rw [hport]
  rw [hclear]
  refine ⟨rfl, ?_⟩
  simp only [State.setSlot, State.setChan, upd_same]
  exact updAt_get_same _ _ _ (lt_of_lt_of_eq slot.isLt hlen.symm)

theorem State.takeMboxAck_of_sent (hsent : s.link.replySent.contains slot.val = true) :
    s.takeMboxAck 3 slot = (s.setLink fun l => { l with replySent := l.replySent.filter (· != slot.val) }).clearSlot 3 slot :=
  if_pos ⟨rfl, hsent⟩

/-- R76, R357: an acknowledged reply leaves its slot. -/
theorem State.takeMboxAck_clears (hsent : s.link.replySent.contains slot.val = true)
    (hnone : (s.port .p1).outgoing = []) (hlen : s.mb.chans[(3 : Fin 10)].slots.length = 2)
    (h : t.quiet = (s.inTurn.takeMboxAck 3 slot).quiet) :
    t.mb.chans[(3 : Fin 10)].slots[slot.val]? = some emptySlot ∧
      t.link.replySent = s.link.replySent.filter (· != slot.val) := by
  rw [State.takeMboxAck_of_sent (s := s.inTurn) hsent] at h
  obtain ⟨hlink, hslot⟩ := State.clearSlot_p1 (slot := slot)
    (s := s.inTurn.setLink fun l => { l with replySent := l.replySent.filter (· != slot.val) }) hnone hlen
  rw [State.chan_of_quiet h 3 (by decide), State.link_of_quiet h, hlink]
  exact ⟨hslot, rfl⟩

end

/-! ### Beacons -/

/-- R369: a beacon is kept and waits to be echoed; the time stays. -/
structure State.KeepsBeacon (s : State) (master : Wide) (seq : Half) (t : State) : Prop where
  bcnSeq : t.clock.bcnSeq = seq
  bcnMaster : t.clock.bcnMaster = master.setWidth 32
  beacons : t.clock.beacons = satInc 16 s.clock.beacons
  beaconAt : t.clock.beaconAt = s.now
  echoes : ∃ e, t.link.echoes = s.link.echoes ++ [e] ∧ e.1 = seq
  ext : t.clock.ext = s.clock.ext
  holdover : t.clock.holdover = s.clock.holdover

theorem State.keepsBeacon_takeBeacon {s : State} (hfree : s.syncMode = false) (master : Wide) (seq : Half) :
    s.KeepsBeacon master seq (s.takeBeacon master seq) := by
  unfold State.takeBeacon
  extract_lets cap c32 frac m change judged tie s1 s2 s3
  have hjudged : judged = false := by
    show (s.syncMode && _) = false
    rw [hfree]
    rfl
  rw [if_pos hjudged]
  exact ⟨rfl, rfl, rfl, rfl, ⟨_, rfl, rfl⟩, rfl, rfl⟩

theorem State.KeepsBeacon.of_quiet {s t v : State} {master : Wide} {seq : Half} (h : s.KeepsBeacon master seq t)
    (hquiet : v.quiet = t.quiet) : s.KeepsBeacon master seq v := by
  obtain ⟨bcnSeq, bcnMaster, beacons, beaconAt, echoes, ext, holdover⟩ := h
  rw [← State.clock_of_quiet hquiet] at bcnSeq bcnMaster beacons beaconAt ext holdover
  rw [← State.link_of_quiet hquiet] at echoes
  exact ⟨bcnSeq, bcnMaster, beacons, beaconAt, echoes, ext, holdover⟩

/-! ### Frames as commands -/

section
variable {dt : Nat} {slot : Fin 2} {packet : List Byte} {s : State} (hopen : (s.ticked dt).linkOpen = true)
include hopen

/-- R352, R357: a command packet in its turn. -/
theorem exec_uahornCmd_next :
    exec (.uahornCmd dt (s.ticked dt).link.nextRx.toNat slot packet) s =
      .next (((s.ticked dt).inTurn.takeCmd slot packet).settle s.pending) :=
  congrArg (fun t : State => Host.Outcome.next (t.settle s.pending)) (State.acceptSeq_next hopen)

/-- R352, R357: an acknowledgement in its turn. -/
theorem exec_uahornMboxAck_next :
    exec (.uahornMboxAck dt (s.ticked dt).link.nextRx.toNat 3 slot) s =
      .next (((s.ticked dt).inTurn.takeMboxAck 3 slot).settle s.pending) :=
  congrArg (fun t : State => Host.Outcome.next (t.settle s.pending)) (State.acceptSeq_next hopen)

end

/-- Settles O37: control blocks by what they release, replay or count; frames by their turn and by the slot they name. -/
theorem framesAndControlBlocksArrive : Obligations.FramesAndControlBlocksArrive := by
  unfold Obligations.FramesAndControlBlocksArrive
  refine ⟨fun dt n c limit p s => ?_, fun dt slot packet master seq n s => ?_⟩
  · dsimp only
    intro hopen
    refine ⟨⟨_, exec_uahornAck_open hopen, State.releaseFrames_releases (State.quiet_settle ..)⟩,
      fun hkept hnone hfew => ⟨_, exec_uahornNak_open hopen, State.becomes_replayed_of_nak hkept hnone hfew s.pending⟩,
      fun f fs hkept hrest hfew => ?_,
      fun hle => ⟨_, rfl, State.takeCredit_raises hopen hle (State.quiet_settle ..)⟩,
      fun hlt => ⟨_, rfl, State.becomes_takeCredit_of_lt hlt s.pending⟩,
      fun hactive => ⟨_, exec_alignMarker_mismatch hopen hactive, becomes_raise rfl (by decide) s.pending⟩,
      ⟨_, exec_eidleBlock_open hopen, becomes_settle_nil rfl s.pending⟩⟩
    exact ⟨fun hdue => ⟨_, rfl, State.becomes_replayTimeout_due hkept hopen hrest hdue hfew s.pending⟩,
      fun hearly => ⟨_, rfl, State.becomes_replayTimeout_early hkept hearly s.pending⟩⟩
  · dsimp only
    intro hopen
    refine ⟨fun hacc hlen hempty => ?_, fun hfull => ?_, fun hne hahead hfirst => ?_, fun hsent hnone hlen => ?_,
      fun hfree => ?_, fun hfirst => ⟨_, rfl, State.becomes_badFrame_crc hopen hfirst s.pending⟩⟩
    · obtain ⟨x, hslot⟩ := State.takeCmd_fills hacc hlen hempty (State.quiet_settle _ s.pending)
      exact ⟨_, x, exec_uahornCmd_next hopen, hslot⟩
    · obtain ⟨hnext, hslots⟩ := State.takeCmd_loses (packet := packet) hfull (State.quiet_settle _ s.pending)
      exact ⟨_, exec_uahornCmd_next hopen, hnext, hslots, State.takeCmd_reports hfull s.pending⟩
    · exact ⟨_, rfl, State.becomes_acceptSeq_early hopen hne hahead hfirst s.pending⟩
    · obtain ⟨hslot, hreplies⟩ := State.takeMboxAck_clears hsent hnone hlen (State.quiet_settle _ s.pending)
      exact ⟨_, emptySlot, exec_uahornMboxAck_next hopen, hslot, rfl, hreplies⟩
    · obtain ⟨bcnSeq, bcnMaster, beacons, beaconAt, echoes, ext, holdover⟩ :=
        (State.keepsBeacon_takeBeacon hfree master seq).of_quiet (State.quiet_settle _ s.pending)
      exact ⟨_, exec_uahornBeacon_open hopen, bcnSeq, bcnMaster, beacons, beaconAt, echoes, ext, holdover⟩

end Sys2Proof.Machine
end

section
/-!
SUPPORT. The timebase (R363 to R378, R415): what the reports of a step of device time leave alone, what a step moves, the one
command that waits for a change of time, and the end of good beacons.
-/
namespace Sys2Proof.Machine

/-! ### What a report leaves alone -/

/-- `t` is `s` in all that a change of time and its reply are made of, with at most `n` more audit entries staged. -/
structure State.Reported (n : Nat) (s t : State) : Prop where
  now : t.now = s.now
  clock : t.clock = s.clock
  ports : t.ports = s.ports
  mb : t.mb = s.mb
  twin : t.twin = s.twin
  recs : t.recs = s.recs
  staged : t.audit.staged.length ≤ s.audit.staged.length + n

theorem State.now_of_quiet {s t : State} (h : t.quiet = s.quiet) : t.now = s.now := by
  show t.quiet.now = s.quiet.now
  rw [h]

theorem State.length_staged_noteOverflow (s t : State) :
    (s.noteOverflow t).audit.staged.length ≤ t.audit.staged.length + 1 := by
  unfold State.noteOverflow
  split
  · exact State.length_staged_occur t ⟨52, 4⟩ false false
  · exact Nat.le_succ _

section
variable {m n : Nat} {s t v : State}

theorem State.Reported.trans (h : State.Reported m s t) (h' : State.Reported n t v) : State.Reported (m + n) s v where
  now := h'.now.trans h.now
  clock := h'.clock.trans h.clock
  ports := h'.ports.trans h.ports
  mb := h'.mb.trans h.mb
  twin := h'.twin.trans h.twin
  recs := h'.recs.trans h.recs
  staged := by have := h.staged; have := h'.staged; omega

/-- What leaves the quiet state, the mailboxes and the twin alone, and stages few entries. -/
theorem State.Reported.of_quiet (hquiet : t.quiet = s.quiet) (hposted : t.posted = s.posted) (htwin : t.twin = s.twin)
    (hstaged : t.audit.staged.length ≤ s.audit.staged.length + n) : State.Reported n s t where
  now := State.now_of_quiet hquiet
  clock := State.clock_of_quiet hquiet
  ports := State.ports_of_quiet hquiet
  mb := State.mb_of_posted hposted
  twin := htwin
  recs := State.recs_of_quiet hquiet
  staged := hstaged

end

theorem State.reported_raise (s : State) (k b : Nat) : State.Reported 2 s (s.raise k b) :=
  .of_quiet (State.quiet_raise s k b) (State.posted_raise s k b) (State.twin_raise s k b) (State.length_staged_raise s k b)

theorem State.reported_raiseIf (s : State) (p : Bool) (k b : Nat) : State.Reported 2 s (s.raiseIf p k b) := by
  unfold State.raiseIf
  split
  · exact State.reported_raise s k b
  · exact .of_quiet rfl rfl rfl (Nat.le_add_right _ 2)

theorem State.reported_stageOpen (s : State) (origin kind : Nat) : State.Reported 1 s (s.stageOpen origin kind) := by
  have hstage (e : Entry) : State.Reported 1 s (s.stage e) :=
    .of_quiet (State.quiet_stage s e) (State.posted_stage s e) (State.twin_stage s e) (State.length_staged_stage s e)
  obtain ⟨now, clock, ports, mb, twin, recs, staged⟩ := hstage _
  exact ⟨now, clock, ports, mb, twin, recs, staged⟩

/-- R378: an entry of the timebase. -/
theorem State.reported_logTime (s : State) : State.Reported 2 s s.logTime :=
  (s.reported_stageOpen 0x10 8).trans (.of_quiet (State.quiet_noteOverflow ..) (State.posted_noteOverflow ..)
    (State.twin_noteOverflow ..) (State.length_staged_noteOverflow ..))

/-! ### Steps of device time -/

/-- R373: a port whose command waits for a device time waits for the moved time. -/
def PortState.move (q : PortState) (d : Int) : PortState := { q with running := q.running.map fun r => r.move d }

/-- R372, R373: what a step by `d` does to the timebase and the ports, what it leaves to the reply, and that it stages at most
`n` audit entries. -/
structure State.StepsBy (n : Nat) (s : State) (d : Int) (t : State) : Prop where
  ext : t.clock.ext = s.clock.ext + d
  lastStep : t.clock.lastStep = d
  pendingSet : t.clock.pendingSet = s.clock.pendingSet
  now : t.now = s.now
  ports : ∀ p, t.port p = (s.port p).move d
  mb : t.mb = s.mb
  twin : t.twin = s.twin
  recs : t.recs = s.recs
  staged : t.audit.staged.length ≤ s.audit.staged.length + n

section
variable {m n : Nat} {s t v : State} {d : Int}

theorem State.StepsBy.reported (h : State.StepsBy m s d t) (h' : State.Reported n t v) : State.StepsBy (m + n) s d v where
  ext := h'.clock ▸ h.ext
  lastStep := h'.clock ▸ h.lastStep
  pendingSet := h'.clock ▸ h.pendingSet
  now := h'.now.trans h.now
  ports p := by unfold State.port; rw [h'.ports]; exact h.ports p
  mb := h'.mb.trans h.mb
  twin := h'.twin.trans h.twin
  recs := h'.recs.trans h.recs
  staged := by have := h.staged; have := h'.staged; omega

/-- R373: what waits for a device time moves by the step, and launches that move are reported. -/
theorem State.stepsBy_moveTimes {f : Clock → Clock} (ext : (f s.clock).ext = s.clock.ext + d)
    (lastStep : (f s.clock).lastStep = d) (pendingSet : (f s.clock).pendingSet = s.clock.pendingSet) :
    State.StepsBy 2 s d ((s.setClock f).moveTimes d) := by
  unfold State.moveTimes
  extract_lets timed clock trig expo sluice grid t
  have ht : State.StepsBy 0 s d t := {
    ext, lastStep, pendingSet, now := rfl, mb := rfl, twin := rfl, recs := rfl, staged := Nat.le_refl _
    ports := fun p => updAll_get s.ports (fun _ q => q.move d) p.idx }
  exact ht.reported (t.reported_raiseIf timed 47 22)

/-- R372, R378: a step is logged and reported as TIME_STEP. -/
theorem State.stepTime_eq (s : State) (d : Int) : ∃ e, State.StepsBy 4 s d e ∧ s.stepTime d = e.raise 52 6 := by
  unfold State.stepTime
  extract_lets before after c t trig e
  have ht : State.StepsBy 2 s d t := State.stepsBy_moveTimes rfl rfl rfl
  have he : State.StepsBy 2 s d e := ht.reported (n := 0) ⟨rfl, rfl, rfl, rfl, rfl, rfl, Nat.le_refl _⟩
  exact ⟨e.logTime, he.reported e.reported_logTime, rfl⟩

theorem State.stepsBy_stepTime (s : State) (d : Int) : State.StepsBy 6 s d (s.stepTime d) := by
  obtain ⟨e, he, hstep⟩ := s.stepTime_eq d
  exact hstep ▸ he.reported (e.reported_raise 52 6)

/-- R378: a step sets TIME_STEP. -/
theorem State.newlySet_stepTime (s : State) (d : Int) : ∃ e, newlySet e (s.stepTime d) [(52, 6)] := by
  obtain ⟨e, -, hstep⟩ := s.stepTime_eq d
  exact ⟨e, hstep ▸ newlySet_raise e 52 6 (by decide)⟩

end

/-! ### The command that waits for a change of time -/

/-- A state that no element changes stays. -/
theorem foldl_of_fixed {α : Type} {f : State → α → State} {s : State} {l : List α} (h : ∀ a ∈ l, f s a = s) :
    l.foldl f s = s :=
  List.foldlRecOn (motive := fun t => t = s) l f rfl fun t ht a ha => by rw [ht, h a ha]

/-- The only command in execution, which waits as tested, gets its answer, after which none is in execution. -/
theorem State.answerWaiting_of_one {s : State} {p : Port} {r : Running} {f : Waiting → Bool} {g : State → Cmd → State}
    (hp : p ∈ allPorts) (hr : (s.port p).running = some r) (hf : f r.wait = true)
    (hothers : ∀ q, q ≠ p → q ∈ allPorts → (s.port q).running = none) (hdone : (g s ⟨r.h, r.body⟩).idlePorts) :
    s.answerWaiting f g = g s ⟨r.h, r.body⟩ := by
  obtain ⟨before, after, hall, hnew⟩ := List.eq_append_cons_of_mem hp
  have hmem : ∀ q, q ∈ before ∨ q ∈ after → q ∈ allPorts := fun q hq => by
    rw [hall]
    exact List.mem_append.2 (hq.imp_right (List.mem_cons_of_mem p))
  have hwait : s.waitingFor p f = some r := by
    unfold State.waitingFor
    rw [hr]
    exact if_pos hf
  unfold State.answerWaiting
  rw [hall, List.foldl_append, foldl_of_fixed (s := s) (l := before) fun q hq => ?_, List.foldl_cons, hwait]
  · exact foldl_of_fixed fun q hq => by rw [State.waitingFor_of_idle (hdone q (hmem q (.inr hq)))]
  · rw [State.waitingFor_of_idle (hothers q (fun e => hnew (e ▸ hq)) (hmem q (.inl hq)))]

/-- Once the command of a port is answered, no port has one in execution. -/
theorem State.idlePorts_of_answered {u t : State} {h : Hdr} {b : Body} {status detail : Nat} {pl : List Byte}
    (hans : u.answered t h b status detail pl) (hidle : u.idlePorts) : t.idlePorts := fun p hp => by
  obtain ⟨hown, -, -, hothers⟩ := hans
  by_cases hne : p = h.port
  · rw [hne, hown]
  · rw [hothers p hne, hidle p hp]

/-- A reply touches no event while audit staging has room for its entry. -/
theorem State.ev_reply_of_room {x : State} {h : Hdr} {b : Body} (hport : h.port = .p0 ∨ h.port = .p1 ∨ h.port = .p3)
    (hnone : x.twin.mirrors = []) (hroom : x.audit.staged.length < 32) (status detail : Nat) (pl : List Byte) (used : Word) :
    (x.reply ⟨h, b⟩ status detail pl 0 used).ev = x.ev := by
  rw [State.reply_eq_answer x ⟨h, b⟩ status detail pl 0 used hport hnone]
  unfold State.answer
  split
  · exact State.ev_send ..
  · exact (State.ev_send ..).trans (State.ev_stage ..)

/-- `y` is reached from `v` while the command of `h`, and no other, waits for a change of time; the reply is made of what stood
in `v`, and audit staging has room for it. -/
structure State.ChangesTime (v : State) (h : Hdr) (b : Body) (y : State) : Prop where
  mb : y.mb = v.mb
  twin : y.twin = v.twin
  recs : y.recs = v.recs
  room : y.audit.staged.length < 32
  others : ∀ p, p ≠ h.port → p ∈ allPorts → y.port p = v.port p
  waiting : (y.port h.port).running = some { h, body := b, wait := .timeStep, since := v.now }

section
variable {u v y : State} {h : Hdr} {b : Body}

theorem Port.mem_all (p : Port) : p ∈ allPorts := by
  cases p <;> simp [allPorts, realPorts, leadPorts, fins]

theorem State.ChangesTime.answered (hv : u.RepliesAs v h) (hy : v.ChangesTime h b y) (pl : List Byte) :
    u.answered (y.ok ⟨h, b⟩ pl) h b 0 0 pl := by
  let q : State := y.setPort h.port fun p => { p with running := none }
  have hq : u.RepliesAs q h := {
    direct := hv.direct
    unmirrored := hy.twin ▸ hv.unmirrored
    idle := by rw [State.port_setPort_same]
    room := hy.room
    others := fun p hp => (State.port_setPort_ne _ _ hp).trans ((hy.others p hp (Port.mem_all p)).trans (hv.others p hp))
    chan := (congrArg (fun m : Mailbox => m.chans[h.port.outChan]) hy.mb).trans hv.chan
    epoch := hy.twin ▸ hv.epoch
    ident := (State.ident_congr hy.recs hy.twin).trans hv.ident }
  exact hq.answered_waiting (y := y) rfl rfl rfl rfl (fun p hp => (State.port_setPort_ne _ _ hp).symm) hy.waiting rfl b 0 0 pl 0

/-- R371, R372: the step of a command that waits for the change of time which that very step makes. -/
theorem exec_changesTime {dt : Nat} {c : Instr} {s : State} {pl : List Byte} (hc : b.row dt h = some c)
    (hr : (s.ticked dt).runs h b) (hy : ((s.ticked dt).taken ⟨h, b⟩).ChangesTime h b y)
    (hrun : ((s.ticked dt).taken ⟨h, b⟩).run ⟨h, b⟩ = y.ok ⟨h, b⟩ pl) :
    ∃ t, exec c s = .next t ∧ (s.ticked dt).answered t h b 0 0 pl ∧ t.still = y.still ∧ newlySet y t [] := by
  have hport := State.runs_port hr
  have hsub : (s.ticked dt).submit h b = y.ok ⟨h, b⟩ pl := (State.submit_of_runs hr).trans hrun
  refine ⟨_, exec_of_row hc s, ?_⟩
  rw [hsub]
  refine ⟨(hy.answered (State.repliesAs_taken hr) pl).settle hport _,
    (State.still_settle ..).trans (State.still_reply ..), ?_⟩
  have hev : (y.ok ⟨h, b⟩ pl).ev = y.ev :=
    State.ev_reply_of_room hport (hy.twin.symm ▸ State.runs_unmirrored hr) hy.room 0 0 pl 0
  exact ((newlySet_of_eq (congrArg Events.blocks hev)).trans (newlySet_settle _ s.pending)).of_eq_list rfl

section
variable (hv : u.RepliesAs v h) (hidle : u.idlePorts)
include hv hidle

theorem State.ChangesTime.idle_others (hy : v.ChangesTime h b y) (p : Port) (hp : p ≠ h.port) :
    (y.port p).running = none := by
  rw [hy.others p hp (Port.mem_all p), hv.others p hp]
  exact hidle p (Port.mem_all p)

/-- R372: the TIME_SET that waits is answered with the time before and after. -/
theorem State.doChange_timeSet {mode flags : Byte} {value at_ : Word} {absolute e : Bool} {d : Word}
    (hx : (v.wait ⟨h, .timeSet mode flags value at_⟩ .timeStep).changeTime (.set absolute d e) = y)
    (hy : v.ChangesTime h (.timeSet mode flags value at_) y) :
    (v.wait ⟨h, .timeSet mode flags value at_⟩ .timeStep).doChange (.set absolute d e) =
      y.ok ⟨h, .timeSet mode flags value at_⟩ (leWord v.time ++ leWord y.time) := by
  unfold State.doChange
  rw [hx]
  exact State.answerWaiting_of_one (Port.mem_all _) hy.waiting rfl (fun p hp _ => hy.idle_others hv hidle p hp)
    (State.idlePorts_of_answered (hy.answered hv _) hidle)

/-- R371: the TIME_INCR that waits is answered with the increment in force. -/
theorem State.doChange_timeIncr {incr flags i : Word} {e : Bool}
    (hx : (v.wait ⟨h, .timeIncr incr flags⟩ .timeStep).changeTime (.incr i e) = y)
    (hy : v.ChangesTime h (.timeIncr incr flags) y) :
    (v.wait ⟨h, .timeIncr incr flags⟩ .timeStep).doChange (.incr i e) =
      y.ok ⟨h, .timeIncr incr flags⟩ (leWord y.clock.incr) := by
  unfold State.doChange
  rw [hx]
  exact State.answerWaiting_of_one (Port.mem_all _) hy.waiting rfl (fun p hp _ => hy.idle_others hv hidle p hp)
    (State.idlePorts_of_answered (hy.answered hv _) hidle)

/-- R373: a step moves no command that waits for none but this step. -/
theorem State.changesTime_stepTime (hroom : v.audit.staged.length < 24) (b : Body) (d : Int) :
    v.ChangesTime h b ((v.wait ⟨h, b⟩ .timeStep).stepTime d) := by
  have hstep := (v.wait ⟨h, b⟩ .timeStep).stepsBy_stepTime d
  exact {
    mb := hstep.mb
    twin := hstep.twin
    recs := hstep.recs
    room := Nat.lt_of_le_of_lt hstep.staged (Nat.lt_trans (Nat.add_lt_add_right hroom 6) (by decide))
    others := fun p hp _ => by
      have hnone : (v.port p).running = none := by rw [hv.others p hp]; exact hidle p (Port.mem_all p)
      rw [hstep.ports, State.wait, State.port_setPort_ne _ _ hp, PortState.move, hnone]
      show { v.port p with running := none } = v.port p
      rw [← hnone]
    waiting := by
      rw [hstep.ports, State.wait, State.port_setPort_same]
      rfl }

end

/-- R371: a change of the increment leaves every command as it is. -/
theorem State.changesTime_setClock (hroom : v.audit.staged.length < 24) (b : Body) (f : Clock → Clock) :
    v.ChangesTime h b ((v.wait ⟨h, b⟩ .timeStep).setClock f) where
  mb := rfl
  twin := rfl
  recs := rfl
  room := Nat.lt_trans hroom (by decide)
  others := fun _ hp _ => State.port_setPort_ne v _ hp
  waiting := congrArg PortState.running (State.port_setPort_same v h.port _)

end

/-! ### Changes of time -/

theorem State.now_of_still {s t : State} (h : t.still = s.still) : t.now = s.now := by
  show t.still.now = s.still.now
  rw [h]

theorem State.clock_of_still {s t : State} (h : t.still = s.still) : t.clock = s.clock := by
  show t.still.clock = s.still.clock
  rw [h]

theorem State.still_setClock (s : State) (f : Clock → Clock) : (s.setClock f).still = s.still.setClock f := rfl

@[simp] theorem State.still_wait (s : State) (c : Cmd) (w : Waiting) : (s.wait c w).still = s.still := rfl

theorem State.runs_single {u : State} {h : Hdr} {b : Body} (hr : u.runs h b) : u.twin.state = .single := by
  obtain ⟨⟨-, hsingle, -⟩, -⟩ := hr
  exact hsingle

/-- R415: a unit without a partner decides no instant. -/
theorem State.mirrorInstant_of_runs {u : State} {h : Hdr} {b : Body} (hr : u.runs h b) (at_ : Option Word) :
    (u.taken ⟨h, b⟩).mirrorInstant h at_ = none := by
  have hsingle : (u.taken ⟨h, b⟩).twin.state = .single := State.runs_single hr
  unfold State.mirrorInstant
  rw [State.runs_mirror hr, hsingle]
  rfl

section
variable {s : State} {value : Word}

/-- R372: a value of 0 steps nothing. -/
theorem State.changeTime_relative :
    s.changeTime (.set false value false) = if value = 0 then s else s.stepTime value.toInt := by
  have hzero : value.toInt = 0 ↔ value = 0 := BitVec.toInt_inj (y := 0)
  simp [State.changeTime, hzero]

/-- R371: a new increment. -/
theorem State.changeTime_incr (s : State) (incr : Word) :
    s.changeTime (.incr incr false) = s.setClock fun k => { k with incr } := by
  simp [State.changeTime]

/-- R372, R373: a relative change moves device time by its value; what is pending, and idle ports, stay. -/
theorem State.changeTime_offset (s : State) (value : Word) :
    (s.changeTime (.set false value false)).clock.ext = s.clock.ext + value.toInt ∧
      (s.changeTime (.set false value false)).clock.pendingSet = s.clock.pendingSet ∧
      (s.idlePorts → (s.changeTime (.set false value false)).idlePorts) := by
  by_cases hzero : value = 0
  · rw [State.changeTime_relative, if_pos hzero, hzero]
    exact ⟨(Int.add_zero _).symm, rfl, id⟩
  · have hstep := s.stepsBy_stepTime value.toInt
    rw [State.changeTime_relative, if_neg hzero]
    exact ⟨hstep.ext, hstep.pendingSet, fun hidle p hp => by rw [hstep.ports, PortState.move, hidle p hp]; rfl⟩

/-- R371, R372: with no command in execution a change answers none. -/
theorem State.doChange_of_idle {x : TimeChange} (h : (s.changeTime x).idlePorts) : s.doChange x = s.changeTime x := by
  unfold State.doChange
  exact State.answerWaiting_of_idle h _ _

/-- R372: a relative TIME_SET without AT steps at once. -/
theorem State.runTimeSet_now {c : Cmd} (hfree : s.clock.pendingSet = none)
    (hrange : -1000000000 ≤ value.toInt ∧ value.toInt ≤ 1000000000) (hown : s.mirrorInstant c.h none = none) :
    s.runTimeSet c 0 0 value 0 = (s.wait c .timeStep).doChange (.set false value false) := by
  have hin : ¬(value.toInt < -1000000000 ∨ 1000000000 < value.toInt) := by omega
  simp [State.runTimeSet, State.holdoverStays, hin, hfree, hown]

/-- R372: an absolute TIME_SET is refused while a context streams. -/
theorem State.runTimeSet_streaming {c : Cmd} (hstreams : s.anyStreams = true) : s.runTimeSet c 1 0 value 0 = s.bad c 16 := by
  unfold State.runTimeSet
  rw [hstreams]
  exact if_pos (.inr ⟨rfl, rfl⟩)

/-- R371: an increment within its range takes effect at once. -/
theorem State.runTimeIncr_now {c : Cmd} {incr flags : Word} (hflag : flags.getLsbD 0 = false)
    (hrange : 0x02600000 ≤ incr.toNat ∧ incr.toNat ≤ 0x02A00000) (hown : s.mirrorInstant c.h none = none) :
    s.runTimeIncr c incr flags = (s.wait c .timeStep).doChange (.incr incr false) := by
  have hin : ¬(incr.toNat < 0x02600000 ∨ 0x02A00000 < incr.toNat) := by omega
  unfold State.runTimeIncr
  rw [hflag, if_neg hin, hown]
  rfl

end

section
variable {dt : Nat} {h : Hdr} {value incr flags : Word} {s : State}

/-- R372: TIME_SET that steps device time. -/
theorem exec_timeSet_steps (hr : (s.ticked dt).runs h (.timeSet 0 0 value 0)) (hidle : (s.ticked dt).idlePorts)
    (hfree : (s.ticked dt).clock.pendingSet = none) (hrange : -1000000000 ≤ value.toInt ∧ value.toInt ≤ 1000000000)
    (hne : value ≠ 0) :
    ∃ t, exec (.timeSet dt h 0 0 value 0) s = .next t ∧ t.clock.ext = (s.ticked dt).clock.ext + value.toInt ∧
      t.clock.lastStep = value.toInt ∧ t.source 52 6 = true ∧ t.now = (s.ticked dt).now ∧
      (s.ticked dt).answered t h (.timeSet 0 0 value 0) 0 0
        (leWord (s.ticked dt).time ++ leWord ((s.ticked dt).time + value)) := by
  let v : State := (s.ticked dt).taken ⟨h, .timeSet 0 0 value 0⟩
  let w : State := v.wait ⟨h, .timeSet 0 0 value 0⟩ .timeStep
  have hv := State.repliesAs_taken hr
  have hy := State.changesTime_stepTime hv hidle (State.room_of_runs hr) (.timeSet 0 0 value 0) value.toInt
  have hstep := w.stepsBy_stepTime value.toInt
  have htime : (w.stepTime value.toInt).time = (s.ticked dt).time + value := by
    unfold State.time
    rw [hstep.ext, BitVec.ofInt_add, BitVec.ofInt_toInt]
    rfl
  have hrun : v.run ⟨h, .timeSet 0 0 value 0⟩ = (w.stepTime value.toInt).ok ⟨h, .timeSet 0 0 value 0⟩
      (leWord (s.ticked dt).time ++ leWord ((s.ticked dt).time + value)) := by
    rw [← htime]
    exact (State.runTimeSet_now (s := v) hfree hrange (State.mirrorInstant_of_runs hr none)).trans
      (State.doChange_timeSet hv hidle (State.changeTime_relative.trans (if_neg hne)) hy)
  obtain ⟨t, ht, hans, hstill, hset⟩ := exec_changesTime rfl hr hy hrun
  obtain ⟨e, he⟩ := w.newlySet_stepTime value.toInt
  refine ⟨t, ht, ?_, ?_, ?_, ?_, hans⟩
  · rw [State.clock_of_still hstill, hstep.ext]
    rfl
  · rw [State.clock_of_still hstill, hstep.lastStep]
  · have hlisted : ([(52, 6)] ++ []).contains ((52 : Fin 53).val, 6) = true := by decide
    exact (he.trans hset 52 6 (by decide)).trans ((congrArg (e.statusBit 52 6 || ·) hlisted).trans (Bool.or_true _))
  · rw [State.now_of_still hstill, hstep.now]
    rfl

/-- R371: TIME_INCR within its range. -/
theorem exec_timeIncr_sets (hr : (s.ticked dt).runs h (.timeIncr incr flags)) (hidle : (s.ticked dt).idlePorts)
    (hflag : flags.getLsbD 0 = false) (hrange : 0x02600000 ≤ incr.toNat ∧ incr.toNat ≤ 0x02A00000) :
    ∃ t, exec (.timeIncr dt h incr flags) s = .next t ∧
      t.still = ((s.ticked dt).setClock fun k => { k with incr }).still ∧
      (s.ticked dt).answered t h (.timeIncr incr flags) 0 0 (leWord incr) := by
  let v : State := (s.ticked dt).taken ⟨h, .timeIncr incr flags⟩
  have hy : v.ChangesTime h (.timeIncr incr flags)
      ((v.wait ⟨h, .timeIncr incr flags⟩ .timeStep).setClock fun k => { k with incr }) :=
    State.changesTime_setClock (v := v) (State.room_of_runs hr) _ _
  have hrun : v.run ⟨h, .timeIncr incr flags⟩ = _ :=
    (State.runTimeIncr_now (s := v) hflag hrange (State.mirrorInstant_of_runs hr none)).trans
      (State.doChange_timeIncr (State.repliesAs_taken hr) hidle (State.changeTime_incr _ incr) hy)
  obtain ⟨t, ht, hans, hstill, -⟩ := exec_changesTime rfl hr hy hrun
  refine ⟨t, ht, ?_, hans⟩
  rw [hstill, State.still_setClock, State.still_wait, State.still_taken, State.still_setClock]

end

/-! ### Events of the timebase -/

theorem commit_ticked (dt : Nat) (f : State → State) (s : State) :
    commit dt f s = .next ((f (s.ticked dt)).settle s.pending) := rfl

section
variable {dt : Nat} {s : State} {x : TimeChange} {value incr : Word} {at_ : Int} {rest : List (TimeChange × Int)}

theorem exec_timeStepAt_booked (hbooked : (s.ticked dt).clock.pendingSet = some (x, at_)) :
    exec (.timeStepAt dt) s = .next ((if at_ ≤ (s.ticked dt).clock.ext then
      ((s.ticked dt).setClock fun k => { k with pendingSet := none }).doChange x else s.ticked dt).settle s.pending) := by
  show execTimeStepAt dt s = _
  rw [execTimeStepAt, commit_ticked, hbooked]

theorem exec_mirroredTimeInstant_first (hfirst : (s.ticked dt).clock.mirrored = (x, at_) :: rest) :
    exec (.mirroredTimeInstant dt) s = .next ((if at_ ≤ (s.ticked dt).clock.ext then
      ((s.ticked dt).setClock fun k => { k with mirrored := rest }).doChange x else s.ticked dt).settle s.pending) := by
  show execMirroredTimeInstant dt s = _
  rw [execMirroredTimeInstant, commit_ticked, hfirst]

/-- R373: the step that was booked happens at its time. -/
theorem exec_timeStepAt_due (hidle : (s.ticked dt).idlePorts)
    (hbooked : (s.ticked dt).clock.pendingSet = some (.set false value false, at_)) (hdue : at_ ≤ (s.ticked dt).clock.ext) :
    ∃ t, exec (.timeStepAt dt) s = .next t ∧ t.clock.ext = (s.ticked dt).clock.ext + value.toInt ∧
      t.clock.pendingSet = none := by
  obtain ⟨hext, hfree, hstay⟩ :=
    ((s.ticked dt).setClock fun k => { k with pendingSet := none }).changeTime_offset value
  refine ⟨_, exec_timeStepAt_booked hbooked, ?_⟩
  rw [if_pos hdue, State.doChange_of_idle (hstay hidle), State.clock_of_quiet (State.quiet_settle ..)]
  exact ⟨hext, hfree⟩

theorem exec_timeStepAt_early (hbooked : (s.ticked dt).clock.pendingSet = some (x, at_))
    (hearly : (s.ticked dt).clock.ext < at_) :
    ∃ t, exec (.timeStepAt dt) s = .next t ∧ becomes (s.ticked dt) (s.ticked dt) t [] := by
  refine ⟨_, exec_timeStepAt_booked hbooked, ?_⟩
  rw [if_neg (Int.not_le.2 hearly)]
  exact becomes_settle_nil rfl s.pending

/-- R415: a mirrored increment is in force from its instant on. -/
theorem exec_mirroredTimeInstant_incr (hidle : (s.ticked dt).idlePorts)
    (hfirst : (s.ticked dt).clock.mirrored = (.incr incr false, at_) :: rest) (hdue : at_ ≤ (s.ticked dt).clock.ext) :
    ∃ t, exec (.mirroredTimeInstant dt) s = .next t ∧
      becomes (s.ticked dt) ((s.ticked dt).setClock fun k => { k with incr, mirrored := rest }) t [] := by
  let v : State := (s.ticked dt).setClock fun k => { k with mirrored := rest }
  have hchange : v.changeTime (.incr incr false) = (s.ticked dt).setClock fun k => { k with incr, mirrored := rest } :=
    v.changeTime_incr incr
  have hstay : (v.changeTime (.incr incr false)).idlePorts := hchange ▸ hidle
  refine ⟨_, exec_mirroredTimeInstant_first hfirst, ?_⟩
  rw [if_pos hdue, State.doChange_of_idle hstay, hchange]
  exact becomes_settle_nil rfl s.pending

/-- R366: a wrap is counted. -/
theorem State.countWrap_of_lt (h : s.clock.counted < s.clock.ext / 2 ^ 32) :
    s.countWrap = s.setClock fun c => { c with counted := c.counted + 1, wrap := c.wrap + 1 } := if_pos h

/-- R366: a wrap that is counted is counted no second time. -/
theorem State.countWrap_of_le (h : s.clock.ext / 2 ^ 32 ≤ s.clock.counted) : s.countWrap = s := if_neg (Int.not_lt.2 h)

theorem exec_timeWrap_eq : exec (.timeWrap dt) s = .next ((s.ticked dt).countWrap.settle s.pending) := rfl

/-- R376: good beacons count while the unit keeps network time itself and is not in holdover. -/
structure State.AwaitsBeacons (s : State) : Prop where
  sync : s.syncMode = true
  leads : s.followsLead = false
  held : s.clock.holdover = false

theorem State.beaconTimeout_eq (h : s.AwaitsBeacons) : s.beaconTimeout =
    if s.clock.beaconAt + ticksOfUs (s.au 0x0D01 65535 4 4) ≤ s.now then s.enterHoldover 2 else s := by
  unfold State.beaconTimeout
  rw [h.sync, h.leads, h.held]
  simp only [Bool.not_false, Bool.and_self, Bool.true_and, decide_eq_true_eq]

/-- R376: what begins with holdover. -/
theorem State.clock_enterHoldover (s : State) (cause : Nat) :
    (s.enterHoldover cause).clock = { s.clock with holdover := true, holdCause := cause, beaconSeen := false } := by
  unfold State.enterHoldover
  rw [State.clock_of_quiet (State.quiet_raiseHeld ..), (State.reported_logTime _).clock]
  rfl

theorem exec_beaconTimeout_eq : exec (.beaconTimeout dt) s = .next ((s.ticked dt).beaconTimeout.settle s.pending) := rfl

/-- R376, R378: without a beacon for BEACON_TIMEOUT holdover begins and is reported. -/
theorem exec_beaconTimeout_late (h : (s.ticked dt).AwaitsBeacons)
    (hlate : (s.ticked dt).clock.beaconAt + ticksOfUs ((s.ticked dt).au 0x0D01 65535 4 4) ≤ (s.ticked dt).now) :
    ∃ t, exec (.beaconTimeout dt) s = .next t ∧ t.clock.holdover = true ∧ t.clock.holdCause = 2 ∧
      t.clock.beaconSeen = false ∧ t.clock.ext = (s.ticked dt).clock.ext ∧ t.source 52 7 = true := by
  refine ⟨_, exec_beaconTimeout_eq, ?_⟩
  rw [State.beaconTimeout_eq h, if_pos hlate, State.clock_of_quiet (State.quiet_settle ..), State.clock_enterHoldover]
  exact ⟨rfl, rfl, rfl, rfl,
    State.source_settle_of_newlySet (newlySet_raiseHeld _ 52 7 (by decide)) (by decide) (by decide) s.pending⟩

theorem exec_beaconTimeout_early (h : (s.ticked dt).AwaitsBeacons)
    (hearly : (s.ticked dt).now < (s.ticked dt).clock.beaconAt + ticksOfUs ((s.ticked dt).au 0x0D01 65535 4 4)) :
    ∃ t, exec (.beaconTimeout dt) s = .next t ∧ becomes (s.ticked dt) (s.ticked dt) t [] := by
  refine ⟨_, exec_beaconTimeout_eq, ?_⟩
  rw [State.beaconTimeout_eq h, if_neg (Nat.not_le.2 hearly)]
  exact becomes_settle_nil rfl s.pending

end

/-- Settles O40: TIME_SET and TIME_INCR by when they take effect, a booked and a mirrored change by whether their time has come,
then the events of the timebase. -/
theorem time : Obligations.Time := by
  unfold Obligations.Time
  refine ⟨fun dt h value incr flags at_ rest s => ⟨?_, ?_, ?_, ?_, exec_mirroredTimeInstant_incr⟩,
    fun dt h s => ⟨?_, ?_, ?_, ?_⟩⟩
  · exact fun hr hidle hfree hmin hmax hne => exec_timeSet_steps hr hidle hfree ⟨hmin, hmax⟩ hne
  · intro hr hstreams
    obtain ⟨t, ht, hans, hstill⟩ :=
      exec_bad rfl hr (State.runTimeSet_streaming (s := (s.ticked dt).taken ⟨h, .timeSet 1 0 value 0⟩) hstreams)
    exact ⟨t, ht, hstill, hans⟩
  · exact fun hidle hbooked => ⟨exec_timeStepAt_due hidle hbooked, exec_timeStepAt_early hbooked⟩
  · refine fun hr hflag hidle => ⟨fun hmin hmax => exec_timeIncr_sets hr hidle hflag ⟨hmin, hmax⟩, fun hlow => ?_⟩
    obtain ⟨t, ht, hans, hstill⟩ := exec_bad (off := 16) rfl hr (if_pos (.inl hlow))
    exact ⟨t, ht, hstill, hans⟩
  · intro hr
    obtain ⟨t, ht, hans, hstill⟩ := exec_reads rfl hr rfl
    exact ⟨t, ht, hstill, hans⟩
  · intro hlt
    refine ⟨_, exec_timeWrap_eq, ?_⟩
    rw [State.countWrap_of_lt hlt]
    exact becomes_settle_nil rfl s.pending
  · intro hle
    refine ⟨_, exec_timeWrap_eq, ?_⟩
    rw [State.countWrap_of_le hle]
    exact becomes_settle_nil rfl s.pending
  · exact fun hsync hleads hheld =>
      ⟨exec_beaconTimeout_late ⟨hsync, hleads, hheld⟩, exec_beaconTimeout_early ⟨hsync, hleads, hheld⟩⟩

end Sys2Proof.Machine
end

section
/-!
SUPPORT. The trigger generator (R380 to R388): TRIG_SCHEDULE of a one-shot, the one-shot that is due and the end of its pulse,
captures of an event input and EVIN_READ.
-/
namespace Sys2Proof.Machine

/-! ### Followers -/

/-- R381: no output follows a source. -/
abbrev State.noFollower (s : State) : Prop := ∀ w : Fin 48, s.trig.outs[w].mode ≠ 3

section
variable {s t : State}

theorem State.followers_of_none (h : s.noFollower) (source : Nat) : s.followers source = [] :=
  List.filter_eq_nil_iff.2 fun o _ hfollows => by
    obtain ⟨hmode, -⟩ := Bool.and_eq_true_iff.1 hfollows
    exact h o (eq_of_beq hmode)

/-- R381: without followers an edge is passed to none. -/
theorem State.pushFollow_of_none (h : s.noFollower) (source : Nat) (e : Int) (n : Nat) : s.pushFollow source e n = s := by
  cases n with
  | zero => rfl
  | succ n =>
    unfold State.pushFollow
    rw [State.followers_of_none h]
    rfl

theorem State.noFollower_setOut (h : s.noFollower) {o : Fin 48} {f : Output → Output} (hf : ∀ x, (f x).mode = x.mode) :
    (s.setOut o f).noFollower := fun w => by
  show (upd s.trig.outs o f)[w].mode ≠ 3
  rw [upd_get]
  split
  · next e => rw [hf, e]; exact h w
  · exact h w

end

/-! ### TRIG_SCHEDULE -/

/-- R380: a one-shot joins those of its output. -/
def Output.addShot (y : Output) (x : OneShot) : Output := { y with oneShots := y.oneShots ++ [x] }

/-- R380: the one-shot that a TRIG_SCHEDULE asks for. -/
def State.shotOf (s : State) (r : TrigReq) : OneShot :=
  { start := s.extend r.start, width := r.width.toNat, expo := r.flags.getLsbD 0, ctx := r.context.toNat % 64 }

/-- R380: the output of a TRIG_SCHEDULE. -/
def askedOut (r : TrigReq) : Fin 48 := Fin.ofNat 48 r.output.toNat

section
variable {s : State} {r : TrigReq} {c : Cmd} {k : Nat}

theorem State.runTrig_bad (h : s.trigBad r = some k) : s.runTrig c r = s.bad c k := by
  unfold State.runTrig
  rw [h]

/-- R380: MODE 0 cancels what an output holds. -/
theorem State.runTrig_cancel (h : s.trigBad r = none) (hmode : r.mode = 0) :
    s.runTrig c r = (s.setOut (askedOut r) fun x => { x with mode := 0, oneShots := [], follow := [], left := none }).ok c
      (leBytes 4 0) := by
  unfold State.runTrig
  rw [h, hmode]
  rfl

/-- R380: MODE 1 queues a one-shot. -/
theorem State.runTrig_oneShot (h : s.trigBad r = none) (hmode : r.mode = 1) (hnone : s.noFollower) :
    s.runTrig c r = (s.setOut (askedOut r) fun y => y.addShot (s.shotOf r)).ok c (leWord (time32 (s.extend r.start))) := by
  have hstay := State.pushFollow_of_none (s := s.setOut (askedOut r) fun y => y.addShot (s.shotOf r))
    (State.noFollower_setOut hnone fun _ => rfl) (askedOut r).val (s.extend r.start) 48
  unfold State.runTrig
  rw [h, hmode]
  exact congrArg (fun t : State => t.ok c (leWord (time32 (s.extend r.start)))) hstay

end

/-! ### One-shots and pulses -/

/-- R382: an output with nothing but the one-shot `x`, bound to no exposure, and no pulse. -/
structure Output.HoldsShot (y : Output) (x : OneShot) : Prop where
  mode : y.mode = 0
  follow : y.follow = []
  left : y.left = none
  pulse : y.pulse = none
  plain : y.expo = false
  shot : y.oneShots = [x]
  unbound : x.expo = false

/-- R382: the edge of a one-shot that is due. -/
def dueOf (x : OneShot) : DueEdge := ⟨x.start, x.width, x.expo, x.ctx⟩

theorem State.setOut_congr {s : State} {o : Fin 48} {f g : Output → Output} (h : f s.trig.outs[o] = g s.trig.outs[o]) :
    s.setOut o f = s.setOut o g := by
  unfold State.setOut upd
  rw [h]

theorem State.setOut_same {s : State} {o : Fin 48} {f : Output → Output} (h : f s.trig.outs[o] = s.trig.outs[o]) :
    s.setOut o f = s := by
  have hsame : upd s.trig.outs o f = s.trig.outs := by
    unfold upd
    rw [h]
    exact Vector.set_getElem_self o.isLt
  unfold State.setOut
  rw [hsame]

theorem State.out_setOut (s : State) (o : Fin 48) (f : Output → Output) : (s.setOut o f).trig.outs[o] = f s.trig.outs[o] :=
  upd_same ..

/-- R382, R383: one edge falls due, on an output without a pulse, and asks for no exposure. -/
theorem State.trigEdge_of_one {s v : State} {o : Fin 48} {e : DueEdge} (h : s.takeDue o = (v, [e]))
    (hidle : v.trig.outs[o].pulse = none) (hplain : e.expo = false) :
    s.trigEdge o = v.setOut o fun y => { y with
      pulse := some (v.clock.ext, e.at_ + e.width), driven := v.twin.state.drives } := by
  have hwidth : v.pulseWidth e = e.width := if_neg (ne_true_of_eq_false hplain)
  unfold State.trigEdge
  rw [h]
  cases hnext : v.nextEdge o with
  | none => simp [hnext, hidle, hplain, hwidth, State.raiseIf, State.dropEdges, -Fin.getElem_fin]
  | some n => simp [hnext, hidle, hplain, hwidth, State.raiseIf, State.dropEdges, -Fin.getElem_fin]

section
variable {s : State} {o : Fin 48} {x : OneShot} (h : s.trig.outs[o].HoldsShot x)
include h

theorem State.nextPeriodic_of_shot : s.nextPeriodic o = none := by
  unfold State.nextPeriodic
  simp only [h.left, h.mode]
  rfl

/-- R382: of such an output only one-shots fall due. -/
theorem State.takeDue_of_shot {es : List DueEdge}
    (hes : (s.trig.outs[o].oneShots.takeWhile fun q => decide (q.start ≤ s.clock.ext)).map dueOf = es) :
    s.takeDue o = (s.setOut o fun y => { y with oneShots := y.oneShots.drop es.length }, es) := by
  unfold State.takeDue
  extract_lets y t due per own shots fol n left
  have hown : own = [] := by
    show (if due (s.nextPeriodic o) then _ else _) = _
    rw [State.nextPeriodic_of_shot h]
    rfl
  have hfol : fol = [] := by
    show (if _ then _ else _) = _
    rw [h.follow]
    exact ite_self []
  have hshots : shots = es := hes
  have hleft : left = none := congrArg (Option.map (· - n)) h.left
  rw [hown, hshots, hfol, hleft, List.nil_append, List.append_nil]
  refine congrArg (·, es) (State.setOut_congr ?_)
  rw [if_neg nofun, List.length_nil, Int.natCast_zero, Int.add_zero, List.drop_zero, h.left]

theorem State.takeDue_due (hdue : x.start ≤ s.clock.ext) :
    s.takeDue o = (s.setOut o fun y => { y with oneShots := [] }, [dueOf x]) := by
  rw [State.takeDue_of_shot h (es := [dueOf x]) (by rw [h.shot]; simp [hdue])]
  refine congrArg (·, [dueOf x]) (State.setOut_congr ?_)
  rw [h.shot]
  rfl

/-- R382: before its time a one-shot stays. -/
theorem State.takeDue_early (hearly : s.clock.ext < x.start) : s.takeDue o = (s, []) := by
  rw [State.takeDue_of_shot h (es := []) (by rw [h.shot]; simp [hearly])]
  exact congrArg (·, []) (State.setOut_same rfl)

/-- R382: the pulse of the output has begun. -/
def Output.pulsing (y : Output) (edge : Int) (x : OneShot) (driven : Bool) : Output :=
  { y with oneShots := [], pulse := some (edge, x.start + x.width), driven }

/-- R382: a one-shot that is due starts its pulse. -/
theorem State.trigEdge_due (hdue : x.start ≤ s.clock.ext) :
    s.trigEdge o = s.setOut o fun y => y.pulsing s.clock.ext x s.twin.state.drives := by
  have hidle : (s.setOut o fun y => { y with oneShots := [] }).trig.outs[o].pulse = none :=
    (congrArg Output.pulse (State.out_setOut ..)).trans h.pulse
  rw [State.trigEdge_of_one (State.takeDue_due h hdue) hidle h.unbound]
  unfold State.setOut
  rw [upd_upd]
  rfl

theorem State.trigEdge_early (hearly : s.clock.ext < x.start) : s.trigEdge o = s := by
  unfold State.trigEdge
  rw [State.takeDue_early h hearly]

end

section
variable {dt : Nat} {o : Fin 48} {x : OneShot} {s : State}

/-- R382, R417: the pulse of an output bound to no exposure writes no record, so no tag follows. -/
theorem State.pulseStart_of_plain (hplain : (s.trigEdge o).trig.outs[o].expo = false) : s.pulseStart o = s.trigEdge o := by
  unfold State.pulseStart
  dsimp only
  rw [hplain]
  split
  · exact if_neg (by simp)
  · rfl

theorem exec_trigEdge_eq : exec (.trigEdge dt o) s = .next (((s.ticked dt).pulseStart o).settle s.pending) := rfl

theorem exec_trigEdge_due (h : (s.ticked dt).trig.outs[o].HoldsShot x) (hdue : x.start ≤ (s.ticked dt).clock.ext) :
    ∃ t, exec (.trigEdge dt o) s = .next t ∧
      becomes (s.ticked dt) ((s.ticked dt).setOut o fun y =>
        y.pulsing (s.ticked dt).clock.ext x (s.ticked dt).twin.state.drives) t [] := by
  have hedge := State.trigEdge_due h hdue
  have hplain : ((s.ticked dt).trigEdge o).trig.outs[o].expo = false := by
    rw [hedge, State.out_setOut]
    exact h.plain
  refine ⟨_, exec_trigEdge_eq, ?_⟩
  rw [State.pulseStart_of_plain hplain, hedge]
  exact becomes_settle_nil rfl s.pending

theorem exec_trigEdge_early (h : (s.ticked dt).trig.outs[o].HoldsShot x) (hearly : (s.ticked dt).clock.ext < x.start) :
    ∃ t, exec (.trigEdge dt o) s = .next t ∧ becomes (s.ticked dt) (s.ticked dt) t [] := by
  have hedge := State.trigEdge_early h hearly
  have hplain : ((s.ticked dt).trigEdge o).trig.outs[o].expo = false := by rw [hedge]; exact h.plain
  refine ⟨_, exec_trigEdge_eq, ?_⟩
  rw [State.pulseStart_of_plain hplain, hedge]
  exact becomes_settle_nil rfl s.pending

/-- R379, R382: a pulse that has had its width ends. -/
theorem State.pulseEnd_due {p : Int × Int} (hpulse : s.trig.outs[o].pulse = some p) (hdue : p.2 ≤ s.clock.ext) :
    s.pulseEnd o = s.setOut o fun x => { x with
      pulse := none, driven := false, driveActive := s.au 0x0D02 o 1 1 == 1, lowActive := s.au 0x0D02 o 2 1 == 1 } := by
  unfold State.pulseEnd
  rw [hpulse]
  exact if_pos hdue

theorem exec_trigPulseEnd_eq : exec (.trigPulseEnd dt o) s = .next (((s.ticked dt).pulseEnd o).settle s.pending) := rfl

end

/-! ### Captures -/

/-- R387: the capture that an edge of an input takes now. -/
def State.captureOf (s : State) (i : Fin 8) (rising : Bool) : Capture :=
  let t := s.clock.ext * 2 ^ 24 + s.clock.frac - s.au 0x0D03 i 2 1 * s.clock.incr.toNat
  { serial := s.trig.evins[i].next, time := time32 (t / 2 ^ 24), rising, holdover := s.clock.holdover
    step := s.trig.evins[i].stepMark }

/-- R387: an input has taken a capture. -/
def EvIn.take (e : EvIn) (k : Capture) (rising : Bool) : EvIn :=
  { e with ring := e.ring ++ [k], next := e.next + 1, stepMark := false, level := rising }

section
variable {dt : Nat} {i : Fin 8} {s : State}

theorem State.evin_setEvin (s : State) (i : Fin 8) (f : EvIn → EvIn) :
    (s.setEvin i f).trig.evins[i] = f s.trig.evins[i] := upd_same ..

theorem State.setEvin_setEvin (s : State) (i : Fin 8) (f g : EvIn → EvIn) :
    (s.setEvin i f).setEvin i g = s.setEvin i fun e => g (f e) := by
  unfold State.setEvin
  rw [upd_upd]

theorem State.setEvin_congr {f g : EvIn → EvIn} (h : f s.trig.evins[i] = g s.trig.evins[i]) :
    s.setEvin i f = s.setEvin i g := by
  unfold State.setEvin upd
  rw [h]

/-- R387: a rising edge of an enabled input with room for its capture, which no output follows. -/
theorem State.evinEdge_rising (hon : s.au 0x0D03 i 0 1 = 1) (hedges : (s.au 0x0D03 i 1 1).testBit 0 = true)
    (hroom : s.trig.evins[i].ring.length < 64) (hnone : s.noFollower) :
    s.evinEdge i true = s.setEvin i fun e => e.take (s.captureOf i true) true := by
  unfold State.evinEdge
  extract_lets rec_ v t at_ x lost k ring w w'
  have hx : x = { s.trig.evins[i] with level := true } := State.evin_setEvin ..
  have hfew : x.ring.length < 64 := by rw [hx]; exact hroom
  have hlost : lost = false := by
    simp only [lost]
    split
    · rw [decide_eq_false (Nat.not_le.2 hfew)]; rfl
    · rfl
  have hk : k = s.captureOf i true := by
    simp only [k]
    rw [hx]
    rfl
  have hring : ring.drop (ring.length - 64) = s.trig.evins[i].ring ++ [s.captureOf i true] := by
    have hlen : ring.length = x.ring.length + 1 := List.length_append
    rw [Nat.sub_eq_zero_of_le (by omega), List.drop_zero, ← hk]
    show x.ring ++ [k] = _
    rw [hx]
  have hw' : w' = w := by
    show w.raiseIf lost 52 10 = w
    rw [hlost]
    rfl
  have hw : w = s.setEvin i fun e => e.take (s.captureOf i true) true := by
    simp only [w, v, hring, hlost]
    exact (State.setEvin_setEvin ..).trans (State.setEvin_congr rfl)
  have hedges' : ¬(rec_ 1).testBit 0 = false := ne_false_of_eq_true hedges
  have hon' : ¬rec_ 0 ≠ 1 := fun hoff => hoff hon
  rw [if_neg hon', if_pos rfl, if_neg hedges', hw', hw]
  exact State.pushFollow_of_none (s := s.setEvin i fun e => e.take (s.captureOf i true) true) hnone _ _ _

/-- R417: a unit without a partner sends no tag. -/
theorem State.capture_of_single (h : s.twin.state = .single) (kind index num : Nat) (time width : Word) :
    s.capture kind index num time width = s := by
  unfold State.capture
  rw [h]

theorem State.evinCapture_of_single {rising : Bool} (h : (s.evinEdge i rising).twin.state = .single) :
    s.evinCapture i rising = s.evinEdge i rising := by
  unfold State.evinCapture
  extract_lets n t
  split
  · rfl
  · split
    · exact State.capture_of_single h ..
    · rfl

theorem exec_evinEdge_eq {rising : Bool} :
    exec (.evinEdge dt i rising) s = .next (((s.ticked dt).evinCapture i rising).settle s.pending) := rfl

theorem State.trig_of_quiet {s t : State} (h : t.quiet = s.quiet) : t.trig = s.trig := by
  show t.quiet.trig = s.quiet.trig
  rw [h]

/-- R387: the capture of a rising edge stands last in the ring of its input. -/
theorem exec_evinEdge_rising (hon : (s.ticked dt).au 0x0D03 i 0 1 = 1)
    (hedges : ((s.ticked dt).au 0x0D03 i 1 1).testBit 0 = true) (hroom : (s.ticked dt).trig.evins[i].ring.length < 64)
    (hnone : (s.ticked dt).noFollower) (hsingle : (s.ticked dt).twin.state = .single) :
    ∃ t k, exec (.evinEdge dt i true) s = .next t ∧
      t.trig.evins[i].ring = (s.ticked dt).trig.evins[i].ring ++ [k] ∧ k.serial = (s.ticked dt).trig.evins[i].next ∧
      k.rising = true ∧ t.trig.evins[i].next = (s.ticked dt).trig.evins[i].next + 1 ∧ t.trig.evins[i].level = true ∧
      t.trig.outs = (s.ticked dt).trig.outs ∧ ∀ w : Fin 8, w ≠ i → t.trig.evins[w] = (s.ticked dt).trig.evins[w] := by
  have hedge := State.evinEdge_rising hon hedges hroom hnone
  have hown : ((s.ticked dt).evinEdge i true).twin.state = .single := by rw [hedge]; exact hsingle
  refine ⟨_, (s.ticked dt).captureOf i true, exec_evinEdge_eq, ?_⟩
  rw [State.trig_of_quiet (State.quiet_settle ..), State.evinCapture_of_single hown, hedge, State.evin_setEvin]
  exact ⟨rfl, rfl, rfl, rfl, rfl, rfl, fun w hw => upd_ne _ _ _ _ hw.symm⟩

end

/-! ### EVIN_READ -/

theorem behind_self (x : Word) : behind 32 x.toNat x.toNat = true := by
  have hx := x.isLt
  unfold behind
  rw [decide_eq_true_eq, Nat.mod_eq_of_lt hx]
  omega

/-- R388: captures before the serial `n` have been read. -/
def EvIn.readBefore (e : EvIn) (n : Word) : EvIn := { e with readTo := n }

/-- R388: the serial before which captures have been read once `k` has. -/
def EvIn.readAfter (e : EvIn) (k : Capture) : Word :=
  if behind 32 e.readTo.toNat k.serial.toNat then k.serial + 1 else e.readTo

theorem EvIn.ring_readBefore (e : EvIn) (n : Word) : (e.readBefore n).ring = e.ring := rfl

section
variable {s : State} {c : Cmd} {input : Byte} {start count : Word} {k : Capture}

/-- R388: EVIN_READ of the oldest capture of an input that holds one. -/
theorem State.runEvinRead_oldest (hinput : input.toNat < 8) (hstart : start = 0xFFFFFFFF) (hcount : count.toNat = 1)
    (hring : s.trig.evins[Fin.ofNat 8 input.toNat].ring = [k])
    (hnext : s.trig.evins[Fin.ofNat 8 input.toNat].next = k.serial + 1) :
    s.runEvinRead c input start count = (s.setEvin (Fin.ofNat 8 input.toNat) fun e => e.readBefore (e.readAfter k)).ok c
      (leWord k.serial ++ leBytes 1 1 ++ leBytes 1 2 ++ leBytes 2 0 ++ k.bytes) := by
  unfold State.runEvinRead
  extract_lets i x oldest oldestAsked gone first got newest t
  have holdest : oldest = k.serial := by
    show x.next - BitVec.ofNat 32 x.ring.length = _
    rw [hring, hnext]
    exact BitVec.add_sub_cancel ..
  have hasked : oldestAsked = true := beq_iff_eq.2 hstart
  have hfirst : first = k.serial := by
    show (if (oldestAsked || gone) = true then oldest else start) = _
    rw [hasked]
    exact holdest
  have hgone : gone = false := by
    show (!oldestAsked && _) = false
    rw [hasked]
    rfl
  have hgot : got = [k] := by
    show (x.ring.filter fun q => behind 32 first.toNat q.serial.toNat).take count.toNat = _
    rw [hring, hfirst, hcount, List.filter_cons_of_pos (p := fun q : Capture => behind 32 k.serial.toNat q.serial.toNat)
      (behind_self k.serial)]
    rfl
  have hlast : got.getLast? = some k := by rw [hgot]; rfl
  have hnewest : newest = true := by
    simp only [newest, hlast]
    rw [hnext]
    exact beq_self_eq_true _
  have ht : t = s.setEvin i fun e => e.readBefore (e.readAfter k) := by
    simp only [t, hlast]
    rfl
  have hbits : bit 0 false + bit 1 true = 2 := rfl
  rw [if_neg (Nat.not_le.2 hinput), if_neg (by omega), ht, hgot, hnewest, hfirst, hgone, hbits, List.length_singleton,
    List.flatMap_singleton]

end

/-! ### Commands -/

section
variable {dt : Nat} {h : Hdr} {s : State}

theorem State.still_setOut (s : State) (o : Fin 48) (f : Output → Output) : (s.setOut o f).still = s.still.setOut o f := rfl

/-- R380: a TRIG_SCHEDULE that changes its output and is answered. -/
theorem exec_trigSchedule_sets {r : TrigReq} {f : Output → Output} {pl : List Byte}
    (hr : (s.ticked dt).runs h (.trigSchedule r))
    (hrun : ((s.ticked dt).taken ⟨h, .trigSchedule r⟩).runTrig ⟨h, .trigSchedule r⟩ r =
      (((s.ticked dt).taken ⟨h, .trigSchedule r⟩).setOut (askedOut r) f).ok ⟨h, .trigSchedule r⟩ pl) :
    ∃ t, exec (.trigSchedule dt h r) s = .next t ∧ (s.ticked dt).answered t h (.trigSchedule r) 0 0 pl ∧
      t.still = ((s.ticked dt).setOut (askedOut r) f).still := by
  have hx : (s.ticked dt).RepliesAs (((s.ticked dt).taken ⟨h, .trigSchedule r⟩).setOut (askedOut r) f) h :=
    (State.repliesAs_taken hr).congr rfl rfl rfl rfl rfl
  obtain ⟨t, ht, hans, hstill⟩ := exec_ok rfl hr hx hrun
  refine ⟨t, ht, hans, ?_⟩
  rw [hstill, State.still_setOut, State.still_taken, State.still_setOut]

theorem State.trig_taken (s : State) (c : Cmd) : (s.taken c).trig = s.trig := rfl

theorem State.trig_of_still {s t : State} (h : t.still = s.still) : t.trig = s.trig := by
  show t.still.trig = s.still.trig
  rw [h]

/-- R388: EVIN_READ as a command. -/
theorem exec_evinRead_oldest {input : Byte} {start count : Word} {k : Capture} (hinput : input.toNat < 8)
    (hstart : start = 0xFFFFFFFF) (hcount : count.toNat = 1)
    (hr : (s.ticked dt).runs h (.evinRead input start count))
    (hring : (s.ticked dt).trig.evins[Fin.ofNat 8 input.toNat].ring = [k])
    (hnext : (s.ticked dt).trig.evins[Fin.ofNat 8 input.toNat].next = k.serial + 1) :
    ∃ t, exec (.evinRead dt h input start count) s = .next t ∧
      (s.ticked dt).answered t h (.evinRead input start count) 0 0
        (leWord k.serial ++ leBytes 1 1 ++ leBytes 1 2 ++ leBytes 2 0 ++ k.bytes) ∧
      t.trig.evins[Fin.ofNat 8 input.toNat].ring = [k] := by
  have hx : (s.ticked dt).RepliesAs (((s.ticked dt).taken ⟨h, .evinRead input start count⟩).setEvin
      (Fin.ofNat 8 input.toNat) fun e => e.readBefore (e.readAfter k)) h := (State.repliesAs_taken hr).congr rfl rfl rfl rfl rfl
  obtain ⟨t, ht, hans, hstill⟩ := exec_ok rfl hr hx
    (State.runEvinRead_oldest (s := (s.ticked dt).taken ⟨h, .evinRead input start count⟩) hinput hstart hcount hring hnext)
  refine ⟨t, ht, hans, ?_⟩
  rw [State.trig_of_still hstill, State.evin_setEvin, EvIn.ring_readBefore, State.trig_taken, hring]

end

/-- Settles O41: TRIG_SCHEDULE by its request, a one-shot by whether it is due, then the end of its pulse, captures and
EVIN_READ. -/
theorem triggersAndCaptures : Obligations.TriggersAndCaptures := by
  unfold Obligations.TriggersAndCaptures
  intro dt h r o x i s u y noFollower
  refine ⟨fun hr ho => ?_, fun mode follow left pulse plain unbound => ?_, fun p hpulse hdue => ?_,
    exec_evinEdge_rising, fun k input hi hr hring hnext => ?_⟩
  · obtain rfl : askedOut r = o := Fin.ext (by simp [askedOut, ho])
    refine ⟨fun k hbad => ?_, fun hgood hmode => exec_trigSchedule_sets hr (State.runTrig_cancel hgood hmode),
      fun hgood hmode hnone => exec_trigSchedule_sets hr (State.runTrig_oneShot hgood hmode hnone)⟩
    obtain ⟨t, ht, hans, hstill⟩ :=
      exec_bad rfl hr (State.runTrig_bad (s := (s.ticked dt).taken ⟨h, .trigSchedule r⟩) hbad)
    exact ⟨t, ht, hstill, hans⟩
  · exact ⟨fun shot => exec_trigEdge_due ⟨mode, follow, left, pulse, plain, shot, unbound⟩,
      fun shot => exec_trigEdge_early ⟨mode, follow, left, pulse, plain, shot, unbound⟩⟩
  · refine ⟨_, exec_trigPulseEnd_eq, ?_⟩
    rw [State.pulseEnd_due hpulse hdue]
    exact becomes_settle_nil rfl s.pending
  · obtain rfl : Fin.ofNat 8 input.toNat = i := Fin.ext (by simp [hi])
    exact exec_evinRead_oldest (hi ▸ Fin.isLt _) rfl rfl hr hring hnext

end Sys2Proof.Machine
end

section
/-!
SUPPORT. The memory (R435, R436 to R443): its bytes, the maintenance and scrubbing of a channel, its training and its
retraining slices.
-/
namespace Sys2Proof.Machine

/-! ### Bytes -/

theorem getD_eq_of_lt {α : Type} {l : List α} {i : Nat} (d : α) (h : i < l.length) : l.getD i d = l[i] := by
  rw [List.getD_eq_getElem?_getD, List.getElem?_eq_getElem h, Option.getD_some]

/-- A read of as many bytes as a list has gives the list, where each byte reads so. -/
theorem Memory.readList_of_reads (d : Nat → Byte) (m : List Host.Cell) (a : Nat) (vs : List Byte)
    (h : ∀ i (hi : i < vs.length), Memory.read d m (a + i) = vs[i]) : Memory.readList d m a vs.length = vs := by
  induction vs generalizing a with
  | nil => rfl
  | cons v vs ih =>
    have hhead := h 0 (Nat.zero_lt_succ _)
    have htail : ∀ i (hi : i < vs.length), Memory.read d m (a + 1 + i) = vs[i] := fun i hi => by
      rw [Nat.add_assoc, Nat.add_comm 1 i]
      exact h (i + 1) (Nat.succ_lt_succ hi)
    exact List.cons_eq_cons.2 ⟨hhead, ih (a + 1) htail⟩

/-- Settles O5: byte by byte, from what a read gives after one write. -/
theorem memoryWritesExactly : Obligations.MemoryWritesExactly := by
  unfold Obligations.MemoryWritesExactly
  intro d m a vs hwf
  refine ⟨Memory.writeList_wf d m a vs hwf, fun i hi => ?_, fun b hb => Memory.read_writeList_ne d m a b vs hwf hb,
    Memory.readList_of_reads _ _ _ _ fun i hi => Memory.read_writeList d m a i vs hwf hi⟩
  rw [Memory.read_writeList d m a i vs hwf hi, getD_eq_of_lt 0 hi]

/-! ### Reports and levels -/

section
variable {s t : State}

/-- What the reports of a step do not hold is read off the quiet state. -/
theorem State.eq_of_quiet {α : Type} (f : State → α) (hf : ∀ x : State, f x.quiet = f x) (h : t.quiet = s.quiet) :
    f t = f s := by
  rw [← hf t, h, hf]

theorem State.mem_of_quiet (h : t.quiet = s.quiet) : t.mem = s.mem := State.eq_of_quiet State.mem (fun _ => rfl) h

theorem State.quiet_setMc_congr (h : t.quiet = s.quiet) (m : Fin 6) (f : MemCtl → MemCtl) :
    (t.setMc m f).quiet = (s.setMc m f).quiet :=
  congrArg (State.setMc · m f) h

theorem State.setMc_setMc (s : State) (m : Fin 6) (f g : MemCtl → MemCtl) :
    (s.setMc m f).setMc m g = s.setMc m fun x => g (f x) := by
  show ({ s with mem := { s.mem with ctls := upd (upd s.mem.ctls m f) m g } } : State) = _
  rw [upd_upd]
  rfl

theorem State.ctl_setMc_same (s : State) (m : Fin 6) (f : MemCtl → MemCtl) : (s.setMc m f).mem.ctls[m] = f s.mem.ctls[m] :=
  upd_same ..

/-- A cause stands that a step set. -/
def State.standing (s : State) (k : Fin 53) (b : Nat) : Bool := s.ev.blocks[k].held.getLsbD b

theorem State.standing_congr (h : t.ev.blocks = s.ev.blocks) (k : Fin 53) (b : Nat) : t.standing k b = s.standing k b := by
  unfold State.standing
  rw [h]

@[simp] theorem State.standing_stage (s : State) (e : Entry) (k : Fin 53) (b : Nat) :
    (s.stage e).standing k b = s.standing k b := by
  unfold State.standing
  rw [State.ev_stage]

theorem getLsbD_or_bit_ne {w : Word} {b c : Nat} (h : b ≠ c) : (w ||| 1#32 <<< b).getLsbD c = w.getLsbD c := by
  rw [BitVec.getLsbD_or, BitVec.getLsbD_shiftLeft]
  rcases Nat.lt_or_gt_of_ne h with hlt | hgt
  · simp [BitVec.getLsbD_one, show c - b ≠ 0 by omega]
  · simp [hgt]

/-- R472: an occurrence lets no cause of another source stand. -/
theorem State.standing_occur_ne (s : State) {c : Src} (x y : Bool) {k : Fin 53} {b : Nat} (h : (c.block, c.bit) ≠ (k.val, b)) :
    (s.occur c x y).standing k b = s.standing k b := by
  have key : ∀ (hc : c.block < 53) (f : EvBlock), (f.held = s.ev.blocks[c.block].held ∨
      f.held = s.ev.blocks[c.block].held ||| 1#32 <<< c.bit) →
      ((s.ev.blocks.set c.block f hc)[k]).held.getLsbD b = s.standing k b := by
    intro hc f hf
    rw [Fin.getElem_fin, Vector.getElem_set]
    split
    · next hk =>
      have hbit : c.bit ≠ b := fun e => h (by rw [hk, e])
      have hsame : s.ev.blocks[c.block].held.getLsbD b = s.standing k b := by
        unfold State.standing
        simp only [hk, Fin.getElem_fin]
      rcases hf with e | e
      · rw [e, hsame]
      · rw [e, getLsbD_or_bit_ne hbit, hsame]
    · rfl
  unfold State.occur
  split
  · next hc =>
    have main : ∀ f : EvBlock, f.held = (if (x && !y) = true then s.ev.blocks[c.block].held ||| 1#32 <<< c.bit
        else s.ev.blocks[c.block].held) → ((s.ev.blocks.set c.block f hc)[k]).held.getLsbD b = s.standing k b := by
      intro f hf
      refine key hc f ?_
      rw [hf]
      split
      · exact .inr rfl
      · exact .inl rfl
    dsimp only
    split
    · exact main _ rfl
    · rw [State.standing_stage]; exact main _ rfl
  · rfl

theorem State.standing_raiseHeld_ne (s : State) {K B : Nat} {k : Fin 53} {b : Nat} (h : (K, B) ≠ (k.val, b))
    (hr : (52, 4) ≠ (k.val, b)) : (s.raiseHeld K B).standing k b = s.standing k b := by
  unfold State.raiseHeld State.noteOverflow
  split
  · rw [State.standing_occur_ne _ _ _ hr, State.standing_occur_ne _ _ _ h]
  · rw [State.standing_occur_ne _ _ _ h]

theorem State.standing_causeGone_ne (s : State) {K B : Nat} {k : Fin 53} {b : Nat} (h : (K, B) ≠ (k.val, b)) :
    (s.causeGone K B).standing k b = s.standing k b := by
  unfold State.causeGone
  split
  · next hK =>
    unfold State.standing
    dsimp only
    rw [upd_get]
    split
    · next hk =>
      obtain rfl : K = k.val := congrArg Fin.val hk
      have hB : B ≠ b := fun e => h (by rw [e])
      have hbit : (~~~(1#32 <<< B)).getLsbD b = (decide (b < 32)) := by
        have := getLsbD_or_bit_ne (w := 0#32) hB
        simp only [BitVec.zero_or, BitVec.getLsbD_zero] at this
        rw [BitVec.getLsbD_not, this, Bool.not_false, Bool.and_true]
      rw [BitVec.getLsbD_and, hbit]
      by_cases hb : b < 32
      · simp [hb]
      · simp [hb, BitVec.getLsbD_of_ge _ _ (Nat.le_of_not_lt hb)]
    · rfl
  · rfl

theorem State.standing_raiseLevel_ne (s : State) (p : Bool) {K B : Nat} {k : Fin 53} {b : Nat} (h : (K, B) ≠ (k.val, b))
    (hr : (52, 4) ≠ (k.val, b)) : (s.raiseLevel p K B).standing k b = s.standing k b := by
  unfold State.raiseLevel
  split
  · split
    · split
      · rfl
      · exact State.standing_raiseHeld_ne s h hr
    · exact State.standing_causeGone_ne s h
  · rfl

/-- R472: a level that begins occurs; one that stands already, or ends, does not. -/
theorem newlySet_raiseLevel (s : State) (p : Bool) {K B : Nat} (hK : K < 53) (hB : B < 32) :
    newlySet s (s.raiseLevel p K B) (if p = true ∧ s.standing (Fin.ofNat 53 K) B = false then [(K, B)] else []) := by
  obtain ⟨k, rfl⟩ : ∃ k : Fin 53, k.val = K := ⟨⟨K, hK⟩, rfl⟩
  rw [Fin.ofNat_val_eq_self]
  cases p with
  | false =>
    have hgone : s.raiseLevel false k.val B = s.causeGone k.val B := dif_pos k.isLt
    rw [hgone, if_neg fun h => Bool.false_ne_true h.1]
    exact newlySet_causeGone s k.val B
  | true =>
    cases hheld : s.standing k B with
    | true =>
      rw [State.raiseLevel_of_held hheld, if_neg fun h => Bool.false_ne_true h.2.symm]
      exact newlySet_of_eq rfl
    | false =>
      have hnew : s.raiseLevel true k.val B = s.raiseHeld k.val B := by
        unfold State.raiseLevel
        rw [dif_pos k.isLt, if_pos rfl]
        exact if_neg (ne_true_of_eq_false hheld)
      rw [hnew, if_pos ⟨rfl, rfl⟩]
      exact newlySet_raiseHeld s k.val B hB

end

/-! ### Maintenance of a channel -/

section
variable {s u v : State} {dt : Nat} {mc : Fin 6} {is : List Instr}

theorem State.mcOn_of_ready (h : s.mem.ctls[mc].state = 2 ∨ s.mem.ctls[mc].state = 3) : s.mcOn mc = true := by
  unfold State.mcOn
  dsimp only
  rcases h with e | e <;> rw [e] <;> rfl

/-- R439: a stall is no longer than its bound, and takes one free value. -/
theorem State.stall_le (s : State) (mc : Fin 6) (bound : Nat) :
    ∃ n, n ≤ bound ∧ s.stall mc bound =
      { s with freeCtr := s.freeCtr + 1 }.setMc mc fun x => { x with maxStall := max x.maxStall n } :=
  ⟨Config.freeMeasure s.freeCtr % (bound + 1), Nat.lt_succ_iff.1 (Nat.mod_lt _ (Nat.succ_pos _)), rfl⟩

theorem State.mcBlock_lt (mc : Fin 6) : 40 + mc.val < 53 := by omega

theorem exec_perBankRefresh_eq : exec (.perBankRefresh dt mc) s = .next ((s.ticked dt).settle s.pending) := by
  show Host.Outcome.next ((if (s.ticked dt).mcOn mc then s.ticked dt else s.ticked dt).settle s.pending) = _
  rw [ite_self]

theorem exec_zqLatch_eq : exec (.zqLatch dt mc) s =
    .next ((if (s.ticked dt).mcOn mc then (s.ticked dt).stall mc 50 else s.ticked dt).settle s.pending) := rfl

theorem exec_wckTracking_eq (drift : Half) :
    exec (.wckTracking dt mc drift) s = .next (((s.ticked dt).trackWck mc drift).settle s.pending) := rfl

theorem exec_mr4Report_eq (code : Byte) (means : Mr4) : exec (.mr4Report dt mc code means) s =
    .next ((if (s.ticked dt).mcOn mc then (s.ticked dt).mr4 mc code means else s.ticked dt).settle s.pending) := rfl

theorem exec_patrolScrub_eq (r : EccResult) :
    exec (.patrolScrub dt mc r) s = .next (((s.ticked dt).scrub mc r).settle s.pending) := rfl

theorem exec_scrubPassEnd_eq :
    exec (.scrubPassEnd dt mc) s = .next (((s.ticked dt).scrubPass mc).settle s.pending) := rfl

/-- R439, R440: tracking stalls a channel that is ready; drift is judged by the working set. -/
theorem State.trackWck_eq (h : s.mem.ctls[mc].state = 2 ∨ s.mem.ctls[mc].state = 3) (drift : Half) :
    s.trackWck mc drift = if s.calU 9752 2 < drift.toNat then ((s.stall mc 150).raiseHeld (40 + mc.val) 10).callRetrain mc
      else s.stall mc 150 := by
  unfold State.trackWck
  rw [State.mcOn_of_ready h]
  rfl

/-- R439: drift beyond the limit is reported, and calls for a retraining when none runs. -/
theorem becomes_drift (hnone : v.mem.ctls[mc].slicesLeft = 0) (hev : v.ev.blocks = u.ev.blocks) :
    becomes u (v.setMc mc fun x => { x with slicesLeft := 8, sliceBad := false })
      (((v.raiseHeld (40 + mc.val) 10).callRetrain mc).settle is) [(40 + mc.val, 10)] := by
  have hmem := State.mem_of_quiet (State.quiet_raiseHeld v (40 + mc.val) 10)
  have hcall : (v.raiseHeld (40 + mc.val) 10).callRetrain mc =
      (v.raiseHeld (40 + mc.val) 10).setMc mc fun x => { x with slicesLeft := 8, sliceBad := false } :=
    if_pos (by rw [hmem]; exact hnone)
  rw [hcall]
  refine becomes_reported (State.quiet_setMc_congr (State.quiet_raiseHeld ..) ..) ?_ is
  exact ((newlySet_of_eq hev).trans (newlySet_raiseHeld v (40 + mc.val) 10 (by decide))).trans (newlySet_of_eq rfl)

/-- R441: what MR4 reports, but for its events. -/
def State.mr4Told (s : State) (mc : Fin 6) (code : Byte) (means : Mr4) : State :=
  s.setMc mc fun x => { x with mr4 := code, derated := means != .normal }

theorem State.quiet_mr4 (s : State) (mc : Fin 6) (code : Byte) (means : Mr4) :
    (s.mr4 mc code means).quiet = (s.mr4Told mc code means).quiet :=
  (State.quiet_raiseLevel ..).trans (State.quiet_raiseLevel ..)

/-- R441: TEMP_DERATE and TEMP_CRIT occur when their causes begin. -/
theorem State.newlySet_mr4 (s : State) (mc : Fin 6) (code : Byte) (means : Mr4) :
    newlySet s (s.mr4 mc code means)
      ((if means ≠ .normal ∧ s.standing (Fin.ofNat 53 (40 + mc.val)) 7 = false then [(40 + mc.val, 7)] else []) ++
        (if means = .beyond ∧ s.standing (Fin.ofNat 53 (40 + mc.val)) 8 = false then [(40 + mc.val, 8)] else [])) := by
  have hK := State.mcBlock_lt mc
  have hval : (Fin.ofNat 53 (40 + mc.val)).val = 40 + mc.val := Nat.mod_eq_of_lt hK
  have hother : ((s.mr4Told mc code means).raiseLevel (means != .normal) (40 + mc.val) 7).standing
      (Fin.ofNat 53 (40 + mc.val)) 8 = s.standing (Fin.ofNat 53 (40 + mc.val)) 8 :=
    State.standing_raiseLevel_ne (s.mr4Told mc code means) _ (by simp) (by rw [hval]; simp)
  have h7 := newlySet_raiseLevel (s.mr4Told mc code means) (means != .normal) hK (B := 7) (by decide)
  have h8 := newlySet_raiseLevel ((s.mr4Told mc code means).raiseLevel (means != .normal) (40 + mc.val) 7)
    (means == .beyond) hK (B := 8) (by decide)
  rw [hother] at h8
  have hboth : newlySet s (s.mr4 mc code means) _ := newlySet.trans (t := s.mr4Told mc code means) (newlySet_of_eq rfl)
    (h7.trans h8)
  refine hboth.of_eq_list ?_
  rw [List.nil_append]
  simp only [bne_iff_ne, beq_iff_eq]
  rfl

theorem exec_mr4Report (hready : (s.ticked dt).mem.ctls[mc].state = 2 ∨ (s.ticked dt).mem.ctls[mc].state = 3) (code : Byte)
    (means : Mr4) : ∃ t, exec (.mr4Report dt mc code means) s = .next t ∧
      becomes (s.ticked dt) ((s.ticked dt).mr4Told mc code means) t
        ((if means ≠ .normal ∧ (s.ticked dt).standing (Fin.ofNat 53 (40 + mc.val)) 7 = false then [(40 + mc.val, 7)] else []) ++
          (if means = .beyond ∧ (s.ticked dt).standing (Fin.ofNat 53 (40 + mc.val)) 8 = false then [(40 + mc.val, 8)]
            else [])) := by
  refine ⟨_, exec_mr4Report_eq code means, ?_⟩
  rw [if_pos (State.mcOn_of_ready hready)]
  exact becomes_reported (State.quiet_mr4 ..) (State.newlySet_mr4 (s.ticked dt) mc code means) _

theorem source_of_newlySet {t : State} {l : List (Nat × Nat)} {k b : Nat} (h : newlySet u t l) (hk : k < 53)
    (hr : reportSource k b = false) : t.source k b = (u.source k b || l.contains (k, b)) := by
  have hval : (Fin.ofNat 53 k).val = k := Nat.mod_eq_of_lt hk
  have hbit := h (Fin.ofNat 53 k) b (by rw [hval]; exact hr)
  rw [hval] at hbit
  exact hbit

end

theorem reportSource_mc (mc : Fin 6) (b : Fin 32) : reportSource (40 + mc.val) b.val = false := by
  revert mc b; decide

/-- Settles O8: the report sets DERATED, and its two sources occur as their causes begin. -/
theorem temperatureReports : Obligations.TemperatureReports := by
  unfold Obligations.TemperatureReports
  intro dt mc code s u k held hready
  refine ⟨?_, ?_⟩
  · obtain ⟨t, ht, hquiet, hset⟩ := exec_mr4Report hready code .raised
    refine ⟨t, ht, ?_, ?_⟩
    · rw [State.mem_of_quiet hquiet]
      exact congrArg MemCtl.derated (State.ctl_setMc_same ..)
    · refine (source_of_newlySet (b := 7) hset (State.mcBlock_lt mc) (reportSource_mc mc 7)).trans ?_
      show _ = (_ || !u.standing (Fin.ofNat 53 k) 7)
      cases hstands : (s.ticked dt).standing (Fin.ofNat 53 (40 + mc.val)) 7 <;> simp [u, k]
  · obtain ⟨t, ht, -, hset⟩ := exec_mr4Report hready code .beyond
    refine ⟨t, ht, ?_⟩
    refine (source_of_newlySet (b := 8) hset (State.mcBlock_lt mc) (reportSource_mc mc 8)).trans ?_
    show _ = (_ || !u.standing (Fin.ofNat 53 k) 8)
    cases hstands : (s.ticked dt).standing (Fin.ofNat 53 (40 + mc.val)) 8 <;>
      cases (s.ticked dt).standing (Fin.ofNat 53 (40 + mc.val)) 7 <;> simp [u, k]

/-! ### Scrubbing -/

section
variable {s u v : State} {dt : Nat} {mc : Fin 6} {w : Nat}

/-- R442: what an error of a read leaves in its channel. -/
def MemCtl.noted (x : MemCtl) (word : Nat) (uncorr : Bool) : MemCtl :=
  { x with corr := if uncorr then x.corr else satInc 16 x.corr, uncorr := if uncorr then satInc 16 x.uncorr else x.uncorr
           eccUncorr := uncorr, eccWord := word % 2 ^ 30 }

/-- R442: the source of an error. -/
def eccSource (uncorr : Bool) : Nat := if uncorr then 3 else 2

theorem State.noteEcc_eq (s : State) (mc : Fin 6) (word : Nat) (uncorr : Bool) :
    s.noteEcc mc word uncorr = (s.setMc mc fun x => x.noted word uncorr).raise (40 + mc.val) (eccSource uncorr) := rfl

/-- R443: the channel whose scrubber goes on to the next line. -/
def State.nextLine (s : State) (mc : Fin 6) : State := s.setMc mc fun y => { y with line := y.line + 1 }

/-- R442: the scrubber of a channel that is ready has a line to read. -/
theorem State.scrub_goes_on (hready : s.mem.ctls[mc].state = 2 ∨ s.mem.ctls[mc].state = 3)
    (hleft : s.mem.ctls[mc].line < s.mcLines) :
    ¬(!s.mcOn mc || decide (s.mcLines ≤ s.mem.ctls[mc].line)) = true := by
  rw [State.mcOn_of_ready hready, decide_eq_false (Nat.not_le.2 hleft)]
  decide

section
variable (hready : s.mem.ctls[mc].state = 2 ∨ s.mem.ctls[mc].state = 3) (hleft : s.mem.ctls[mc].line < s.mcLines)
include hready hleft

theorem State.scrub_clean : s.scrub mc .clean = s.nextLine mc := if_neg (State.scrub_goes_on hready hleft)

theorem State.scrub_corrected (w : Fin 8) :
    s.scrub mc (.corrected w) = (s.nextLine mc).scrubCorr mc (s.mem.ctls[mc].line * 8 + w.val) :=
  if_neg (State.scrub_goes_on hready hleft)

theorem State.scrub_uncorrectable (w : Fin 8) :
    s.scrub mc (.uncorrectable w) = (s.nextLine mc).noteEcc mc (s.mem.ctls[mc].line * 8 + w.val) true :=
  if_neg (State.scrub_goes_on hready hleft)

end

/-- R443: a corrected word joins the errors of the pass. -/
theorem becomes_scrubCorr_new (hnew : w ∉ v.mem.ctls[mc].lastErrs) (hev : v.ev.blocks = u.ev.blocks) (is : List Instr) :
    becomes u (v.setMc mc fun y => { y.noted w false with errs := w :: y.errs }) ((v.scrubCorr mc w).settle is)
      [(40 + mc.val, 2)] := by
  have hcorr : v.scrubCorr mc w = (v.noteEcc mc w false).setMc mc fun y => { y with errs := w :: y.errs } := by
    unfold State.scrubCorr
    exact if_neg (by simpa using hnew)
  rw [hcorr, State.noteEcc_eq]
  refine becomes_reported ?_ ?_ is
  · rw [State.quiet_setMc_congr (State.quiet_raise ..), State.setMc_setMc]
    rfl
  · exact ((newlySet_of_eq hev).trans (newlySet_raise (v.setMc mc fun x => x.noted w false) (40 + mc.val) 2 (by decide))).trans
      (newlySet_of_eq rfl)

/-- R442: an uncorrectable error is counted, its word recorded, and reported. -/
theorem becomes_noteEcc_uncorr (hev : v.ev.blocks = u.ev.blocks) (is : List Instr) :
    becomes u (v.setMc mc fun x => x.noted w true) ((v.noteEcc mc w true).settle is) [(40 + mc.val, 3)] :=
  becomes_raise (e := v.setMc mc fun x => x.noted w true) hev (by decide) is

/-- R443, R528: listing a row reports it and touches of its channel only that a repair is pending. -/
theorem State.listRow_lists (s : State) (mc : Fin 6) (w : Nat) :
    newlySet s (s.listRow mc w) [(40 + mc.val, 14)] ∧
      (s.listRow mc w).mem = (s.setMc mc fun x => { x with repairPending := true }).mem := by
  have hset := newlySet_raiseHeld (s.setMc mc fun x => { x with repairPending := true }) (40 + mc.val) 14 (by decide)
  have hmem := State.mem_of_quiet (State.quiet_raiseHeld (s.setMc mc fun x => { x with repairPending := true }) (40 + mc.val) 14)
  have hfirst : newlySet s (s.setMc mc fun x => { x with repairPending := true }) [] := newlySet_of_eq rfl
  unfold State.listRow
  dsimp only
  split
  · exact ⟨hfirst.trans hset, hmem⟩
  · exact ⟨(hfirst.trans hset).trans (newlySet_of_eq rfl), hmem⟩

/-- R443: a word that was corrected in the last pass too is reported as repeated, and its row is listed. -/
theorem State.scrubCorr_repeated (hold : w ∈ s.mem.ctls[mc].lastErrs) :
    newlySet s (s.scrubCorr mc w) [(40 + mc.val, 2), (40 + mc.val, 4), (40 + mc.val, 14)] ∧
      (s.scrubCorr mc w).mem.ctls[mc] =
        { s.mem.ctls[mc].noted w false with errs := w :: s.mem.ctls[mc].errs, repairPending := true } := by
  let e : State := s.setMc mc fun x => x.noted w false
  let x : State := (e.raise (40 + mc.val) 2).setMc mc fun y => { y with errs := w :: y.errs }
  have hcorr : s.scrubCorr mc w = (x.raiseHeld (40 + mc.val) 4).listRow mc w := by
    unfold State.scrubCorr
    exact if_pos (by simpa using hold)
  obtain ⟨hlist, hmem⟩ := State.listRow_lists (x.raiseHeld (40 + mc.val) 4) mc w
  have hnoted : newlySet s x [(40 + mc.val, 2)] :=
    newlySet.trans (t := e) (newlySet_of_eq rfl) ((newlySet_raise e (40 + mc.val) 2 (by decide)).trans (newlySet_of_eq rfl))
  have hrepeated := newlySet_raiseHeld x (40 + mc.val) 4 (by decide)
  rw [hcorr]
  refine ⟨(hnoted.trans hrepeated).trans hlist, ?_⟩
  rw [hmem, State.ctl_setMc_same, State.mem_of_quiet (State.quiet_raiseHeld x (40 + mc.val) 4), State.ctl_setMc_same,
    State.mem_of_quiet (State.quiet_raise e (40 + mc.val) 2), State.ctl_setMc_same]
  rfl

/-- R443: a pass that has read every line ends. -/
theorem becomes_scrubPass_ended (hready : u.mem.ctls[mc].state = 2 ∨ u.mem.ctls[mc].state = 3)
    (hall : u.mcLines ≤ u.mem.ctls[mc].line) (is : List Instr) :
    becomes u (u.setMc mc fun y => { y with
      line := 0, passAt := u.now, passes := satInc 16 y.passes, lastErrs := y.errs, errs := [] })
      ((u.scrubPass mc).settle is) [(40 + mc.val, 5)] := by
  let e : State := u.setMc mc fun y => { y with
    line := 0, passAt := u.now, passes := satInc 16 y.passes, lastErrs := y.errs, errs := [] }
  have hon : ¬(!u.mcOn mc) = true := by rw [State.mcOn_of_ready hready]; decide
  have hset : newlySet u (e.raise (40 + mc.val) 5) [(40 + mc.val, 5)] :=
    newlySet.trans (t := e) (newlySet_of_eq rfl) (newlySet_raise e (40 + mc.val) 5 (by decide))
  have hpass : u.scrubPass mc = if decide (u.mem.ctls[mc].passAt + u.scrubTicks < u.now) = true then e.raise (40 + mc.val) 5
      else (e.raise (40 + mc.val) 5).causeGone (40 + mc.val) 6 := by
    unfold State.scrubPass
    exact (if_neg hon).trans (if_pos hall)
  rw [hpass]
  split
  · exact becomes_reported (State.quiet_raise ..) hset is
  · exact becomes_reported ((State.quiet_causeGone ..).trans (State.quiet_raise ..))
      (hset.trans (newlySet_causeGone _ (40 + mc.val) 6)) is

/-- R443: a pass that goes on is reported late when it is, once. -/
theorem becomes_scrubPass_running (hready : u.mem.ctls[mc].state = 2 ∨ u.mem.ctls[mc].state = 3)
    (hleft : u.mem.ctls[mc].line < u.mcLines) (is : List Instr) :
    becomes u u ((u.scrubPass mc).settle is)
      (if decide (u.mem.ctls[mc].passAt + u.scrubTicks < u.now) = true ∧ u.standing (Fin.ofNat 53 (40 + mc.val)) 6 = false
        then [(40 + mc.val, 6)] else []) := by
  have hon : ¬(!u.mcOn mc) = true := by rw [State.mcOn_of_ready hready]; decide
  have hpass : u.scrubPass mc = if decide (u.mem.ctls[mc].passAt + u.scrubTicks < u.now) = true
      then u.raiseLevel true (40 + mc.val) 6 else u := by
    unfold State.scrubPass
    exact (if_neg hon).trans (if_neg (Nat.not_le.2 hleft))
  rw [hpass]
  split
  · next hlate =>
    refine becomes_reported (State.quiet_raiseLevel ..) ?_ is
    refine (newlySet_raiseLevel u true (State.mcBlock_lt mc) (B := 6) (by decide)).of_eq_list ?_
    simp only [hlate, true_and]
  · next hearly =>
    rw [if_neg fun h => hearly h.1]
    exact becomes_settle_nil rfl is

/-- R443: a line whose corrected word the last pass corrected too. -/
theorem exec_patrolScrub_repeated {w : Fin 8}
    (hready : (s.ticked dt).mem.ctls[mc].state = 2 ∨ (s.ticked dt).mem.ctls[mc].state = 3)
    (hleft : (s.ticked dt).mem.ctls[mc].line < (s.ticked dt).mcLines)
    (hold : (s.ticked dt).mem.ctls[mc].line * 8 + w.val ∈ (s.ticked dt).mem.ctls[mc].lastErrs) :
    ∃ t, exec (.patrolScrub dt mc (.corrected w)) s = .next t ∧
      newlySet (s.ticked dt) t [(40 + mc.val, 2), (40 + mc.val, 4), (40 + mc.val, 14)] ∧
      t.mem.ctls[mc].corr = satInc 16 (s.ticked dt).mem.ctls[mc].corr ∧ t.mem.ctls[mc].repairPending = true ∧
      t.mem.ctls[mc].line = (s.ticked dt).mem.ctls[mc].line + 1 := by
  have hline := State.ctl_setMc_same (s.ticked dt) mc fun y => { y with line := y.line + 1 }
  obtain ⟨hset, hctl⟩ := State.scrubCorr_repeated (s := (s.ticked dt).nextLine mc) (mc := mc)
    (w := (s.ticked dt).mem.ctls[mc].line * 8 + w.val) (by rw [State.nextLine, hline]; exact hold)
  have hnext : newlySet (s.ticked dt) ((s.ticked dt).nextLine mc) [] := newlySet_of_eq rfl
  obtain ⟨hquiet, hsources⟩ := becomes_settle (hnext.trans hset) s.pending
  refine ⟨_, exec_patrolScrub_eq (.corrected w), ?_⟩
  rw [State.scrub_corrected hready hleft, State.mem_of_quiet hquiet, hctl, State.nextLine, hline]
  exact ⟨hsources, rfl, rfl, rfl⟩

end

/-- Settles O44: maintenance by the kind of the action, scrubbing by what the line gave, and the end of a pass. -/
theorem memoryMaintenance : Obligations.MemoryMaintenance := by
  unfold Obligations.MemoryMaintenance
  refine ⟨fun dt mc s => ?_, fun dt mc s => ?_⟩
  · intro u k held stalled hready
    have hon : u.mcOn mc = true := State.mcOn_of_ready hready
    obtain ⟨n, hn, hstall⟩ := u.stall_le mc 150
    refine ⟨?_, ?_, fun drift hsmall => ?_, fun drift hlarge hnone => ?_, fun code means => ?_⟩
    · exact ⟨_, exec_perBankRefresh_eq, becomes_settle_nil rfl _⟩
    · obtain ⟨m, hm, hlatch⟩ := u.stall_le mc 50
      refine ⟨_, m, exec_zqLatch_eq, hm, ?_⟩
      rw [if_pos hon, hlatch]
      exact becomes_settle_nil rfl _
    · refine ⟨_, n, exec_wckTracking_eq drift, hn, ?_⟩
      rw [State.trackWck_eq hready, if_neg (Nat.not_lt.2 hsmall), hstall]
      exact becomes_settle_nil rfl _
    · refine ⟨_, n, exec_wckTracking_eq drift, hn, ?_⟩
      rw [State.trackWck_eq hready, if_pos hlarge, hstall]
      exact becomes_drift (by rw [State.ctl_setMc_same]; exact hnone) rfl
    · exact exec_mr4Report hready code means
  · intro u k x next late hready
    refine ⟨fun hleft => ⟨?_, fun w hnew => ?_, fun w hold => ?_, fun w => ?_⟩, fun hall => ?_, fun hleft => ?_⟩
    · refine ⟨_, exec_patrolScrub_eq .clean, ?_⟩
      rw [State.scrub_clean hready hleft]
      exact becomes_settle_nil rfl _
    · refine ⟨_, exec_patrolScrub_eq (.corrected w), ?_⟩
      rw [State.scrub_corrected hready hleft]
      exact becomes_scrubCorr_new (v := u.nextLine mc) (by rw [State.nextLine, State.ctl_setMc_same]; exact hnew) rfl _
    · exact exec_patrolScrub_repeated hready hleft hold
    · refine ⟨_, exec_patrolScrub_eq (.uncorrectable w), ?_⟩
      rw [State.scrub_uncorrectable hready hleft]
      exact becomes_noteEcc_uncorr (v := u.nextLine mc) rfl _
    · exact ⟨_, exec_scrubPassEnd_eq, becomes_scrubPass_ended hready hall _⟩
    · exact ⟨_, exec_scrubPassEnd_eq, becomes_scrubPass_running hready hleft _⟩

/-! ### Training of a channel -/

section
variable {s t u v : State} {dt : Nat} {mc : Fin 6} {ok : Bool}

/-- R436, R499: the leave of a channel's training. -/
def trainsOf (mc : Fin 6) (w : Requester) : Bool := match w with | .training k _ => k == mc | _ => false

theorem exec_channelTraining_eq (ok : Bool) :
    exec (.channelTraining dt mc ok) s = .next (((s.ticked dt).channelTrained mc ok).settle s.pending) := rfl

theorem State.quiet_release_congr (h : t.quiet = s.quiet) (f : Requester → Bool) :
    (t.release f).quiet = (s.release f).quiet := congrArg (State.release · f) h

theorem State.pwr_of_quiet (h : t.quiet = s.quiet) : t.pwr = s.pwr := State.eq_of_quiet State.pwr (fun _ => rfl) h

theorem State.holds_congr (h : t.pwr = s.pwr) (f : Requester → Bool) : t.holds f = s.holds f := by
  unfold State.holds
  rw [h]

theorem State.asked_congr (h : t.pwr = s.pwr) (f : Requester → Bool) : t.asked f = s.asked f := by
  unfold State.asked
  rw [h]

theorem State.pwr_release_congr (h : t.pwr = s.pwr) (f : Requester → Bool) : (t.release f).pwr = (s.release f).pwr := by
  unfold State.release
  rw [h]

/-- R436: a first failure is retried. -/
theorem State.channelTrained_retried (hstate : s.mem.ctls[mc].state = 1) (hfirst : s.mem.ctls[mc].retried = false) :
    s.channelTrained mc false = s.setMc mc fun x => { x with retried := true } := by
  have hend : s.trainEnd mc false = s.setMc mc fun x => { x with retried := true } :=
    (if_neg Bool.false_ne_true).trans (if_neg (ne_true_of_eq_false hfirst))
  unfold State.channelTrained
  rw [hend, if_neg (by rw [hstate]; decide)]
  exact if_pos (by rw [State.ctl_setMc_same]; exact hstate)

theorem State.channelTrained_ended (hstate : s.mem.ctls[mc].state = 1) (hend : (s.trainEnd mc ok).mem.ctls[mc].state ≠ 1) :
    s.channelTrained mc ok = ((s.trainEnd mc ok).release (trainsOf mc)).trainingEnds := by
  unfold State.channelTrained
  rw [if_neg (by rw [hstate]; decide)]
  exact if_neg hend

/-- R437: while another channel trains, or waits to, no interleave set is chosen. -/
theorem State.trainingEnds_of_held (h : s.holds isTraining = true) : s.trainingEnds = s := if_pos (by rw [h]; rfl)

/-- R436: the channel after its training passed. -/
def State.trained (s : State) (mc : Fin 6) : State :=
  s.setMc mc fun x => { x with state := 2, retried := false, slicesLeft := 0, passAt := s.now, line := 0 }

/-- R436: the channel after its training failed again. -/
def State.untrained (s : State) (mc : Fin 6) : State := s.setMc mc fun x => { x with state := 5, inUse := false }

theorem State.trainEnd_failed (hagain : s.mem.ctls[mc].retried = true) :
    s.trainEnd mc false = (s.untrained mc).raiseHeld (40 + mc.val) 0 :=
  (if_neg Bool.false_ne_true).trans (if_pos hagain)

theorem State.trainEnd_passed (s : State) (mc : Fin 6) :
    s.trainEnd mc true = (((s.trained mc).repairRows mc).causeGone (40 + mc.val) 15).raise (40 + mc.val) 1 := rfl

/-- R436: a channel whose training failed twice is out of use. -/
theorem becomes_untrained (hstate : u.mem.ctls[mc].state = 1) (hheld : (u.release (trainsOf mc)).holds isTraining = true)
    (hagain : u.mem.ctls[mc].retried = true) (is : List Instr) :
    becomes u ((u.release (trainsOf mc)).untrained mc) ((u.channelTrained mc false).settle is) [(40 + mc.val, 0)] := by
  have hquiet : (u.trainEnd mc false).quiet = (u.untrained mc).quiet := by
    rw [State.trainEnd_failed hagain]
    exact State.quiet_raiseHeld ..
  have hend : (u.trainEnd mc false).mem.ctls[mc].state ≠ 1 := by
    rw [State.mem_of_quiet hquiet, State.untrained, State.ctl_setMc_same]
    exact (by decide : (5 : Nat) ≠ 1)
  have hstill : ((u.trainEnd mc false).release (trainsOf mc)).holds isTraining = true := by
    rw [State.holds_congr (State.pwr_release_congr (State.pwr_of_quiet hquiet) (trainsOf mc))]
    exact hheld
  rw [State.channelTrained_ended hstate hend, State.trainingEnds_of_held hstill]
  refine becomes_reported (State.quiet_release_congr hquiet (trainsOf mc)) ?_ is
  rw [State.trainEnd_failed hagain]
  exact (newlySet.trans (t := u.untrained mc) (newlySet_of_eq rfl)
    (newlySet_raiseHeld (u.untrained mc) (40 + mc.val) 0 (by decide))).trans (newlySet_of_eq rfl)

/-- R443: rows are marked as repaired in the working set, and nothing but this and the channel's flag changes. -/
structure State.Repairs (s : State) (mc : Fin 6) (t : State) : Prop where
  states : ∀ i : Fin 6, t.mem.ctls[i].state = s.mem.ctls[i].state
  recs : t.recs = s.recs
  pwr : t.pwr = s.pwr
  ports : t.ports = s.ports

theorem State.Repairs.of_quiet (h : t.quiet = s.quiet) : s.Repairs mc t where
  states i := by rw [State.mem_of_quiet h]
  recs := State.recs_of_quiet h
  pwr := State.pwr_of_quiet h
  ports := State.ports_of_quiet h

theorem State.Repairs.trans (h : s.Repairs mc t) (h' : t.Repairs mc v) : s.Repairs mc v where
  states i := (h'.states i).trans (h.states i)
  recs := h'.recs.trans h.recs
  pwr := h'.pwr.trans h.pwr
  ports := h'.ports.trans h.ports

theorem State.ctl_state_setMc (s : State) {mc : Fin 6} {f : MemCtl → MemCtl} (hf : ∀ x, (f x).state = x.state) (i : Fin 6) :
    (s.setMc mc f).mem.ctls[i].state = s.mem.ctls[i].state := by
  show (upd s.mem.ctls mc f)[i].state = _
  rw [upd_get]
  split
  · next h => rw [hf, h]
  · rfl

/-- R443: the rows of a repair list that await their repair are marked in the working set. -/
theorem State.repairRows_enabled (h : s.au 0x0110 65535 5 1 = 1) (mc : Fin 6) :
    ∃ n : Nvm, s.repairRows mc =
      (({ s with nvm := n } : State).setMc mc fun x => { x with repairPending := false }).causeGone (40 + mc.val) 4 :=
  ⟨_, if_pos h⟩

theorem State.repairs_repairRows (s : State) (mc : Fin 6) : s.Repairs mc (s.repairRows mc) := by
  by_cases h : s.au 0x0110 65535 5 1 = 1
  · obtain ⟨n, hrows⟩ := State.repairRows_enabled h mc
    have hmarked : s.Repairs mc (({ s with nvm := n } : State).setMc mc fun x => { x with repairPending := false }) :=
      ⟨fun i => State.ctl_state_setMc { s with nvm := n } (f := fun x => { x with repairPending := false }) (fun _ => rfl) i,
        rfl, rfl, rfl⟩
    rw [hrows]
    exact hmarked.trans (.of_quiet (State.quiet_causeGone ..))
  · rw [show s.repairRows mc = s from if_neg h]
    exact .of_quiet rfl

theorem State.repairs_trainEnd (s : State) (mc : Fin 6) : (s.trained mc).Repairs mc (s.trainEnd mc true) := by
  rw [State.trainEnd_passed]
  exact ((s.trained mc).repairs_repairRows mc).trans
    (.of_quiet ((State.quiet_raise ..).trans (State.quiet_causeGone ..)))

theorem State.trainEnd_passed_state (s : State) (mc : Fin 6) : (s.trainEnd mc true).mem.ctls[mc].state = 2 := by
  rw [(s.repairs_trainEnd mc).states, State.trained, State.ctl_setMc_same]

/-- R436: a channel whose training passed is ready. -/
theorem becomes_trained (hstate : u.mem.ctls[mc].state = 1) (hheld : (u.release (trainsOf mc)).holds isTraining = true)
    (hnorepair : u.au 0x0110 65535 5 1 ≠ 1) (is : List Instr) :
    becomes u ((u.release (trainsOf mc)).trained mc) ((u.channelTrained mc true).settle is) [(40 + mc.val, 1)] := by
  have hrows : (u.trained mc).repairRows mc = u.trained mc := if_neg hnorepair
  have hend : (u.trainEnd mc true).mem.ctls[mc].state ≠ 1 := by
    rw [State.trainEnd_passed_state]
    decide
  have hstill : ((u.trainEnd mc true).release (trainsOf mc)).holds isTraining = true := by
    rw [State.holds_congr (State.pwr_release_congr (u.repairs_trainEnd mc).pwr (trainsOf mc))]
    exact hheld
  rw [State.channelTrained_ended hstate hend, State.trainingEnds_of_held hstill, State.trainEnd_passed, hrows]
  refine becomes_reported (State.quiet_release_congr (s := u.trained mc) ?_ (trainsOf mc)) ?_ is
  · exact (State.quiet_raise ..).trans (State.quiet_causeGone ..)
  · have hgone := newlySet_causeGone (u.trained mc) (40 + mc.val) 15
    have hraise := newlySet_raise ((u.trained mc).causeGone (40 + mc.val) 15) (40 + mc.val) 1 (by decide)
    exact (newlySet.trans (t := u.trained mc) (newlySet_of_eq rfl) (hgone.trans hraise)).trans (newlySet_of_eq rfl)

/-! ### The interleave set -/

theorem State.quiet_foldl {α : Type} {f : State → α → State} (hf : ∀ s a, (f s a).quiet = s.quiet) (l : List α) (s : State) :
    (l.foldl f s).quiet = s.quiet := by
  induction l generalizing s with
  | nil => rfl
  | cons a l ih => exact (ih _).trans (hf s a)

/-- R448: the plan follows the store; of it only PLANNED and an event are new. -/
theorem State.quiet_refreshPlan (s : State) :
    s.refreshPlan.quiet = ({ s with mem := { s.mem with planned := s.plannedOf s.recs.active } } : State).quiet :=
  State.quiet_foldl (fun _ _ => State.quiet_raiseLevel ..) _ _

/-- R437: the interleave set of the channels that are ready. -/
theorem State.chooseSet_chosen (s : State) :
    s.chooseSet.mem.n =
        trainedSet (fun i => decide (i < 6) && s.chEnabled i && s.mem.ctls[Fin.ofNat 6 i].state == 2) ∧
      s.chooseSet.mem.rate = s.au 0x0110 65535 1 1 ∧
      ∀ i : Fin 6, s.chooseSet.mem.ctls[i].inUse = decide (i.val < s.chooseSet.mem.n) := by
  refine ⟨rfl, rfl, fun i => ?_⟩
  unfold State.chooseSet
  dsimp only
  rw [updAll_get]
  split
  · next h => exact (decide_eq_true h).symm
  · next h => exact (decide_eq_false h).symm

theorem State.trainingEnds_of_last (hheld : s.holds isTraining = false) (hasked : s.asked isTraining = false)
    (hidle : s.idlePorts) : s.trainingEnds = s.chooseSet.refreshPlan := by
  have hidle' : s.chooseSet.refreshPlan.idlePorts := fun p hp => by
    rw [State.port_of_quiet (State.quiet_refreshPlan s.chooseSet)]
    exact hidle p hp
  unfold State.trainingEnds
  rw [hheld, hasked]
  exact (if_neg Bool.false_ne_true).trans (State.answerWaiting_of_idle hidle' _ _)

/-- R437: once no channel trains any more, the interleave set is chosen of those that are ready. -/
theorem State.channelTrained_last (hstate : s.mem.ctls[mc].state = 1)
    (hheld : (s.release (trainsOf mc)).holds isTraining = false)
    (hasked : (s.release (trainsOf mc)).asked isTraining = false) (hidle : s.idlePorts)
    (hquiet : t.quiet = (s.channelTrained mc true).quiet) :
    t.mem.n = trainedSet (fun i => decide (i < 6) && s.chEnabled i && (i == mc.val || s.mem.ctls[Fin.ofNat 6 i].state == 2)) ∧
      t.mem.rate = s.au 0x0110 65535 1 1 ∧ ∀ i : Fin 6, t.mem.ctls[i].inUse = decide (i.val < t.mem.n) := by
  obtain ⟨hstates, hrecs, hpwr, hports⟩ := s.repairs_trainEnd mc
  have hend : (s.trainEnd mc true).mem.ctls[mc].state ≠ 1 := by
    rw [State.trainEnd_passed_state]
    decide
  let g : State := (s.trainEnd mc true).release (trainsOf mc)
  have hheld' : g.holds isTraining = false := by
    rw [State.holds_congr (State.pwr_release_congr hpwr (trainsOf mc))]
    exact hheld
  have hasked' : g.asked isTraining = false := by
    rw [State.asked_congr (State.pwr_release_congr hpwr (trainsOf mc))]
    exact hasked
  have hidle' : g.idlePorts := fun p hp => by
    show ((s.trainEnd mc true).ports[p.idx]).running = none
    rw [hports]
    exact hidle p hp
  have hau : ∀ off n, g.au 0x0110 65535 off n = s.au 0x0110 65535 off n := fun off n => by
    unfold State.au
    rw [show g.recs = s.recs from hrecs]
  have hready : (fun i => decide (i < 6) && g.chEnabled i && g.mem.ctls[Fin.ofNat 6 i].state == 2) =
      fun i => decide (i < 6) && s.chEnabled i && (i == mc.val || s.mem.ctls[Fin.ofNat 6 i].state == 2) := by
    funext i
    have hen : g.chEnabled i = s.chEnabled i := congrArg (Nat.testBit · i) (hau 0 1)
    rw [hen]
    by_cases hi : i < 6
    · have hval : (Fin.ofNat 6 i).val = i := Nat.mod_eq_of_lt hi
      have hst : g.mem.ctls[Fin.ofNat 6 i].state = if mc = Fin.ofNat 6 i then 2 else s.mem.ctls[Fin.ofNat 6 i].state := by
        refine (hstates _).trans ?_
        show (upd s.mem.ctls mc _)[Fin.ofNat 6 i].state = _
        rw [upd_get]
        split <;> rfl
      rw [hst]
      by_cases hmc : mc = Fin.ofNat 6 i
      · have hsame : (i == mc.val) = true := beq_iff_eq.2 (by rw [hmc]; exact hval.symm)
        rw [if_pos hmc, hsame, Bool.true_or]
        rfl
      · have hne : (i == mc.val) = false := beq_false_of_ne fun e => hmc (Fin.ext (e ▸ hval.symm))
        rw [if_neg hmc, hne, Bool.false_or]
    · simp [hi]
  have hmem : t.mem = { g.chooseSet.mem with planned := g.chooseSet.plannedOf g.chooseSet.recs.active } := by
    rw [State.mem_of_quiet hquiet, State.channelTrained_ended hstate hend,
      State.trainingEnds_of_last hheld' hasked' hidle', State.mem_of_quiet (State.quiet_refreshPlan g.chooseSet)]
  obtain ⟨hn, hrate, huse⟩ := g.chooseSet_chosen
  rw [hready] at hn
  rw [hmem]
  exact ⟨hn, hrate.trans (hau 1 1), huse⟩

end

/-! ### Retraining slices -/

section
variable {s u : State} {dt : Nat} {mc : Fin 6} {ok : Bool}

theorem exec_retrainingSlice_eq :
    exec (.retrainingSlice dt mc ok) s = .next (((s.ticked dt).slice mc ok).settle s.pending) := rfl

/-- R440: a channel after one slice, whose stall was `n` ticks and which took `m` free values. -/
def State.sliced (s : State) (mc : Fin 6) (ok : Bool) (n m : Nat) : State :=
  { s with freeCtr := s.freeCtr + m }.setMc mc fun y => { y with
    maxStall := max y.maxStall n, slicesLeft := y.slicesLeft - 1, slices := satInc 16 y.slices, sliceAt := s.now
    sliceBad := y.sliceBad || !ok, state := if y.slicesLeft = 1 then 2 else 3 }

/-- R440: the retraining of a channel ended, with the elements that it measured. -/
def State.retrained (s : State) (mc : Fin 6) (bad : Bool) : State :=
  let s := (s.causeGone (40 + mc.val) 10).raise (40 + mc.val) 9
  let free (i : Nat) : Nat := Config.freeMeasure (s.freeCtr + i) % 65536
  let es : List CalElem := [⟨0, bit 0 bad, free 0, free 1, free 2⟩, ⟨1, bit 0 bad, free 3, free 4, free 5⟩]
  let s := { s with freeCtr := s.freeCtr + 6 }
  let s := if bad then s else s.setNvm fun n => { n with changes := n.changes + 1 }
  s.partEnded ⟨3, mc.val⟩ (if bad then 1 else 0) es

/-- R440: what a slice of a channel that is called for does. -/
theorem State.slice_runs (hready : s.mem.ctls[mc].state = 2 ∨ s.mem.ctls[mc].state = 3)
    (hspaced : s.mem.ctls[mc].slices = 0 ∨ s.mem.ctls[mc].sliceAt + 40000 ≤ s.now) (hleft : s.mem.ctls[mc].slicesLeft ≠ 0) :
    ∃ n, n ≤ 2000 ∧ s.slice mc ok = if s.mem.ctls[mc].slicesLeft ≠ 1 then s.sliced mc ok n 1
      else (s.sliced mc ok n 1).retrained mc (s.mem.ctls[mc].sliceBad || !ok) := by
  obtain ⟨n, hn, hstall⟩ := s.stall_le mc 2000
  refine ⟨n, hn, ?_⟩
  have hcalled : ¬(s.mem.ctls[mc].slicesLeft = 0 ∨ (!(s.mem.ctls[mc].state == 2 || s.mem.ctls[mc].state == 3)) = true) := by
    rintro (h | h)
    · exact hleft h
    · rcases hready with e | e <;> rw [e] at h <;> exact absurd h (by decide)
  have hwait : ¬((s.mem.ctls[mc].slices != 0) = true ∧ s.now < s.mem.ctls[mc].sliceAt + ticksOfUs 100) := by
    rintro ⟨h, hlt⟩
    rcases hspaced with e | e
    · rw [e] at h; exact absurd h (by decide)
    · exact absurd hlt (Nat.not_lt.2 e)
  have hsliced : (s.stall mc 2000).setMc mc (fun y => { y with
      slicesLeft := y.slicesLeft - 1, slices := satInc 16 y.slices, sliceAt := s.now, sliceBad := y.sliceBad || !ok
      state := if y.slicesLeft = 1 then 2 else 3 }) = s.sliced mc ok n 1 := by
    rw [hstall, State.setMc_setMc]
    rfl
  have hslice : s.slice mc ok = if (s.mem.ctls[mc].slicesLeft != 1) = true then s.sliced mc ok n 1
      else (s.sliced mc ok n 1).retrained mc (s.mem.ctls[mc].sliceBad || !ok) := by
    rw [← hsliced]
    exact (if_neg hcalled).trans (if_neg hwait)
  rw [hslice]
  simp only [bne_iff_ne]

/-- R440: a channel that no retraining is called for, or whose last slice is too near, runs none. -/
theorem State.slice_held (h : s.mem.ctls[mc].slicesLeft = 0 ∨
    (s.mem.ctls[mc].slices ≠ 0 ∧ s.now < s.mem.ctls[mc].sliceAt + 40000)) : s.slice mc ok = s := by
  unfold State.slice
  dsimp only
  split
  · rfl
  · next hcalled =>
    rcases h with h | ⟨hsome, hnear⟩
    · exact absurd (.inl h) hcalled
    · exact if_pos ⟨bne_iff_ne.2 hsome, hnear⟩

/-- R522: the elements of a retraining that were rejected. -/
theorem rejected_of_pair (bad : Bool) (a b c d e f : Nat) :
    (([⟨0, bit 0 bad, a, b, c⟩, ⟨1, bit 0 bad, d, e, f⟩] : List CalElem).filter fun x => x.flags % 2 = 1).length =
      2 * bit 0 bad := by
  cases bad <;> rfl

/-- R522, R540: what a part that ends leaves in the store's status, where no run waits for it. -/
def State.partNoted (s : State) (p : CalPart) (result rejected : Nat) : State :=
  s.setNvm fun n => { n with
    last := (p.type, p.target, result, rejected), lastTime := s.time, runs := satInc 16 n.runs
    rejects := if result = 1 then satInc 16 n.rejects else n.rejects }

theorem Nvm.map_runs_of_none {n : Nvm} (h : n.runs_ = []) (f : CalSession → CalSession) :
    ({ n with runs_ := n.runs_.map f } : Nvm) = n := by
  rw [h, List.map_nil, ← h]

/-- R522: a part that no run waits for is noted, logged, and reported when it was rejected. -/
theorem State.partEnded_alone (hnone : s.nvm.runs_ = []) (p : CalPart) (result : Nat) (es : List CalElem) :
    (s.partEnded p result es).quiet = (s.partNoted p result (es.filter fun e => e.flags % 2 = 1).length).quiet ∧
      newlySet s (s.partEnded p result es) (if result = 1 then [(52, 21)] else []) := by
  let rejected := (es.filter fun e => e.flags % 2 = 1).length
  let noted := s.partNoted p result rejected
  have hnoted : s.setNvm (fun n => { n with
      last := (p.type, p.target, result, rejected), lastTime := s.time, runs := satInc 16 n.runs
      rejects := if result = 1 then satInc 16 n.rejects else n.rejects
      runs_ := n.runs_.map fun x => if x.todo.contains p then
        { x with todo := x.todo.filter (· != p), result := joinResults x.result result, rejected := x.rejected + rejected
                 elements := x.elements ++ es } else x }) = noted :=
    congrArg (fun n => ({ s with nvm := n } : State)) (Nvm.map_runs_of_none (n := noted.nvm) hnone _)
  let logged := (noted.raiseIf (result == 1) 52 21).logPart p result rejected es
  have hquiet : logged.quiet = noted.quiet := (State.quiet_log ..).trans (State.quiet_raiseIf ..)
  have hruns : logged.nvm.runs_ = [] := by
    rw [State.eq_of_quiet State.nvm (fun _ => rfl) hquiet]
    exact hnone
  have hended : s.partEnded p result es = logged := by
    unfold State.partEnded
    extract_lets s1 s2
    have h1 : s1 = noted := hnoted
    have h2 : s2 = logged := by
      show (s1.raiseIf (result == 1) 52 21).logPart p result rejected es = _
      rw [h1]
    rw [h2, hruns]
    rfl
  rw [hended]
  refine ⟨hquiet, ?_⟩
  have hraise := newlySet_raiseIf noted (result == 1) 52 21 (by decide)
  have hlog : newlySet (noted.raiseIf (result == 1) 52 21) logged [] := newlySet_log _ _
  have hall : newlySet s logged _ := newlySet.trans (t := noted) (newlySet_of_eq rfl) (hraise.trans hlog)
  refine hall.of_eq_list ?_
  rw [List.nil_append, List.append_nil]
  simp only [beq_iff_eq]

/-- R540: a retraining that was accepted changes the working set. -/
def State.counted (s : State) (bad : Bool) : State :=
  if bad then s else s.setNvm fun n => { n with changes := n.changes + 1 }

theorem State.quiet_counted_congr {t : State} (h : t.quiet = s.quiet) (bad : Bool) :
    (t.counted bad).quiet = (s.counted bad).quiet := by
  cases bad with
  | false => exact congrArg (State.setNvm · fun n => { n with changes := n.changes + 1 }) h
  | true => exact h

theorem State.quiet_partNoted_congr {t : State} (h : t.quiet = s.quiet) (p : CalPart) (result rejected : Nat) :
    (t.partNoted p result rejected).quiet = (s.partNoted p result rejected).quiet :=
  congrArg (State.partNoted · p result rejected) h

/-- R440, R522: the end of a retraining is reported and noted as a part of type 3. -/
theorem becomes_retrained {e : State} (hnone : e.nvm.runs_ = []) (bad : Bool) (hev : e.ev.blocks = u.ev.blocks)
    (is : List Instr) :
    becomes u ((({ e with freeCtr := e.freeCtr + 6 } : State).counted bad).partNoted ⟨3, mc.val⟩ (bit 0 bad) (2 * bit 0 bad))
      ((e.retrained mc bad).settle is) ((40 + mc.val, 9) :: if bad then [(52, 21)] else []) := by
  let r : State := (e.causeGone (40 + mc.val) 10).raise (40 + mc.val) 9
  let f : State := { r with freeCtr := r.freeCtr + 6 }
  have hr : r.quiet = e.quiet := (State.quiet_raise ..).trans (State.quiet_causeGone ..)
  have hf : f.quiet = ({ e with freeCtr := e.freeCtr + 6 } : State).quiet :=
    congrArg (fun x : State => ({ x with freeCtr := x.freeCtr + 6 } : State)) hr
  have hc := State.quiet_counted_congr hf bad
  have hset : newlySet u (f.counted bad) [(40 + mc.val, 9)] := by
    have hraise : newlySet u r [(40 + mc.val, 9)] := (newlySet_of_eq hev).trans ((newlySet_causeGone e (40 + mc.val) 10).trans
      (newlySet_raise (e.causeGone (40 + mc.val) 10) (40 + mc.val) 9 (by decide)))
    cases bad <;> exact hraise.trans (newlySet_of_eq rfl)
  have hruns : (f.counted bad).nvm.runs_ = [] := by
    have hnvm : r.nvm = e.nvm := State.eq_of_quiet State.nvm (fun _ => rfl) hr
    cases bad <;> exact (congrArg Nvm.runs_ hnvm).trans hnone
  have hresult : (if bad then 1 else 0) = bit 0 bad := by cases bad <;> rfl
  let free (i : Nat) : Nat := Config.freeMeasure (r.freeCtr + i) % 65536
  obtain ⟨hquiet, hevents⟩ := State.partEnded_alone hruns ⟨3, mc.val⟩ (bit 0 bad)
    [⟨0, bit 0 bad, free 0, free 1, free 2⟩, ⟨1, bit 0 bad, free 3, free 4, free 5⟩]
  rw [rejected_of_pair] at hquiet
  have hended : e.retrained mc bad = (f.counted bad).partEnded ⟨3, mc.val⟩ (bit 0 bad)
      [⟨0, bit 0 bad, free 0, free 1, free 2⟩, ⟨1, bit 0 bad, free 3, free 4, free 5⟩] := by
    rw [← hresult]
    rfl
  rw [hended]
  refine becomes_reported (hquiet.trans (State.quiet_partNoted_congr hc _ _ _)) ?_ is
  refine (hset.trans hevents).of_eq_list ?_
  cases bad <;> rfl

/-- R440, R540: a channel after its last slice, with what the store notes of the retraining. -/
theorem State.sliced_noted (s : State) (mc : Fin 6) (ok : Bool) (n : Nat) (bad : Bool) :
    (({ s.sliced mc ok n 1 with freeCtr := (s.sliced mc ok n 1).freeCtr + 6 } : State).counted bad).partNoted ⟨3, mc.val⟩
        (bit 0 bad) (2 * bit 0 bad) =
      { s.sliced mc ok n 7 with nvm := { s.nvm with
          changes := if bad then s.nvm.changes else s.nvm.changes + 1
          last := (3, mc.val, bit 0 bad, 2 * bit 0 bad), lastTime := s.time, runs := satInc 16 s.nvm.runs
          rejects := if bad then satInc 16 s.nvm.rejects else s.nvm.rejects } } := by
  cases bad <;> rfl

end

/-- Settles O45: training by whether it passed and what came before it; a slice by whether it is the last one called for. -/
theorem memoryTraining : Obligations.MemoryTraining := by
  unfold Obligations.MemoryTraining
  refine ⟨fun dt mc s => ?_, fun dt mc ok s => ?_⟩
  · intro u k mine given hstate
    refine ⟨fun hfirst => ?_, fun hheld => ⟨fun hagain => ?_, fun hnorepair => ?_⟩, fun hheld hasked hidle => ?_⟩
    · refine ⟨_, exec_channelTraining_eq false, ?_⟩
      rw [State.channelTrained_retried hstate hfirst]
      exact becomes_settle_nil rfl _
    · exact ⟨_, exec_channelTraining_eq false, becomes_untrained hstate hheld hagain _⟩
    · exact ⟨_, exec_channelTraining_eq true, becomes_trained hstate hheld hnorepair _⟩
    · exact ⟨_, exec_channelTraining_eq true, State.channelTrained_last hstate hheld hasked hidle (State.quiet_settle ..)⟩
  · intro u x bad sliced hready
    refine ⟨fun hspaced => ⟨fun hmany => ?_, fun hlast hnone => ?_⟩, fun hnot => ?_⟩
    · obtain ⟨n, hn, hslice⟩ := u.slice_runs (mc := mc) (ok := ok) hready hspaced (Nat.ne_of_gt (Nat.lt_of_lt_of_le Nat.two_pos hmany))
      refine ⟨_, n, exec_retrainingSlice_eq, hn, ?_⟩
      rw [hslice, if_pos (Nat.ne_of_gt hmany)]
      exact becomes_settle_nil rfl _
    · obtain ⟨n, hn, hslice⟩ := u.slice_runs (mc := mc) (ok := ok) hready hspaced (hlast.trans_ne Nat.one_ne_zero)
      refine ⟨_, n, exec_retrainingSlice_eq, hn, ?_⟩
      rw [hslice, if_neg (not_not_intro hlast)]
      have hended := becomes_retrained (u := u) (mc := mc) (e := u.sliced mc ok n 1) hnone bad rfl s.pending
      rw [State.sliced_noted] at hended
      exact hended
    · refine ⟨_, exec_retrainingSlice_eq, ?_⟩
      rw [State.slice_held hnot]
      exact becomes_settle_nil rfl _

end Sys2Proof.Machine
end

section
/-!
SUPPORT. The DMA engine (R453 to R469): what each operation of a channel leaves of the other channels, and the commands that
reach the engine.
-/
namespace Sys2Proof.Machine

/-! ### Channels -/

section
variable {s t v : State} {c d : Fin 32} {f : DmaChan → DmaChan}

theorem State.dma_of_quiet (h : t.quiet = s.quiet) : t.dma = s.dma := State.eq_of_quiet State.dma (fun _ => rfl) h

theorem State.quiet_setDma_congr (h : t.quiet = s.quiet) (c : Fin 32) (f : DmaChan → DmaChan) :
    (t.setDma c f).quiet = (s.setDma c f).quiet :=
  congrArg (State.setDma · c f) h

theorem State.chan_setDma_same (s : State) (c : Fin 32) (f : DmaChan → DmaChan) :
    (s.setDma c f).dma.chans[c] = f s.dma.chans[c] := upd_same ..

theorem State.chan_setDma_ne (s : State) (f : DmaChan → DmaChan) (h : d ≠ c) :
    (s.setDma c f).dma.chans[d] = s.dma.chans[d] := upd_ne _ _ _ _ h.symm

theorem State.setDma_setDma (s : State) (c : Fin 32) (f g : DmaChan → DmaChan) :
    (s.setDma c f).setDma c g = s.setDma c fun x => g (f x) := by
  show ({ s with dma := { s.dma with chans := upd (upd s.dma.chans c f) c g } } : State) = _
  rw [upd_upd]
  rfl

/-- Every other channel is as it was. -/
def State.othersKept (s : State) (c : Fin 32) (t : State) : Prop := ∀ d : Fin 32, d ≠ c → t.dma.chans[d] = s.dma.chans[d]

theorem State.othersKept.trans (h : s.othersKept c t) (h' : t.othersKept c v) : s.othersKept c v :=
  fun d hd => (h' d hd).trans (h d hd)

theorem State.othersKept_of_chans (h : t.dma.chans = s.dma.chans) : s.othersKept c t := fun d _ => by rw [h]

theorem State.othersKept_setDma (s : State) (c : Fin 32) (f : DmaChan → DmaChan) : s.othersKept c (s.setDma c f) :=
  fun _ hd => State.chan_setDma_ne s f hd

/-! ### Bindings, prefetches and beat slots -/

/-- R453: the pending counts replaced. -/
def State.withLines (s : State) (l : Vector Nat 96) : State := { s with dma := { s.dma with lines := l } }

/-- R453: the end of a binding touches pending counts only. -/
theorem State.unbind_eq (s : State) (c : Fin 32) : ∃ l, s.unbind c = s.withLines l := by
  unfold State.unbind State.zeroLine
  dsimp only
  split
  · split
    · exact ⟨_, rfl⟩
    · exact ⟨s.dma.lines, rfl⟩
  · exact ⟨s.dma.lines, rfl⟩

/-- R453: a descriptor that is not paced is bound to no line. -/
theorem State.unbind_of_unpaced (h : s.dma.chans[c].act.paced = false) : s.unbind c = s := if_neg (ne_true_of_eq_false h)

theorem State.dropPrefetch_of_none (h : s.dma.chans[c].prefetch = none) : s.dropPrefetch c = s :=
  if_neg (by rw [h]; exact Bool.false_ne_true)

/-- R462: a channel without its prefetched burst, and the count of those that were discarded. -/
def State.withoutPrefetch (s : State) (c : Fin 32) (n : Nat) : State :=
  { s with dma := { s.dma with drops := n, chans := upd s.dma.chans c fun x => { x with prefetch := none } } }

/-- R462: what a discard leaves. -/
theorem State.dropPrefetch_cases (s : State) (c : Fin 32) :
    s.dropPrefetch c = s ∨ ∃ n, s.dropPrefetch c = (s.withoutPrefetch c n).raise 51 22 := by
  unfold State.dropPrefetch
  split
  · exact .inr ⟨satInc 16 s.dma.drops, rfl⟩
  · exact .inl rfl

/-- R461: at most one channel resumes, and it was pre-empted. -/
theorem State.resumeDma_cases (s : State) : s.resumeDma = s ∨ ∃ d : Fin 32, s.dma.chans[d].state = 5 ∧
    s.resumeDma = s.setDma d fun x => { x with state := 4, waitAt := none } := by
  unfold State.resumeDma
  split
  · exact .inl rfl
  · dsimp only
    split
    · next e =>
      have hfound := List.find?_some e
      rw [Bool.and_eq_true, beq_iff_eq] at hfound
      exact .inr ⟨_, hfound.1, rfl⟩
    · exact .inl rfl

theorem State.resumeDma_of_none (h : ∀ d : Fin 32, s.dma.chans[d].state ≠ 5) : s.resumeDma = s := by
  rcases s.resumeDma_cases with e | ⟨d, hd, -⟩
  · exact e
  · exact absurd hd (h d)

/-- R461: a channel that was not pre-empted does not resume. -/
theorem State.chan_resumeDma (h : s.dma.chans[c].state ≠ 5) : s.resumeDma.dma.chans[c] = s.dma.chans[c] := by
  rcases s.resumeDma_cases with e | ⟨d, hd, e⟩
  · rw [e]
  · rw [e]
    exact State.chan_setDma_ne s _ fun hcd => h (hcd ▸ hd)

theorem State.ports_resumeDma (s : State) : s.resumeDma.ports = s.ports := by
  rcases s.resumeDma_cases with e | ⟨d, -, e⟩
  · rw [e]
  · rw [e]
    rfl

theorem State.ev_resumeDma (s : State) : s.resumeDma.ev = s.ev := by
  rcases s.resumeDma_cases with e | ⟨d, -, e⟩
  · rw [e]
  · rw [e]
    rfl

/-! ### The end of a run -/

/-- R464, R459: a channel as a run leaves it. -/
def DmaChan.stopped (x : DmaChan) (state now : Nat) : DmaChan :=
  { x with state, burst := none, waitAt := none, abortAt := none, haltAt := now }

/-- With nothing read ahead and no channel pre-empted, a channel that leaves its run gives back its binding and its leave. -/
theorem State.dmaStop_plain {st : Nat} (hp : s.dma.chans[c].prefetch = none)
    (hnone : ∀ d : Fin 32, d ≠ c → s.dma.chans[d].state ≠ 5) (hst : st ≠ 5) :
    ∃ l, s.dmaStop c st = ((s.withLines l).dmaRelease c).setDma c fun x => x.stopped st s.now := by
  obtain ⟨l, hl⟩ := s.unbind_eq c
  refine ⟨l, ?_⟩
  have hdrop : (s.withLines l).dropPrefetch c = s.withLines l := State.dropPrefetch_of_none hp
  unfold State.dmaStop
  rw [hl, hdrop]
  refine State.resumeDma_of_none (s := ((s.withLines l).dmaRelease c).setDma c fun x => x.stopped st s.now) fun d => ?_
  by_cases hd : d = c
  · rw [hd, State.chan_setDma_same]
    exact hst
  · rw [State.chan_setDma_ne _ _ hd]
    exact hnone d hd

/-- What a channel that leaves its run keeps, and the commands in execution. -/
structure State.StopsAt (s : State) (c : Fin 32) (st : Nat) (t : State) : Prop where
  state : t.dma.chans[c].state = st
  result : t.dma.chans[c].result = s.dma.chans[c].result
  residue : t.dma.chans[c].residue = s.dma.chans[c].residue
  ports : t.ports = s.ports

theorem State.stopsAt_dmaStop (s : State) (c : Fin 32) {st : Nat} (hst : st ≠ 5) : s.StopsAt c st (s.dmaStop c st) := by
  obtain ⟨l, hl⟩ := s.unbind_eq c
  have key : ∀ v : State, v.dma.chans[c].result = s.dma.chans[c].result → v.dma.chans[c].residue = s.dma.chans[c].residue →
      v.ports = s.ports →
      s.StopsAt c st (((v.dmaRelease c).setDma c fun x => x.stopped st (v.dmaRelease c).now).resumeDma) := by
    intro v hres hleft hports
    have hown := State.chan_setDma_same (v.dmaRelease c) c fun x => x.stopped st (v.dmaRelease c).now
    have hkept := State.chan_resumeDma (c := c) (s := (v.dmaRelease c).setDma c fun x => x.stopped st (v.dmaRelease c).now)
      (by rw [hown]; exact hst)
    exact ⟨by rw [hkept, hown]; rfl, by rw [hkept, hown]; exact hres, by rw [hkept, hown]; exact hleft,
      (State.ports_resumeDma _).trans hports⟩
  unfold State.dmaStop
  rw [hl]
  rcases (s.withLines l).dropPrefetch_cases c with e | ⟨n, e⟩
  · rw [e]
    exact key _ rfl rfl rfl
  · rw [e]
    have hquiet := State.quiet_raise ((s.withLines l).withoutPrefetch c n) 51 22
    have hown : ((s.withLines l).withoutPrefetch c n).dma.chans[c] = { s.dma.chans[c] with prefetch := none } := upd_same ..
    refine key _ ?_ ?_ ((State.ports_of_quiet hquiet).trans rfl)
    · rw [State.dma_of_quiet hquiet, hown]
    · rw [State.dma_of_quiet hquiet, hown]

theorem State.answerAbort_of_idle (h : s.idlePorts) (c : Fin 32) : s.answerAbort c = s := State.answerWaiting_of_idle h _ _

theorem State.idlePorts_congr (h : t.ports = s.ports) (hidle : s.idlePorts) : t.idlePorts := fun p hp => by
  show (t.ports[p.idx]).running = none
  rw [h]
  exact hidle p hp

end

/-! ### Starts -/

section
variable {s t u : State} {c : Fin 32} {dt : Nat}

theorem exec_dmaStart_eq (ch : Fin 32) : exec (.dmaStart dt ch) s = .next (((s.ticked dt).dmaStart ch).settle s.pending) := rfl

/-- R462: whether a channel that waits holds its next burst already. -/
theorem State.maybePrefetch_cases (s : State) (c : Fin 32) :
    s.maybePrefetch c = s.nextFree ∨ ∃ bs, s.maybePrefetch c = s.nextFree.setDma c fun y => { y with prefetch := some bs } := by
  unfold State.maybePrefetch
  extract_lets x len a s1
  split
  · exact .inr ⟨_, rfl⟩
  · exact .inl rfl

/-- R456: the checks of a descriptor do not look at the channel that it is in. -/
theorem State.descCode_setDma (s : State) (c : Fin 32) (f : DmaChan → DmaChan) (d : DmaSet) :
    (s.setDma c f).descCode c d = s.descCode c d := by
  have hbound : ((fins 32).any fun k => k != c && (s.setDma c f).dma.chans[k].bound d.req) =
      (fins 32).any fun k => k != c && s.dma.chans[k].bound d.req := by
    congr 1
    funext k
    by_cases hk : k = c
    · simp [hk]
    · rw [State.chan_setDma_ne s f hk]
  unfold State.descCode
  rw [hbound]
  rfl

/-- What a load leaves: a channel that runs or waits, or one that halted with the code of its first failing check. -/
structure State.Loads (s : State) (c : Fin 32) (t : State) : Prop where
  others : s.othersKept c t
  act : t.dma.chans[c].act = s.dma.chans[c].act
  shadow : t.dma.chans[c].shadow = s.dma.chans[c].shadow
  runs : s.descCode c s.dma.chans[c].act = 0 → t.dma.chans[c].state = (if s.dma.chans[c].act.paced then 3 else 4) ∧
    t.dma.chans[c].residue = s.dma.chans[c].act.count.toNat ∧ t.dma.chans[c].result = s.dma.chans[c].result ∧
    t.dma.chans[c].errCode = 0 ∧ t.dma.chans[c].burst = none
  halts : s.descCode c s.dma.chans[c].act ≠ 0 → t.dma.chans[c].state = 6 ∧ t.dma.chans[c].result = 4 ∧
    t.dma.chans[c].errCode = s.descCode c s.dma.chans[c].act ∧ t.dma.results.getLsbD c.val = true ∧
    newlySet s t [(51, dmaGroup c + 4)]

theorem State.Loads.of_quiet {v : State} (h : s.Loads c t) (hquiet : v.quiet = t.quiet) (hset : newlySet t v []) :
    s.Loads c v := by
  have hdma := State.dma_of_quiet hquiet
  exact { others := fun d hd => by rw [hdma]; exact h.others d hd
          act := by rw [hdma]; exact h.act
          shadow := by rw [hdma]; exact h.shadow
          runs := by rw [hdma]; exact h.runs
          halts := fun hbad => by
            obtain ⟨hstate, hresult, hcode, hresults, hnew⟩ := h.halts hbad
            rw [hdma]
            exact ⟨hstate, hresult, hcode, hresults, hnew.trans hset⟩ }

theorem dmaGroup_lt (c : Fin 32) (b : Fin 5) : dmaGroup c + b.val < 32 := by
  unfold dmaGroup
  split
  · omega
  · split <;> omega

theorem getLsbD_or_bit_same (w : Word) {b : Nat} (h : b < 32) : (w ||| 1#32 <<< b).getLsbD b = true := by
  rw [BitVec.getLsbD_or, BitVec.getLsbD_shiftLeft]
  simp [h]

/-- R456: a channel whose descriptor fails a check. -/
def DmaChan.refused (x : DmaChan) (code now : Nat) : DmaChan := { x with result := 4, errCode := code, state := 6, haltAt := now }

/-- R456, R458: the engine with a channel whose descriptor failed a check; the channel gives back its leave. -/
def State.descBad (s : State) (c : Fin 32) (code : Nat) : State :=
  (({ s with dma := { s.dma with results := s.dma.results ||| (1#32 <<< c.val) } } : State).setDma c fun x =>
    x.refused code s.now).dmaRelease c

/-- R457: a channel whose descriptor passes. -/
def DmaChan.begun (x : DmaChan) (rev : Bool) : DmaChan :=
  { x with residue := x.act.count.toNat, reversed := rev, errCode := 0, burst := none, state := if x.act.paced then 3 else 4 }

/-- R457: a descriptor runs descending. -/
def DmaSet.descends (d : DmaSet) : Bool :=
  !d.paced && decide (d.source < d.dest) && rangesMeet d.source (d.source + d.srcLen) d.dest (d.dest + d.dstLen)

theorem State.dmaLoad_bad (h : s.descCode c s.dma.chans[c].act ≠ 0) :
    s.dmaLoad c = (s.descBad c (s.descCode c s.dma.chans[c].act)).raiseHeld 51 (dmaGroup c + 4) := by
  have hbad : (((s.dmaResult c 4).setDma c fun x => { x with errCode := s.descCode c s.dma.chans[c].act }).setDma c
      fun x => { x with state := 6, haltAt := s.now }).dmaRelease c = s.descBad c (s.descCode c s.dma.chans[c].act) := by
    unfold State.dmaResult
    rw [State.setDma_setDma, State.setDma_setDma]
    rfl
  rw [← hbad]
  unfold State.dmaLoad
  exact if_pos (bne_iff_ne.2 h)

theorem State.dmaLoad_good (h : s.descCode c s.dma.chans[c].act = 0) :
    s.dmaLoad c = if s.dma.chans[c].act.paced
      then ((s.setDma c fun x => x.begun s.dma.chans[c].act.descends).raiseIf s.dma.chans[c].act.descends 51 17).maybePrefetch c
      else (s.setDma c fun x => x.begun s.dma.chans[c].act.descends).raiseIf s.dma.chans[c].act.descends 51 17 := by
  have hbegun : (s.setDma c fun x => x.begun s.dma.chans[c].act.descends) = s.setDma c fun x => { x with
      residue := s.dma.chans[c].act.count.toNat, reversed := s.dma.chans[c].act.descends, errCode := 0, burst := none
      state := if s.dma.chans[c].act.paced then 3 else 4 } := rfl
  rw [hbegun]
  unfold State.dmaLoad
  exact if_neg (by rw [h]; decide)

theorem State.loads_dmaLoad (s : State) (c : Fin 32) : s.Loads c (s.dmaLoad c) := by
  by_cases hcode : s.descCode c s.dma.chans[c].act = 0
  · have hload := State.dmaLoad_good hcode
    let rev := s.dma.chans[c].act.descends
    let e : State := s.setDma c fun x => x.begun rev
    have hdma := State.dma_of_quiet (State.quiet_raiseIf e rev 51 17)
    have hown : e.dma.chans[c] = s.dma.chans[c].begun rev := State.chan_setDma_same ..
    have key : ∀ v : State, e.othersKept c v → (∃ p, v.dma.chans[c] = { s.dma.chans[c].begun rev with prefetch := p }) →
        s.Loads c v := by
      rintro v hothers ⟨p, hchan⟩
      exact { others := (s.othersKept_setDma c _).trans hothers
              act := by rw [hchan]; rfl
              shadow := by rw [hchan]; rfl
              runs := fun _ => by rw [hchan]; exact ⟨rfl, rfl, rfl, rfl, rfl⟩
              halts := fun hbad => absurd hcode hbad }
    have hreported : e.othersKept c (e.raiseIf rev 51 17) := State.othersKept_of_chans (by rw [hdma])
    rw [hload]
    split
    · rcases (e.raiseIf rev 51 17).maybePrefetch_cases c with he | ⟨bs, he⟩
      · rw [he]
        refine key _ hreported ⟨(s.dma.chans[c].begun rev).prefetch, ?_⟩
        show (e.raiseIf rev 51 17).dma.chans[c] = _
        rw [hdma, hown]
      · rw [he]
        refine key _ (hreported.trans ((e.raiseIf rev 51 17).nextFree.othersKept_setDma c _)) ⟨some bs, ?_⟩
        rw [State.chan_setDma_same]
        show ({ (e.raiseIf rev 51 17).dma.chans[c] with prefetch := some bs } : DmaChan) = _
        rw [hdma, hown]
    · refine key _ hreported ⟨(s.dma.chans[c].begun rev).prefetch, ?_⟩
      rw [hdma, hown]
  · let e : State := s.descBad c (s.descCode c s.dma.chans[c].act)
    have hdma := State.dma_of_quiet (State.quiet_raiseHeld e 51 (dmaGroup c + 4))
    have hown : e.dma.chans[c] = s.dma.chans[c].refused (s.descCode c s.dma.chans[c].act) s.now := upd_same ..
    have hothers : s.othersKept c e := fun d hd => upd_ne _ _ _ _ hd.symm
    have hset : newlySet s (e.raiseHeld 51 (dmaGroup c + 4)) [(51, dmaGroup c + 4)] :=
      newlySet.trans (t := e) (newlySet_of_eq rfl) (newlySet_raiseHeld e 51 (dmaGroup c + 4) (dmaGroup_lt c 4))
    rw [State.dmaLoad_bad hcode]
    exact { others := hothers.trans (State.othersKept_of_chans (by rw [hdma]))
            act := by rw [hdma, hown]; rfl
            shadow := by rw [hdma, hown]; rfl
            runs := fun h => absurd h hcode
            halts := fun _ => by
              rw [hdma, hown]
              exact ⟨rfl, rfl, rfl, getLsbD_or_bit_same _ c.isLt, hset⟩ }

/-- R458: a start clears what the channel's last run left. -/
def DmaChan.cleared (x : DmaChan) : DmaChan :=
  { x with result := 0, loads := 0, reversed := false, shadowDropped := false, tailErr := false, errAddr := 0, errWrite := false
           errKind := 0, errCode := 0, abortAt := none }

theorem State.dmaStart_busy (h : s.dma.chans[c].state ≠ 0) : s.dmaStart c = s.raise 51 16 := if_pos (bne_iff_ne.2 h)

theorem State.dmaStart_light (h : s.dma.chans[c].state = 0) (hlight : s.dma.chans[c].act.heavy = false) :
    s.dmaStart c = (s.setDma c DmaChan.cleared).dmaLoad c := by
  unfold State.dmaStart
  dsimp only
  rw [if_neg (by rw [h]; decide), if_neg (ne_true_of_eq_false hlight)]
  rfl

/-- R458, R499: the request of a heavy channel. -/
def State.dmaAsk (s : State) (c : Fin 32) : State :=
  s.enqueue { who := .dma c, kind := 7, cost := 10, prio := 1, at_ := s.now }

theorem State.askSelf_of_leave {who : Requester} {kind cost prio : Nat} (h : s.refuseLeave cost = none) :
    s.askSelf who kind cost prio = (s.enqueue { who, kind, cost, prio, at_ := s.now }, true) := by
  unfold State.askSelf
  rw [h]

theorem State.dmaStart_heavy (h : s.dma.chans[c].state = 0) (hheavy : s.dma.chans[c].act.heavy = true)
    (hleave : s.refuseLeave 10 = none) :
    s.dmaStart c = ((s.dmaAsk c).setDma c fun x => { x.cleared with state := 1, residue := x.act.count.toNat }).raise 51 21 := by
  have hask : (s.setDma c DmaChan.cleared).askSelf (.dma c) 7 10 1 = ((s.setDma c DmaChan.cleared).dmaAsk c, true) :=
    State.askSelf_of_leave (s := s.setDma c DmaChan.cleared) hleave
  have hstart : s.dmaStart c = State.raise (State.setDma ((s.setDma c DmaChan.cleared).dmaAsk c) c fun x =>
      { x with state := 1, residue := x.act.count.toNat }) 51 21 := by
    unfold State.dmaStart
    refine (if_neg (by rw [h]; decide)).trans ((if_pos hheavy).trans ?_)
    exact (congrArg (fun r : State × Bool => if r.2 = true
      then (r.1.setDma c fun x => { x with state := 1, residue := x.act.count.toNat }).raise 51 21
      else (r.1.dmaResult c 2).setDma c fun x => { x with residue := x.act.count.toNat }) hask).trans (if_pos rfl)
  rw [hstart]
  exact congrArg (State.raise · 51 21) (State.setDma_setDma (s.dmaAsk c) c DmaChan.cleared _)

end

/-! ### The commands of the engine -/

/-- Free values taken. -/
def State.withFree (s : State) (n : Nat) : State := { s with freeCtr := n }

section
variable {u x : State} {h : Hdr} {b : Body} {status detail : Nat} {pl : List Byte}

/-- A command that waits, with no other command in execution, and is answered by what it waits for in the same step, which may
have taken free values. -/
theorem State.RepliesAs.answerWaiting_wait {w : Waiting} {f : Waiting → Bool} {g : State → Cmd → State} {n : Nat}
    (hx : u.RepliesAs x h) (hidle : u.idlePorts) (hf : f w = true)
    (hg : g (x.wait ⟨h, b⟩ w) ⟨h, b⟩ = ((x.wait ⟨h, b⟩ w).withFree n).reply ⟨h, b⟩ status detail pl 0 0) :
    (x.wait ⟨h, b⟩ w).answerWaiting f g = ((x.wait ⟨h, b⟩ w).withFree n).reply ⟨h, b⟩ status detail pl 0 0 ∧
      u.answered (((x.wait ⟨h, b⟩ w).withFree n).reply ⟨h, b⟩ status detail pl 0 0) h b status detail pl := by
  let y : State := x.wait ⟨h, b⟩ w
  have hothers : ∀ p, p ≠ h.port → y.port p = x.port p := fun p hp => State.port_setPort_ne _ _ hp
  have hrunning : (y.port h.port).running = some { h, body := b, wait := w, since := x.now } :=
    congrArg PortState.running (State.port_setPort_same ..)
  have hans : u.answered ((y.withFree n).reply ⟨h, b⟩ status detail pl 0 0) h b status detail pl :=
    hx.answered_waiting (y := y.withFree n) rfl rfl rfl rfl hothers hrunning rfl b status detail pl 0
  refine ⟨?_, hans⟩
  rw [← hg]
  refine State.answerWaiting_of_one (Port.mem_all h.port) hrunning hf (fun p hp hin => ?_) ?_
  · rw [hothers p hp, hx.others p hp]
    exact hidle p hin
  · exact hg ▸ State.idlePorts_of_answered hans hidle

/-- The step of such a command. -/
theorem exec_waits_answers {dt : Nat} {c : Instr} {s : State} {w : Waiting} {f : Waiting → Bool} {g : State → Cmd → State} {n : Nat}
    (hc : b.row dt h = some c) (hr : (s.ticked dt).runs h b) (hx : (s.ticked dt).RepliesAs x h) (hidle : (s.ticked dt).idlePorts)
    (hf : f w = true)
    (hg : g (x.wait ⟨h, b⟩ w) ⟨h, b⟩ = ((x.wait ⟨h, b⟩ w).withFree n).reply ⟨h, b⟩ status detail pl 0 0)
    (hrun : ((s.ticked dt).taken ⟨h, b⟩).run ⟨h, b⟩ = (x.wait ⟨h, b⟩ w).answerWaiting f g) :
    ∃ t, exec c s = .next t ∧ (s.ticked dt).answered t h b status detail pl ∧ t.still = (x.withFree n).still := by
  obtain ⟨hreply, hans⟩ := hx.answerWaiting_wait hidle hf hg
  refine ⟨_, exec_of_row hc s, ?_⟩
  rw [State.submit_of_runs hr, hrun, hreply]
  exact ⟨hans.settle hx.direct _, (State.still_settle ..).trans (State.still_reply ..)⟩

end

section
variable {s u : State} {c : Fin 32} {dt : Nat} {h : Hdr} {first count : Byte}

theorem State.setDma_congr {f g : DmaChan → DmaChan} (h : f s.dma.chans[c] = g s.dma.chans[c]) : s.setDma c f = s.setDma c g :=
  congrArg (fun x => ({ s with dma := { s.dma with chans := s.dma.chans.set c x } } : State)) h

/-- R464: an abort of a channel that waits for the end of its burst. -/
def State.abortNoted (s : State) (c : Fin 32) : State := s.setDma c fun y => { y with abortAt := some s.now }

theorem State.still_abortNoted_taken (s : State) (k : Cmd) (c : Fin 32) :
    ((s.taken k).abortNoted c).still = (s.abortNoted c).still := rfl

theorem State.dmaAbort_idle (h : s.dma.chans[c].state = 0) : s.dmaAbort c = s.answerAbort c := by
  unfold State.dmaAbort
  rw [h]
  rfl

theorem State.dmaAbort_burst (h : s.dma.chans[c].state = 4) (hburst : s.dma.chans[c].burst.isSome = true)
    (hfirst : s.dma.chans[c].abortAt = none) : s.dmaAbort c = s.abortNoted c := by
  have hnot : s.dma.chans[c].burst.isNone ≠ true := by
    rw [Option.isNone_eq_false_iff.2 hburst]
    exact Bool.false_ne_true
  unfold State.dmaAbort
  rw [h]
  exact (if_neg hnot).trans (State.setDma_congr (by rw [hfirst]; rfl))

theorem State.run_dmaStatus_ok (hlast : first.toNat + count.toNat ≤ 32) (hone : 1 ≤ count.toNat) (height : count.toNat ≤ 8) :
    u.run ⟨h, .dmaStatus first count⟩ = u.ok ⟨h, .dmaStatus first count⟩
      ((List.range count.toNat).flatMap fun i => (u.dma.chans[Fin.ofNat 32 (first.toNat + i)]).entry) :=
  (if_neg (by omega)).trans (if_neg (by omega))

theorem State.run_dmaStatus_bad (hfirst : 31 < first.toNat) :
    u.run ⟨h, .dmaStatus first count⟩ = u.bad ⟨h, .dmaStatus first count⟩ 16 := if_pos hfirst

theorem State.run_dmaAbort_denied (hport : h.port = .p0) (hlow : first.toNat < 24) :
    u.run ⟨h, .dmaAbort first⟩ = u.fail ⟨h, .dmaAbort first⟩ 3 0 :=
  (if_neg (by omega)).trans (if_pos (by simp [hport, hlow]))

theorem State.run_dmaAbort_allowed (hin : first.toNat < 32) (hport : h.port ≠ .p0 ∨ 24 ≤ first.toNat) :
    u.run ⟨h, .dmaAbort first⟩ =
      (u.wait ⟨h, .dmaAbort first⟩ (.dmaAbort (Fin.ofNat 32 first.toNat))).dmaAbort (Fin.ofNat 32 first.toNat) := by
  have hallowed : ¬ (h.port = .p0 && decide (first.toNat < 24)) = true := by
    rw [Bool.and_eq_true, decide_eq_true_iff, decide_eq_true_iff]
    rintro ⟨hp, hlow⟩
    exact hport.elim (fun hne => hne hp) fun hhigh => absurd hlow (Nat.not_lt.2 hhigh)
  exact (if_neg (by omega)).trans (if_neg hallowed)

/-- R464: DMA_ABORT of an idle channel ends its wait at once. -/
theorem State.run_dmaAbort_idle (hin : first.toNat < 32) (hport : h.port ≠ .p0 ∨ 24 ≤ first.toNat)
    (hstate : u.dma.chans[Fin.ofNat 32 first.toNat].state = 0) :
    (u.taken ⟨h, .dmaAbort first⟩).run ⟨h, .dmaAbort first⟩ =
      ((u.taken ⟨h, .dmaAbort first⟩).wait ⟨h, .dmaAbort first⟩ (.dmaAbort (Fin.ofNat 32 first.toNat))).answerWaiting
        (fun w => w == .dmaAbort (Fin.ofNat 32 first.toNat)) fun s k => s.ok k s.dma.chans[Fin.ofNat 32 first.toNat].entry :=
  (State.run_dmaAbort_allowed hin hport).trans (State.dmaAbort_idle hstate)

/-- R464: DMA_ABORT of a channel with a burst in progress waits for its end. -/
theorem State.run_dmaAbort_burst (hin : first.toNat < 32) (hport : h.port ≠ .p0 ∨ 24 ≤ first.toNat)
    (hstate : u.dma.chans[Fin.ofNat 32 first.toNat].state = 4)
    (hburst : u.dma.chans[Fin.ofNat 32 first.toNat].burst.isSome = true)
    (hfirst : u.dma.chans[Fin.ofNat 32 first.toNat].abortAt = none) :
    (u.taken ⟨h, .dmaAbort first⟩).run ⟨h, .dmaAbort first⟩ =
      ((u.taken ⟨h, .dmaAbort first⟩).abortNoted (Fin.ofNat 32 first.toNat)).wait ⟨h, .dmaAbort first⟩
        (.dmaAbort (Fin.ofNat 32 first.toNat)) :=
  (State.run_dmaAbort_allowed hin hport).trans (State.dmaAbort_burst hstate hburst hfirst)

/-- R458: the steps of CMD.START. -/
theorem dmaStart_busy_becomes (h : u.dma.chans[c].state ≠ 0) (q : List Instr) :
    becomes u u ((u.dmaStart c).settle q) [(51, 16)] := by
  rw [State.dmaStart_busy h]
  exact becomes_raise rfl (by decide) q

/-- R456, R458: a start of an idle channel whose descriptor needs no leave loads it. -/
theorem dmaStart_loads (h : u.dma.chans[c].state = 0) (hlight : u.dma.chans[c].act.heavy = false) (q : List Instr) :
    let t := (u.dmaStart c).settle q
    let code := u.descCode c u.dma.chans[c].act
    u.othersKept c t ∧ t.dma.chans[c].act = u.dma.chans[c].act ∧ t.dma.chans[c].shadow = u.dma.chans[c].shadow ∧
      (code = 0 → t.dma.chans[c].state = (if u.dma.chans[c].act.paced then 3 else 4) ∧
        t.dma.chans[c].residue = u.dma.chans[c].act.count.toNat ∧ t.dma.chans[c].result = 0 ∧ t.dma.chans[c].errCode = 0 ∧
        t.dma.chans[c].burst = none) ∧
      (code ≠ 0 → t.dma.chans[c].state = 6 ∧ t.dma.chans[c].result = 4 ∧ t.dma.chans[c].errCode = code ∧
        t.dma.results.getLsbD c.val = true ∧ newlySet u t [(51, dmaGroup c + 4)]) := by
  let e : State := u.setDma c DmaChan.cleared
  have hown : e.dma.chans[c] = u.dma.chans[c].cleared := upd_same ..
  have hact : e.dma.chans[c].act = u.dma.chans[c].act := by rw [hown]; rfl
  have hcode : e.descCode c u.dma.chans[c].act = u.descCode c u.dma.chans[c].act := State.descCode_setDma ..
  intro t code
  have ht : t = (e.dmaLoad c).settle q := congrArg (State.settle · q) (State.dmaStart_light h hlight)
  have hload : e.Loads c t := ht ▸ (e.loads_dmaLoad c).of_quiet (State.quiet_settle _ q) (newlySet_settle _ q)
  have hruns := hload.runs
  have hhalts := hload.halts
  rw [hact, hcode] at hruns hhalts
  refine ⟨(u.othersKept_setDma c _).trans hload.others, hload.act.trans hact, hload.shadow.trans (by rw [hown]; rfl),
    fun hgood => ?_, hhalts⟩
  obtain ⟨hstate, hresidue, hresult, herr, hburst⟩ := hruns hgood
  exact ⟨hstate, hresidue, hresult.trans (by rw [hown]; rfl), herr, hburst⟩

/-- R499: a heavy channel asks for leave and waits. -/
theorem dmaStart_asks (h : u.dma.chans[c].state = 0) (hheavy : u.dma.chans[c].act.heavy = true)
    (hleave : u.refuseLeave 10 = none) (q : List Instr) :
    let t := (u.dmaStart c).settle q
    newlySet u t [(51, 21)] ∧ t.dma.chans[c].state = 1 ∧ t.dma.chans[c].residue = u.dma.chans[c].act.count.toNat ∧
      u.othersKept c t ∧ t.pwr = (u.dmaAsk c).pwr := by
  let e : State := (u.dmaAsk c).setDma c fun x => { x.cleared with state := 1, residue := x.act.count.toNat }
  have hown : e.dma.chans[c] = { u.dma.chans[c].cleared with state := 1, residue := u.dma.chans[c].act.count.toNat } := upd_same ..
  have hothers : u.othersKept c e := fun d hd => upd_ne _ _ _ _ hd.symm
  obtain ⟨hquiet, hset⟩ := becomes_raise (u := u) (e := e) (K := 51) (B := 21) rfl (by decide) q
  intro t
  have ht : t = (e.raise 51 21).settle q := congrArg (State.settle · q) (State.dmaStart_heavy h hheavy hleave)
  have hdma : t.dma = e.dma := ht ▸ State.dma_of_quiet hquiet
  refine ⟨ht ▸ hset, ?_, ?_, fun d hd => ?_, ?_⟩
  · rw [hdma, hown]
  · rw [hdma, hown]
  · rw [hdma]
    exact hothers d hd
  · rw [ht]
    exact (State.pwr_of_quiet hquiet).trans rfl

end

/-- Settles O49: a start goes by whether its channel is idle and whether its descriptor needs leave; what a load leaves is
`Loads`, and DMA_ABORT of an idle channel is answered in the step in which it begins to wait. -/
theorem dmaStartsAndCommands : Obligations.DmaStartsAndCommands := by
  unfold Obligations.DmaStartsAndCommands
  refine ⟨fun dt ch s => ⟨fun h => ⟨_, exec_dmaStart_eq ch, dmaStart_busy_becomes h _⟩, fun h hlight => ?_, fun h hheavy hleave =>
      ⟨_, exec_dmaStart_eq ch, ?_⟩⟩,
    fun dt h first count s => ⟨fun hr => ⟨fun hlast hone height => ?_, fun hfirst => ?_⟩, fun hr hidle hin =>
      ⟨fun hport hlow => ?_, fun hport hstate => ?_, fun hport hstate hburst hfirst => ?_⟩⟩⟩
  · exact ⟨_, exec_dmaStart_eq ch, dmaStart_loads h hlight s.pending⟩
  · obtain ⟨hset, hstate, hresidue, hothers, hpwr⟩ := dmaStart_asks h hheavy hleave s.pending
    exact ⟨hset, hstate, hresidue, hothers, hpwr⟩
  · exact (exec_reads rfl hr (State.run_dmaStatus_ok hlast hone height)).imp fun t ht => ⟨ht.1, ht.2.2, ht.2.1⟩
  · exact (exec_bad rfl hr (State.run_dmaStatus_bad hfirst)).imp fun t ht => ⟨ht.1, ht.2.2, ht.2.1⟩
  · exact (exec_fails rfl hr (State.run_dmaAbort_denied hport hlow)).imp fun t ht => ⟨ht.1, ht.2.2, ht.2.1⟩
  · have hrun := State.run_dmaAbort_idle (u := s.ticked dt) (h := h) hin hport hstate
    exact (exec_waits_answers (x := (s.ticked dt).taken ⟨h, .dmaAbort first⟩) (w := .dmaAbort (Fin.ofNat 32 first.toNat))
      (n := (s.ticked dt).freeCtr) (f := fun w => w == .dmaAbort (Fin.ofNat 32 first.toNat))
      (g := fun s k => s.ok k s.dma.chans[Fin.ofNat 32 first.toNat].entry) (pl := (s.ticked dt).dma.chans[Fin.ofNat 32 first.toNat].entry)
      rfl hr (State.repliesAs_taken hr) hidle (beq_self_eq_true _) rfl hrun).imp fun t ht => ⟨ht.1, ht.2.2, ht.2.1⟩
  · have hrun := State.run_dmaAbort_burst (u := s.ticked dt) (h := h) hin hport hstate hburst hfirst
    obtain ⟨t, ht, hwaits, hstill⟩ := exec_waits
      (x := ((s.ticked dt).taken ⟨h, .dmaAbort first⟩).abortNoted (Fin.ofNat 32 first.toNat)) rfl hr (fun _ => rfl) rfl hrun
    exact ⟨t, ht, hwaits, hstill.trans (State.still_abortNoted_taken ..)⟩

/-! ### Register sets and request lines -/

section
variable {s u : State} {c : Fin 32} {dt : Nat}

theorem exec_dmaSetWrite_eq (ch : Fin 32) (shadow : Bool) (reg : Fin 5) (value : Word) :
    exec (.dmaSetWrite dt ch shadow reg value) s =
      .next (((s.ticked dt).dmaWriteSet ch shadow reg.val value).settle s.pending) := rfl

theorem exec_dmaRequest_eq (line : Fin 48) :
    exec (.dmaRequest dt line) s = .next (((s.ticked dt).dmaRequest line.val 1).settle s.pending) := rfl

theorem exec_dmaSwreq_eq (line : Fin 256) (n : Nat) :
    exec (.dmaSwreq dt line n) s = .next (((s.ticked dt).dmaSwreq line.val n).settle s.pending) := rfl

theorem exec_dmaSwreqHost_eq (i : Fin 16) (n : Nat) :
    exec (.dmaSwreqHost dt i n) s = .next (((s.ticked dt).dmaSwreqHost i.val n).settle s.pending) := rfl

/-- A word that a register set may not take is ignored and reported. -/
theorem becomes_ignored (h : s = u.raise 51 16) (q : List Instr) : becomes u u (s.settle q) [(51, 16)] := by
  rw [h]
  exact becomes_raise rfl (by decide) q

/-- R458: the shadow set takes a word while it is not valid. -/
theorem dmaWriteSet_shadow (h : u.dma.chans[c].shadow.valid = false) (reg : Nat) (value : Word) (q : List Instr) :
    becomes u (u.setDma c fun y => { y with shadow := y.shadow.setWord reg value })
      ((u.dmaWriteSet c true reg value).settle q) [] := by
  rw [show u.dmaWriteSet c true reg value = _ from if_neg (ne_true_of_eq_false h)]
  exact becomes_settle_nil rfl q

theorem dmaWriteSet_shadow_valid (h : u.dma.chans[c].shadow.valid = true) (reg : Nat) (value : Word) (q : List Instr) :
    becomes u u ((u.dmaWriteSet c true reg value).settle q) [(51, 16)] :=
  becomes_ignored (if_pos h) q

/-- R460: the active set takes a word while the channel is idle or halted. -/
theorem dmaWriteSet_active (h : u.dma.chans[c].state = 0 ∨ u.dma.chans[c].state = 6) (reg : Nat) (value : Word) (q : List Instr) :
    becomes u (u.setDma c fun y => { y with act := y.act.setWord reg value })
      ((u.dmaWriteSet c false reg value).settle q) [] := by
  rw [show u.dmaWriteSet c false reg value = _ from if_pos h]
  exact becomes_settle_nil rfl q

theorem dmaWriteSet_active_busy (h0 : u.dma.chans[c].state ≠ 0) (h6 : u.dma.chans[c].state ≠ 6) (reg : Nat) (value : Word)
    (q : List Instr) : becomes u u ((u.dmaWriteSet c false reg value).settle q) [(51, 16)] :=
  becomes_ignored (if_neg (not_or.2 ⟨h0, h6⟩)) q

theorem State.dmaRequest_unbound {l : Fin 96} (h : u.lineOwner l.val = none) (n : Nat) :
    u.dmaRequest l.val n = u.raise 51 20 := by
  unfold State.dmaRequest
  rw [dif_pos l.isLt, h]

theorem State.dmaRequest_bound {l : Fin 96} (h : u.lineOwner l.val ≠ none) (n : Nat) :
    u.dmaRequest l.val n = (u.withLines (u.dma.lines.set l (min (u.dma.lines[l] + n) 255))).raiseIf
      (decide (255 < u.dma.lines[l] + n)) 51 19 := by
  obtain ⟨k, hk⟩ := Option.ne_none_iff_exists'.1 h
  unfold State.dmaRequest
  rw [dif_pos l.isLt, hk]
  rfl

/-- R453: requests add to the count of a bound line up to 255; on any other line they are lost and reported. -/
theorem dmaRequest_becomes (l : Fin 96) (n : Nat) (q : List Instr) :
    (u.lineOwner l.val = none → becomes u u ((u.dmaRequest l.val n).settle q) [(51, 20)]) ∧
    (u.lineOwner l.val ≠ none → becomes u (u.withLines (u.dma.lines.set l (min (u.dma.lines[l] + n) 255)))
      ((u.dmaRequest l.val n).settle q) (if 255 < u.dma.lines[l] + n then [(51, 19)] else [])) := by
  refine ⟨fun h => ?_, fun h => ?_⟩
  · rw [State.dmaRequest_unbound h]
    exact becomes_raise rfl (by decide) q
  · rw [State.dmaRequest_bound h]
    let e : State := u.withLines (u.dma.lines.set l (min (u.dma.lines[l] + n) 255))
    have hset := newlySet_raiseIf e (decide (255 < u.dma.lines[l] + n)) 51 19 (by decide)
    simp only [decide_eq_true_eq] at hset
    exact becomes_reported (State.quiet_raiseIf ..) ((newlySet_of_eq (s := u) (t := e) rfl).trans hset) q

/-- The same of the step whose effect the request is. -/
theorem exec_requests {i : Instr} {l : Fin 96} {n : Nat} (h : exec i s = .next ((u.dmaRequest l.val n).settle s.pending)) :
    (u.lineOwner l.val = none → ∃ t, exec i s = .next t ∧ becomes u u t [(51, 20)]) ∧
    (u.lineOwner l.val ≠ none → ∃ t, exec i s = .next t ∧
      becomes u { u with dma := { u.dma with lines := u.dma.lines.set l (min (u.dma.lines[l] + n) 255) } } t
        (if 255 < u.dma.lines[l] + n then [(51, 19)] else [])) :=
  ⟨fun hfree => ⟨_, h, (dmaRequest_becomes l n _).1 hfree⟩, fun hbound => ⟨_, h, (dmaRequest_becomes l n _).2 hbound⟩⟩

/-- R453, R468: a software request of a line from 48 to 79. -/
theorem State.dmaSwreq_own (u : State) {l n : Nat} (hlo : 48 ≤ l) (hhi : l ≤ 79) (hn : n < 256) :
    u.dmaSwreq l n = u.dmaRequest (Fin.ofNat 96 l).val n := by
  have hline : (Fin.ofNat 96 l).val = l := Nat.mod_eq_of_lt (by omega)
  rw [hline, State.dmaSwreq, if_pos ⟨hlo, hhi⟩, Nat.mod_eq_of_lt hn]

theorem dmaSwreq_foreign {l : Nat} (h : l < 48 ∨ 79 < l) (n : Nat) (q : List Instr) :
    becomes u u ((u.dmaSwreq l n).settle q) [] := by
  rw [State.dmaSwreq, if_neg (by omega)]
  exact becomes_settle_nil rfl q

/-- R453, R468: the host's software request `i` is of line 80 + `i`. -/
theorem State.dmaSwreqHost_own (u : State) (i : Fin 16) {n : Nat} (hn : n < 256) :
    u.dmaSwreqHost i.val n = u.dmaRequest (Fin.ofNat 96 (80 + i.val)).val n := by
  have hline : (Fin.ofNat 96 (80 + i.val)).val = 80 + i.val := Nat.mod_eq_of_lt (by omega)
  rw [hline, State.dmaSwreqHost, Nat.mod_eq_of_lt i.isLt, Nat.mod_eq_of_lt hn]

end

/-- Settles O50: every kind of request is `dmaRequest` of its line, and a register set takes a word exactly while it may
change. -/
theorem dmaSetsAndRequests : Obligations.DmaSetsAndRequests := by
  unfold Obligations.DmaSetsAndRequests
  refine fun dt ch reg value s => ⟨fun h => ?_, fun h => ?_, fun h => ?_, fun h0 h6 => ?_, fun line => ?_,
    fun line n hlo hhi hn => ?_, fun line n h => ?_, fun i n hn => ?_⟩
  · exact ⟨_, exec_dmaSetWrite_eq ch true reg value, dmaWriteSet_shadow h _ _ _⟩
  · exact ⟨_, exec_dmaSetWrite_eq ch true reg value, dmaWriteSet_shadow_valid h _ _ _⟩
  · exact ⟨_, exec_dmaSetWrite_eq ch false reg value, dmaWriteSet_active h _ _ _⟩
  · exact ⟨_, exec_dmaSetWrite_eq ch false reg value, dmaWriteSet_active_busy h0 h6 _ _ _⟩
  · have hline : (Fin.ofNat 96 line.val).val = line.val := Nat.mod_eq_of_lt (by omega)
    exact exec_requests (by rw [hline]; exact exec_dmaRequest_eq line)
  · exact exec_requests (by rw [← State.dmaSwreq_own _ hlo hhi hn]; exact exec_dmaSwreq_eq line n)
  · exact ⟨_, exec_dmaSwreq_eq line n, dmaSwreq_foreign h n _⟩
  · exact exec_requests (by rw [← State.dmaSwreqHost_own _ i hn]; exact exec_dmaSwreqHost_eq i n)

/-! ### Bursts start -/

section
variable {s u t : State} {c d : Fin 32} {dt : Nat}

theorem exec_dmaBurst_eq (ch : Fin 32) : exec (.dmaBurst dt ch) s = .next (((s.ticked dt).startBurst ch).settle s.pending) := rfl

theorem State.endBurst_of_none (h : s.dma.chans[c].burst = none) : s.endBurst c = s := by
  unfold State.endBurst
  rw [h]

/-- R461: no burst has to end first when only lower ones are in progress. -/
theorem State.endBefore_of_lower (h : ∀ e : Fin 32, e = c ∨ (s.dma.chans[e].state = 4 ∧ s.dma.chans[c].act.prio ≤ s.dma.chans[e].act.prio) →
    s.dma.chans[e].burst = none) : s.endBefore c = s := by
  refine foldl_of_fixed fun e _ => ?_
  by_cases he : e = c ∨ (s.dma.chans[e].state = 4 ∧ s.dma.chans[c].act.prio ≤ s.dma.chans[e].act.prio)
  · exact (if_pos he).trans (State.endBurst_of_none (h e he))
  · exact if_neg he

/-- R461: a channel whose burst is pre-empted. -/
def State.preempted (s : State) (d : Fin 32) : State :=
  { s.setDma d fun x => { x with state := 5, waitAt := some s.now } with
    dma := { (s.setDma d fun x => { x with state := 5, waitAt := some s.now }).dma with preempts := satInc 16 s.dma.preempts } }

/-- R461: what the fold over the channels does with one of them. -/
def State.preemptOne (c : Fin 32) (s : State) (d : Fin 32) : State :=
  if d != c && s.dma.chans[d].state == 4 && s.dma.chans[d].burst.isSome then s.preempted d else s

theorem State.preemptOthers_eq (s : State) (c : Fin 32) : s.preemptOthers c = (fins 32).foldl (State.preemptOne c) s := rfl

theorem State.preemptOne_of_none (h : s.dma.chans[d].burst = none) : s.preemptOne c d = s :=
  if_neg (by rw [h]; simp)

theorem State.preemptOne_of_waiting (h : s.dma.chans[d].state = 5) : s.preemptOne c d = s :=
  if_neg (by rw [h]; simp)

theorem State.preemptOthers_of_none (h : ∀ e : Fin 32, s.dma.chans[e].burst = none) : s.preemptOthers c = s :=
  foldl_of_fixed fun e _ => State.preemptOne_of_none (h e)

theorem State.chan_preempted_same (s : State) (d : Fin 32) :
    (s.preempted d).dma.chans[d] = { s.dma.chans[d] with state := 5, waitAt := some s.now } := upd_same ..

theorem State.chan_preempted_ne (s : State) (h : c ≠ d) : (s.preempted d).dma.chans[c] = s.dma.chans[c] := upd_ne _ _ _ _ h.symm

/-- R461: the only burst in progress is pre-empted. -/
theorem State.preemptOthers_one (hne : d ≠ c) (hrest : ∀ e : Fin 32, e ≠ d → s.dma.chans[e].burst = none)
    (hburst : s.dma.chans[d].burst.isSome = true) (hstate : s.dma.chans[d].state = 4) : s.preemptOthers c = s.preempted d := by
  obtain ⟨before, after, hall, hnew⟩ := List.eq_append_cons_of_mem (List.mem_finRange d)
  have hbefore : before.foldl (State.preemptOne c) s = s :=
    foldl_of_fixed fun e he => State.preemptOne_of_none (hrest e fun h => hnew (h ▸ he))
  have hone : s.preemptOne c d = s.preempted d := 
    if_pos (by rw [hburst, hstate, bne_iff_ne.2 hne]; rfl)
  have hafter : after.foldl (State.preemptOne c) (s.preempted d) = s.preempted d := by
    refine foldl_of_fixed fun e _ => ?_
    by_cases hed : e = d
    · exact State.preemptOne_of_waiting (by rw [hed, State.chan_preempted_same])
    · exact State.preemptOne_of_none (by rw [State.chan_preempted_ne s hed]; exact hrest e hed)
  rw [State.preemptOthers_eq, fins, hall, List.foldl_append, hbefore, List.foldl_cons, hone, hafter]

/-- R459: a channel whose burst starts. -/
def State.started (s : State) (c : Fin 32) : State :=
  { s.setDma c fun y => { y with
      state := 4, burst := some (min y.act.burstSize y.residue), burstAt := s.now, buf := y.prefetch, prefetch := none } with
    dma := { (s.setDma c fun y => { y with
      state := 4, burst := some (min y.act.burstSize y.residue), burstAt := s.now, buf := y.prefetch
      prefetch := none }).dma with last := c.val } }

theorem State.chan_started_same (s : State) (c : Fin 32) : (s.started c).dma.chans[c] = { s.dma.chans[c] with
    state := 4, burst := some (min s.dma.chans[c].act.burstSize s.dma.chans[c].residue), burstAt := s.now
    buf := s.dma.chans[c].prefetch, prefetch := none } := upd_same ..

theorem State.chan_started_ne (s : State) (h : d ≠ c) : (s.started c).dma.chans[d] = s.dma.chans[d] := upd_ne _ _ _ _ h.symm

/-- R459: a paced burst takes a request of its line. -/
def State.tookRequest (s : State) (c : Fin 32) : State :=
  if h : s.dma.chans[c].act.paced = true ∧ s.dma.chans[c].act.req < 96 then
    s.withLines (upd s.dma.lines ⟨s.dma.chans[c].act.req, h.2⟩ fun n => n - 1)
  else s

theorem State.beginBurst_eq (s : State) (c : Fin 32) : s.beginBurst c = ((s.preemptOthers c).tookRequest c).started c := rfl

theorem State.tookRequest_unpaced (h : s.dma.chans[c].act.paced = false) : s.tookRequest c = s :=
  dif_neg fun hp => ne_true_of_eq_false h hp.1

theorem State.tookRequest_paced {l : Fin 96} (h : s.dma.chans[c].act.paced = true) (hl : s.dma.chans[c].act.req = l.val) :
    s.tookRequest c = s.withLines (s.dma.lines.set l (s.dma.lines[l] - 1)) := by
  have hline : (⟨s.dma.chans[c].act.req, hl ▸ l.isLt⟩ : Fin 96) = l := Fin.ext hl
  unfold State.tookRequest
  rw [dif_pos ⟨h, hl ▸ l.isLt⟩, hline]
  rfl

theorem State.tookRequest_cases (s : State) (c : Fin 32) : ∃ l, s.tookRequest c = s.withLines l := by
  unfold State.tookRequest
  split
  · exact ⟨_, rfl⟩
  · exact ⟨s.dma.lines, rfl⟩

theorem State.startBurst_begins (hend : s.endBefore c = s) (hcan : s.canBurst c = true) (hbid : s.outbid c = false)
    (hon : s.domOn 17 = true) : s.startBurst c = s.beginBurst c := by
  unfold State.startBurst
  rw [hend]
  exact if_pos (by rw [hcan, hbid, hon]; rfl)

theorem State.startBurst_stays (hend : s.endBefore c = s) (hcan : s.canBurst c = false) : s.startBurst c = s := by
  unfold State.startBurst
  rw [hend]
  exact if_neg (by rw [hcan]; exact Bool.false_ne_true)

end

section
variable {s u t : State} {c d : Fin 32} {dt : Nat}

/-- No channel has a burst in progress. -/
theorem burstsNone (hrest : ∀ e : Fin 32, e ≠ d → u.dma.chans[e].burst = none) (hd : u.dma.chans[d].burst = none) (e : Fin 32) :
    u.dma.chans[e].burst = none := by
  by_cases he : e = d
  · rw [he, hd]
  · exact hrest e he

/-- R461: with no burst in progress the channel served starts its own. -/
theorem startBurst_alone (hnone : ∀ e : Fin 32, u.dma.chans[e].burst = none) (hon : u.domOn 17 = true)
    (hcan : u.canBurst c = true) (hbid : u.outbid c = false) : u.startBurst c = (u.tookRequest c).started c := by
  rw [State.startBurst_begins (State.endBefore_of_lower fun e _ => hnone e) hcan hbid hon, State.beginBurst_eq,
    State.preemptOthers_of_none hnone]

theorem startBurst_unpaced (hnone : ∀ e : Fin 32, u.dma.chans[e].burst = none) (hon : u.domOn 17 = true)
    (hcan : u.canBurst c = true) (hbid : u.outbid c = false) (hpaced : u.dma.chans[c].act.paced = false) (q : List Instr) :
    becomes u (u.started c) ((u.startBurst c).settle q) [] := by
  rw [startBurst_alone hnone hon hcan hbid, State.tookRequest_unpaced hpaced]
  exact becomes_settle_nil rfl q

theorem startBurst_paced {l : Fin 96} (hnone : ∀ e : Fin 32, u.dma.chans[e].burst = none) (hon : u.domOn 17 = true)
    (hcan : u.canBurst c = true) (hbid : u.outbid c = false) (hpaced : u.dma.chans[c].act.paced = true)
    (hl : u.dma.chans[c].act.req = l.val) (q : List Instr) :
    let t := (u.startBurst c).settle q
    t.dma.lines = u.dma.lines.set l (u.dma.lines[l] - 1) ∧ t.dma.chans[c].state = 4 ∧
      t.dma.chans[c].burst = some (min u.dma.chans[c].act.burstSize u.dma.chans[c].residue) ∧ u.othersKept c t := by
  let v : State := u.withLines (u.dma.lines.set l (u.dma.lines[l] - 1))
  have hstart : u.startBurst c = v.started c :=
    (startBurst_alone hnone hon hcan hbid).trans (congrArg (State.started · c) (State.tookRequest_paced hpaced hl))
  intro t
  have ht : t = (v.started c).settle q := congrArg (State.settle · q) hstart
  have hdma : t.dma = (v.started c).dma := ht ▸ State.dma_of_quiet (State.quiet_settle _ q)
  have hown := v.chan_started_same c
  refine ⟨congrArg DmaEngine.lines hdma, ?_, ?_, fun e he => ?_⟩
  · rw [hdma, hown]
  · rw [hdma, hown]
    rfl
  · rw [hdma]
    exact v.chan_started_ne he

/-- R461: a lower burst in progress gives its beat slot to the channel served. -/
theorem startBurst_preempts (hne : d ≠ c) (hrest : ∀ e : Fin 32, e ≠ d → u.dma.chans[e].burst = none) (hon : u.domOn 17 = true)
    (hcan : u.canBurst c = true) (hbid : u.outbid c = false) (hburst : u.dma.chans[d].burst.isSome = true)
    (hstate : u.dma.chans[d].state = 4) (hlower : u.dma.chans[d].act.prio < u.dma.chans[c].act.prio) (q : List Instr) :
    let t := (u.startBurst c).settle q
    t.dma.chans[d].state = 5 ∧ t.dma.chans[d].waitAt = some u.now ∧ t.dma.chans[d].burst = u.dma.chans[d].burst ∧
      t.dma.chans[c].burst.isSome = true ∧ t.dma.preempts = satInc 16 u.dma.preempts := by
  have hend : u.endBefore c = u := State.endBefore_of_lower fun e he => by
    refine hrest e fun hed => ?_
    rcases he with rfl | ⟨-, hprio⟩
    · exact hne hed.symm
    · exact Nat.not_le.2 hlower (hed ▸ hprio)
  obtain ⟨l, hl⟩ := (u.preempted d).tookRequest_cases c
  let v : State := (u.preempted d).withLines l
  have hvd : v.dma.chans[d] = { u.dma.chans[d] with state := 5, waitAt := some u.now } := State.chan_preempted_same u d
  have hstart : u.startBurst c = v.started c := by
    rw [State.startBurst_begins hend hcan hbid hon, State.beginBurst_eq, State.preemptOthers_one hne hrest hburst hstate, hl]
  intro t
  have ht : t = (v.started c).settle q := congrArg (State.settle · q) hstart
  have hdma : t.dma = (v.started c).dma := ht ▸ State.dma_of_quiet (State.quiet_settle _ q)
  have hown := v.chan_started_same c
  have hlow := v.chan_started_ne hne
  refine ⟨?_, ?_, ?_, ?_, congrArg DmaEngine.preempts hdma⟩
  · rw [hdma, hlow, hvd]
  · rw [hdma, hlow, hvd]
  · rw [hdma, hlow, hvd]
  · rw [hdma, hown]
    rfl

theorem startBurst_idle (hnone : ∀ e : Fin 32, u.dma.chans[e].burst = none) (hcan : u.canBurst c = false) (q : List Instr) :
    becomes u u ((u.startBurst c).settle q) [] := by
  rw [State.startBurst_stays (State.endBefore_of_lower fun e _ => hnone e) hcan]
  exact becomes_settle_nil rfl q

end

/-! ### The end of a descriptor -/

section
variable {s u : State} {c : Fin 32} {dt n : Nat}

theorem exec_dmaComplete_eq (ch : Fin 32) :
    exec (.dmaComplete dt ch) s = .next (((s.ticked dt).dmaComplete ch).settle s.pending) := rfl

theorem Memory.length_readList (f : Nat → Byte) (m : List Host.Cell) (a n : Nat) : (Memory.readList f m a n).length = n := by
  induction n generalizing a with
  | zero => rfl
  | succ n ih => exact congrArg (· + 1) (ih (a + 1))

/-- R459: LPDDR6 and a channel after a burst from LPDDR6 to LPDDR6 that left nothing. -/
def State.moved (s : State) (c : Fin 32) (n : Nat) : State :=
  ({ s with lpddr := Memory.writeList zeroByte s.lpddr (s.dma.chans[c].to_ n) (s.lpBytes (s.dma.chans[c].from_ n) n) } : State).setDma
    c fun x => { x with residue := x.residue - n, burst := none, buf := none, waitAt := none }

/-- R459: the last burst of a descriptor moves its bytes. -/
theorem State.endBurst_last (hburst : s.dma.chans[c].burst = some s.dma.chans[c].residue)
    (habort : s.dma.chans[c].abortAt = none) (hbuf : s.dma.chans[c].buf = none)
    (hfrom : inLpddr (s.dma.chans[c].from_ s.dma.chans[c].residue) = true)
    (hto : inLpddr (s.dma.chans[c].to_ s.dma.chans[c].residue) = true)
    (hroom : s.dma.chans[c].to_ s.dma.chans[c].residue + s.dma.chans[c].residue ≤ s.installed)
    (hnone : ∀ d : Fin 32, s.dma.chans[d].state ≠ 5) : s.endBurst c = s.moved c s.dma.chans[c].residue := by
  let n := s.dma.chans[c].residue
  have hdata : s.burstData c n = (s, s.lpBytes (s.dma.chans[c].from_ n) n) := by
    unfold State.burstData State.dmaRead
    rw [hbuf]
    exact if_pos hfrom
  have hwrite : s.dmaWrite c (s.dma.chans[c].to_ n) (s.lpBytes (s.dma.chans[c].from_ n) n) =
      { s with lpddr := Memory.writeList zeroByte s.lpddr (s.dma.chans[c].to_ n) (s.lpBytes (s.dma.chans[c].from_ n) n) } :=
    (if_pos hto).trans (if_pos (by rw [State.lpBytes, Memory.length_readList]; exact hroom))
  have hown : (s.moved c n).dma.chans[c] = { s.dma.chans[c] with
      residue := s.dma.chans[c].residue - n, burst := none, buf := none, waitAt := none } := upd_same ..
  have hlive : (s.moved c n).dma.chans[c].abortAt.isSome ≠ true := by rw [hown, habort]; exact Bool.false_ne_true
  have hleft : (s.moved c n).dma.chans[c].residue = 0 := by rw [hown]; exact Nat.sub_self _
  have hresume : (s.moved c n).resumeDma = s.moved c n := State.resumeDma_of_none fun d => by
    by_cases hd : d = c
    · rw [hd, hown]
      exact hnone c
    · exact (upd_ne _ _ _ _ (Ne.symm hd)).symm ▸ hnone d
  unfold State.endBurst
  rw [hburst]
  dsimp only
  rw [hdata]
  dsimp only
  rw [hwrite]
  exact (if_neg hlive).trans ((if_pos hleft).trans hresume)

/-- R459: a descriptor without a successor is DONE, and its channel idle. -/
theorem State.dmaComplete_last (hstate : s.dma.chans[c].state = 4) (hburst : s.dma.chans[c].burst = some s.dma.chans[c].residue)
    (habort : s.dma.chans[c].abortAt = none) (hchain : s.dma.chans[c].act.chain = false)
    (hend : s.endBurst c = s.moved c s.dma.chans[c].residue) :
    s.dmaComplete c = (((s.moved c s.dma.chans[c].residue).dmaResult c 1).raiseIf s.dma.chans[c].act.irqDone 51
      (dmaGroup c)).dmaStop c 0 := by
  let e : State := (s.moved c s.dma.chans[c].residue).dmaResult c 1
  have hrun : ¬ ((s.dma.chans[c].burst != some s.dma.chans[c].residue) = true ∨ (s.dma.chans[c].state != 4) = true) := by
    rw [hburst, hstate]
    simp
  have hown : e.dma.chans[c].act = s.dma.chans[c].act := by
    have hresult : e.dma.chans[c] = { (s.moved c s.dma.chans[c].residue).dma.chans[c] with result := 1 } := upd_same ..
    have hmoved : (s.moved c s.dma.chans[c].residue).dma.chans[c] = { s.dma.chans[c] with
      residue := s.dma.chans[c].residue - s.dma.chans[c].residue, burst := none, buf := none, waitAt := none } := upd_same ..
    rw [hresult, hmoved]
  have hdma := State.dma_of_quiet (State.quiet_raiseIf e s.dma.chans[c].act.irqDone 51 (dmaGroup c))
  have hafter : (e.raiseIf s.dma.chans[c].act.irqDone 51 (dmaGroup c)).afterDone c =
      (e.raiseIf s.dma.chans[c].act.irqDone 51 (dmaGroup c)).dmaStop c 0 := by
    have hnot : (e.raiseIf s.dma.chans[c].act.irqDone 51 (dmaGroup c)).dma.chans[c].act.chain = false := by
      rw [hdma, hown]
      exact hchain
    unfold State.afterDone
    dsimp only
    rw [hnot]
    rfl
  rw [← hafter]
  unfold State.dmaComplete
  dsimp only
  rw [if_neg hrun, habort]
  show (((s.endBurst c).dmaResult c 1).raiseIf s.dma.chans[c].act.irqDone 51 (dmaGroup c)).afterDone c = _
  rw [hend]

/-- What a channel that stops with nothing read ahead leaves, when no channel was pre-empted. -/
structure State.StopsPlain (s : State) (c : Fin 32) (st : Nat) (t : State) : Prop where
  chan : t.dma.chans[c] = s.dma.chans[c].stopped st s.now
  others : s.othersKept c t
  ev : t.ev = s.ev
  lpddr : t.lpddr = s.lpddr
  ports : t.ports = s.ports

theorem State.stopsPlain_dmaStop {st : Nat} (hp : s.dma.chans[c].prefetch = none)
    (hnone : ∀ d : Fin 32, d ≠ c → s.dma.chans[d].state ≠ 5) (hst : st ≠ 5) : s.StopsPlain c st (s.dmaStop c st) := by
  obtain ⟨l, hl⟩ := State.dmaStop_plain hp hnone hst
  rw [hl]
  exact ⟨upd_same .., fun d hd => upd_ne _ _ _ _ hd.symm, rfl, rfl, rfl⟩

/-- R459: a descriptor that is DONE, before its channel stops. -/
def State.doneWith (s : State) (c : Fin 32) (n : Nat) : State := (s.moved c n).dmaResult c 1

theorem State.chan_doneWith (s : State) (c : Fin 32) (n : Nat) : (s.doneWith c n).dma.chans[c] = { s.dma.chans[c] with
    residue := s.dma.chans[c].residue - n, burst := none, buf := none, waitAt := none, result := 1 } := by
  have hmoved : (s.moved c n).dma.chans[c] = { s.dma.chans[c] with
    residue := s.dma.chans[c].residue - n, burst := none, buf := none, waitAt := none } := upd_same ..
  have hown : (s.doneWith c n).dma.chans[c] = { (s.moved c n).dma.chans[c] with result := 1 } := upd_same ..
  rw [hown, hmoved]

theorem State.othersKept_doneWith (s : State) (c : Fin 32) (n : Nat) : s.othersKept c (s.doneWith c n) :=
  fun _ hd => (upd_ne _ _ _ _ hd.symm).trans (upd_ne _ _ _ _ hd.symm)

theorem dmaComplete_done (hstate : u.dma.chans[c].state = 4) (hburst : u.dma.chans[c].burst = some u.dma.chans[c].residue)
    (habort : u.dma.chans[c].abortAt = none) (hprefetch : u.dma.chans[c].prefetch = none)
    (hchain : u.dma.chans[c].act.chain = false) (hend : u.endBurst c = u.moved c u.dma.chans[c].residue)
    (hnone : ∀ d : Fin 32, u.dma.chans[d].state ≠ 5) (q : List Instr) :
    let t := (u.dmaComplete c).settle q
    t.lpddr = (u.moved c u.dma.chans[c].residue).lpddr ∧ t.dma.chans[c].state = 0 ∧ t.dma.chans[c].result = 1 ∧
      t.dma.chans[c].residue = 0 ∧ u.othersKept c t ∧
      newlySet u t (if u.dma.chans[c].act.irqDone then [(51, dmaGroup c)] else []) := by
  let e : State := u.doneWith c u.dma.chans[c].residue
  let v : State := e.raiseIf u.dma.chans[c].act.irqDone 51 (dmaGroup c)
  have hquiet : v.quiet = e.quiet := State.quiet_raiseIf ..
  have hdma : v.dma = e.dma := State.dma_of_quiet hquiet
  have hown := u.chan_doneWith c u.dma.chans[c].residue
  have hothers : u.othersKept c v := (u.othersKept_doneWith c _).trans (State.othersKept_of_chans (by rw [hdma]))
  have hstop := State.stopsPlain_dmaStop (s := v) (c := c) (st := 0) (by rw [hdma, hown]; exact hprefetch)
    (fun d hd => by rw [hothers d hd]; exact hnone d) (by decide)
  have hset : newlySet u v (if u.dma.chans[c].act.irqDone then [(51, dmaGroup c)] else []) :=
    (newlySet_of_eq (s := u) (t := e) rfl).trans (newlySet_raiseIf e _ 51 (dmaGroup c) (dmaGroup_lt c 0))
  have hchan : (v.dmaStop c 0).dma.chans[c] = (e.dma.chans[c]).stopped 0 v.now := hstop.chan.trans (by rw [hdma])
  rw [hown] at hchan
  intro t
  have ht : t = (v.dmaStop c 0).settle q := congrArg (State.settle · q) (State.dmaComplete_last hstate hburst habort hchain hend)
  have hquietT := State.quiet_settle (v.dmaStop c 0) q
  rw [ht, State.dma_of_quiet hquietT, State.eq_of_quiet State.lpddr (fun _ => rfl) hquietT, hchan]
  refine ⟨hstop.lpddr.trans ((State.eq_of_quiet State.lpddr (fun _ => rfl) hquiet).trans rfl), rfl, rfl, Nat.sub_self _, fun d hd => ?_, ?_⟩
  · rw [State.dma_of_quiet hquietT]
    exact (hothers.trans hstop.others) d hd
  · have hkept : newlySet v (v.dmaStop c 0) [] := newlySet_of_eq (congrArg Events.blocks hstop.ev)
    exact (hset.trans (hkept.trans (newlySet_settle (v.dmaStop c 0) q))).of_eq_list (List.append_nil _)

theorem dmaComplete_stays (h : u.dma.chans[c].burst ≠ some u.dma.chans[c].residue) (q : List Instr) :
    becomes u u ((u.dmaComplete c).settle q) [] := by
  rw [show u.dmaComplete c = u from if_pos (.inl (bne_iff_ne.2 h))]
  exact becomes_settle_nil rfl q

end

/-- Settles O51: a burst starts by whether another is in progress and whether it is paced; the last burst of a descriptor
moves its bytes, and its channel stops with nothing left. -/
theorem dmaMovesData : Obligations.DmaMovesData := by
  unfold Obligations.DmaMovesData
  refine ⟨fun dt ch d s hon hrest hne => ⟨fun hcan hbid => ⟨fun hd hpaced => ?_, fun hd hpaced l hl => ?_,
    fun hburst hstate hlower => ?_⟩, fun hd hcan => ?_⟩, fun dt ch s =>
    ⟨fun hstate hburst habort hbuf hprefetch hchain hfrom hto hroom hnone => ?_, fun h => ?_⟩⟩
  · exact ⟨_, exec_dmaBurst_eq ch, startBurst_unpaced (burstsNone hrest hd) hon hcan hbid hpaced _⟩
  · exact ⟨_, exec_dmaBurst_eq ch, startBurst_paced (burstsNone hrest hd) hon hcan hbid hpaced hl _⟩
  · exact ⟨_, exec_dmaBurst_eq ch, startBurst_preempts hne hrest hon hcan hbid hburst hstate hlower _⟩
  · exact ⟨_, exec_dmaBurst_eq ch, startBurst_idle (burstsNone hrest hd) hcan _⟩
  · exact ⟨_, exec_dmaComplete_eq ch, dmaComplete_done hstate hburst habort hprefetch hchain
      (State.endBurst_last hburst habort hbuf hfrom hto hroom hnone) hnone _⟩
  · exact ⟨_, exec_dmaComplete_eq ch, dmaComplete_stays h _⟩

/-! ### Aborts, clears and halts -/

section
variable {s u : State} {c : Fin 32} {dt : Nat}

theorem exec_dmaCmdAbort_eq (ch : Fin 32) :
    exec (.dmaCmdAbort dt ch) s = .next (((s.ticked dt).dmaAbort ch).settle s.pending) := rfl

theorem exec_dmaCmdClear_eq (ch : Fin 32) :
    exec (.dmaCmdClear dt ch) s =
      .next ((((((s.ticked dt).dmaClear ch).causeGone 51 26).causeGone 51 27).causeGone 51 30).settle s.pending) := rfl

theorem State.dmaAbort_waiting (h : s.dma.chans[c].state = 3) : s.dmaAbort c = s.dmaAborted c := by
  unfold State.dmaAbort
  rw [h]
  rfl

/-- R464: a channel that is aborted, before it is reported. -/
def State.abortedBare (s : State) (c : Fin 32) : State :=
  ((s.dmaResult c 2).dmaStop c 0).setDma c fun x => { x with shadow := {}, shadowDropped := true }

theorem State.dmaAborted_eq (s : State) (c : Fin 32) :
    s.dmaAborted c = ((s.abortedBare c).raise 51 (dmaGroup c + 1)).answerAbort c := rfl

/-- What an abort leaves when nothing was read ahead and no channel was pre-empted. -/
structure State.AbortsPlain (s : State) (c : Fin 32) (t : State) : Prop where
  chan : t.dma.chans[c] =
    { ({ s.dma.chans[c] with result := 2 } : DmaChan).stopped 0 s.now with shadow := {}, shadowDropped := true }
  others : s.othersKept c t
  ev : t.ev = s.ev
  ports : t.ports = s.ports

theorem State.abortsPlain_abortedBare (hprefetch : s.dma.chans[c].prefetch = none)
    (hnone : ∀ d : Fin 32, s.dma.chans[d].state ≠ 5) : s.AbortsPlain c (s.abortedBare c) := by
  have hv : (s.dmaResult c 2).dma.chans[c] = { s.dma.chans[c] with result := 2 } := upd_same ..
  have hvothers : s.othersKept c (s.dmaResult c 2) := fun d hd => upd_ne _ _ _ _ hd.symm
  have hstop := State.stopsPlain_dmaStop (s := s.dmaResult c 2) (c := c) (st := 0) (by rw [hv]; exact hprefetch)
    (fun d hd => by rw [hvothers d hd]; exact hnone d) (by decide)
  have hstopped := hstop.chan
  rw [hv] at hstopped
  have hown : (s.abortedBare c).dma.chans[c] =
    { ((s.dmaResult c 2).dmaStop c 0).dma.chans[c] with shadow := {}, shadowDropped := true } := upd_same ..
  rw [hstopped] at hown
  exact ⟨hown, (hvothers.trans hstop.others).trans (State.othersKept_setDma _ c _), hstop.ev, hstop.ports⟩

/-- R464: what an abort leaves of a channel that waits for a request. -/
theorem dmaCmdAbort_waiting (hidle : u.idlePorts) (hnone : ∀ d : Fin 32, u.dma.chans[d].state ≠ 5)
    (hprefetch : u.dma.chans[c].prefetch = none) (h : u.dma.chans[c].state = 3) (q : List Instr) :
    let t := (u.dmaAbort c).settle q
    newlySet u t [(51, dmaGroup c + 1)] ∧ t.dma.chans[c].state = 0 ∧ t.dma.chans[c].result = 2 ∧ t.dma.chans[c].shadow = {} ∧
      t.dma.chans[c].shadowDropped = true ∧ t.dma.chans[c].residue = u.dma.chans[c].residue ∧ u.othersKept c t := by
  have hplain := State.abortsPlain_abortedBare hprefetch hnone
  generalize he : u.abortedBare c = e at hplain
  have hports : (e.raise 51 (dmaGroup c + 1)).ports = u.ports :=
    (State.ports_of_quiet (State.quiet_raise e 51 (dmaGroup c + 1))).trans hplain.ports
  have hab : u.dmaAbort c = e.raise 51 (dmaGroup c + 1) := by
    rw [State.dmaAbort_waiting h, State.dmaAborted_eq, he, State.answerAbort_of_idle (State.idlePorts_congr hports hidle)]
  obtain ⟨hquiet, hset⟩ := becomes_raise (u := u) (e := e) (K := 51) (B := dmaGroup c + 1) (congrArg Events.blocks hplain.ev)
    (dmaGroup_lt c 1) q
  intro t
  have ht : t = (e.raise 51 (dmaGroup c + 1)).settle q := congrArg (State.settle · q) hab
  rw [ht, State.dma_of_quiet hquiet, hplain.chan]
  refine ⟨hset, rfl, rfl, rfl, rfl, rfl, fun d hd => ?_⟩
  rw [State.dma_of_quiet hquiet]
  exact hplain.others d hd

theorem dmaCmdAbort_burst (h : u.dma.chans[c].state = 4) (hburst : u.dma.chans[c].burst.isSome = true)
    (hfirst : u.dma.chans[c].abortAt = none) (q : List Instr) : becomes u (u.abortNoted c) ((u.dmaAbort c).settle q) [] := by
  rw [State.dmaAbort_burst h hburst hfirst]
  exact becomes_settle_nil rfl q

theorem dmaCmdAbort_idle (hidle : u.idlePorts) (h : u.dma.chans[c].state = 0) (q : List Instr) :
    becomes u u ((u.dmaAbort c).settle q) [] := by
  rw [State.dmaAbort_idle h, State.answerAbort_of_idle hidle]
  exact becomes_settle_nil rfl q

/-- R467: the ends of three causes are no change of the engine. -/
theorem becomes_causesGone {e : State} (h : e.ev.blocks = u.ev.blocks) (q : List Instr) :
    becomes u e ((((e.causeGone 51 26).causeGone 51 27).causeGone 51 30).settle q) [] :=
  becomes_reported (((State.quiet_causeGone ..).trans (State.quiet_causeGone ..)).trans (State.quiet_causeGone ..))
    (((newlySet_of_eq (t := e) h).trans (newlySet_causeGone e 51 26)).trans
      ((newlySet_causeGone (e.causeGone 51 26) 51 27).trans (newlySet_causeGone ((e.causeGone 51 26).causeGone 51 27) 51 30))) q

theorem dmaCmdClear_halted (hprefetch : u.dma.chans[c].prefetch = none) (h : u.dma.chans[c].state = 6)
    (hpaced : u.dma.chans[c].act.paced = false) (q : List Instr) :
    becomes u (u.setDma c fun y => { y with state := 0 })
      (((((u.dmaClear c).causeGone 51 26).causeGone 51 27).causeGone 51 30).settle q) [] := by
  rw [show u.dmaClear c = ((u.unbind c).dropPrefetch c).setDma c fun x => { x with state := 0 } from if_pos h,
    State.unbind_of_unpaced hpaced, State.dropPrefetch_of_none hprefetch]
  exact becomes_causesGone (e := u.setDma c fun y => { y with state := 0 }) rfl q

theorem dmaCmdClear_other (h : u.dma.chans[c].state ≠ 6) (q : List Instr) :
    becomes u u (((((u.dmaClear c).causeGone 51 26).causeGone 51 27).causeGone 51 30).settle q) [] := by
  rw [show u.dmaClear c = u from if_neg h]
  exact becomes_causesGone rfl q

end

/-! ### Long waits -/

section
variable {s u : State} {c : Fin 32} {dt : Nat}

theorem exec_preemptLong_eq (ch : Fin 32) :
    exec (.preemptLong dt ch) s = .next (((s.ticked dt).preemptLong ch).settle s.pending) := rfl

theorem exec_dmaWatchdog_eq (ch : Fin 32) :
    exec (.dmaWatchdog dt ch) s = .next (((s.ticked dt).dmaWatchdog ch).settle s.pending) := rfl

theorem exec_haltWait_eq (ch : Fin 32) :
    exec (.haltWait dt ch) s = .next (((s.ticked dt).haltWait ch).settle s.pending) := rfl

/-- R469: a wait of the engine that is long enough is reported unless it stands reported already. -/
theorem becomes_waitedLong {p : Prop} [Decidable p] {b : Nat} (hb : b < 32)
    (h : s = if p then u.raiseLevel true 51 b else u) (q : List Instr) :
    becomes u u (s.settle q) (if p then (if u.ev.blocks[51].held.getLsbD b then [] else [(51, b)]) else []) := by
  by_cases hp : p
  · rw [h, if_pos hp, if_pos hp]
    refine becomes_reported (State.quiet_raiseLevel ..) ((newlySet_raiseLevel u true (by decide) hb).of_eq_list ?_) q
    show (if true = true ∧ u.ev.blocks[51].held.getLsbD b = false then [(51, b)] else []) = _
    cases u.ev.blocks[51].held.getLsbD b <;> rfl
  · rw [h, if_neg hp, if_neg hp]
    exact becomes_settle_nil rfl q

theorem preemptLong_becomes {since : Nat} (h : u.dma.chans[c].waitAt = some since) (q : List Instr) :
    becomes u u ((u.preemptLong c).settle q)
      (if since + 40000 < u.now then (if u.ev.blocks[51].held.getLsbD 18 then [] else [(51, 18)]) else []) := by
  refine becomes_waitedLong (by decide) ?_ q
  unfold State.preemptLong
  rw [h]

theorem dmaWatchdog_becomes (h : u.dma.chans[c].burst.isSome = true) (q : List Instr) :
    becomes u u ((u.dmaWatchdog c).settle q)
      (if u.dma.chans[c].burstAt + 400000 ≤ u.now then (if u.ev.blocks[51].held.getLsbD 31 then [] else [(51, 31)]) else []) := by
  refine becomes_waitedLong (by decide) ?_ q
  unfold State.dmaWatchdog
  dsimp only
  rw [h, Bool.true_and]
  simp only [decide_eq_true_eq]

theorem haltWait_becomes (h : u.dma.chans[c].state = 6) (q : List Instr) :
    becomes u u ((u.haltWait c).settle q)
      (if u.dma.chans[c].haltAt + 4000000 ≤ u.now then (if u.ev.blocks[51].held.getLsbD 24 then [] else [(51, 24)]) else []) := by
  refine becomes_waitedLong (by decide) ?_ q
  unfold State.haltWait
  simp only [h, true_and]

end

/-! ### Errors of a beat -/

section
variable {s t u v : State} {c : Fin 32} {dt addr len kind : Nat} {write tail : Bool}

theorem exec_dmaBusError_eq (ch : Fin 32) (addr : Nat) (write : Bool) (kind : Fin 8) :
    exec (.dmaBusError dt ch addr write kind) s =
      .next (((s.ticked dt).busError ch addr write false kind.val).settle s.pending) := rfl

theorem exec_dmaTailError_eq (ch : Fin 32) (addr : Nat) (kind : Fin 8) :
    exec (.dmaTailError dt ch addr kind) s = .next ((if (s.ticked dt).dma.chans[ch].burst == some (s.ticked dt).dma.chans[ch].residue
      then (s.ticked dt).busError ch addr true true kind.val else s.ticked dt).settle s.pending) := rfl

/-- The engine and the ports are as they were. -/
def State.engineKept (s t : State) : Prop := t.dma = s.dma ∧ t.ports = s.ports

theorem State.engineKept.trans (h : s.engineKept t) (h' : t.engineKept v) : s.engineKept v :=
  ⟨h'.1.trans h.1, h'.2.trans h.2⟩

theorem State.engineKept_raise (s : State) (k b : Nat) : s.engineKept (s.raise k b) :=
  ⟨State.dma_of_quiet (State.quiet_raise ..), State.ports_of_quiet (State.quiet_raise ..)⟩

/-- A write below the register space reaches LPDDR6 or no memory that is held. -/
theorem State.engineKept_dmaWrite {a : Nat} (h : a < regBase) (bs : List Byte) : s.engineKept (s.dmaWrite c a bs) := by
  unfold State.dmaWrite State.lpStore
  split
  · split
    · exact ⟨rfl, rfl⟩
    · exact State.engineKept_raise ..
  · rw [if_neg (Nat.not_le.2 h)]
    exact ⟨rfl, rfl⟩

theorem State.engineKept_dmaWritePart {a skip : Nat} (h : a + len ≤ lpWindow) (hskip : skip ≤ len + 64) (n : Nat)
    (bs : List Byte) : s.engineKept (s.dmaWritePart c a len skip n bs) := by
  have hwindow : lpWindow + 64 < regBase := by decide
  unfold State.dmaWritePart
  dsimp only
  split
  · exact State.engineKept_dmaWrite (by omega) _
  · exact State.engineKept_dmaWrite (by omega) _

theorem State.engineKept_burstData (h : inLpddr (s.dma.chans[c].from_ len) = true) : s.engineKept (s.burstData c len).1 := by
  unfold State.burstData State.dmaRead
  split
  · exact ⟨rfl, rfl⟩
  · rw [if_pos h]
    exact ⟨rfl, rfl⟩

theorem DmaChan.bytesBefore_le (x : DmaChan) (a len addr : Nat) : x.bytesBefore a len addr ≤ len := by
  unfold DmaChan.bytesBefore
  dsimp only
  split
  · exact Nat.min_le_left ..
  · exact Nat.min_le_left ..

/-- R435, R442, R445: what the memory side raises is no change of the engine. -/
theorem State.engineKept_noteBeat (s : State) (addr kind : Nat) : s.engineKept (s.noteBeat addr kind) := by
  have hrefl : s.engineKept s := ⟨rfl, rfl⟩
  unfold State.noteBeat
  split
  · exact hrefl
  · split
    · exact State.engineKept_raise ..
    · unfold State.regionViolation
      split
      · exact State.engineKept_raise ..
      · exact hrefl
    · split
      · exact hrefl
      · unfold State.noteEcc
        exact State.engineKept.trans (t := s.setMc _ _) ⟨rfl, rfl⟩ (State.engineKept_raise ..)
    · exact hrefl

/-- R465: the data of a burst that an error cut short. -/
def State.beatsMoved (s : State) (c : Fin 32) (len k later : Nat) (write : Bool) : State :=
  let r := s.nextFree.burstData c len
  let s1 := r.1.dmaWritePart c (s.dma.chans[c].to_ len) len 0 k r.2
  if write then s1.dmaWritePart c (s.dma.chans[c].to_ len) len (k + 64) (64 * later) r.2 else s1

theorem State.engineKept_beatsMoved {k : Nat} (hto : s.dma.chans[c].to_ len + len ≤ lpWindow)
    (hfrom : inLpddr (s.dma.chans[c].from_ len) = true) (hk : k ≤ len) (later : Nat) (write : Bool) :
    s.engineKept (s.beatsMoved c len k later write) := by
  have hread : s.engineKept (s.nextFree.burstData c len).1 := State.engineKept_burstData (s := s.nextFree) hfrom
  have hbefore := hread.trans (State.engineKept_dmaWritePart (c := c) (skip := 0) hto (Nat.zero_le _) k
    (s.nextFree.burstData c len).2)
  unfold State.beatsMoved
  dsimp only
  split
  · exact hbefore.trans (State.engineKept_dmaWritePart hto (Nat.add_le_add_right hk 64) _ _)
  · exact hbefore

/-- R465: the bytes of a burst up to an error, in transfer order. -/
def State.errorAfter (s : State) (c : Fin 32) (len addr : Nat) (write : Bool) : Nat :=
  (s.dma.chans[c]).bytesBefore (if write then s.dma.chans[c].to_ len else s.dma.chans[c].from_ len) len addr

/-- R465: the beats written after a write error. -/
def State.laterBeats (s : State) (write : Bool) : Nat := if write then Config.freeMeasure s.freeCtr % 4 else 0

/-- R465, R466: what is left of a descriptor whose burst met an error. -/
def State.residueAfter (s : State) (c : Fin 32) (len addr : Nat) (write tail : Bool) (left : Nat) : Nat :=
  if tail then 0
  else left - (if write then min len (s.errorAfter c len addr write + 64 + 64 * s.laterBeats write) else s.errorAfter c len addr write)

/-- The state in which a bus error halts its channel. -/
def State.errorNoted (s : State) (c : Fin 32) (len addr : Nat) (write tail : Bool) (kind : Nat) : State :=
  ((s.beatsMoved c len (s.errorAfter c len addr write) (s.laterBeats write) write).setDma c fun x =>
    { x with residue := s.residueAfter c len addr write tail x.residue, buf := none }).noteBeat addr kind

theorem State.busError_eq (hburst : s.dma.chans[c].burst = some len) :
    s.busError c addr write tail kind = (s.errorNoted c len addr write tail kind).dmaHalt c addr write tail kind := by
  unfold State.busError
  dsimp only
  rw [hburst]
  rfl

/-- R465: what an error leaves of the burst's count, and the ports. -/
theorem State.errorNoted_keeps (hto : s.dma.chans[c].to_ len + len ≤ lpWindow)
    (hfrom : inLpddr (s.dma.chans[c].from_ len) = true) (addr : Nat) (write tail : Bool) (kind : Nat) :
    (s.errorNoted c len addr write tail kind).dma.chans[c].residue =
        s.residueAfter c len addr write tail s.dma.chans[c].residue ∧
      (s.errorNoted c len addr write tail kind).ports = s.ports := by
  have hmoved := State.engineKept_beatsMoved (k := s.errorAfter c len addr write) hto hfrom (DmaChan.bytesBefore_le ..)
    (s.laterBeats write) write
  unfold State.errorNoted
  generalize s.beatsMoved c len (s.errorAfter c len addr write) (s.laterBeats write) write = v at hmoved
  have hnote := (v.setDma c fun x =>
    { x with residue := s.residueAfter c len addr write tail x.residue, buf := none }).engineKept_noteBeat addr kind
  refine ⟨?_, hnote.2.trans hmoved.2⟩
  rw [hnote.1, State.chan_setDma_same, hmoved.1]

/-- R465, R466: a channel that halted with a bus error, reported. -/
def State.haltedBy (t : State) (c : Fin 32) (addr : Nat) (write tail : Bool) (kind : Nat) : Prop :=
  t.dma.chans[c].state = 6 ∧ t.dma.chans[c].result = 3 ∧ t.dma.chans[c].errAddr = addr % 2 ^ 36 ∧
    t.dma.chans[c].errWrite = write ∧ t.dma.chans[c].errKind = kind ∧ t.dma.chans[c].tailErr = tail ∧
    t.dma.chans[c].shadow = {} ∧ t.source 51 (dmaGroup c + (if tail then 3 else 2)) = true

/-- R465, R466: a channel that halts with a bus error. -/
theorem dmaHalt_halts (hidle : s.idlePorts) (c : Fin 32) (addr : Nat) (write tail : Bool) (kind : Nat) (q : List Instr) :
    ((s.dmaHalt c addr write tail kind).settle q).haltedBy c addr write tail kind ∧
      ((s.dmaHalt c addr write tail kind).settle q).dma.chans[c].residue = s.dma.chans[c].residue := by
  have hv : (s.dmaResult c 3).dma.chans[c] = { s.dma.chans[c] with result := 3 } := upd_same ..
  have hstop := State.stopsAt_dmaStop (s.dmaResult c 3) c (st := 6) (by decide)
  let e : State := ((s.dmaResult c 3).dmaStop c 6).setDma c fun x => { x with
    errAddr := addr % 2 ^ 36, errWrite := write, errKind := kind, tailErr := tail, shadow := {} }
  have hown : e.dma.chans[c] = { ((s.dmaResult c 3).dmaStop c 6).dma.chans[c] with
    errAddr := addr % 2 ^ 36, errWrite := write, errKind := kind, tailErr := tail, shadow := {} } := upd_same ..
  have hb : dmaGroup c + (if tail then 3 else 2) < 32 := by
    cases tail
    · exact dmaGroup_lt c 2
    · exact dmaGroup_lt c 3
  let w : State := e.raiseHeld 51 (dmaGroup c + (if tail then 3 else 2))
  have hports : w.ports = s.ports := (State.ports_of_quiet (State.quiet_raiseHeld ..)).trans hstop.ports
  have hhalt : s.dmaHalt c addr write tail kind = w := State.answerAbort_of_idle (State.idlePorts_congr hports hidle) c
  have hdma : (w.settle q).dma = e.dma :=
    (State.dma_of_quiet (State.quiet_settle w q)).trans (State.dma_of_quiet (State.quiet_raiseHeld ..))
  have hsource : (w.settle q).source 51 (dmaGroup c + (if tail then 3 else 2)) = true :=
    State.source_settle_of_newlySet (newlySet_raiseHeld e 51 _ hb) (by decide) (by simp [reportSource]) q
  rw [hhalt, State.haltedBy, hdma, hown]
  exact ⟨⟨hstop.state, hstop.result.trans (by rw [hv]), rfl, rfl, rfl, rfl, rfl, hsource⟩, hstop.residue.trans (by rw [hv])⟩

theorem busError_halts (hidle : u.idlePorts) (hburst : u.dma.chans[c].burst = some len)
    (hto : u.dma.chans[c].to_ len + len ≤ lpWindow) (hfrom : inLpddr (u.dma.chans[c].from_ len) = true) (addr : Nat)
    (write tail : Bool) (kind : Nat) (q : List Instr) :
    ((u.busError c addr write tail kind).settle q).haltedBy c addr write tail kind ∧
      ((u.busError c addr write tail kind).settle q).dma.chans[c].residue =
        u.residueAfter c len addr write tail u.dma.chans[c].residue := by
  obtain ⟨hresidue, hports⟩ := State.errorNoted_keeps hto hfrom addr write tail kind
  rw [State.busError_eq hburst]
  obtain ⟨hhalted, hleft⟩ := dmaHalt_halts (State.idlePorts_congr hports hidle) c addr write tail kind q
  exact ⟨hhalted, hleft.trans hresidue⟩

end

/-- Settles O52: an abort goes by what its channel does; an error of a beat moves the beats before it and halts the channel; a
wait that is long enough is reported once. -/
theorem dmaEndsEarly : Obligations.DmaEndsEarly := by
  unfold Obligations.DmaEndsEarly
  refine ⟨fun dt ch s hidle hnone hprefetch => ⟨fun h => ?_, fun h hburst hfirst => ?_, fun h => ?_, fun h hpaced => ?_, fun h => ?_⟩,
    fun dt ch addr len kind s hidle hburst hstate hto hfrom => ⟨?_, ?_, fun hlen => ?_⟩,
    fun dt ch s => ⟨fun since h => ?_, fun h => ?_, fun h => ?_⟩⟩
  · exact ⟨_, exec_dmaCmdAbort_eq ch, dmaCmdAbort_waiting hidle hnone hprefetch h _⟩
  · exact ⟨_, exec_dmaCmdAbort_eq ch, dmaCmdAbort_burst h hburst hfirst _⟩
  · exact ⟨_, exec_dmaCmdAbort_eq ch, dmaCmdAbort_idle hidle h _⟩
  · exact ⟨_, exec_dmaCmdClear_eq ch, dmaCmdClear_halted hprefetch h hpaced _⟩
  · exact ⟨_, exec_dmaCmdClear_eq ch, dmaCmdClear_other h _⟩
  · exact ⟨_, exec_dmaBusError_eq ch addr false kind, busError_halts hidle hburst hto hfrom addr false false kind.val _⟩
  · exact ⟨_, exec_dmaBusError_eq ch addr true kind, (busError_halts hidle hburst hto hfrom addr true false kind.val _).1⟩
  · refine ⟨_, (exec_dmaTailError_eq ch addr kind).trans ?_, busError_halts hidle hburst hto hfrom addr true true kind.val s.pending⟩
    rw [if_pos (by rw [hburst, hlen]; exact beq_self_eq_true _)]
  · exact ⟨_, exec_preemptLong_eq ch, preemptLong_becomes h _⟩
  · exact ⟨_, exec_dmaWatchdog_eq ch, dmaWatchdog_becomes h _⟩
  · exact ⟨_, exec_haltWait_eq ch, haltWait_becomes h _⟩

end Sys2Proof.Machine
end

section
/-!
SUPPORT. A record store out of order: a write of a default value in front of a higher address leaves the cells behind it, so a
field may read differently from what was written to it. No write from reset makes such a store (`Memory.wf` is kept); a
statement about every state speaks of it all the same.
-/
namespace Sys2Proof.Machine

/-- The device as it stands after a boot, with firmware accepting commands, over a given record store. -/
def acceptingOver (m : List Host.Cell) : State :=
  { State.reset with
    sys := { State.reset.sys with mgmtOn := true, cmdReady := true }
    recs := { State.reset.recs with active := m } }

/-- A command header of P3. -/
def p3Hdr : Hdr :=
  { port := .p3, seq := 7, epochCheck := false, active := false, leaveWait := 0, epoch := 0, check := 5, mirror := none }

/-! ### The power budget -/

/-- The record of the power steward with a cell of the budget's low byte behind one of a higher address. -/
def staleBudget : State := acceptingOver [(recAddr 0x0F01 65535 2, 1), (recAddr 0x0F01 65535 0, 1)]

theorem runs_staleBudget : (staleBudget.ticked 0).runs p3Hdr (.pwrBudget 1100) := by decide +kernel

theorem unlocked_staleBudget : (staleBudget.ticked 0).locked 0x0F01 65535 = false := by decide +kernel

theorem notOpen_staleBudget : (staleBudget.ticked 0).openFor 0x0F01 65535 = none := by decide +kernel

theorem exec_staleBudget : ∃ t, exec (.pwrBudget 0 p3Hdr 1100) staleBudget = .next t ∧ t.budget = 1025 :=
  ⟨_, rfl, by decide +kernel⟩

/-- Refutes O53: 1100 is the reset value of the budget, so a write of it in front of a higher address leaves a stale low byte
that stands behind that address, and the budget reads 1025. -/
theorem not_budgetAndDomains : ¬ Obligations.BudgetAndDomains := by
  unfold Obligations.BudgetAndDomains
  rintro ⟨hbudget, -⟩
  obtain ⟨hset, -⟩ := (hbudget 0 p3Hdr 1100 staleBudget).1 runs_staleBudget
  obtain ⟨t, ht, hval, -⟩ := hset (by decide) (by decide) unlocked_staleBudget notOpen_staleBudget rfl
  obtain ⟨t', ht', hread⟩ := exec_staleBudget
  obtain rfl : t = t' := Host.Outcome.next.inj (ht.symm.trans ht')
  exact absurd (hval.symm.trans hread) (by decide)

/-! ### A severity -/

/-- The severities of block 0 with a cell of the first behind one of the second. -/
def staleSeverity : State := acceptingOver [(recAddr 0x0E01 0 1, 3), (recAddr 0x0E01 0 0, 3)]

theorem runs_staleSeverity : (staleSeverity.ticked 0).runs p3Hdr (.evtSeverity 0 0 2) := by decide +kernel

theorem unlocked_staleSeverity : (staleSeverity.ticked 0).locked 0x0E01 0 = false := by decide +kernel

theorem notOpen_staleSeverity : (staleSeverity.ticked 0).openFor 0x0E01 0 = none := by decide +kernel

/-- The write of the reset severity changes nothing that is read. -/
theorem severity_staleSeverity : ((staleSeverity.ticked 0).writeBoth 0x0E01 0 0 [2]).severity ⟨0, 0⟩ = 3 := by decide +kernel

/-- Refutes O21: 2 is the reset severity of the source, so EVT_SEVERITY with 2 leaves the stale cell that stands behind a
higher address, and the severity in force stays 3. -/
theorem not_eventsClearAndReport : ¬ Obligations.EventsClearAndReport := by
  unfold Obligations.EventsClearAndReport
  rintro ⟨-, hreport⟩
  obtain ⟨-, -, hseverity⟩ := hreport 0 p3Hdr 0 0 2 staleSeverity
  obtain ⟨hset, -⟩ := hseverity runs_staleSeverity (by decide)
  obtain ⟨t, -, -, hsev, hstill⟩ := hset (by decide) (by decide) unlocked_staleSeverity notOpen_staleSeverity
  have hrecs := State.recs_of_still hstill
  have hread : t.severity ⟨0, 0⟩ = ((staleSeverity.ticked 0).writeBoth 0x0E01 0 0 [2]).severity ⟨0, 0⟩ := by
    unfold State.severity State.au
    rw [hrecs]
    rfl
  exact absurd ((hsev.symm.trans hread).trans severity_staleSeverity) (by decide)

end Sys2Proof.Machine
end

section
/-!
SUPPORT. Reports before a reply: a reply may follow them while audit staging has room for its entry too.
-/
namespace Sys2Proof.Machine

/-- `y` is reached from `x` by reports that stage at most `n` audit entries. -/
structure State.NotesAtMost (x : State) (n : Nat) (y : State) : Prop where
  quiet : y.quiet = x.quiet
  twin : y.twin = x.twin
  posted : y.posted = x.posted
  staged : y.audit.staged.length ≤ x.audit.staged.length + n

section
variable {u x y z : State} {h : Hdr} {n m : Nat}

theorem State.NotesAtMost.refl (x : State) : x.NotesAtMost 0 x := ⟨rfl, rfl, rfl, Nat.le_refl _⟩

theorem State.NotesAtMost.trans (hxy : x.NotesAtMost n y) (hyz : y.NotesAtMost m z) : x.NotesAtMost (n + m) z :=
  ⟨hyz.quiet.trans hxy.quiet, hyz.twin.trans hxy.twin, hyz.posted.trans hxy.posted,
    hyz.staged.trans (by have := hxy.staged; omega)⟩

theorem State.NotesAtMost.mono (hxy : x.NotesAtMost n y) (hle : n ≤ m) : x.NotesAtMost m y :=
  ⟨hxy.quiet, hxy.twin, hxy.posted, hxy.staged.trans (Nat.add_le_add_left hle _)⟩

/-- A reply may follow reports while audit staging has room for its entry too. -/
theorem State.RepliesAs.notes (hx : u.RepliesAs x h) (hxy : x.NotesAtMost n y) (hroom : x.audit.staged.length + n < 32) :
    u.RepliesAs y h := by
  have hchans : y.mb.chans = x.mb.chans := congrArg Mailbox.chans (State.mb_of_posted hxy.posted)
  exact { direct := hx.direct
          unmirrored := hxy.twin ▸ hx.unmirrored
          idle := State.port_of_quiet hxy.quiet h.port ▸ hx.idle
          room := Nat.lt_of_le_of_lt hxy.staged hroom
          others := fun p hp => (State.port_of_quiet hxy.quiet p).trans (hx.others p hp)
          chan := hchans ▸ hx.chan
          epoch := hxy.twin ▸ hx.epoch
          ident := (State.ident_congr (State.recs_of_quiet hxy.quiet) hxy.twin).trans hx.ident }

theorem State.overflow_stage_of_room (hroom : x.audit.staged.length < 32) (e : Entry) :
    (x.stage e).audit.overflow = x.audit.overflow := by
  unfold State.stage
  rw [if_pos hroom]

/-- R72: with a place free an occurrence overflows nothing. -/
theorem State.noteOverflow_of_room (hroom : x.audit.staged.length < 32) (c : Src) (a b : Bool) :
    x.noteOverflow (x.occur c a b) = x.occur c a b := by
  have hkept : (x.occur c a b).audit.overflow = x.audit.overflow := by
    unfold State.occur
    split
    · dsimp only
      split
      · rfl
      · refine (State.overflow_stage_of_room ?_ _).trans rfl
        exact hroom
    · rfl
  exact if_neg (by rw [hkept]; exact Nat.lt_irrefl _)

theorem State.notes_occur (hroom : x.audit.staged.length < 32) (c : Src) (a b : Bool) :
    x.NotesAtMost 1 (x.noteOverflow (x.occur c a b)) := by
  rw [State.noteOverflow_of_room hroom]
  exact ⟨State.quiet_occur .., State.twin_occur .., State.posted_occur .., State.length_staged_occur ..⟩

theorem State.notes_causeGone (x : State) (k b : Nat) : x.NotesAtMost 0 (x.causeGone k b) := by
  have hrest : (x.causeGone k b).twin = x.twin ∧ (x.causeGone k b).audit = x.audit := by
    unfold State.causeGone
    split <;> exact ⟨rfl, rfl⟩
  exact ⟨State.quiet_causeGone .., hrest.1, State.posted_causeGone .., by rw [hrest.2]; exact Nat.le_refl _⟩

theorem State.notes_raiseLevel (hroom : x.audit.staged.length < 32) (p : Bool) (k b : Nat) :
    x.NotesAtMost 1 (x.raiseLevel p k b) := by
  unfold State.raiseLevel
  split
  · split
    · split
      · exact (State.NotesAtMost.refl x).mono (by decide)
      · exact State.notes_occur hroom ..
    · exact (State.notes_causeGone x k b).mono (by decide)
  · exact (State.NotesAtMost.refl x).mono (by decide)

theorem State.notes_foldl {α : Type} {f : State → α → State} (hf : ∀ (s : State) (a : α), s.audit.staged.length < 32 → s.NotesAtMost 1 (f s a))
    (l : List α) (hroom : x.audit.staged.length + l.length ≤ 32) : x.NotesAtMost l.length (l.foldl f x) := by
  induction l generalizing x with
  | nil => exact .refl x
  | cons a l ih =>
    rw [List.length_cons] at hroom ⊢
    have hone := hf x a (by omega)
    have hstaged := hone.staged
    exact (hone.trans (ih (by omega))).mono (by omega)

/-- R448: PLANNED replaced. -/
def State.withPlanned (s : State) (n : Nat) : State := { s with mem := { s.mem with planned := n } }

/-- R448: the plan stages at most one entry for each channel. -/
theorem State.notes_refreshPlan (hroom : x.audit.staged.length + 6 ≤ 32) :
    (x.withPlanned (x.plannedOf x.recs.active)).NotesAtMost 6 x.refreshPlan := by
  unfold State.refreshPlan
  have hroom' : (x.withPlanned (x.plannedOf x.recs.active)).audit.staged.length + (fins 6).length ≤ 32 := by
    rw [show (fins 6).length = 6 from List.length_finRange]
    exact hroom
  exact (State.notes_foldl (fun _ _ h => State.notes_raiseLevel h ..) (fins 6) hroom').mono (by
    rw [show (fins 6).length = 6 from List.length_finRange])

end

end Sys2Proof.Machine
end

section
/-!
SUPPORT. Injected events and the built-in tests (R488 to R490): what an occurrence and the end of a step leave of the bits and
of the injected causes of a block, and the sweeps that TEST_BIST starts.
-/
namespace Sys2Proof.Machine

/-! ### Injected causes -/

/-- The injected causes of a block. -/
def State.injected (s : State) (k : Fin 53) : Word := s.ev.blocks[k].injected

theorem State.injected_of_blocks {s t : State} (h : t.ev.blocks = s.ev.blocks) (k : Fin 53) : t.injected k = s.injected k := by
  unfold State.injected
  rw [h]

theorem State.injected_ite {p : Prop} [Decidable p] {x y : State} {k : Fin 53} {w : Word} (hx : x.injected k = w)
    (hy : y.injected k = w) : (if p then x else y).injected k = w := by
  split <;> assumption

/-- R490: an occurrence that is not injected leaves the injected causes. -/
theorem State.injected_occur (s : State) (c : Src) (cause : Bool) (k : Fin 53) :
    (s.occur c cause false).injected k = s.injected k := by
  have hset : ∀ (h : c.block < 53) (f : EvBlock), f.injected = s.ev.blocks[(⟨c.block, h⟩ : Fin 53)].injected →
      ((s.ev.blocks.set c.block f h)[k]).injected = s.injected k := by
    intro h f hf
    rw [Fin.getElem_fin, Vector.getElem_set]
    by_cases hk : c.block = k.val
    · rw [if_pos hk, hf]
      exact congrArg (fun j : Fin 53 => s.injected j) (Fin.ext hk)
    · rw [if_neg hk]
      rfl
  have hcause : (cause && false) ≠ true := by simp
  unfold State.occur
  split
  · next h =>
    exact State.injected_ite (hset h _ (if_neg hcause))
      ((State.injected_of_blocks (congrArg Events.blocks (State.ev_stage ..)) k).trans (hset h _ (if_neg hcause)))
  · rfl

theorem State.injected_noteOverflow (s t : State) (k : Fin 53) : (s.noteOverflow t).injected k = t.injected k :=
  State.injected_ite (State.injected_occur ..) rfl

theorem State.injected_log (s : State) (e : Entry) (k : Fin 53) : (s.log e).injected k = s.injected k :=
  (State.injected_noteOverflow ..).trans (State.injected_of_blocks (congrArg Events.blocks (State.ev_stage ..)) k)

theorem State.injected_raise (s : State) (K B : Nat) (k : Fin 53) : (s.raise K B).injected k = s.injected k :=
  (State.injected_noteOverflow ..).trans (State.injected_occur ..)

theorem State.injected_raiseHeld (s : State) (K B : Nat) (k : Fin 53) : (s.raiseHeld K B).injected k = s.injected k :=
  (State.injected_noteOverflow ..).trans (State.injected_occur ..)

theorem State.injected_enter (s : State) (t : TwinState) (e : Half) (k : Fin 53) : (s.enter t e).injected k = s.injected k := by
  unfold State.enter
  extract_lets old oldEpoch s1 w s2 a s3 s4 s5 s6 s7 u s8 leaves
  have h1 : s1.injected k = s.injected k := by
    show (s.setEpoch e).injected k = _
    unfold State.setEpoch
    split <;> rfl
  have h2 : s3.injected k = s.injected k := (State.injected_log s2 _ k).trans h1
  have h3 : s4.injected k = s.injected k := State.injected_ite ((State.injected_raise ..).trans h2) h2
  have h4 : s5.injected k = s.injected k := State.injected_ite ((State.injected_raiseHeld ..).trans h3) h3
  have h5 : s6.injected k = s.injected k := State.injected_ite ((State.injected_raiseHeld ..).trans h4) h4
  have h6 : s7.injected k = s.injected k := State.injected_ite ((State.injected_raise ..).trans h5) h5
  exact State.injected_ite ((State.injected_raise ..).trans h6) (State.injected_ite h6 h6)

theorem State.injected_fence (s : State) (k : Fin 53) : s.fence.injected k = s.injected k := by
  unfold State.fence
  split
  · exact State.injected_enter ..
  · exact State.injected_enter ..
  · rfl

theorem State.injected_escalateNow (s : State) (k : Fin 53) : s.escalateNow.injected k = s.injected k := by
  unfold State.escalateNow
  split
  · refine State.injected_ite ?_ rfl
    unfold State.startSwap State.sendG
    exact State.injected_ite rfl rfl
  · exact State.injected_fence s k
  · exact State.injected_fence s k
  · rfl

theorem State.blocks_sendMirrors (s : State) : s.sendMirrors.ev.blocks = s.ev.blocks := by
  unfold State.sendMirrors
  split
  · split
    · dsimp only
      unfold State.sendG
      split <;> rfl
    · rfl
  · rfl

/-- R479: the end of a cause touches the held causes of its block. -/
theorem State.block_causeGone (s : State) (K B : Nat) (k : Fin 53) :
    ∃ w, (s.causeGone K B).ev.blocks[k] = { s.ev.blocks[k] with held := w } := by
  unfold State.causeGone
  split
  · next h =>
    by_cases hk : (⟨K, h⟩ : Fin 53) = k
    · exact ⟨_, by rw [← hk]; exact upd_same ..⟩
    · exact ⟨_, upd_ne _ _ _ _ hk⟩
  · exact ⟨s.ev.blocks[k].held, rfl⟩

/-- R479: causes that a step finds gone leave all else of a block. -/
theorem State.block_causesGone (l : List (Nat × Nat × (Unit → Bool))) (s : State) (k : Fin 53) :
    ∃ w, (l.foldl (fun s c => s.causeGone c.1 c.2.1) s).ev.blocks[k] = { s.ev.blocks[k] with held := w } := by
  induction l generalizing s with
  | nil => exact ⟨s.ev.blocks[k].held, rfl⟩
  | cons c l ih =>
    obtain ⟨w, hw⟩ := ih (s.causeGone c.1 c.2.1)
    obtain ⟨w', hw'⟩ := s.block_causeGone c.1 c.2.1 k
    exact ⟨w, hw.trans (by rw [hw'])⟩

theorem State.block_refreshCauses (s : State) (k : Fin 53) : ∃ w, s.refreshCauses.ev.blocks[k] = { s.ev.blocks[k] with held := w } :=
  State.block_causesGone _ s k

theorem State.blocks_levels (s : State) (q : List Instr) :
    ({ s.noteCauses.drivePins with pending := q } : State).ev.blocks = s.ev.blocks := rfl

/-- The blocks at the end of a step: an escalation is answered, and held causes go. -/
theorem State.blocks_settle (s : State) (q : List Instr) :
    (s.settle q).ev.blocks = (if s.ev.escalate then s.escalateNow else s).sendMirrors.refreshCauses.ev.blocks := by
  unfold State.settle
  exact State.blocks_levels _ q

/-- What every step ends with injects nothing and ends no injection. -/
theorem State.injected_settle (s : State) (q : List Instr) (k : Fin 53) : (s.settle q).injected k = s.injected k := by
  have hesc : (if s.ev.escalate then s.escalateNow else s).injected k = s.injected k :=
    State.injected_ite (s.injected_escalateNow k) rfl
  rw [State.injected_of_blocks (s.blocks_settle q) k, ← hesc]
  generalize (if s.ev.escalate then s.escalateNow else s) = v
  obtain ⟨w, hw⟩ := v.sendMirrors.block_refreshCauses k
  exact (congrArg EvBlock.injected hw).trans (State.injected_of_blocks v.blocks_sendMirrors k)

/-- R485: a unit that stands alone answers no escalation: a step of it ends with held causes gone, and no other change of a
block. -/
theorem State.block_settle_of_single {s : State} (h : s.twin.state = .single) (q : List Instr) (k : Fin 53) :
    ∃ w, (s.settle q).ev.blocks[k] = { s.ev.blocks[k] with held := w } := by
  have hesc : s.escalateNow = s := by
    unfold State.escalateNow
    rw [h]
  obtain ⟨w, hw⟩ := s.sendMirrors.block_refreshCauses k
  refine ⟨w, ?_⟩
  rw [State.blocks_settle, hesc, ite_self, hw, State.blocks_sendMirrors]

/-! ### Injections -/

/-- R472, R490: a source occurs by injection. -/
def State.inject (s : State) (c : Src) (hold : Bool) : State := s.noteOverflow (s.occur c hold true)

theorem State.statusBit_inject (s : State) (k : Fin 53) (b : Fin 32) (hold : Bool) :
    (s.inject ⟨k.val, b.val⟩ hold).statusBit k b.val = true := by
  have hset : (s.occur ⟨k.val, b.val⟩ hold true).statusBit k b.val = true :=
    (State.statusBit_occur s ⟨k.val, b.val⟩ hold true k b.val b.isLt).trans (by simp)
  unfold State.inject State.noteOverflow
  refine State.statusBit_ite ?_ hset
  rw [State.statusBit_occur _ _ _ _ _ _ (by decide), hset, Bool.true_or]

/-- R490: a hold injects the cause of its source. -/
theorem State.injected_inject (s : State) (k : Fin 53) (b : Fin 32) :
    ((s.inject ⟨k.val, b.val⟩ true).injected k).getLsbD b.val = true := by
  have hset : ∀ f : EvBlock, f.injected = s.ev.blocks[k].injected ||| 1#32 <<< b.val →
      (((s.ev.blocks.set k.val f k.isLt)[k]).injected).getLsbD b.val = true := by
    intro f hf
    rw [Fin.getElem_fin, Vector.getElem_set_self, hf]
    exact getLsbD_or_bit_same _ b.isLt
  have hoccur : ((s.occur ⟨k.val, b.val⟩ true true).injected k).getLsbD b.val = true := by
    unfold State.occur
    rw [dif_pos k.isLt]
    dsimp only
    split
    · exact hset _ rfl
    · rw [State.injected_of_blocks (congrArg Events.blocks (State.ev_stage ..)) k]
      exact hset _ rfl
  unfold State.inject
  rw [State.injected_noteOverflow]
  exact hoccur

theorem State.quiet_inject (s : State) (c : Src) (hold : Bool) : (s.inject c hold).quiet = s.quiet :=
  (State.quiet_noteOverflow ..).trans (State.quiet_occur ..)

/-- A reply may follow an occurrence while audit staging has room for the entries of both. -/
theorem State.RepliesAs.occurs {u x : State} {h : Hdr} (hx : u.RepliesAs x h) (hroom : x.audit.staged.length < 31) (c : Src)
    (cause injected : Bool) : u.RepliesAs (x.noteOverflow (x.occur c cause injected)) h :=
  hx.notes (State.notes_occur (Nat.lt_trans hroom (by decide)) c cause injected) (Nat.add_lt_add_right hroom 1)

/-! ### A unit that stands alone -/

/-- A command of a unit that stands alone, whose meaning ends with a reply: the blocks stay as its meaning left them, but for
held causes that are gone. -/
theorem exec_answers_blocks {dt : Nat} {h : Hdr} {b : Body} {c : Instr} {s x : State} {status detail : Nat} {pl : List Byte}
    {used : Word} (hc : b.row dt h = some c) (hr : (s.ticked dt).runs h b) (hx : (s.ticked dt).RepliesAs x h)
    (hsingle : x.twin.state = .single)
    (hrun : ((s.ticked dt).taken ⟨h, b⟩).run ⟨h, b⟩ = x.reply ⟨h, b⟩ status detail pl 0 used) :
    ∃ t, exec c s = .next t ∧ (s.ticked dt).answered t h b status detail pl ∧ t.still = x.still ∧
      ∀ k : Fin 53, ∃ w, t.ev.blocks[k] = { x.ev.blocks[k] with held := w } := by
  obtain ⟨hans, hstill⟩ := State.submit_answers hr hx hrun s.pending
  have htwin : (x.reply ⟨h, b⟩ status detail pl 0 used).twin = x.twin := by
    rw [State.reply_eq_answer x ⟨h, b⟩ status detail pl 0 used hx.direct hx.unmirrored]
    exact State.twin_answer ..
  refine ⟨_, exec_of_row hc s, hans, hstill, fun k => ?_⟩
  rw [State.submit_of_runs hr, hrun]
  obtain ⟨w, hw⟩ := State.block_settle_of_single (htwin.symm ▸ hsingle : (x.reply ⟨h, b⟩ status detail pl 0 used).twin.state = .single)
    s.pending k
  refine ⟨w, hw.trans ?_⟩
  rw [hx.ev_reply]

section
variable {u : State} {h : Hdr} {k : Fin 53} {bit : Fin 32} {us : Word}

/-- R490: outside factory test mode the opcode of EVT_INJECT does not exist. -/
theorem State.factoryTest_of_inject {block b mode : Byte} (hr : u.runs h (.evtInject block b mode us)) : u.sys.factoryTest = true := by
  obtain ⟨-, hcheck⟩ := hr
  by_contra hoff
  have hno : u.noOpcode (Body.evtInject block b mode us).opcode.toNat = true := by
    refine Bool.or_eq_true_iff.2 (.inr ?_)
    rw [Bool.eq_false_of_not_eq_true hoff]
    rfl
  unfold State.checkCmd at hcheck
  dsimp only at hcheck
  rw [if_pos hno] at hcheck
  exact Option.some_ne_none _ hcheck

theorem byte_val (k : Fin 53) : (BitVec.ofNat 8 k.val).toNat = k.val := Nat.mod_eq_of_lt (by omega)

theorem bitByte_val (bit : Fin 32) : (BitVec.ofNat 8 bit.val).toNat = bit.val := Nat.mod_eq_of_lt (by omega)

theorem State.run_evtInject_once (htest : u.sys.factoryTest = true) (hdef : (⟨k.val, bit.val⟩ : Src).defined = true) :
    u.run ⟨h, .evtInject (BitVec.ofNat 8 k.val) (BitVec.ofNat 8 bit.val) 0 us⟩ =
      (u.inject ⟨k.val, bit.val⟩ false).ok ⟨h, .evtInject (BitVec.ofNat 8 k.val) (BitVec.ofNat 8 bit.val) 0 us⟩ [] := by
  show u.runEvtInject _ _ _ 0 us = _
  unfold State.runEvtInject
  dsimp only
  rw [byte_val, bitByte_val, htest, hdef]
  exact (if_neg (by decide)).trans ((if_neg (by omega)).trans ((if_neg (by decide)).trans ((if_neg (by decide)).trans
    ((if_neg (by simp)).trans (if_pos rfl)))))

/-- R490: an injection with a hold. -/
def State.injectFor (s : State) (c : Src) (us : Nat) : State :=
  { s.inject c true with ev := { (s.inject c true).ev with
      holds := ((s.inject c true).ev.holds.filter fun x => x.1 != c) ++ [(c, (s.inject c true).now + ticksOfUs us)] } }

theorem State.run_evtInject_hold (htest : u.sys.factoryTest = true) (hdef : (⟨k.val, bit.val⟩ : Src).defined = true)
    (hlo : 1 ≤ us.toNat) (hhi : us.toNat ≤ 1000000) :
    u.run ⟨h, .evtInject (BitVec.ofNat 8 k.val) (BitVec.ofNat 8 bit.val) 1 us⟩ =
      (u.injectFor ⟨k.val, bit.val⟩ us.toNat).ok ⟨h, .evtInject (BitVec.ofNat 8 k.val) (BitVec.ofNat 8 bit.val) 1 us⟩ [] := by
  have hrange : ¬ ((1 : Byte) = 1 ∧ (us.toNat = 0 ∨ 1000000 < us.toNat)) := by omega
  show u.runEvtInject _ _ _ 1 us = _
  unfold State.runEvtInject
  dsimp only
  rw [byte_val, bitByte_val, htest, hdef]
  exact (if_neg (by decide)).trans ((if_neg (by omega)).trans ((if_neg (by decide)).trans ((if_neg (by decide)).trans
    ((if_neg hrange).trans (if_neg (by decide))))))

end

section
variable {s u : State} {h : Hdr} {k : Fin 53} {bit : Fin 32} {us : Word} {dt : Nat}

theorem State.repliesAs_inject {b : Body} (hr : u.runs h b) (c : Src) (hold : Bool) :
    u.RepliesAs ((u.taken ⟨h, b⟩).inject c hold) h :=
  (State.repliesAs_taken hr).occurs (Nat.lt_trans (State.room_of_runs hr) (by decide)) c hold true

theorem State.twin_inject (s : State) (c : Src) (hold : Bool) : (s.inject c hold).twin = s.twin :=
  (State.twin_noteOverflow ..).trans (State.twin_occur ..)

theorem State.holds_of_still {t : State} (h : t.still = s.still) : t.ev.holds = s.ev.holds := by
  show t.still.ev.holds = s.still.ev.holds
  rw [h]

/-- R472, R490: EVT_INJECT makes its source occur. -/
theorem exec_evtInject_once (hr : (s.ticked dt).runs h (.evtInject (BitVec.ofNat 8 k.val) (BitVec.ofNat 8 bit.val) 0 us))
    (hdef : (⟨k.val, bit.val⟩ : Src).defined = true) :
    ∃ t, exec (.evtInject dt h (BitVec.ofNat 8 k.val) (BitVec.ofNat 8 bit.val) 0 us) s = .next t ∧
      t.still = (s.ticked dt).still ∧ t.statusBit k bit.val = true ∧
      (s.ticked dt).answered t h (.evtInject (BitVec.ofNat 8 k.val) (BitVec.ofNat 8 bit.val) 0 us) 0 0 [] := by
  have hrun := State.run_evtInject_once (u := (s.ticked dt).taken ⟨h, .evtInject (BitVec.ofNat 8 k.val) (BitVec.ofNat 8 bit.val) 0 us⟩)
    (h := h) (us := us) (State.factoryTest_of_inject hr) hdef
  obtain ⟨t, ht, hans, hstill, hblock⟩ := exec_answers_blocks rfl hr (State.repliesAs_inject hr ⟨k.val, bit.val⟩ false)
    (by rw [State.twin_inject]; exact State.runs_single hr) hrun
  obtain ⟨w, hw⟩ := hblock k
  refine ⟨t, ht, hstill.trans ((State.still_of_quiet (State.quiet_inject ..)).trans (State.still_taken ..)), ?_, hans⟩
  exact (congrArg (fun b : EvBlock => b.status.getLsbD bit.val) hw).trans (State.statusBit_inject ..)

/-- R490: the hold keeps the cause active for HOLD_US. -/
theorem exec_evtInject_hold (hr : (s.ticked dt).runs h (.evtInject (BitVec.ofNat 8 k.val) (BitVec.ofNat 8 bit.val) 1 us))
    (hdef : (⟨k.val, bit.val⟩ : Src).defined = true) (hlo : 1 ≤ us.toNat) (hhi : us.toNat ≤ 1000000) :
    ∃ t, exec (.evtInject dt h (BitVec.ofNat 8 k.val) (BitVec.ofNat 8 bit.val) 1 us) s = .next t ∧
      t.statusBit k bit.val = true ∧ (t.ev.blocks[k].cause).getLsbD bit.val = true ∧
      (⟨k.val, bit.val⟩, (s.ticked dt).now + 400 * us.toNat) ∈ t.ev.holds ∧
      (s.ticked dt).answered t h (.evtInject (BitVec.ofNat 8 k.val) (BitVec.ofNat 8 bit.val) 1 us) 0 0 [] := by
  let b : Body := .evtInject (BitVec.ofNat 8 k.val) (BitVec.ofNat 8 bit.val) 1 us
  let v : State := (s.ticked dt).taken ⟨h, b⟩
  have hrun := State.run_evtInject_hold (u := v) (h := h) (us := us) (State.factoryTest_of_inject hr) hdef hlo hhi
  have hx : (s.ticked dt).RepliesAs (v.injectFor ⟨k.val, bit.val⟩ us.toNat) h :=
    (State.repliesAs_inject hr ⟨k.val, bit.val⟩ true).congr rfl rfl rfl rfl rfl
  obtain ⟨t, ht, hans, hstill, hblock⟩ := exec_answers_blocks (x := v.injectFor ⟨k.val, bit.val⟩ us.toNat) rfl hr hx
    ((congrArg Twin.state (v.twin_inject ..)).trans (State.runs_single hr)) hrun
  obtain ⟨w, hw⟩ := hblock k
  have hcause : (v.injectFor ⟨k.val, bit.val⟩ us.toNat).injected k = (v.inject ⟨k.val, bit.val⟩ true).injected k := rfl
  refine ⟨t, ht, ?_, ?_, ?_, hans⟩
  · exact (congrArg (fun b : EvBlock => b.status.getLsbD bit.val) hw).trans (v.statusBit_inject k bit true)
  · rw [hw, EvBlock.cause, BitVec.getLsbD_or, Bool.or_eq_true]
    exact .inr (v.injected_inject k bit)
  · have hholds : t.ev.holds = (v.injectFor ⟨k.val, bit.val⟩ us.toNat).ev.holds := State.holds_of_still hstill
    have hnow : (v.inject ⟨k.val, bit.val⟩ true).now = (s.ticked dt).now :=
      (State.now_of_quiet (State.quiet_inject ..)).trans rfl
    rw [hholds]
    refine List.mem_append.2 (.inr (List.mem_singleton.2 ?_))
    rw [hnow, ticksOfUs, Nat.mul_comm]

end

/-! ### The end of a hold -/

section
variable {s u : State} {k : Fin 53} {bit : Fin 32} {due dt : Nat}

theorem exec_injectHoldEnd_eq (k : Fin 53) (bit : Fin 32) :
    exec (.injectHoldEnd dt k bit) s = .next (((s.ticked dt).holdEnd ⟨k.val, bit.val⟩).settle s.pending) := rfl

theorem getLsbD_andNot_bit (w : Word) (bit : Fin 32) : (w &&& ~~~(1#32 <<< bit.val)).getLsbD bit.val = false := by
  simp

/-- R490: at the end of a hold the injected cause is gone, and no other event state changes. -/
theorem holdEnd_due (hfind : u.ev.holds.find? (·.1 == ⟨k.val, bit.val⟩) = some (⟨k.val, bit.val⟩, due)) (hdue : due ≤ u.now)
    (q : List Instr) :
    let t := (u.holdEnd ⟨k.val, bit.val⟩).settle q
    (t.ev.blocks[k].injected).getLsbD bit.val = false ∧
      becomes u { u with ev := { u.ev with holds := u.ev.holds.filter (·.1 != ⟨k.val, bit.val⟩) } } t [] := by
  let e : State := u.endInjection ⟨k.val, bit.val⟩
  have hend : u.holdEnd ⟨k.val, bit.val⟩ = e := by
    unfold State.holdEnd
    rw [hfind]
    exact if_pos hdue
  have he : e = { u with ev := { u.ev with
      holds := u.ev.holds.filter (·.1 != ⟨k.val, bit.val⟩)
      blocks := upd u.ev.blocks k fun b => { b with injected := b.injected &&& ~~~(1#32 <<< bit.val) } } } := dif_pos k.isLt
  have hset : newlySet u e [] := by
    intro j b _
    rw [List.contains_nil, Bool.or_false, he]
    unfold State.statusBit
    dsimp only
    by_cases hj : k = j
    · rw [← hj, upd_same]
    · rw [upd_ne _ _ _ _ hj]
  intro t
  have ht : t = e.settle q := congrArg (State.settle · q) hend
  have hinjected : e.injected k = u.ev.blocks[k].injected &&& ~~~(1#32 <<< bit.val) := by
    rw [he, State.injected, upd_same]
  refine ⟨?_, ?_⟩
  · rw [ht]
    show ((e.settle q).injected k).getLsbD bit.val = false
    rw [State.injected_settle, hinjected]
    exact getLsbD_andNot_bit _ bit
  · rw [ht]
    exact becomes_reported (by rw [he]; rfl) hset q

theorem holdEnd_early (hfind : u.ev.holds.find? (·.1 == ⟨k.val, bit.val⟩) = some (⟨k.val, bit.val⟩, due)) (hdue : u.now < due)
    (q : List Instr) : becomes u u ((u.holdEnd ⟨k.val, bit.val⟩).settle q) [] := by
  have hend : u.holdEnd ⟨k.val, bit.val⟩ = u := by
    unfold State.holdEnd
    rw [hfind]
    exact if_neg (Nat.not_le.2 hdue)
  rw [hend]
  exact becomes_settle_nil rfl q

end

/-! ### Factory test mode -/

section
variable {s u : State} {h : Hdr} {dt : Nat}

/-- R488: what factory test mode needs of the unit. -/
def State.mayTest (s : State) : Bool :=
  s.ctxs.toList.all (fun x => !x.streaming) && s.au 0x0B01 65535 0 1 == 0 &&
    (s.twin.state == .single || s.twin.state == .forming || s.twin.state == .quarantine) && s.domOn 21

theorem State.noneStream_iff (s : State) : s.ctxs.toList.all (fun x => !x.streaming) = true ↔ ∀ c : Fin 64, s.streams c = false := by
  rw [List.all_eq_true]
  refine ⟨fun hall c => ?_, fun hnone x hx => ?_⟩
  · have hc := hall s.ctxs[c] (Vector.mem_toList_iff.2 (Vector.getElem_mem c.isLt))
    exact Bool.not_eq_true' _ ▸ hc
  · obtain ⟨i, hi, rfl⟩ := Vector.getElem_of_mem (Vector.mem_toList_iff.1 hx)
    exact (Bool.not_eq_true' _).symm ▸ hnone ⟨i, hi⟩

theorem State.mayTest_iff (hsingle : s.twin.state = .single) :
    s.mayTest = true ↔ (∀ c : Fin 64, s.streams c = false) ∧ s.au 0x0B01 65535 0 1 = 0 ∧ s.domOn 21 = true := by
  unfold State.mayTest
  rw [hsingle, Bool.and_eq_true, Bool.and_eq_true, Bool.and_eq_true, State.noneStream_iff, beq_iff_eq]
  constructor
  · rintro ⟨⟨⟨hnone, hlink⟩, -⟩, hon⟩
    exact ⟨hnone, hlink, hon⟩
  · rintro ⟨hnone, hlink, hon⟩
    exact ⟨⟨⟨hnone, hlink⟩, rfl⟩, hon⟩

/-- R488: the unit in factory test mode, or out of it. -/
def State.withTest (s : State) (on : Bool) : State := { s with sys := { s.sys with factoryTest := on } }

theorem State.run_testMode_on (hport : h.port = .p3) (hmay : u.mayTest = true) :
    u.run ⟨h, .testMode 1⟩ = ((u.withTest true).raiseHeld 52 30).ok ⟨h, .testMode 1⟩ (leBytes 4 1) := by
  have hallowed : (h.port = .p3 && u.mayTest) = true := by rw [hmay, hport]; rfl
  show u.runTestMode _ 1 = _
  unfold State.runTestMode
  rw [if_neg (by decide), if_pos rfl]
  exact if_pos hallowed

theorem State.run_testMode_refused (hnot : h.port ≠ .p3 ∨ u.mayTest = false) :
    u.run ⟨h, .testMode 1⟩ = u.fail ⟨h, .testMode 1⟩ 9 3 := by
  have hrefused : ¬ (h.port = .p3 && u.mayTest) = true := by
    rw [Bool.and_eq_true, decide_eq_true_iff]
    rintro ⟨hp, hm⟩
    exact hnot.elim (fun hne => hne hp) fun hf => Bool.noConfusion (hf.symm.trans hm)
  show u.runTestMode _ 1 = _
  unfold State.runTestMode
  rw [if_neg (by decide), if_pos rfl]
  exact if_neg hrefused

theorem State.run_testMode_off (hholds : u.ev.holds = []) :
    u.run ⟨h, .testMode 0⟩ = (u.withTest false).ok ⟨h, .testMode 0⟩ (leBytes 4 0) := by
  have hleave : u.leaveTest = u.withTest false := by
    unfold State.leaveTest
    rw [hholds]
    rfl
  rw [← hleave]
  show u.runTestMode _ 0 = _
  unfold State.runTestMode
  rw [if_neg (by decide), if_neg (by decide)]

theorem State.still_withTest_taken (s : State) (k : Cmd) (on : Bool) : ((s.taken k).withTest on).still = (s.withTest on).still := rfl

/-- R488: TEST_MODE from P3 enters factory test mode and raises FACTORY_TEST. -/
theorem exec_testMode_on (hr : (s.ticked dt).runs h (.testMode 1)) (hport : h.port = .p3) (hmay : (s.ticked dt).mayTest = true) :
    ∃ t, exec (.testMode dt h 1) s = .next t ∧ (s.ticked dt).answered t h (.testMode 1) 0 0 (leBytes 4 1) ∧
      t.source 52 30 = true ∧ t.still = ((s.ticked dt).withTest true).still := by
  let v : State := ((s.ticked dt).taken ⟨h, .testMode 1⟩).withTest true
  have hrun := State.run_testMode_on (u := (s.ticked dt).taken ⟨h, .testMode 1⟩) hport hmay
  have hv : (s.ticked dt).RepliesAs v h := (State.repliesAs_taken hr).congr rfl rfl rfl rfl rfl
  have hroom : v.audit.staged.length < 31 := Nat.lt_trans (State.room_of_runs hr) (by decide)
  obtain ⟨t, ht, hans, hstill, hblock⟩ := exec_answers_blocks (x := v.raiseHeld 52 30) rfl hr (hv.occurs hroom ⟨52, 30⟩ true false)
    ((congrArg Twin.state (v.twin_raiseHeld 52 30)).trans (State.runs_single hr)) hrun
  obtain ⟨w, hw⟩ := hblock (Fin.ofNat 53 52)
  have hset : (v.raiseHeld 52 30).statusBit (Fin.ofNat 53 52) 30 = true :=
    (newlySet_raiseHeld v 52 30 (by decide) (Fin.ofNat 53 52) 30 (by decide)).trans (by simp)
  exact ⟨t, ht, hans, (congrArg (fun b : EvBlock => b.status.getLsbD 30) hw).trans hset,
    hstill.trans ((State.still_of_quiet (State.quiet_raiseHeld ..)).trans (State.still_withTest_taken ..))⟩

theorem exec_testMode_off (hr : (s.ticked dt).runs h (.testMode 0)) (hholds : (s.ticked dt).ev.holds = []) :
    ∃ t, exec (.testMode dt h 0) s = .next t ∧ (s.ticked dt).answered t h (.testMode 0) 0 0 (leBytes 4 0) ∧
      t.still = ((s.ticked dt).withTest false).still := by
  have hrun := State.run_testMode_off (u := (s.ticked dt).taken ⟨h, .testMode 0⟩) (h := h) hholds
  obtain ⟨t, ht, hans, hstill⟩ := exec_ok (x := ((s.ticked dt).taken ⟨h, .testMode 0⟩).withTest false) rfl hr
    ((State.repliesAs_taken hr).congr rfl rfl rfl rfl rfl) hrun
  exact ⟨t, ht, hans, hstill.trans (State.still_withTest_taken ..)⟩

end

/-! ### Built-in tests -/

section
variable {s u : State} {h : Hdr} {dt : Nat} {targets : Word}

/-- R489: a queue whose sweep begins. -/
def PQueue.swept (x : PQueue) : PQueue := { x with state := 1, sweepCorr := 0, sweepRepair := 0 }

/-- R489: sweeps of some queues begin. -/
def sweepsBegun (v : Vector PQueue 43) (l : List (Fin 43)) : Vector PQueue 43 := l.foldl (fun v q => upd v q PQueue.swept) v

/-- Queues replaced. -/
def State.withQueues (s : State) (v : Vector PQueue 43) : State := { s with queues := v }

theorem State.foldl_swept (l : List (Fin 43)) (s : State) :
    l.foldl (fun (s : State) q => { s with queues := upd s.queues q fun x => { x with state := 1, sweepCorr := 0, sweepRepair := 0 } }) s =
      s.withQueues (sweepsBegun s.queues l) := by
  induction l generalizing s with
  | nil => rfl
  | cons q l ih => exact ih _

theorem sweepsBegun_not_mem {l : List (Fin 43)} {q : Fin 43} (h : q ∉ l) (v : Vector PQueue 43) : (sweepsBegun v l)[q] = v[q] := by
  induction l generalizing v with
  | nil => rfl
  | cons p l ih =>
    rw [List.mem_cons, not_or] at h
    exact (ih h.2 _).trans (upd_ne _ _ _ _ (Ne.symm h.1))

/-- A sweep that began stays begun while further ones begin. -/
theorem sweepsBegun_stays {q : Fin 43} (l : List (Fin 43)) {v : Vector PQueue 43} (h : v[q].state = 1 ∧ v[q].sweepCorr = 0) :
    (sweepsBegun v l)[q].state = 1 ∧ (sweepsBegun v l)[q].sweepCorr = 0 := by
  induction l generalizing v with
  | nil => exact h
  | cons p l ih =>
    refine ih ?_
    by_cases hp : p = q
    · rw [hp, upd_same]
      exact ⟨rfl, rfl⟩
    · rw [upd_ne _ _ _ _ hp]
      exact h

theorem sweepsBegun_mem {l : List (Fin 43)} {q : Fin 43} (h : q ∈ l) (v : Vector PQueue 43) :
    (sweepsBegun v l)[q].state = 1 ∧ (sweepsBegun v l)[q].sweepCorr = 0 := by
  induction l generalizing v with
  | nil => exact absurd h List.not_mem_nil
  | cons p l ih =>
    by_cases hq : q ∈ l
    · exact ih hq _
    · obtain rfl : q = p := (List.mem_cons.1 h).resolve_right hq
      exact sweepsBegun_stays l (by rw [upd_same]; exact ⟨rfl, rfl⟩)

theorem getLsbD_eq_testBit_mod (w : Word) {i : Nat} (h : i < 3) : w.getLsbD i = (w.toNat % 8).testBit i := by
  rw [show 8 = 2 ^ 3 from rfl, Nat.testBit_mod_two_pow, decide_eq_true h, Bool.true_and]
  rfl

/-- R489: the target bit of a queue. -/
def bistBit (q : Fin 43) : Nat := if q.val < 32 then 0 else if q.val < 40 then 1 else 2

theorem mem_bistQueues {q : Fin 43} : q ∈ bistQueues targets ↔ targets.getLsbD (bistBit q) = true := by
  unfold bistQueues bistBit fins
  rw [List.mem_filter, and_iff_right (List.mem_finRange q)]
  split
  · rfl
  · split <;> rfl

theorem bistBit_lt (q : Fin 43) : bistBit q < 3 := by
  unfold bistBit
  split
  · decide
  · split <;> decide

theorem bistQueues_eq_nil (h : targets.toNat % 8 = 0) : bistQueues targets = [] :=
  List.eq_nil_iff_forall_not_mem.2 fun q hq => by
    rw [mem_bistQueues, getLsbD_eq_testBit_mod _ (bistBit_lt q), h, Nat.zero_testBit] at hq
    exact Bool.noConfusion hq

/-- R489: a queue stands for each of the three target bits. -/
theorem exists_mem_bistQueues (h : targets.toNat % 8 ≠ 0) : ∃ q, q ∈ bistQueues targets := by
  obtain ⟨i, hi⟩ := Nat.exists_testBit_of_ne_zero h
  have hlt : i < 3 := by
    by_contra hge
    rw [Nat.testBit_lt_two_pow (lt_of_lt_of_le (Nat.mod_lt _ (by decide)) (Nat.pow_le_pow_right (by decide) (Nat.not_lt.1 hge)))] at hi
    exact Bool.noConfusion hi
  rw [← getLsbD_eq_testBit_mod _ hlt] at hi
  obtain rfl | rfl | rfl : i = 0 ∨ i = 1 ∨ i = 2 := by omega
  · exact ⟨0, mem_bistQueues.2 hi⟩
  · exact ⟨32, mem_bistQueues.2 hi⟩
  · exact ⟨40, mem_bistQueues.2 hi⟩

/-- R489: TEST_BIST starts its sweeps and waits. -/
theorem State.run_testBist (htest : u.sys.factoryTest = true) (hlo : 1 ≤ targets.toNat) (hhi : targets.toNat ≤ 63) :
    u.run ⟨h, .testBist targets⟩ =
      ((u.withQueues (sweepsBegun u.queues (bistQueues targets))).wait ⟨h, .testBist targets⟩ (.bist targets)).answerBist := by
  have hrange : ¬ (targets = 0 ∨ 63 < targets.toNat) := by
    rintro (rfl | hbig)
    · exact absurd hlo (by decide)
    · omega
  rw [← State.foldl_swept]
  refine (if_neg ?_).trans (if_neg hrange)
  rw [htest]
  decide

theorem State.answerWaiting_of_none {f : Waiting → Bool} {g : State → Cmd → State} (h : ∀ p, s.waitingFor p f = none) :
    s.answerWaiting f g = s := by
  unfold State.answerWaiting
  exact foldl_of_fixed fun p _ => by rw [h p]

/-- R489: with a sweep of its own in progress the command waits. -/
theorem State.answerBist_sweeping {x : State} {b : Body} (hidle : ∀ p, p ≠ h.port → (x.port p).running = none)
    (hq : ∃ q ∈ bistQueues targets, x.queues[q].state = 1) :
    (x.wait ⟨h, b⟩ (.bist targets)).answerBist = x.wait ⟨h, b⟩ (.bist targets) := by
  obtain ⟨q, hmem, hstate⟩ := hq
  have hgoes : ¬ ((bistQueues targets).all fun q => x.queues[q].state != 1) = true := fun hall => by
    have hne := List.all_eq_true.1 hall q hmem
    rw [hstate] at hne
    exact absurd hne (by decide)
  unfold State.answerBist
  refine State.answerWaiting_of_none fun p => ?_
  unfold State.waitingFor State.wait
  by_cases hp : p = h.port
  · rw [hp, State.port_setPort_same]
    exact if_neg hgoes
  · rw [State.port_setPort_ne _ _ hp, hidle p hp]

end

section
variable {s : State} {h : Hdr} {dt : Nat} {targets : Word}

theorem State.queues_of_still {t : State} (h : t.still = s.still) : t.queues = s.queues := by
  show t.still.queues = s.still.queues
  rw [h]

/-- R489: TEST_BIST with a queue among its targets begins their sweeps and waits. -/
theorem exec_testBist_waits (hr : (s.ticked dt).runs h (.testBist targets)) (htest : (s.ticked dt).sys.factoryTest = true)
    (hidle : (s.ticked dt).idlePorts) (hlo : 1 ≤ targets.toNat) (hhi : targets.toNat ≤ 63) (hsome : targets.toNat % 8 ≠ 0) :
    ∃ t, exec (.testBist dt h targets) s = .next t ∧ (s.ticked dt).waits t h (.testBist targets) (.bist targets) ∧
      t.queues = sweepsBegun (s.ticked dt).queues (bistQueues targets) := by
  let v : State := (s.ticked dt).taken ⟨h, .testBist targets⟩
  let x : State := v.withQueues (sweepsBegun v.queues (bistQueues targets))
  obtain ⟨q, hq⟩ := exists_mem_bistQueues hsome
  have hwait : (x.wait ⟨h, .testBist targets⟩ (.bist targets)).answerBist = x.wait ⟨h, .testBist targets⟩ (.bist targets) :=
    State.answerBist_sweeping (fun p _ => hidle p (Port.mem_all p)) ⟨q, hq, (sweepsBegun_mem hq v.queues).1⟩
  have hrun := (State.run_testBist (u := v) (h := h) htest hlo hhi).trans hwait
  obtain ⟨t, ht, hwaits, hstill⟩ := exec_waits (x := x) rfl hr (fun _ => rfl) rfl hrun
  exact ⟨t, ht, hwaits, State.queues_of_still hstill⟩

/-- R489: what the reply of a TEST_BIST waits for, and that it is an OK with some free values. -/
theorem State.answerBist_spec : ∃ (f : State → Waiting → Bool) (g : State → Cmd → State),
    (∀ s : State, s.answerBist = s.answerWaiting (f s) g) ∧
    (∀ (s : State) (t : Word), f s (.bist t) = (bistQueues t).all fun q => s.queues[q].state != 1) ∧
    ∀ (s : State) (h : Hdr) (t : Word), ∃ pl, g s ⟨h, .testBist t⟩ =
      (s.withFree (s.freeCtr + 6)).reply ⟨h, .testBist t⟩ 0 0 pl 0 0 :=
  ⟨_, _, fun _ => rfl, fun _ _ => rfl, fun _ _ _ => ⟨_, rfl⟩⟩

/-- R489: a TEST_BIST that waits for no queue is answered. -/
theorem State.answerBist_nothing {u x : State} (hx : u.RepliesAs x h) (hidle : u.idlePorts) (hnone : bistQueues targets = []) :
    ∃ (n : Nat) (pl : List Byte), (x.wait ⟨h, .testBist targets⟩ (.bist targets)).answerBist =
        ((x.wait ⟨h, .testBist targets⟩ (.bist targets)).withFree n).reply ⟨h, .testBist targets⟩ 0 0 pl 0 0 ∧
      u.answered (((x.wait ⟨h, .testBist targets⟩ (.bist targets)).withFree n).reply ⟨h, .testBist targets⟩ 0 0
        pl 0 0) h (.testBist targets) 0 0 pl := by
  obtain ⟨f, g, heq, hf, hg⟩ := State.answerBist_spec
  obtain ⟨pl, hpl⟩ := hg (x.wait ⟨h, .testBist targets⟩ (.bist targets)) h targets
  rw [heq]
  exact ⟨_, pl, hx.answerWaiting_wait hidle (by rw [hf, hnone]; rfl) hpl⟩

theorem State.run_testBist_nothing {u : State} (htest : u.sys.factoryTest = true) (hlo : 1 ≤ targets.toNat)
    (hhi : targets.toNat ≤ 63) (hnone : bistQueues targets = []) :
    u.run ⟨h, .testBist targets⟩ = (u.wait ⟨h, .testBist targets⟩ (.bist targets)).answerBist := by
  rw [State.run_testBist htest hlo hhi, hnone]
  rfl

/-- R489: TEST_BIST without a queue among its targets is answered at once. -/
theorem State.submit_testBist_answered {u : State} (hr : u.runs h (.testBist targets)) (htest : u.sys.factoryTest = true)
    (hidle : u.idlePorts) (hlo : 1 ≤ targets.toNat) (hhi : targets.toNat ≤ 63) (hnone : targets.toNat % 8 = 0) (q : List Instr) :
    (∃ pl, u.answered ((u.submit h (.testBist targets)).settle q) h (.testBist targets) 0 0 pl) ∧
      ((u.submit h (.testBist targets)).settle q).queues = u.queues := by
  have hqueues := bistQueues_eq_nil hnone
  have hx := State.repliesAs_taken hr
  obtain ⟨n, pl, hreply, hans⟩ := State.answerBist_nothing hx hidle hqueues
  rw [State.submit_of_runs hr, State.run_testBist_nothing (u := u.taken ⟨h, .testBist targets⟩) htest hlo hhi hqueues, hreply]
  exact ⟨⟨pl, hans.settle hx.direct _⟩, (State.queues_of_still ((State.still_settle ..).trans (State.still_reply ..))).trans rfl⟩

end

/-- Settles O22: an injection is an occurrence whose bit and cause no end of a step takes away; TEST_MODE goes by what the mode
needs; TEST_BIST waits exactly when one of its target bits has queues. -/
theorem factoryTests : Obligations.FactoryTests := by
  unfold Obligations.FactoryTests
  refine ⟨fun dt h k bit us s => ⟨fun hr hdef => exec_evtInject_once hr hdef, fun hr hdef hlo hhi => exec_evtInject_hold hr hdef hlo hhi,
      fun due hfind => ⟨fun hdue => ?_, fun hdue => ?_⟩⟩,
    fun dt h s => ⟨fun hr hport hmay => ?_, fun hr hnot => ?_, fun hr hholds => exec_testMode_off hr hholds⟩,
    fun dt h targets s hr htest hidle hlo hhi => ⟨fun hsome => ?_, fun hnone => ?_⟩⟩
  · exact ⟨_, exec_injectHoldEnd_eq k bit, holdEnd_due hfind hdue _⟩
  · exact ⟨_, exec_injectHoldEnd_eq k bit, holdEnd_early hfind hdue _⟩
  · exact exec_testMode_on hr hport ((State.mayTest_iff (State.runs_single hr)).2 hmay)
  · have hrefused : h.port ≠ .p3 ∨ (s.ticked dt).mayTest = false :=
      hnot.imp_right fun hmay => Bool.eq_false_iff.2 fun hyes => hmay ((State.mayTest_iff (State.runs_single hr)).1 hyes)
    exact exec_fails rfl hr (State.run_testMode_refused (u := (s.ticked dt).taken ⟨h, .testMode 1⟩) hrefused)
  · obtain ⟨t, ht, hwaits, hqueues⟩ := exec_testBist_waits hr htest hidle hlo hhi hsome
    refine ⟨t, ht, hwaits, fun q hq => ?_, fun q hq => ?_⟩
    · rw [hqueues]
      exact sweepsBegun_mem hq _
    · rw [hqueues]
      exact sweepsBegun_not_mem hq _
  · obtain ⟨⟨pl, hrunning, hkept, -, -⟩, hqueues⟩ := State.submit_testBist_answered hr htest hidle hlo hhi hnone s.pending
    exact ⟨_, exec_of_row (b := .testBist targets) rfl s, hqueues, hrunning, _, hkept, rfl, rfl⟩

end Sys2Proof.Machine
end

section
/-!
SUPPORT. Starting and stopping streams (R574 to R576) and their statistics (R223).
-/
namespace Sys2Proof.Machine

/-! ### A start that is refused, or has nothing to start -/

section
variable {s u : State} {h : Hdr} {mask : Wide} {c : Fin 64} {dt : Nat}

/-- R53: a command that repeats none and fails a check is refused. -/
theorem State.acceptCmd_refused {k : Cmd} {e : Nat × Nat}
    (hk : ∀ x ∈ (s.port k.h.port).kept, ¬(x.seq = k.h.seq ∧ x.check = k.h.check ∧ x.status ≠ 1)) (hc : s.checkCmd k = some e) :
    s.acceptCmd k none = ({ s with lastPort := k.h.port.toNat } : State).refuse k e.1 e.2 := by
  have hfresh : ({ s with lastPort := k.h.port.toNat } : State).checkCmd k = some e := hc
  have hkept : (({ s with lastPort := k.h.port.toNat } : State).port k.h.port).kept = (s.port k.h.port).kept := rfl
  unfold State.acceptCmd
  dsimp only
  rw [hfresh, hkept]
  split
  · next x hx => exact if_neg (hk x hx)
  · rfl

/-- R53: a command that a unit alone takes and that fails one of the checks with NOT_READY is answered with the reason. -/
theorem State.submit_notReady {b : Body} {why : Nat} (ht : u.takes h) (hcheck : u.checkCmd ⟨h, b⟩ = some (9, why)) (q : List Instr) :
    u.answered ((u.submit h b).settle q) h b 9 why [] ∧ ((u.submit h b).settle q).still = u.still := by
  obtain ⟨hrec, -, hnone⟩ := ht
  have hsub := State.submit_of_receives hrec b
  obtain ⟨hport, hmirror, -, -, hfree, hkept, hroom⟩ := hrec
  have hidle : (u.port h.port).running = none := by
    simp only [State.portFree, Bool.and_eq_true, Option.isNone_iff_eq_none] at hfree
    obtain ⟨⟨hidle, -⟩, -⟩ := hfree
    exact hidle
  have hundecided : (⟨h, b⟩ : Cmd).isDecided = false := by
    show ((h.port == .p2) && h.mirror.any fun m => m.decided.isSome) = false
    rw [hmirror, Option.any_none, Bool.and_false]
  have hx : u.RepliesAs (u.taken ⟨h, b⟩) h := {
    direct := hport, unmirrored := hnone, idle := hidle, room := Nat.lt_trans hroom (by decide), others := fun _ _ => rfl
    chan := by rw [State.chans_taken]
    epoch := rfl, ident := rfl }
  have hfail : u.submit h b = (u.taken ⟨h, b⟩).fail ⟨h, b⟩ 9 why := by
    have hrefuse : (u.taken ⟨h, b⟩).refuse ⟨h, b⟩ 9 why = (u.taken ⟨h, b⟩).fail ⟨h, b⟩ 9 why := by
      unfold State.refuse
      rw [hundecided]
      rfl
    rw [hsub, State.keepCmd_eq, ← hrefuse]
    exact State.acceptCmd_refused (s := { u with mb := (u.keepCmd ⟨h, b⟩).mb }) (k := ⟨h, b⟩) hkept hcheck
  rw [hfail]
  exact ⟨(hx.answered_reply b 9 why [] 0).settle hx.direct q, (State.still_settle ..).trans (State.still_reply ..)⟩

/-- R574: the host's own port may start nothing while the window has no dynamic address. -/
theorem State.checkCmd_noAddress (hsingle : u.twin.state = .single) (hmirror : h.mirror = none) (hport : h.port = .p0)
    (hepoch : h.epochCheck = false) (haddr : u.win.dynAddr = none) : u.checkCmd ⟨h, .streamStart mask⟩ = some (9, 1) := by
  have hopcode : u.noOpcode (Body.streamStart mask).opcode.toNat = false := by
    show ((portMask 0x0301).isNone || ((0x0301 == 0x0802 || 0x0301 == 0x0803) && !u.sys.twinSel) ||
      ((0x0301 == 0x0B04 || 0x0301 == 0x0F02) && !u.sys.factoryTest)) = false
    rfl
  have hallowed : portDenied ⟨h, .streamStart mask⟩ .p0 = false := by
    show (!(15 : Nat).testBit 0 || false) = false
    decide
  have hmirrorable : u.cannotMirror ⟨h, .streamStart mask⟩ = false := by
    unfold State.cannotMirror Cmd.isDecided
    rw [hsingle, hport]
    rfl
  have hblocked : u.targetNotReady ⟨h, .streamStart mask⟩ = 1 :=
    if_pos ⟨hport, by rw [haddr]; rfl⟩
  have hfetch : fetchPort h = .p0 := (fetchPort_of_unmirrored hmirror).trans hport
  unfold State.checkCmd
  dsimp only
  rw [show mirrored (Body.streamStart mask) = true from rfl, if_pos rfl, hopcode, hfetch, hallowed, hepoch, hmirrorable, hblocked]
  rfl

/-- R53: a command that passes the checks finds its target ready. -/
theorem State.targetReady_of_checkCmd {k : Cmd} (hc : s.checkCmd k = none) : s.targetNotReady k = 0 := by
  by_contra hnot
  unfold State.checkCmd at hc
  dsimp only at hc
  generalize (if mirrored k.body = true then fetchPort k.h else k.h.port) = p at hc
  split at hc
  · exact Option.some_ne_none _ hc
  · split at hc
    · exact Option.some_ne_none _ hc
    · split at hc
      · exact Option.some_ne_none _ hc
      · split at hc
        · exact Option.some_ne_none _ hc
        · exact Option.some_ne_none _ hc

/-- R53: a STREAM_START that passes the checks is not blocked. -/
theorem State.startBlocked_of_runs (hr : u.runs h (.streamStart mask)) : u.startBlocked h (maskCtxs mask) = 0 := by
  obtain ⟨-, hcheck⟩ := hr
  exact State.targetReady_of_checkCmd hcheck

theorem State.run_streamStart_bad (hblocked : u.startBlocked h (maskCtxs mask) = 0)
    (hmask : mask = 0 ∨ (maskCtxs mask).any (fun x => !u.ctxEnabled x) = true) :
    u.run ⟨h, .streamStart mask⟩ = u.bad ⟨h, .streamStart mask⟩ 16 := by
  show u.runStreamStart _ mask = _
  unfold State.runStreamStart
  rw [hblocked]
  exact if_pos hmask

theorem maskCtxs_zero : maskCtxs 0 = [] := by
  unfold maskCtxs
  exact List.filter_eq_nil_iff.2 fun x _ => by simp

theorem State.beginStreams_none (u : State) (k : Cmd) : u.beginStreams k 0 = u.refreshPlan.ok k
    (leBytes 8 0 ++ leWord (if u.cf.state = 1 then BitVec.ofInt 32 u.cf.first else 0xFFFFFFFF) ++ leWord u.rowNo) := by
  unfold State.beginStreams
  rw [maskCtxs_zero]
  rfl

/-- R574: with nothing to start the plan is made anew, and the command is answered. -/
theorem State.run_streamStart_nothing (hblocked : u.startBlocked h (maskCtxs mask) = 0) (hmask : mask ≠ 0)
    (hall : ∀ x ∈ maskCtxs mask, u.ctxEnabled x = true ∧ u.streams x = true) :
    u.run ⟨h, .streamStart mask⟩ = u.refreshPlan.ok ⟨h, .streamStart mask⟩
      (leBytes 8 0 ++ leWord (if u.cf.state = 1 then BitVec.ofInt 32 u.cf.first else 0xFFFFFFFF) ++ leWord u.rowNo) := by
  have hgood : ¬ (mask = 0 ∨ (maskCtxs mask).any (fun x => !u.ctxEnabled x) = true) := by
    rintro (h0 | hany)
    · exact hmask h0
    · obtain ⟨x, hx, hoff⟩ := List.any_eq_true.1 hany
      rw [(hall x hx).1] at hoff
      exact Bool.noConfusion hoff
  have hnone : (maskCtxs mask).filter (fun x => !u.streams x) = [] := List.filter_eq_nil_iff.2 fun x hx => by
    rw [(hall x hx).2]
    exact Bool.false_ne_true
  show u.runStreamStart _ mask = _
  unfold State.runStreamStart
  rw [hblocked]
  refine (if_neg hgood).trans ?_
  rw [hnone]
  exact u.beginStreams_none _

/-! ### A start that asks for leave -/

theorem mem_maskCtxs {x : Fin 64} : x ∈ maskCtxs mask ↔ mask.getLsbD x.val = true := by
  unfold maskCtxs fins
  rw [List.mem_filter, and_iff_right (List.mem_finRange x)]

theorem getLsbD_bit64 (c x : Fin 64) : (1#64 <<< c.val).getLsbD x.val = decide (x = c) := by
  rw [BitVec.getLsbD_shiftLeft, BitVec.getLsbD_one]
  simp only [Fin.ext_iff]
  by_cases hlt : x.val < c.val
  · simp [hlt, Nat.ne_of_lt hlt]
  · simp only [hlt, x.isLt, decide_true, decide_false, Bool.not_false, Bool.true_and]
    exact decide_eq_decide.2 (by omega)

theorem maskCtxs_bit (c : Fin 64) : maskCtxs (1#64 <<< c.val) = [c] := by
  unfold maskCtxs fins
  simp only [getLsbD_bit64]
  rw [List.filter_eq, List.count_eq_one_of_mem (List.nodup_finRange 64) (List.mem_finRange c)]
  rfl

theorem mem_insertReq (r : LeaveReq) (l : List LeaveReq) : r ∈ insertReq r l := by
  induction l with
  | nil => exact List.mem_singleton.2 rfl
  | cons q qs ih =>
    unfold insertReq
    split
    · exact List.mem_cons_self
    · exact List.mem_cons_of_mem _ ih

/-- R574: the leave that the start of one context asks for. -/
def State.startReq (s : State) (h : Hdr) (c : Fin 64) : LeaveReq :=
  { who := .context c (some h.port), kind := 4, cost := s.contextCost c, prio := 4, at_ := s.now, limit := some (s.leaveLimit h) }

theorem State.run_streamStart_asks (hblocked : u.startBlocked h (maskCtxs mask) = 0) (hmask : mask = 1#64 <<< c.val)
    (hon : u.ctxEnabled c = true) (hoff : u.streams c = false) (hpair : u.twinPair = false)
    (hleave : u.refuseLeave (u.contextCost c) = none) :
    u.run ⟨h, .streamStart mask⟩ =
      (u.enqueue (u.startReq h c)).wait ⟨h, .streamStart mask⟩ (.streamLeave mask [c] [] none) := by
  have hctxs : maskCtxs mask = [c] := hmask ▸ maskCtxs_bit c
  have hne : mask ≠ 0 := fun h0 => by
    rw [h0] at hctxs
    exact List.cons_ne_nil _ _ hctxs.symm
  have hgood : ¬ (mask = 0 ∨ ([c].any fun x => !u.ctxEnabled x) = true) := by
    rw [List.any_cons, List.any_nil, hon]
    exact fun h => h.elim hne Bool.false_ne_true
  have hstart : [c].filter (fun x => !u.streams x) = [c] := by simp [hoff]
  have hback : ctxMask [c] = mask := by rw [hmask]; exact BitVec.zero_or
  have hask : u.askStreams ⟨h, .streamStart mask⟩ [c] = (u.enqueue (u.startReq h c), 0) := by
    unfold State.askStreams
    dsimp only
    rw [hleave]
    rfl
  show u.runStreamStart _ mask = _
  unfold State.runStreamStart
  rw [hblocked, hctxs]
  refine (if_neg hgood).trans ?_
  rw [hstart]
  dsimp only
  rw [hask, hback, show (u.enqueue (u.startReq h c)).twinPair = false from hpair]
  rfl

end

/-! ### What a reply leaves of other ports -/

section
variable {s : State} {q : Port}

theorem State.running_setPort {p : Port} {f : PortState → PortState} (h : (s.port q).running = none)
    (hf : ∀ x : PortState, x.running = none → (f x).running = none) : ((s.setPort p f).port q).running = none := by
  by_cases hq : q = p
  · rw [hq, State.port_setPort_same]
    exact hf _ (hq ▸ h)
  · rw [State.port_setPort_ne _ _ hq]
    exact h

theorem State.running_deliver (h : (s.port q).running = none) (p : Port) (bs : List Byte) :
    ((s.deliver p bs).port q).running = none := by
  by_cases hq : q = p
  · rw [hq, (State.port_deliver_same s p bs).1]
    exact hq ▸ h
  · rw [State.port_deliver_ne s bs hq]
    exact h

theorem State.running_send (h : (s.port q).running = none) (c : Cmd) (status : Nat) (bs : List Byte) :
    ((s.send c status bs).port q).running = none :=
  State.running_deliver (State.running_setPort (s := s.unkeep c) h fun _ _ => rfl) _ _

theorem State.running_answer (h : (s.port q).running = none) (c : Cmd) (status rflags : Nat) (used : Word) (bs : List Byte) :
    ((s.answer c status rflags used bs).port q).running = none := by
  unfold State.answer
  split
  · exact State.running_send h ..
  · dsimp only
    split
    · exact State.running_send (by rw [State.port_stage]; exact h) ..
    · rw [State.port_raise, State.port_unkeep]
      exact State.running_setPort h fun _ _ => rfl

/-- A reply starts no command. -/
theorem State.running_reply (h : (s.port q).running = none) (c : Cmd) (status detail : Nat) (pl : List Byte) (rflags : Nat)
    (used : Word) : ((s.reply c status detail pl rflags used).port q).running = none := by
  unfold State.reply
  extract_lets decided rflags' bytes
  split
  · have hset : ∀ k : Kept, ((s.setPort c.h.port fun x => { x with running := none, kept := some k }).port q).running = none :=
      fun k => State.running_setPort h fun _ _ => rfl
    unfold State.endDecided
    dsimp only
    split
    · exact hset _
    · show (((s.setPort _ _).raise 49 19).port q).running = none
      rw [State.port_raise]
      exact hset _
  · split
    · split
      · exact State.running_answer (by exact h) ..
      · exact h
    · exact State.running_answer h ..

end

/-! ### Streams that begin together -/

section
variable {s u : State} {c x : Fin 64} {mask : Wide} {dt : Nat}

theorem State.ctxs_of_still {t : State} (h : t.still = s.still) : t.ctxs = s.ctxs := by
  show t.still.ctxs = s.still.ctxs
  rw [h]

theorem State.ctxs_refreshPlan (s : State) : s.refreshPlan.ctxs = s.ctxs :=
  (State.eq_of_quiet State.ctxs (fun _ => rfl) s.quiet_refreshPlan).trans rfl

theorem exec_streamStartTick_eq : exec (.streamStartTick dt) s = .next ((s.ticked dt).streamTick.settle s.pending) := rfl

/-- What the start of a line-scan stream changes of the contexts, and that records and ports stay. -/
structure State.Begins (s : State) (l : List (Fin 64)) (t : State) : Prop where
  streams : ∀ x, t.streams x = (s.streams x || decide (x ∈ l))
  recs : t.recs = s.recs
  ports : t.ports = s.ports

theorem State.begins_of_ctxs {t : State} {y : CtxState} (hy : y.streaming = true) (hctxs : t.ctxs = upd s.ctxs c fun _ => y)
    (hrecs : t.recs = s.recs) (hports : t.ports = s.ports) : s.Begins [c] t := by
  refine ⟨fun x => ?_, hrecs, hports⟩
  unfold State.streams
  rw [hctxs, upd_get]
  by_cases hx : c = x
  · rw [if_pos hx, hy, hx]
    simp
  · rw [if_neg hx, decide_eq_false (fun hmem => hx (List.mem_singleton.1 hmem).symm), Bool.or_false]

theorem State.begins_beginStream (h : s.lineScan c = true) : s.Begins [c] (s.beginStream c) := by
  unfold State.beginStream
  extract_lets o q s1 runnel buffer s2 s3 s4 s5
  have h5 : s5 = s4 := if_pos h
  have hview : ∀ v : State, (v.startView c).ctxs = v.ctxs ∧ (v.startView c).recs = v.recs ∧ (v.startView c).ports = v.ports := by
    intro v
    unfold State.startView
    split <;> exact ⟨rfl, rfl, rfl⟩
  have hquiet : (s4.causeGone (s4.portOf c) 15).quiet = s4.quiet := State.quiet_causeGone ..
  obtain ⟨hctxs, hrecs, hports⟩ := hview (s4.causeGone (s4.portOf c) 15)
  rw [h5]
  exact State.begins_of_ctxs (y := { streaming := true, lineAt := s1.now, startAt := s1.now, runnel, buffer }) rfl
    (hctxs.trans ((State.eq_of_quiet State.ctxs (fun _ => rfl) hquiet).trans rfl))
    (hrecs.trans ((State.recs_of_quiet hquiet).trans rfl)) (hports.trans ((State.ports_of_quiet hquiet).trans rfl))

/-- R574: contexts that do not stream yet begin, one after another. -/
theorem State.begins_foldl (l : List (Fin 64)) (h : ∀ x ∈ l, s.lineScan x = true) :
    s.Begins l (l.foldl (fun s x => if s.streams x then s else s.beginStream x) s) := by
  induction l generalizing s with
  | nil => exact ⟨fun x => by simp, rfl, rfl⟩
  | cons c l ih =>
    have hone : s.Begins [c] (if s.streams c then s else s.beginStream c) := by
      split
      · next hon =>
        refine ⟨fun x => ?_, rfl, rfl⟩
        by_cases hx : x = c
        · rw [hx, hon, Bool.true_or]
        · simp [hx]
      · exact State.begins_beginStream (h c List.mem_cons_self)
    have hscan : ∀ x ∈ l, (if s.streams c then s else s.beginStream c).lineScan x = true := fun x hx => by
      unfold State.lineScan State.prof State.profileOf State.au
      rw [hone.recs]
      exact h x (List.mem_cons_of_mem c hx)
    have hrest := ih hscan
    refine ⟨fun x => ?_, hrest.recs.trans hone.recs, hrest.ports.trans hone.ports⟩
    rw [List.foldl_cons, hrest.streams x, hone.streams x]
    simp only [List.mem_cons, List.not_mem_nil, or_false, Bool.decide_or, Bool.or_assoc]

/-- R574: what a start leaves when its streams have begun and its command is answered. -/
theorem State.beginStreams_streams (h : ∀ x ∈ maskCtxs mask, s.lineScan x = true) (k : Cmd) (x : Fin 64) :
    (s.beginStreams k mask).streams x = (s.streams x || decide (x ∈ maskCtxs mask)) := by
  have hbegun := State.begins_foldl (maskCtxs mask) h
  rw [← hbegun.streams x]
  unfold State.beginStreams
  generalize (maskCtxs mask).foldl (fun s x => if s.streams x then s else s.beginStream x) s = v
  have hstill := State.still_reply v.refreshPlan k 0 0
    (leBytes 8 mask.toNat ++ leWord (if v.cf.state = 1 then BitVec.ofInt 32 v.cf.first else 0xFFFFFFFF) ++ leWord v.rowNo) 0 0
  have hctxs : (v.refreshPlan.ok k (leBytes 8 mask.toNat ++ leWord (if v.cf.state = 1 then BitVec.ofInt 32 v.cf.first
      else 0xFFFFFFFF) ++ leWord v.rowNo)).ctxs = v.refreshPlan.ctxs := State.ctxs_of_still hstill
  exact congrArg (fun w : Vector CtxState 64 => w[x].streaming) (hctxs.trans v.ctxs_refreshPlan)

theorem State.beginStreams_idle (h : ∀ x ∈ maskCtxs mask, s.lineScan x = true) (k : Cmd) {q : Port}
    (hq : (s.port q).running = none) : ((s.beginStreams k mask).port q).running = none := by
  have hbegun := State.begins_foldl (maskCtxs mask) h
  unfold State.beginStreams
  refine State.running_reply ?_ ..
  rw [State.port_of_quiet (State.quiet_refreshPlan _)]
  show ((State.ports _)[q.idx]).running = none
  exact hbegun.ports ▸ hq

/-- A pass that does something for one element only. -/
theorem foldl_of_one {α β : Type} {f : β → α → β} {x : β} {a : α} {l : List α} (hnodup : l.Nodup) (hmem : a ∈ l)
    (hbefore : ∀ b ∈ l, b ≠ a → f x b = x) (hafter : ∀ b ∈ l, b ≠ a → f (f x a) b = f x a) : l.foldl f x = f x a := by
  have hfixed : ∀ (y : β) (l : List α), (∀ b ∈ l, f y b = y) → l.foldl f y = y := fun y l hl =>
    List.foldlRecOn (motive := fun t => t = y) l _ rfl fun t ht b hb => by rw [ht, hl b hb]
  obtain ⟨before, after, hall, hnew⟩ := List.eq_append_cons_of_mem hmem
  have hin : ∀ b, b ∈ before ∨ b ∈ after → b ∈ l := fun b hb => by
    rw [hall]
    exact List.mem_append.2 (hb.imp_right (List.mem_cons_of_mem a))
  have hpast : a ∉ after := by
    rw [hall] at hnodup
    exact (List.nodup_cons.1 (List.nodup_append.1 hnodup).2.1).1
  rw [hall, List.foldl_append, hfixed x before fun b hb => hbefore b (hin b (.inl hb)) fun e => hnew (e ▸ hb), List.foldl_cons]
  exact hfixed _ after fun b hb => hafter b (hin b (.inr hb)) fun e => hpast (e ▸ hb)

/-- A pass over the ports that leaves idle ones alone does what it does for the one that waits. -/
theorem foldl_allPorts_of_one {f : State → Port → State} {p : Port} (hfix : ∀ (s : State) q, (s.port q).running = none → f s q = s)
    (hothers : ∀ q ∈ allPorts, q ≠ p → (s.port q).running = none)
    (hdone : ∀ q ∈ allPorts, q ≠ p → ((f s p).port q).running = none) : allPorts.foldl f s = f s p :=
  foldl_of_one (by decide) (Port.mem_all p) (fun q hq hne => hfix s q (hothers q hq hne)) fun q hq hne => hfix _ q (hdone q hq hne)

/-- What the tick does with the command of one port. -/
def State.tickOne (s : State) (p : Port) : State :=
  match (s.port p).running with
  | some r => match r.wait with
    | .streamTick mask t =>
      if t ≤ s.clock.ext then
        match r.body with
        | .streamStop _ => s.stopStreams ⟨r.h, r.body⟩ mask
        | _ => s.beginStreams ⟨r.h, r.body⟩ mask
      else s
    | _ => s
  | none => s

theorem State.streamTick_eq (s : State) : s.streamTick = allPorts.foldl State.tickOne s := rfl

theorem State.tickOne_of_idle {p : Port} (h : (s.port p).running = none) : s.tickOne p = s := by
  unfold State.tickOne
  rw [h]

/-- R574: the only command in execution begins its streams in the tick that was fixed. -/
theorem State.streamTick_begins {p : Port} {r : Running} {m : Wide} {at_ : Int} (hr : (s.port p).running = some r)
    (hwait : r.wait = .streamTick mask at_) (hbody : r.body = .streamStart m)
    (hothers : ∀ q ∈ allPorts, q ≠ p → (s.port q).running = none) (hdue : at_ ≤ s.clock.ext)
    (hscan : ∀ x ∈ maskCtxs mask, s.lineScan x = true) : s.streamTick = s.beginStreams ⟨r.h, r.body⟩ mask := by
  have hone : s.tickOne p = s.beginStreams ⟨r.h, r.body⟩ mask := by
    unfold State.tickOne
    rw [hr]
    dsimp only
    rw [hwait, hbody]
    exact if_pos hdue
  rw [State.streamTick_eq, ← hone]
  exact foldl_allPorts_of_one (fun _ _ => State.tickOne_of_idle) hothers fun q hq hne =>
    hone ▸ State.beginStreams_idle hscan _ (hothers q hq hne)

theorem State.streamTick_early {p : Port} {r : Running} {at_ : Int} (hr : (s.port p).running = some r)
    (hwait : r.wait = .streamTick mask at_) (hothers : ∀ q ∈ allPorts, q ≠ p → (s.port q).running = none)
    (hearly : s.clock.ext < at_) : s.streamTick = s := by
  rw [State.streamTick_eq]
  refine foldl_of_fixed fun q hq => ?_
  by_cases hqp : q = p
  · unfold State.tickOne
    rw [hqp, hr]
    dsimp only
    rw [hwait]
    exact if_neg (not_le.2 hearly)
  · exact State.tickOne_of_idle (hothers q hq hqp)

end

/-! ### Streams that stop -/

/-- The same contexts stream. -/
structure State.SameStreams (s t : State) : Prop where
  streams : ∀ d : Fin 64, t.streams d = s.streams d

section
variable {s t v : State} {c d : Fin 64} {mask : Wide}

theorem State.SameStreams.refl (s : State) : s.SameStreams s := ⟨fun _ => rfl⟩

theorem State.SameStreams.trans (hst : s.SameStreams t) (htv : t.SameStreams v) : s.SameStreams v :=
  ⟨fun d => (htv.streams d).trans (hst.streams d)⟩

theorem State.sameStreams_of_ctxs (h : t.ctxs = s.ctxs) : s.SameStreams t := by
  refine ⟨fun d => ?_⟩
  unfold State.streams
  rw [h]

theorem State.sameStreams_of_quiet (h : t.quiet = s.quiet) : s.SameStreams t :=
  State.sameStreams_of_ctxs (State.eq_of_quiet State.ctxs (fun _ => rfl) h)

theorem State.sameStreams_of_still (h : t.still = s.still) : s.SameStreams t :=
  State.sameStreams_of_ctxs (State.ctxs_of_still h)

theorem State.sameStreams_reply (s : State) (k : Cmd) (status detail : Nat) (pl : List Byte) (rflags : Nat) (used : Word) :
    s.SameStreams (s.reply k status detail pl rflags used) :=
  State.sameStreams_of_still (State.still_reply ..)

theorem State.sameStreams_foldl {α : Type} {f : State → α → State} (hf : ∀ (s : State) (a : α), s.SameStreams (f s a)) (l : List α) (s : State) :
    s.SameStreams (l.foldl f s) := by
  induction l generalizing s with
  | nil => exact .refl s
  | cons a l ih => exact (hf s a).trans (ih _)

theorem State.sameStreams_setCtx {f : CtxState → CtxState} (hf : (f s.ctxs[c]).streaming = s.ctxs[c].streaming) :
    s.SameStreams (s.setCtx c f) := by
  refine ⟨fun d => ?_⟩
  unfold State.streams State.setCtx
  dsimp only
  rw [upd_get]
  split
  · next h => rw [hf, h]
  · rfl

theorem State.streams_setCtx_stop {f : CtxState → CtxState} (hf : (f s.ctxs[c]).streaming = false) :
    (s.setCtx c f).streams d = (s.streams d && !decide (d = c)) := by
  unfold State.streams State.setCtx
  dsimp only
  rw [upd_get]
  by_cases h : c = d
  · rw [if_pos h, hf, decide_eq_true h.symm, Bool.not_true, Bool.and_false]
  · rw [if_neg h, decide_eq_false (Ne.symm h), Bool.not_false, Bool.and_true]

theorem State.sameStreams_emitRows (r : Fin 8) (stop : Bool) (n : Nat) (s : State) : s.SameStreams (s.emitRows r c stop n) := by
  induction n generalizing s with
  | zero => exact .refl s
  | succ n ih =>
    unfold State.emitRows
    dsimp only
    split
    · exact .refl s
    · split
      · split
        · exact ⟨(ih _).streams⟩
        · exact .refl s
      · split
        · exact .refl s
        · exact ⟨(ih _).streams⟩

theorem State.sameStreams_raiseCorr (s : State) (r : Fin 8) (k b : Nat) : s.SameStreams (s.raiseCorr r k b) := by
  unfold State.raiseCorr
  exact State.SameStreams.trans (t := s.setRunnel r _) ⟨fun _ => rfl⟩ (State.sameStreams_of_quiet (State.quiet_raise ..))

theorem State.sameStreams_release (s : State) (f : Requester → Bool) : s.SameStreams (s.release f) := ⟨fun _ => rfl⟩

theorem State.sameStreams_flushInlet (s : State) (p : Fin 32) : s.SameStreams (s.flushInlet p) := ⟨fun _ => rfl⟩

theorem State.sameStreams_closeRecord (s : State) (r : Fin 8) (early : Bool) : s.SameStreams (s.closeRecord r c early) := by
  unfold State.closeRecord
  split
  · exact .refl s
  · dsimp only
    split
    · exact ⟨fun _ => rfl⟩
    · exact State.SameStreams.trans (t := s.setStats c fun x => { x with open_ := none, next := x.next + 1 }) ⟨fun _ => rfl⟩ (State.sameStreams_raiseCorr ..)

theorem State.sameStreams_stopView (s : State) : s.SameStreams (s.stopView c) := by
  unfold State.stopView
  split
  · exact State.SameStreams.trans (State.sameStreams_emitRows _ true _ s) ⟨fun _ => rfl⟩
  · exact .refl s

theorem State.sameStreams_answerStops (s : State) : s.SameStreams s.answerStops := by
  refine State.sameStreams_foldl (fun s p => ?_) allPorts s
  split
  · split
    · split
      · exact .refl s
      · exact State.sameStreams_reply ..
    · exact .refl s
  · exact .refl s

theorem State.sameStreams_finishStop (s : State) : s.SameStreams (s.finishStop c) := by
  unfold State.finishStop
  extract_lets r s1 s2 s3 p s4
  have h1 : s.SameStreams s1 := (State.sameStreams_closeRecord s r true).trans (State.sameStreams_stopView _)
  have h2 : s1.SameStreams s2 := State.sameStreams_setCtx rfl
  have h3 : s2.SameStreams s3 := State.sameStreams_release s2 _
  have h4 : s3.SameStreams s4 := by
    clear_value s3
    unfold s4
    split
    · exact .refl s3
    · exact State.sameStreams_flushInlet s3 p
  exact (((h1.trans h2).trans h3).trans h4).trans (State.sameStreams_answerStops s4)

theorem State.sameStreams_refreshPlan (s : State) : s.SameStreams s.refreshPlan :=
  State.sameStreams_of_ctxs s.ctxs_refreshPlan

theorem State.sameStreams_drain (s : State) : s.SameStreams (s.drain c) := by
  unfold State.drain
  split
  · exact State.sameStreams_finishStop s
  · exact .refl s

theorem State.sameStreams_setBus (s : State) (b : Fin 32) (f : Bus → Bus) : s.SameStreams (s.setBus b f) := ⟨fun _ => rfl⟩

theorem State.sameStreams_dropSet (s : State) (id : Half) : s.SameStreams (s.dropSet c id) := by
  unfold State.dropSet
  exact State.sameStreams_of_ctxs rfl

theorem State.sameStreams_stopExpo (s : State) : s.SameStreams (s.stopExpo c) := by
  unfold State.stopExpo
  extract_lets begun gone s1 n
  have h1 : s.SameStreams s1 := by
    refine State.sameStreams_foldl (fun s q => ?_) gone s
    refine State.SameStreams.trans (t := (match s.expoCmd c q.id with | some r => s.fail ⟨r.h, r.body⟩ 2 0 | none => s)) ?_ ?_
    · split
      · exact State.sameStreams_reply ..
      · exact .refl s
    · exact (State.sameStreams_dropSet _ q.id).trans
        (State.sameStreams_foldl (fun s b => State.sameStreams_setBus s b _) (fins 32) _)
  exact h1.trans ⟨fun _ => rfl⟩

/-- R575: a context that stops here streams no more, and every other as before. -/
theorem State.streams_stopHere (s : State) : (s.stopHere c).streams d = (s.streams d && !decide (d = c)) := by
  unfold State.stopHere
  dsimp only
  rw [((State.sameStreams_stopExpo _).trans (State.sameStreams_drain _)).streams d]
  exact State.streams_setCtx_stop rfl

/-- R575: the stop of one line-scan context stops it and no other. -/
theorem State.streams_stopStreams (hon : s.streams c = true) (hscan : s.lineScan c = true) (k : Cmd)
    (hmask : mask = 1#64 <<< c.val) : (s.stopStreams k mask).streams d = (s.streams d && !decide (d = c)) := by
  have hcs : (maskCtxs mask).filter (fun x => s.streams x) = [c] := by
    rw [hmask, maskCtxs_bit]
    simp [hon]
  have hstop : ∀ w, (s.wait k w).stopContext c = (s.wait k w).stopHere c := fun w => by
    unfold State.stopContext
    rw [show (s.wait k w).streams c = true from hon, show (s.wait k w).lineScan c = true from hscan]
    rfl
  unfold State.stopStreams
  dsimp only
  rw [hcs, List.foldl_cons, List.foldl_nil, hstop, (State.sameStreams_refreshPlan _).streams d,
    (State.sameStreams_answerStops _).streams d, State.streams_stopHere]
  rfl

end

/-! ### A stop with nothing to stop -/

section
variable {s u x y : State} {h : Hdr} {b : Body} {mask : Wide} {status detail : Nat} {pl : List Byte}

/-- An answer given stays given in what differs by reports alone. -/
theorem State.answered.of_quiet (hx : u.answered x h b status detail pl) (hp : h.port = .p0 ∨ h.port = .p1 ∨ h.port = .p3)
    (hq : y.quiet = x.quiet) : u.answered y h b status detail pl := by
  obtain ⟨hrun, hkept, hslot, hothers⟩ := hx
  have hch := State.chan_of_quiet hq h.port.outChan (Port.outChan_ne_partner hp)
  have hport := State.port_of_quiet hq
  exact ⟨hport h.port ▸ hrun, hport h.port ▸ hkept, fun i hi => hch ▸ hslot i hi, fun p hne => (hport p).trans (hothers p hne)⟩

/-- What the end of a context does for the STREAM_STOP of one port. -/
def State.stopOne (s : State) (p : Port) : State :=
  match (s.port p).running with
  | some r => match r.wait with
    | .streamStop mask =>
      if (fins 64).any fun c => mask.getLsbD c && (s.streams c || s.ctxs[c].draining) then s
      else s.ok ⟨r.h, r.body⟩ (leBytes 8 mask.toNat ++ leWord (s.lastRowOf mask))
    | _ => s
  | none => s

theorem State.answerStops_eq (s : State) : s.answerStops = allPorts.foldl State.stopOne s := rfl

theorem State.stopOne_of_idle {p : Port} (hp : (s.port p).running = none) : s.stopOne p = s := by
  unfold State.stopOne
  rw [hp]

theorem State.lastRowOf_zero (s : State) : s.lastRowOf 0 = 0xFFFFFFFF := by
  have hrows : ((fins 64).filterMap fun c : Fin 64 => if (0 : Wide).getLsbD c.val then s.views[c].last else none) = [] :=
    List.filterMap_eq_nil_iff.2 fun c _ => if_neg (by simp)
  unfold State.lastRowOf
  dsimp only
  rw [hrows]

/-- R575: a stop of no context is answered. -/
theorem State.stopOne_of_none {p : Port} {r : Running} (hr : (s.port p).running = some r) (hwait : r.wait = .streamStop 0) :
    s.stopOne p = s.ok ⟨r.h, r.body⟩ (leBytes 8 0 ++ leWord 0xFFFFFFFF) := by
  have hnone : ((fins 64).any fun c => (0 : Wide).getLsbD c && (s.streams c || s.ctxs[c].draining)) = false :=
    List.any_eq_false.2 fun c _ => by simp
  unfold State.stopOne
  rw [hr]
  dsimp only
  rw [hwait]
  dsimp only
  rw [hnone, State.lastRowOf_zero]
  rfl

/-- R575: the only command in execution is a stop of no context: it is answered. -/
theorem State.answerStops_nothing {p : Port} {r : Running} (hr : (s.port p).running = some r) (hwait : r.wait = .streamStop 0)
    (hothers : ∀ q ∈ allPorts, q ≠ p → (s.port q).running = none) :
    s.answerStops = s.ok ⟨r.h, r.body⟩ (leBytes 8 0 ++ leWord 0xFFFFFFFF) := by
  have hone := State.stopOne_of_none hr hwait
  rw [State.answerStops_eq, ← hone]
  exact foldl_allPorts_of_one (fun _ _ => State.stopOne_of_idle) hothers fun p hp hne => by
    rw [hone]
    exact State.running_reply (hothers p hp hne) ..

theorem State.run_streamStop_one (hmask : mask ≠ 0) (hpair : u.twinPair = false) :
    u.run ⟨h, .streamStop mask⟩ = u.stopStreams ⟨h, .streamStop mask⟩ mask := by
  show u.runStreamStop _ mask = _
  unfold State.runStreamStop
  rw [if_neg hmask, hpair]
  rfl

/-- R575: a stop with nothing to stop is answered at once. -/
theorem State.run_streamStop_nothing (hmask : mask ≠ 0) (hoff : ∀ c ∈ maskCtxs mask, u.streams c = false) (hpair : u.twinPair = false)
    (hidle : ∀ p ∈ allPorts, p ≠ h.port → (u.port p).running = none) :
    u.run ⟨h, .streamStop mask⟩ =
      ((u.wait ⟨h, .streamStop mask⟩ (.streamStop 0)).ok ⟨h, .streamStop mask⟩ (leBytes 8 0 ++ leWord 0xFFFFFFFF)).refreshPlan := by
  have hnone : (maskCtxs mask).filter (fun c => u.streams c) = [] := List.filter_eq_nil_iff.2 fun c hc => by
    rw [hoff c hc]
    exact Bool.false_ne_true
  have hothers : ∀ p ∈ allPorts, p ≠ h.port → ((u.wait ⟨h, .streamStop mask⟩ (.streamStop 0)).port p).running = none :=
    fun p hp hne => (congrArg PortState.running (State.port_setPort_ne _ _ hne)).trans (hidle p hp hne)
  have hstops := State.answerStops_nothing (s := u.wait ⟨h, .streamStop mask⟩ (.streamStop 0)) (p := h.port)
    (congrArg PortState.running (State.port_setPort_same ..)) rfl hothers
  have hstop : u.stopStreams ⟨h, .streamStop mask⟩ mask = (u.wait ⟨h, .streamStop mask⟩ (.streamStop 0)).answerStops.refreshPlan := by
    unfold State.stopStreams
    rw [hnone]
    rfl
  rw [State.run_streamStop_one hmask hpair, hstop, hstops]

end

/-! ### STATS_READ -/

section
variable {s u : State} {h : Hdr} {ctx : Half} {what : Byte} {serial off count k : Word} {bytes : List Byte}

theorem State.run_statsRead_gone (hctx : ctx.toNat < 64) (hwhat : what.toNat ≤ 3)
    (hcount : ¬(count.toNat < 4 ∨ 224 < count.toNat ∨ count.toNat % 4 ≠ 0))
    (hsource : u.statsSource (Fin.ofNat 64 ctx.toNat) what.toNat serial = none) :
    u.run ⟨h, .statsRead ctx what serial off count⟩ =
      u.ok ⟨h, .statsRead ctx what serial off count⟩ (leWord serial ++ leBytes 2 1 ++ leBytes 2 0) := by
  show u.runStatsRead _ ctx what serial off count = _
  unfold State.runStatsRead
  rw [if_neg (Nat.not_le.2 hctx), if_neg (Nat.not_lt.2 hwhat), hsource]
  exact if_neg hcount

theorem State.run_statsRead_past (hctx : ctx.toNat < 64) (hwhat : what.toNat ≤ 3)
    (hsource : u.statsSource (Fin.ofNat 64 ctx.toNat) what.toNat serial = some (k, bytes)) (hpast : bytes.length ≤ off.toNat) :
    u.run ⟨h, .statsRead ctx what serial off count⟩ = u.bad ⟨h, .statsRead ctx what serial off count⟩ 24 := by
  show u.runStatsRead _ ctx what serial off count = _
  unfold State.runStatsRead
  rw [if_neg (Nat.not_le.2 hctx), if_neg (Nat.not_lt.2 hwhat), hsource]
  exact if_pos hpast

/-- R223: a piece of the record, and whether it is the last. -/
theorem State.run_statsRead_piece (hctx : ctx.toNat < 64) (hwhat : what.toNat ≤ 3)
    (hcount : ¬(count.toNat < 4 ∨ 224 < count.toNat ∨ count.toNat % 4 ≠ 0))
    (hsource : u.statsSource (Fin.ofNat 64 ctx.toNat) what.toNat serial = some (k, bytes)) (hin : off.toNat < bytes.length) :
    u.run ⟨h, .statsRead ctx what serial off count⟩ = u.ok ⟨h, .statsRead ctx what serial off count⟩
      (leWord k ++ leBytes 2 (if bytes.length ≤ off.toNat + count.toNat then 2 else 0) ++ leBytes 2 0 ++
        (bytes.drop off.toNat).take count.toNat) := by
  have hbit : bit 1 (decide (bytes.length ≤ off.toNat + count.toNat)) = if bytes.length ≤ off.toNat + count.toNat then 2 else 0 := by
    unfold bit
    rw [show (2 : Nat) ^ 1 = 2 from rfl]
    simp only [decide_eq_true_eq]
  show u.runStatsRead _ ctx what serial off count = _
  unfold State.runStatsRead
  rw [if_neg (Nat.not_le.2 hctx), if_neg (Nat.not_lt.2 hwhat), hsource]
  dsimp only
  rw [if_neg (Nat.not_le.2 hin), if_neg hcount, hbit]

end

/-! ### The two statements -/

section
variable {dt : Nat} {h : Hdr} {mask : Wide} {s : State}

theorem State.ctxs_taken (u : State) (k : Cmd) : (u.taken k).ctxs = u.ctxs := State.ctxs_of_still (State.still_taken ..)

theorem State.RepliesAs.planned {u x : State} (hx : u.RepliesAs x h) (n : Nat) : u.RepliesAs (x.withPlanned n) h :=
  hx.congr rfl rfl rfl rfl rfl

/-- R574: with every context streaming already the start is answered at once. -/
theorem exec_streamStart_nothing (hr : (s.ticked dt).runs h (.streamStart mask)) (hmask : mask ≠ 0)
    (hall : ∀ x ∈ maskCtxs mask, (s.ticked dt).ctxEnabled x = true ∧ (s.ticked dt).streams x = true) :
    ∃ t, exec (.streamStart dt h mask) s = .next t ∧ t.ctxs = (s.ticked dt).ctxs ∧
      (s.ticked dt).answered t h (.streamStart mask) 0 0 (leBytes 8 0 ++
        leWord (if (s.ticked dt).cf.state = 1 then BitVec.ofInt 32 (s.ticked dt).cf.first else 0xFFFFFFFF) ++
        leWord (s.ticked dt).rowNo) := by
  have hx := State.repliesAs_taken hr
  generalize hv : (s.ticked dt).taken ⟨h, .streamStart mask⟩ = v at hx
  have hroom : v.audit.staged.length + 6 < 32 := by
    obtain ⟨⟨⟨-, -, -, -, -, -, hroom⟩, -⟩, -⟩ := hr
    rw [← hv]
    exact Nat.add_lt_add_right hroom 6 |>.trans (by decide)
  have hplan : (s.ticked dt).RepliesAs v.refreshPlan h :=
    State.RepliesAs.notes (x := v.withPlanned (v.plannedOf v.recs.active)) (hx.planned _)
      (State.notes_refreshPlan (Nat.le_of_lt hroom)) hroom
  have hrun := State.run_streamStart_nothing (u := v) (h := h) (mask := mask) ?_ hmask ?_
  · obtain ⟨t, hex, hans, hstill⟩ := exec_ok (b := .streamStart mask) rfl hr hplan ((congrArg (State.run · _) hv).trans hrun)
    refine ⟨t, hex, ?_, ?_⟩
    · rw [State.ctxs_of_still hstill, v.ctxs_refreshPlan, ← hv]
      exact State.ctxs_taken ..
    · rw [← hv] at hans
      exact hans
  · rw [← hv]
    exact State.startBlocked_of_runs hr
  · rw [← hv]
    exact hall

end

section
variable {dt : Nat} {h : Hdr} {mask : Wide} {c : Fin 64} {s : State}

/-- R574: a start of one context that does not stream asks for leave and waits. -/
theorem exec_streamStart_asks (hr : (s.ticked dt).runs h (.streamStart mask)) (hmask : mask = 1#64 <<< c.val)
    (hon : (s.ticked dt).ctxEnabled c = true) (hoff : (s.ticked dt).streams c = false) (hpair : (s.ticked dt).twinPair = false)
    (hleave : (s.ticked dt).refuseLeave ((s.ticked dt).contextCost c) = none) :
    ∃ t, exec (.streamStart dt h mask) s = .next t ∧ t.ctxs = (s.ticked dt).ctxs ∧
      (s.ticked dt).waits t h (.streamStart mask) (.streamLeave mask [c] [] none) ∧
      ∃ r ∈ t.pwr.queue, r.who = .context c (some h.port) ∧ r.kind = 4 ∧ r.cost = (s.ticked dt).contextCost c := by
  have hrun := State.run_streamStart_asks (u := (s.ticked dt).taken ⟨h, .streamStart mask⟩) (h := h)
    (State.startBlocked_of_runs hr) hmask hon hoff hpair hleave
  obtain ⟨t, hex, hwaits, hstill⟩ := exec_waits (b := .streamStart mask)
    (x := ((s.ticked dt).taken ⟨h, .streamStart mask⟩).enqueue (((s.ticked dt).taken ⟨h, .streamStart mask⟩).startReq h c))
    rfl hr (fun _ => rfl) rfl hrun
  refine ⟨t, hex, (State.ctxs_of_still hstill).trans (State.ctxs_taken _ ⟨h, .streamStart mask⟩), hwaits,
    ((s.ticked dt).taken ⟨h, .streamStart mask⟩).startReq h c, ?_, rfl, rfl, rfl⟩
  show _ ∈ t.still.pwr.queue
  rw [hstill]
  exact mem_insertReq ..

theorem State.answered.refreshPlan {u x : State} {b : Body} {status detail : Nat} {pl : List Byte}
    (hx : u.answered x h b status detail pl) (hp : h.port = .p0 ∨ h.port = .p1 ∨ h.port = .p3) :
    u.answered x.refreshPlan h b status detail pl :=
  State.answered.of_quiet (x := x.withPlanned (x.plannedOf x.recs.active)) hx hp x.quiet_refreshPlan

/-- R574: the streams of a start begin together in the step of their tick, and no other. -/
theorem exec_streamStartTick_begins {p : Port} {r : Running} {m : Wide} {at_ : Int} (hr : ((s.ticked dt).port p).running = some r)
    (hwait : r.wait = .streamTick mask at_) (hbody : r.body = .streamStart m)
    (hothers : ∀ q ∈ allPorts, q ≠ p → ((s.ticked dt).port q).running = none) (hdue : at_ ≤ (s.ticked dt).clock.ext)
    (hscan : ∀ x ∈ maskCtxs mask, (s.ticked dt).lineScan x = true) :
    ∃ t, exec (.streamStartTick dt) s = .next t ∧ (∀ x ∈ maskCtxs mask, t.streams x = true) ∧
      ∀ x, x ∉ maskCtxs mask → t.streams x = (s.ticked dt).streams x := by
  have hstreams : ∀ x, ((s.ticked dt).streamTick.settle s.pending).streams x =
      ((s.ticked dt).streams x || decide (x ∈ maskCtxs mask)) := fun x => by
    rw [(State.sameStreams_of_quiet (State.quiet_settle ..)).streams x, State.streamTick_begins hr hwait hbody hothers hdue hscan]
    exact State.beginStreams_streams hscan _ x
  refine ⟨_, exec_streamStartTick_eq, fun x hx => ?_, fun x hx => ?_⟩
  · rw [hstreams, decide_eq_true hx, Bool.or_true]
  · rw [hstreams, decide_eq_false hx, Bool.or_false]

/-- R575: with nothing to stop the command is answered at once. -/
theorem exec_streamStop_nothing (hr : (s.ticked dt).runs h (.streamStop mask)) (hmask : mask ≠ 0)
    (hoff : ∀ x ∈ maskCtxs mask, (s.ticked dt).streams x = false) (hpair : (s.ticked dt).twinPair = false)
    (hidle : (s.ticked dt).idlePorts) :
    ∃ t, exec (.streamStop dt h mask) s = .next t ∧ t.ctxs = (s.ticked dt).ctxs ∧
      (s.ticked dt).answered t h (.streamStop mask) 0 0 (leBytes 8 0 ++ leWord 0xFFFFFFFF) := by
  have hx := State.repliesAs_taken hr
  generalize hv : (s.ticked dt).taken ⟨h, .streamStop mask⟩ = v at hx
  have hrun : v.run ⟨h, .streamStop mask⟩ = ((v.wait ⟨h, .streamStop mask⟩ (.streamStop 0)).ok ⟨h, .streamStop mask⟩
      (leBytes 8 0 ++ leWord 0xFFFFFFFF)).refreshPlan := by
    rw [← hv]
    exact State.run_streamStop_nothing (u := (s.ticked dt).taken ⟨h, .streamStop mask⟩) hmask hoff hpair fun p hp _ => hidle p hp
  have hctxs : v.ctxs = (s.ticked dt).ctxs := hv ▸ State.ctxs_taken ..
  let y : State := v.wait ⟨h, .streamStop mask⟩ (.streamStop 0)
  have hans : (s.ticked dt).answered (y.ok ⟨h, .streamStop mask⟩ (leBytes 8 0 ++ leWord 0xFFFFFFFF)) h (.streamStop mask) 0 0
      (leBytes 8 0 ++ leWord 0xFFFFFFFF) :=
    hx.answered_waiting (y := y) rfl rfl rfl rfl (fun p hp => State.port_setPort_ne _ _ hp)
      (congrArg PortState.running (State.port_setPort_same ..)) rfl (.streamStop mask) 0 0 _ 0
  have hend : ((s.ticked dt).submit h (.streamStop mask)) =
      (y.ok ⟨h, .streamStop mask⟩ (leBytes 8 0 ++ leWord 0xFFFFFFFF)).refreshPlan :=
    (State.submit_of_runs hr).trans ((congrArg (State.run · _) hv).trans hrun)
  refine ⟨_, exec_of_row (b := .streamStop mask) rfl s, ?_, ?_⟩
  · rw [hend, State.eq_of_quiet State.ctxs (fun _ => rfl) (State.quiet_settle ..), State.ctxs_refreshPlan]
    exact (State.ctxs_of_still (State.still_reply ..)).trans hctxs
  · rw [hend]
    exact (hans.refreshPlan hx.direct).settle hx.direct _

/-- R575: the stop of one line-scan context stops it and no other. -/
theorem exec_streamStop_one (hr : (s.ticked dt).runs h (.streamStop mask)) (hmask : mask = 1#64 <<< c.val)
    (hon : (s.ticked dt).streams c = true) (hscan : (s.ticked dt).lineScan c = true) (hpair : (s.ticked dt).twinPair = false) :
    ∃ t, exec (.streamStop dt h mask) s = .next t ∧ t.streams c = false ∧
      ∀ d : Fin 64, d ≠ c → t.streams d = (s.ticked dt).streams d := by
  have hne : mask ≠ 0 := fun h0 => by
    have hctxs := maskCtxs_bit c
    rw [← hmask, h0, maskCtxs_zero] at hctxs
    exact List.cons_ne_nil _ _ hctxs.symm
  have hstreams : ∀ d, (((s.ticked dt).submit h (.streamStop mask)).settle s.pending).streams d =
      ((s.ticked dt).streams d && !decide (d = c)) := fun d => by
    rw [(State.sameStreams_of_quiet (State.quiet_settle ..)).streams d, State.submit_of_runs hr,
      State.run_streamStop_one (u := (s.ticked dt).taken ⟨h, .streamStop mask⟩) hne hpair]
    exact State.streams_stopStreams (s := (s.ticked dt).taken ⟨h, .streamStop mask⟩) hon hscan _ hmask
  refine ⟨_, exec_of_row (b := .streamStop mask) rfl s, ?_, fun d hd => ?_⟩
  · rw [hstreams, decide_eq_true rfl, Bool.not_true, Bool.and_false]
  · rw [hstreams, decide_eq_false hd, Bool.not_false, Bool.and_true]

end

end Sys2Proof.Machine

namespace Sys2Proof

open Machine

/-- Settles O18: a start reads the contexts of its mask and asks for leave, or has nothing to start; the tick of a pair begins
every stream of the mask and no other. -/
theorem streamsStart : Obligations.StreamsStart := by
  unfold Obligations.StreamsStart
  refine ⟨fun dt h mask c s => ⟨fun ht hport hepoch haddr => ?_, fun hr => ⟨fun hmask => ?_, fun hmask hall => ?_,
    fun hmask hon hoff hpair hleave => ?_⟩⟩, fun dt p r mask m at_ s hr hwait hbody hothers => ⟨fun hdue hscan => ?_, fun hearly => ?_⟩⟩
  · have ⟨⟨_, hmirror, _⟩, hsingle, _⟩ := ht
    have hcheck := State.checkCmd_noAddress (mask := mask) hsingle hmirror hport hepoch haddr
    exact ⟨_, exec_of_row (b := .streamStart mask) rfl s, State.submit_notReady ht hcheck _⟩
  · exact exec_bad (b := .streamStart mask) rfl hr
      (State.run_streamStart_bad (u := (s.ticked dt).taken ⟨h, .streamStart mask⟩) (State.startBlocked_of_runs hr) hmask)
  · exact exec_streamStart_nothing hr hmask hall
  · exact exec_streamStart_asks hr hmask hon hoff hpair hleave
  · exact exec_streamStartTick_begins hr hwait hbody hothers hdue hscan
  · refine ⟨_, exec_streamStartTick_eq, ?_⟩
    rw [State.streamTick_early hr hwait hothers hearly]
    exact becomes_settle_nil rfl _

/-- Settles O19: a stop ends exactly the streams of its mask; the two reports read only. -/
theorem streamsStopAndReport : Obligations.StreamsStopAndReport := by
  unfold Obligations.StreamsStopAndReport
  refine ⟨fun dt h mask c s => ⟨fun hr => ?_, fun hr hmask hoff hpair hidle => exec_streamStop_nothing hr hmask hoff hpair hidle,
    fun hr hmask hon hscan hpair => ?_, fun hr => ?_⟩, fun dt h ctx what serial off count s => ?_⟩
  · exact exec_bad (b := .streamStop 0) rfl hr rfl
  · exact exec_streamStop_one hr hmask hon hscan hpair
  · obtain ⟨t, hex, hans, hstill⟩ := exec_reads (b := .streamStatus) rfl hr rfl
    exact ⟨t, hex, hstill, hans⟩
  · intro u b n source hr hctx hwhat hmin hmax hfour
    have hcount : ¬(count.toNat < 4 ∨ 224 < count.toNat ∨ count.toNat % 4 ≠ 0) := by omega
    refine ⟨fun hsource => ?_, fun k bytes hsource => ⟨fun hin => ?_, fun hpast => ?_⟩⟩
    · obtain ⟨t, hex, hans, hstill⟩ := exec_reads (b := b) rfl hr (State.run_statsRead_gone hctx hwhat hcount hsource)
      exact ⟨t, hex, hstill, hans⟩
    · obtain ⟨t, hex, hans, hstill⟩ := exec_reads (b := b) rfl hr (State.run_statsRead_piece hctx hwhat hcount hsource hin)
      exact ⟨t, hex, hstill, hans⟩
    · obtain ⟨t, hex, hans, hstill⟩ := exec_bad (b := b) rfl hr (State.run_statsRead_past hctx hwhat hsource hpast)
      exact ⟨t, hex, hstill, hans⟩

end Sys2Proof
end

section
/-!
SUPPORT. Calibration runs that end (R521, R522, R524), and the answer of a command that has waited.
-/
namespace Sys2Proof.Machine

/-! ### The answer of a command that has waited -/

/-- From `u` the state `x` was reached while the command of a port still waits, and its reply would answer it as seen from
`u`. -/
structure State.Awaits (u x : State) (r : Running) : Prop where
  direct : r.h.port = .p0 ∨ r.h.port = .p1 ∨ r.h.port = .p3
  unmirrored : x.twin.mirrors = []
  waiting : (x.port r.h.port).running = some r
  untied : r.lateTie = false
  room : x.audit.staged.length < 32
  others : ∀ p, p ≠ r.h.port → x.port p = u.port p
  chan : x.mb.chans[r.h.port.outChan] = u.mb.chans[r.h.port.outChan]
  epoch : x.twin.epoch = u.twin.epoch
  ident : x.ident = u.ident

section
variable {u x y : State} {r : Running} {n : Nat}

theorem State.Awaits.refl (direct : r.h.port = .p0 ∨ r.h.port = .p1 ∨ r.h.port = .p3) (unmirrored : u.twin.mirrors = [])
    (waiting : (u.port r.h.port).running = some r) (untied : r.lateTie = false) (room : u.audit.staged.length < 32) :
    u.Awaits u r :=
  { direct, unmirrored, waiting, untied, room, others := fun _ _ => rfl, chan := rfl, epoch := rfl, ident := rfl }

theorem State.Awaits.answered_reply (hx : u.Awaits x r) (status detail : Nat) (pl : List Byte) (used : Word) :
    u.answered (x.reply ⟨r.h, r.body⟩ status detail pl 0 used) r.h r.body status detail pl := by
  have htie : x.tieFlags ⟨r.h, r.body⟩ 0 = 0 := by simp [State.tieFlags, State.wonTie, hx.waiting, hx.untied]
  have hbytes : replyBytes r.body.opcode r.h.seq status 0 detail x.twin.epoch.toNat x.ident pl =
      u.replyTo r.h r.body status detail pl := by
    rw [hx.epoch, hx.ident]
    rfl
  rw [State.reply_eq_answer x ⟨r.h, r.body⟩ status detail pl 0 used hx.direct hx.unmirrored, htie, hbytes]
  exact State.answered_answer 0 used hx.room hx.others hx.chan

/-- What changes neither ports nor mailboxes, records, audit staging or pair leaves the command waiting. -/
theorem State.Awaits.congr (hx : u.Awaits x r) (ports : y.ports = x.ports) (mb : y.mb = x.mb) (audit : y.audit = x.audit)
    (twin : y.twin = x.twin) (recs : y.recs = x.recs) : u.Awaits y r := by
  have hport : ∀ p, y.port p = x.port p := fun p => by
    unfold State.port
    rw [ports]
  exact { direct := hx.direct, unmirrored := twin ▸ hx.unmirrored, waiting := hport r.h.port ▸ hx.waiting, untied := hx.untied
          room := audit ▸ hx.room, others := fun p hp => (hport p).trans (hx.others p hp), chan := mb ▸ hx.chan
          epoch := twin ▸ hx.epoch, ident := (State.ident_congr recs twin).trans hx.ident }

/-- Reports leave it waiting while audit staging has room for its entry too. -/
theorem State.Awaits.notes (hx : u.Awaits x r) (hxy : x.NotesAtMost n y) (hroom : x.audit.staged.length + n < 32) :
    u.Awaits y r := by
  have hport := State.port_of_quiet hxy.quiet
  have hchans : y.mb.chans = x.mb.chans := congrArg Mailbox.chans (State.mb_of_posted hxy.posted)
  exact { direct := hx.direct, unmirrored := hxy.twin ▸ hx.unmirrored, waiting := hport r.h.port ▸ hx.waiting, untied := hx.untied
          room := Nat.lt_of_le_of_lt hxy.staged hroom, others := fun p hp => (hport p).trans (hx.others p hp)
          chan := hchans ▸ hx.chan, epoch := hxy.twin ▸ hx.epoch
          ident := (State.ident_congr (State.recs_of_quiet hxy.quiet) hxy.twin).trans hx.ident }

/-- With a place free an internal entry is staged, and nothing overflows. -/
theorem State.notes_log (hroom : x.audit.staged.length < 32) (e : Entry) : x.NotesAtMost 1 (x.log e) := by
  have hlog : x.log e = x.stage e := if_neg (by rw [State.overflow_stage_of_room hroom]; exact Nat.lt_irrefl _)
  have htwin : (x.stage e).twin = x.twin := by
    unfold State.stage
    split <;> rfl
  have hposted : (x.stage e).posted = x.posted := hlog ▸ State.posted_log ..
  rw [hlog]
  exact ⟨State.quiet_stage .., htwin, hposted, State.length_staged_stage ..⟩

end

theorem State.nvm_of_still {s t : State} (h : t.still = s.still) : t.nvm = s.nvm := by
  show t.still.nvm = s.still.nvm
  rw [h]

theorem State.inlets_of_still {s t : State} (h : t.still = s.still) : t.inlets = s.inlets := by
  show t.still.inlets = s.still.inlets
  rw [h]

/-! ### Rounds -/

section
variable {s u : State} {x : CalSession} {due dt : Nat}

theorem exec_driftRoundEnd_eq : exec (.driftRoundEnd dt) s = .next ((s.ticked dt).roundEnds.settle s.pending) := rfl

theorem exec_driftRoundRepeat_eq : exec (.driftRoundRepeat dt) s = .next ((s.ticked dt).repeatRound.settle s.pending) := rfl

/-- R521: the round's leave is back and the trimmed maximum is the new reference. -/
def State.roundDone (s : State) : State :=
  { s.release (fun w => w == .calibration none) with nvm := { s.nvm with runs_ := [] }, wh := { s.wh with tref := s.tmax } }

/-- R521: a round that ends with success returns its leave and takes its new reference. -/
theorem State.roundEnds_done (hruns : s.nvm.runs_ = [x]) (htype : x.type = 255) (hport : x.port = none) (hbegan : x.began = true)
    (htodo : x.todo = []) (hresult : x.result = 0) : s.roundEnds = s.roundDone.raise 52 20 := by
  have hpass : (s.nvm.runs_.filter fun y => y.type == 255 && y.began && y.todo.isEmpty) = [x] := by
    rw [hruns]
    simp [htype, hbegan, htodo]
  have hgone : s.nvm.runs_.filter (· != x) = [] := by
    rw [hruns]
    simp
  have hend : s.endRun x = s.roundDone.raise 52 20 := by
    unfold State.endRun
    extract_lets s1 s2 w s3 s4 s5
    have h3 : s3 = s.roundDone := by
      have h2 : s2 = { s.release (fun w => w == .calibration none) with nvm := { s.nvm with runs_ := [] } } := by
        unfold s2 s1
        rw [hport]
        exact congrArg (fun l => ({ s.release (fun w => w == .calibration none) with nvm := { s.nvm with runs_ := l } } : State)) hgone
      unfold s3
      rw [if_pos ⟨htype, hresult⟩, h2]
      rfl
    have h4 : s4 = s.roundDone.raise 52 20 := by
      unfold s4
      rw [h3, hresult]
      rfl
    have h5 : s5 = s4 := if_neg fun h => by
      rw [hresult] at h
      exact absurd h.2.1 (by decide)
    rw [hport, h5, h4]
  unfold State.roundEnds
  rw [hpass]
  exact hend

theorem State.roundEnds_running (h : ∀ x ∈ s.nvm.runs_, x.type = 255 → x.began = true → x.todo ≠ []) : s.roundEnds = s := by
  have hnone : (s.nvm.runs_.filter fun x => x.type == 255 && x.began && x.todo.isEmpty) = [] :=
    List.filter_eq_nil_iff.2 fun x hx hyes => by
      simp only [Bool.and_eq_true, beq_iff_eq, List.isEmpty_iff] at hyes
      obtain ⟨⟨htype, hbegan⟩, htodo⟩ := hyes
      exact h x hx htype hbegan htodo
  unfold State.roundEnds
  rw [hnone]
  rfl

theorem State.repeatRound_early (hat : s.nvm.repeatAt = some due) (h : s.now < due) : s.repeatRound = s := by
  unfold State.repeatRound
  rw [hat]
  exact if_neg (Nat.not_le.2 h)

/-- R521: no round is asked for again. -/
def State.noRepeat (s : State) : State := s.setNvm fun n => { n with repeatAt := none }

theorem State.repeatRound_off (hat : s.nvm.repeatAt = some due) (h : due ≤ s.now) (hrule : s.calRuleActive = false) :
    s.repeatRound = s.noRepeat := by
  unfold State.repeatRound
  rw [hat]
  exact (if_pos h).trans (if_neg (Bool.eq_false_iff.1 (show s.noRepeat.calRuleActive = false from hrule)))

/-- R521: the round is asked for again. -/
def State.roundAsked (s : State) : State :=
  { s.enqueue { who := .calibration none, kind := 5, cost := 20, prio := 2, at_ := s.now } with
    nvm := { s.nvm with repeatAt := none, calWait := false, runs_ := s.nvm.runs_ ++ [{ port := none, type := 255, target := 255 }] } }

theorem State.repeatRound_asks (hat : s.nvm.repeatAt = some due) (h : due ≤ s.now) (hrule : s.calRuleActive = true)
    (hnone : ∀ x ∈ s.nvm.runs_, x.type ≠ 255) (hleave : s.refuseLeave 20 = none) : s.repeatRound = s.roundAsked := by
  have hfresh : s.noRepeat.nvm.runs_.any (fun x => x.type == 255) = false :=
    List.any_eq_false.2 fun x hx => by simpa using hnone x hx
  have hask := State.askSelf_of_leave (s := s.noRepeat) (who := .calibration none) (kind := 5) (prio := 2) hleave
  have hround : s.noRepeat.askRound = s.roundAsked := by
    unfold State.askRound
    rw [hfresh, hask]
    rfl
  unfold State.repeatRound
  rw [hat]
  exact (if_pos h).trans ((if_pos hrule).trans hround)

end

/-! ### Deskew runs without a skew sequence -/

section
variable {s u : State} {x : CalSession} {r : Running} {p : Fin 32} {q : Port} {dt : Nat}

theorem exec_deskewRunTimeout_eq : exec (.deskewRunTimeout dt) s = .next ((s.ticked dt).deskewTimeouts.settle s.pending) := rfl

/-- R524: no skew sequence of the port has come for 1 s to a run that waits for it. -/
def State.deskewLate (s : State) (p : Fin 32) : Bool :=
  s.inlets[p].deskew != 2 &&
    s.nvm.runs_.any fun x => x.began && x.todo.contains ⟨1, p.val⟩ && decide (x.since + ticksOfMs 1000 ≤ s.now)

/-- R524: the port waits for no skew sequence. -/
def State.deskewGivenUp (s : State) (p : Fin 32) : State :=
  s.setInlet p fun x => { x with deskew := if x.deskew = 1 then 0 else x.deskew, deskewAsked := false }

/-- R524: what the time limit does at one port. -/
def State.deskewOne (s : State) (p : Fin 32) : State :=
  if s.deskewLate p then (s.deskewGivenUp p).partEnded ⟨1, p.val⟩ 2 [] else s

theorem State.deskewTimeouts_eq (s : State) : s.deskewTimeouts = (fins 32).foldl State.deskewOne s := rfl

/-- R524: a port no run waits for stays as it is. -/
theorem State.deskewOne_of_none (h : ∀ x ∈ s.nvm.runs_, x.todo.contains ⟨1, p.val⟩ = false) : s.deskewOne p = s := by
  have hnone : s.deskewLate p = false := by
    unfold State.deskewLate
    rw [List.any_eq_false.2 fun x hx => by rw [h x hx, Bool.and_false, Bool.false_and]; exact Bool.false_ne_true, Bool.and_false]
  exact if_neg (Bool.eq_false_iff.1 hnone)

theorem State.deskewOne_early (hruns : s.nvm.runs_ = [x]) (h : s.now < x.since + 400000000) : s.deskewOne p = s := by
  have hnone : s.deskewLate p = false := by
    have hlate : decide (x.since + ticksOfMs 1000 ≤ s.now) = false := decide_eq_false (Nat.not_le.2 h)
    unfold State.deskewLate
    rw [hruns, List.any_cons, List.any_nil, hlate, Bool.and_false, Bool.false_or, Bool.and_false]
  exact if_neg (Bool.eq_false_iff.1 hnone)

/-- R524: the run as its only part has left it. -/
def CalSession.unmeasured (x : CalSession) : CalSession := { x with todo := [], result := 2 }

/-- R522: the part without a measurement is noted and the run has no part left. -/
def State.unmeasured (s : State) (x : CalSession) (p : Fin 32) : State :=
  s.setNvm fun n => { n with
    last := (1, p.val, 2, 0), lastTime := s.time, runs := satInc 16 n.runs, runs_ := [x.unmeasured] }

/-- R499, R524: the run is gone and its leave is back. -/
def State.runGone (s : State) (q : Port) : State :=
  { s.release (fun w => w == .calibration (some q)) with nvm := { s.nvm with runs_ := [] } }

/-- R524: a run without a measurement ends, and its command is answered. -/
theorem State.endRun_unmeasured (hruns : s.nvm.runs_ = [x.unmeasured]) (htype : x.type = 1) (hport : x.port = some q)
    (hr : (s.port q).running = some r) (hwait : r.wait = .calRun) :
    s.endRun x.unmeasured = (s.runGone q).ok ⟨r.h, r.body⟩ ((s.runGone q).calReply x.unmeasured) := by
  have hgone : s.nvm.runs_.filter (· != x.unmeasured) = [] := by
    rw [hruns]
    simp
  have hwaits : (s.runGone q).waitingFor q (fun w => w == .calRun) = some r := by
    unfold State.waitingFor
    rw [show (s.runGone q).port q = s.port q from rfl, hr]
    dsimp only
    rw [hwait]
    rfl
  unfold State.endRun
  extract_lets s1 s2 w s3 s4 s5
  have h2 : s2 = s.runGone q := by
    unfold s2 s1
    rw [show x.unmeasured.port = some q from hport]
    exact congrArg (fun l => ({ s.release (fun w => w == .calibration (some q)) with nvm := { s.nvm with runs_ := l } } : State)) hgone
  have hone : x.unmeasured.type ≠ 255 := by
    rw [show x.unmeasured.type = 1 from htype]
    decide
  have h3 : s3 = s2 := if_neg fun h => hone h.1
  have h4 : s4 = s3 := rfl
  have h5 : s5 = s4 := if_neg fun h => hone h.1
  rw [show x.unmeasured.port = some q from hport, h5, h4, h3, h2]
  dsimp only
  rw [hwaits]

/-- R522: the log entry of a part without a measurement. -/
def State.unmeasuredEntry (s : State) (p : Fin 32) : Entry :=
  s.entry 0x15 6 (1 * 256 + p.val) (BitVec.ofNat 64 (2 + 0 * 2 ^ 8 + 0 * 2 ^ 16 + 0 * 2 ^ 32))

/-- R522, R524: the only run waits for this part alone: it ends. -/
theorem State.partEnded_unmeasured (hruns : s.nvm.runs_ = [x]) (hbegan : x.began = true) (htype : x.type = 1)
    (htodo : x.todo = [⟨1, p.val⟩]) (hresult : x.result = 0) :
    s.partEnded ⟨1, p.val⟩ 2 [] =
      ((s.unmeasured x p).log ((s.unmeasured x p).unmeasuredEntry p)).endRun x.unmeasured := by
  have hpart : (⟨1, p.val⟩ : CalPart) ∈ x.todo := by
    rw [htodo]
    exact List.mem_singleton.2 rfl
  have hmap : (s.nvm.runs_.map fun x => if x.todo.contains ⟨1, p.val⟩ then
      { x with todo := x.todo.filter (· != ⟨1, p.val⟩), result := joinResults x.result 2, rejected := x.rejected + 0
               elements := x.elements ++ [] } else x) = [x.unmeasured] := by
    have hleft : x.todo.filter (· != ⟨1, p.val⟩) = [] := by
      rw [htodo]
      simp
    have hjoin : joinResults x.result 2 = 2 := by
      rw [hresult]
      rfl
    rw [hruns, List.map_cons, List.map_nil, if_pos (List.contains_iff_mem.2 hpart), hleft, hjoin, List.append_nil]
    rfl
  unfold State.partEnded
  extract_lets rejected s1 s2
  have h1 : s1 = s.unmeasured x p :=
    congrArg (fun l => s.setNvm fun n => { n with
      last := (1, p.val, 2, 0), lastTime := s.time, runs := satInc 16 n.runs, runs_ := l }) hmap
  have h2 : s2 = (s.unmeasured x p).log ((s.unmeasured x p).unmeasuredEntry p) := by
    unfold s2
    rw [h1]
    rfl
  have hpass : (s2.nvm.runs_.filter fun x => x.began && x.todo.isEmpty && x.type != 255) = [x.unmeasured] := by
    rw [h2, State.eq_of_quiet State.nvm (fun _ => rfl) (State.quiet_log ..)]
    show List.filter _ [x.unmeasured] = _
    unfold CalSession.unmeasured
    simp [hbegan, htype]
  rw [hpass, h2]
  rfl

/-- R522, R524: the run without a measurement as it was noted and logged. -/
def State.runUnmeasured (s : State) (x : CalSession) (p : Fin 32) : State :=
  ((s.deskewGivenUp p).unmeasured x p).log (((s.deskewGivenUp p).unmeasured x p).unmeasuredEntry p)

/-- R524: the only run waits for the skew sequence of a port alone, and its time is over. -/
theorem State.deskewTimeouts_ends (hruns : s.nvm.runs_ = [x]) (hbegan : x.began = true) (htype : x.type = 1)
    (htodo : x.todo = [⟨1, p.val⟩]) (hport : x.port = some q) (hresult : x.result = 0)
    (hdue : x.since + 400000000 ≤ s.now) (hsweep : s.inlets[p].deskew ≠ 2)
    (hr : (s.port q).running = some r) (hwait : r.wait = .calRun) :
    s.deskewTimeouts = ((s.runUnmeasured x p).runGone q).ok ⟨r.h, r.body⟩
      (((s.runUnmeasured x p).runGone q).calReply x.unmeasured) := by
  have hlate : s.deskewLate p = true := by
    have hcontains : x.todo.contains ⟨1, p.val⟩ = true := by
      rw [htodo]
      simp
    have hover : decide (x.since + ticksOfMs 1000 ≤ s.now) = true := decide_eq_true hdue
    unfold State.deskewLate
    rw [hruns, List.any_cons, hbegan, hcontains, hover, bne_iff_ne.2 hsweep]
    rfl
  have hnvm : (s.runUnmeasured x p).nvm.runs_ = [x.unmeasured] := by
    unfold State.runUnmeasured
    rw [State.eq_of_quiet State.nvm (fun _ => rfl) (State.quiet_log ..)]
    rfl
  have hrunning : ((s.runUnmeasured x p).port q).running = some r := by
    unfold State.runUnmeasured
    rw [State.port_of_quiet (State.quiet_log ..)]
    exact hr
  have hone : s.deskewOne p = ((s.runUnmeasured x p).runGone q).ok ⟨r.h, r.body⟩
      (((s.runUnmeasured x p).runGone q).calReply x.unmeasured) := by
    refine (if_pos hlate).trans ?_
    rw [State.partEnded_unmeasured (s := s.deskewGivenUp p) hruns hbegan htype htodo hresult]
    exact State.endRun_unmeasured hnvm htype hport hrunning hwait
  have hleft : (s.deskewOne p).nvm.runs_ = [] := by
    rw [hone]
    exact congrArg Nvm.runs_ (State.nvm_of_still (State.still_reply ..))
  rw [State.deskewTimeouts_eq, ← hone]
  refine foldl_of_one (List.nodup_finRange 32) (List.mem_finRange p) (fun b _ hne => State.deskewOne_of_none fun y hy => ?_)
    fun b _ _ => State.deskewOne_of_none fun y hy => ?_
  · rw [hruns, List.mem_singleton] at hy
    rw [hy, htodo]
    simpa [Fin.ext_iff, eq_comm] using hne
  · rw [hleft] at hy
    exact absurd hy List.not_mem_nil

/-- R524: what the reply of a run without a measurement says. -/
theorem State.calReply_unmeasured (htype : x.type = 1) (htarget : x.target = p.val) (hrejected : x.rejected = 0)
    (helements : x.elements = []) :
    s.calReply x.unmeasured = leBytes 1 1 ++ leBytes 1 p.val ++ leBytes 1 2 ++ leBytes 1 0 ++
      leBytes 2 (wrapOf 16 s.tmax) ++ leBytes 2 0 := by
  unfold State.calReply CalSession.unmeasured
  dsimp only
  rw [htype, htarget, hrejected, helements]
  exact List.append_nil _

theorem State.Awaits.unmeasured {v : State} (hv : u.Awaits v r) (x : CalSession) (p : Fin 32) :
    u.Awaits ((v.deskewGivenUp p).unmeasured x p) r := hv.congr rfl rfl rfl rfl rfl

theorem State.Awaits.runGone {v : State} (hv : u.Awaits v r) (q : Port) : u.Awaits (v.runGone q) r := hv.congr rfl rfl rfl rfl rfl

theorem State.Awaits.runUnmeasured (hu : u.Awaits u r) (hroom : u.audit.staged.length < 30) (x : CalSession) (p : Fin 32) :
    u.Awaits (u.runUnmeasured x p) r :=
  (hu.unmeasured x p).notes (State.notes_log (hu.unmeasured x p).room _) (Nat.lt_trans (Nat.add_lt_add_right hroom 1) (by decide))

theorem State.quiet_runUnmeasured (u : State) (x : CalSession) (p : Fin 32) :
    (u.runUnmeasured x p).quiet = ((u.deskewGivenUp p).unmeasured x p).quiet := State.quiet_log ..

theorem State.nvm_runUnmeasured (u : State) (x : CalSession) (p : Fin 32) :
    (u.runUnmeasured x p).nvm = ((u.deskewGivenUp p).unmeasured x p).nvm :=
  State.eq_of_quiet State.nvm (fun _ => rfl) (u.quiet_runUnmeasured x p)

theorem State.tmax_runUnmeasured (u : State) (x : CalSession) (p : Fin 32) : (u.runUnmeasured x p).tmax = u.tmax :=
  (State.eq_of_quiet State.tmax (fun _ => rfl) (u.quiet_runUnmeasured x p)).trans rfl

theorem State.deskewAsked_runUnmeasured (u : State) (x : CalSession) (p : Fin 32) :
    (u.runUnmeasured x p).inlets[p].deskewAsked = false := by
  rw [State.eq_of_quiet State.inlets (fun _ => rfl) (u.quiet_runUnmeasured x p)]
  show (upd u.inlets p _)[p].deskewAsked = false
  rw [upd_same]

/-- R522: what is left of the run is noted in the store. -/
theorem State.nvm_runGone (u : State) (x : CalSession) (p : Fin 32) (q : Port) : ((u.runUnmeasured x p).runGone q).nvm =
    { u.nvm with last := (1, p.val, 2, 0), lastTime := u.time, runs := satInc 16 u.nvm.runs, runs_ := [] } :=
  congrArg (fun n : Nvm => { n with runs_ := [] }) (u.nvm_runUnmeasured x p)

theorem State.tmax_runGone (u : State) (q : Port) : (u.runGone q).tmax = u.tmax := rfl

/-- R524: the reply of a run in vain, and what is left of it. -/
theorem State.deskewTimeouts_answered (hruns : u.nvm.runs_ = [x]) (hbegan : x.began = true) (htype : x.type = 1)
    (htarget : x.target = p.val) (htodo : x.todo = [⟨1, p.val⟩]) (hport : x.port = some r.h.port) (hresult : x.result = 0)
    (hrejected : x.rejected = 0) (helements : x.elements = []) (hdue : x.since + 400000000 ≤ u.now)
    (hsweep : u.inlets[p].deskew ≠ 2) (hu : u.Awaits u r) (hwait : r.wait = .calRun) (hroom : u.audit.staged.length < 30)
    (q : List Instr) :
    (u.deskewTimeouts.settle q).nvm =
        { u.nvm with last := (1, p.val, 2, 0), lastTime := u.time, runs := satInc 16 u.nvm.runs, runs_ := [] } ∧
      (u.deskewTimeouts.settle q).inlets[p].deskewAsked = false ∧
      u.answered (u.deskewTimeouts.settle q) r.h r.body 0 0 (leBytes 1 1 ++ leBytes 1 p.val ++ leBytes 1 2 ++ leBytes 1 0 ++
        leBytes 2 (wrapOf 16 u.tmax) ++ leBytes 2 0) := by
  have hgone := (hu.runUnmeasured hroom x p).runGone r.h.port
  have hend := State.deskewTimeouts_ends hruns hbegan htype htodo hport hresult hdue hsweep hu.waiting hwait
  rw [State.calReply_unmeasured htype htarget hrejected helements, State.tmax_runGone, State.tmax_runUnmeasured] at hend
  have hstill : (u.deskewTimeouts.settle q).still = ((u.runUnmeasured x p).runGone r.h.port).still := by
    rw [State.still_settle, hend]
    exact State.still_reply ..
  refine ⟨(State.nvm_of_still hstill).trans (u.nvm_runGone x p r.h.port), ?_, ?_⟩
  · rw [State.inlets_of_still hstill]
    exact u.deskewAsked_runUnmeasured x p
  · rw [hend]
    exact (hgone.answered_reply 0 0 _ 0).settle hu.direct q

end

end Sys2Proof.Machine

namespace Sys2Proof

open Machine

/-- Settles O47: a round's end and its repetition follow the parts and the rule; a deskew run in vain ends after 1 s. -/
theorem calibrationRunsEnd : Obligations.CalibrationRunsEnd := by
  unfold Obligations.CalibrationRunsEnd
  refine ⟨fun dt s => ⟨fun x hruns htype hport hbegan htodo hresult => ?_, fun hruns => ?_, fun due hat => ⟨fun hearly => ?_,
    fun hdue hrule => ?_, fun hdue hrule hnone hleave => ?_⟩⟩, fun dt p q x r s => ?_⟩
  · refine ⟨_, exec_driftRoundEnd_eq, ?_⟩
    rw [State.roundEnds_done hruns htype hport hbegan htodo hresult]
    exact becomes_raise rfl (by decide) _
  · refine ⟨_, exec_driftRoundEnd_eq, ?_⟩
    rw [State.roundEnds_running hruns]
    exact becomes_settle_nil rfl _
  · refine ⟨_, exec_driftRoundRepeat_eq, ?_⟩
    rw [State.repeatRound_early hat hearly]
    exact becomes_settle_nil rfl _
  · refine ⟨_, exec_driftRoundRepeat_eq, ?_⟩
    rw [State.repeatRound_off hat hdue hrule]
    exact becomes_settle_nil rfl _
  · refine ⟨_, exec_driftRoundRepeat_eq, ?_⟩
    rw [State.repeatRound_asks hat hdue hrule hnone hleave]
    exact becomes_settle_nil rfl _
  · intro u hruns hbegan htype htarget htodo hport hresult hrejected helements
    refine ⟨fun hdue hsweep hdirect hr hwait hq htie hmirrors hroom => ?_, fun hearly => ?_⟩
    · subst hq
      have hu : u.Awaits u r := .refl hdirect hmirrors hr htie (Nat.lt_trans hroom (by decide))
      obtain ⟨hnvm, hasked, hans⟩ := State.deskewTimeouts_answered hruns hbegan htype htarget htodo hport hresult hrejected
        helements hdue hsweep hu hwait hroom s.pending
      refine ⟨_, exec_deskewRunTimeout_eq, ?_, ?_, ?_, hasked, hans⟩
      all_goals rw [hnvm]
    · refine ⟨_, exec_deskewRunTimeout_eq, ?_⟩
      have hkept : (s.ticked dt).deskewTimeouts = s.ticked dt := by
        rw [State.deskewTimeouts_eq]
        exact foldl_of_fixed fun p _ => State.deskewOne_early hruns hearly
      rw [hkept]
      exact becomes_settle_nil rfl _

end Sys2Proof
end
section
/-!
SUPPORT. The commands of calibration, and leave of kind 6 that is granted (R502, R512, R524 to R527, R534).
-/
namespace Sys2Proof.Machine

theorem State.pwr_of_still {s t : State} (h : t.still = s.still) : t.pwr = s.pwr := by
  show t.still.pwr = s.still.pwr
  rw [h]

/-! ### Asking for leave -/

section
variable {s u : State} {h : Hdr} {b : Body} {who : Requester} {kind cost prio dt : Nat} {w : Waiting} {c : Instr}

/-- R499, R502: the request that a command makes. -/
def State.cmdReq (s : State) (h : Hdr) (who : Requester) (kind cost prio : Nat) : LeaveReq :=
  { who, kind, cost, prio, at_ := s.now, limit := some (s.leaveLimit h) }

theorem State.askFor_of_leave (hleave : s.refuseLeave cost = none) :
    s.askFor ⟨h, b⟩ who kind cost prio w = (s.enqueue (s.cmdReq h who kind cost prio)).wait ⟨h, b⟩ w := by
  unfold State.askFor
  dsimp only
  rw [hleave]
  rfl

theorem State.askWrite_of_leave (hpf : s.pwr.pfActive = false) (hleave : s.refuseLeave 8 = none) :
    s.askWrite ⟨h, b⟩ = (s.enqueue (s.cmdReq h (.nvm (some h.port)) 6 8 3)).wait ⟨h, b⟩ .nvm := by
  unfold State.askWrite
  rw [hpf]
  exact State.askFor_of_leave hleave

/-- The store replaced. -/
def State.withNvm (s : State) (n : Nvm) : State := { s with nvm := n }

theorem State.still_withNvm_taken (u : State) (k : Cmd) (n : Nvm) :
    (((u.taken k).withNvm n).enqueue (((u.taken k).withNvm n).cmdReq h who kind cost prio)).still =
      ((u.withNvm n).enqueue (u.cmdReq h who kind cost prio)).still := rfl

theorem State.nvm_enqueue_withNvm (u : State) (n : Nvm) (r : LeaveReq) : ((u.withNvm n).enqueue r).nvm = n := rfl

theorem State.pwr_enqueue_withNvm (u : State) (n : Nvm) (r : LeaveReq) : ((u.withNvm n).enqueue r).pwr = (u.enqueue r).pwr := rfl

/-- A command that changes the store, asks for leave of kind 6 and waits. -/
theorem exec_asksWrite_nvm {n : Nvm} (hc : b.row dt h = some c) (hr : (s.ticked dt).runs h b)
    (hpf : (s.ticked dt).pwr.pfActive = false) (hleave : (s.ticked dt).refuseLeave 8 = none)
    (hrun : ((s.ticked dt).taken ⟨h, b⟩).run ⟨h, b⟩ = (((s.ticked dt).taken ⟨h, b⟩).withNvm n).askWrite ⟨h, b⟩) :
    ∃ t, exec c s = .next t ∧ (s.ticked dt).waits t h b .nvm ∧
      t.still = (((s.ticked dt).withNvm n).enqueue ((s.ticked dt).cmdReq h (.nvm (some h.port)) 6 8 3)).still := by
  have hask := State.askWrite_of_leave (s := ((s.ticked dt).taken ⟨h, b⟩).withNvm n) (h := h) (b := b) hpf hleave
  obtain ⟨t, hex, hwaits, hstill⟩ := exec_waits
    (x := (((s.ticked dt).taken ⟨h, b⟩).withNvm n).enqueue
      ((((s.ticked dt).taken ⟨h, b⟩).withNvm n).cmdReq h (.nvm (some h.port)) 6 8 3))
    hc hr (fun _ => rfl) rfl (hrun.trans hask)
  exact ⟨t, hex, hwaits, hstill.trans (State.still_withNvm_taken ..)⟩

/-- A command that asks for leave of kind 6 in the state it is taken in, and waits. -/
theorem exec_asksWrite (hc : b.row dt h = some c) (hr : (s.ticked dt).runs h b) (hpf : (s.ticked dt).pwr.pfActive = false)
    (hleave : (s.ticked dt).refuseLeave 8 = none)
    (hrun : ((s.ticked dt).taken ⟨h, b⟩).run ⟨h, b⟩ = ((s.ticked dt).taken ⟨h, b⟩).askWrite ⟨h, b⟩) :
    ∃ t, exec c s = .next t ∧ (s.ticked dt).waits t h b .nvm ∧
      t.still = ((s.ticked dt).enqueue ((s.ticked dt).cmdReq h (.nvm (some h.port)) 6 8 3)).still :=
  exec_asksWrite_nvm (n := (s.ticked dt).nvm) hc hr hpf hleave hrun

end

/-! ### CAL_RUN -/

section
variable {s u : State} {h : Hdr} {type target : Byte} {flags : Word} {dt : Nat}

theorem State.run_calRun_noType (htype : type.toNat ∉ [1, 2, 3, 4, 255]) :
    u.run ⟨h, .calRun type target⟩ = u.bad ⟨h, .calRun type target⟩ 16 := by
  have hunknown : (!([1, 2, 3, 4, 255].contains type.toNat)) = true := by
    rw [Bool.not_eq_true', ← Bool.not_eq_true, List.contains_iff_mem]
    exact htype
  show u.runCalRun _ type target = _
  unfold State.runCalRun
  exact if_pos hunknown

/-- R524: the target is one that the type has. -/
def calTargetOk (t g : Nat) : Prop := (t = 1 ∧ g ≤ 31) ∨ (t = 3 ∧ (g ≤ 5 ∨ g = 255)) ∨ ((t = 2 ∨ t = 4 ∨ t = 255) ∧ g = 255)

theorem State.run_calRun_fits (hfits : calTargetOk type.toNat target.toNat) : u.run ⟨h, .calRun type target⟩ =
    if u.calNotReady type.toNat target.toNat then u.notReady ⟨h, .calRun type target⟩ 3
    else
      let s := u.askFor ⟨h, .calRun type target⟩ (.calibration (some h.port)) 5 20 2 .calRun
      if s.asked (fun r => r == .calibration (some h.port)) then
        s.setNvm fun n => { n with runs_ := n.runs_ ++ [{ port := some h.port, type := type.toNat, target := target.toNat }] }
      else s := by
  have hknown : (!([1, 2, 3, 4, 255].contains type.toNat)) ≠ true := by
    have hmem : type.toNat ∈ [1, 2, 3, 4, 255] := by
      unfold calTargetOk at hfits
      simp only [List.mem_cons, List.not_mem_nil, or_false]
      omega
    rw [List.contains_iff_mem.2 hmem]
    exact Bool.false_ne_true
  have htarget : ¬((type.toNat = 1 ∧ 31 < target.toNat) ∨ (type.toNat = 3 ∧ 5 < target.toNat ∧ (target.toNat != 255) = true) ∨
      ((type.toNat != 1) = true ∧ (type.toNat != 3) = true ∧ (target.toNat != 255) = true)) := by
    unfold calTargetOk at hfits
    simp only [bne_iff_ne]
    omega
  show u.runCalRun _ type target = _
  unfold State.runCalRun
  exact (if_neg hknown).trans (if_neg htarget)

theorem State.run_calRun_notReady (hfits : calTargetOk type.toNat target.toNat)
    (hbusy : u.calNotReady type.toNat target.toNat = true) :
    u.run ⟨h, .calRun type target⟩ = u.fail ⟨h, .calRun type target⟩ 9 3 :=
  (State.run_calRun_fits hfits).trans (if_pos hbusy)

theorem asked_insertReq {f : Requester → Bool} {r : LeaveReq} (hf : f r.who = true) (l : List LeaveReq) :
    (insertReq r l).any (fun g => f g.who) = true := List.any_eq_true.2 ⟨r, mem_insertReq r l, hf⟩

/-- R524: a run that asks for leave. -/
def State.runJoined (s : State) (h : Hdr) (t g : Nat) : State :=
  { s.enqueue (s.cmdReq h (.calibration (some h.port)) 5 20 2) with
    nvm := { s.nvm with runs_ := s.nvm.runs_ ++ [{ port := some h.port, type := t, target := g }] } }

theorem State.run_calRun_asks (hfits : calTargetOk type.toNat target.toNat)
    (hready : u.calNotReady type.toNat target.toNat = false) (hleave : u.refuseLeave 20 = none) :
    u.run ⟨h, .calRun type target⟩ = (u.runJoined h type.toNat target.toNat).wait ⟨h, .calRun type target⟩ .calRun := by
  have hasked : ((u.enqueue (u.cmdReq h (.calibration (some h.port)) 5 20 2)).wait ⟨h, .calRun type target⟩ .calRun).asked
      (fun r => r == .calibration (some h.port)) = true :=
    asked_insertReq (f := fun r => r == .calibration (some h.port)) (beq_self_eq_true _) u.pwr.queue
  rw [State.run_calRun_fits hfits, State.askFor_of_leave hleave]
  exact (if_neg (Bool.eq_false_iff.1 hready)).trans (if_pos hasked)

theorem State.still_runJoined_taken (u : State) (k : Cmd) (t g : Nat) :
    ((u.taken k).runJoined h t g).still = (u.runJoined h t g).still := rfl

/-! ### CAL_COMMIT -/

theorem State.run_calCommit (hflags : flags.toNat ≤ 1) (hstages : ∀ o ∈ u.nvm.imports, o.stage.isSome = true) :
    u.run ⟨h, .calCommit flags⟩ =
      if u.calBusy then u.retry ⟨h, .calCommit flags⟩ 0x0602
      else if u.nvm.stored.origin = 0 ∧ flags.getLsbD 0 = false then u.bad ⟨h, .calCommit flags⟩ 16
      else u.askWrite ⟨h, .calCommit flags⟩ := by
  have hclosed : u.nvm.imports.any (fun o => o.stage.isNone) = false :=
    List.any_eq_false.2 fun o ho => by
      rw [← Option.not_isSome, hstages o ho]
      exact Bool.false_ne_true
  show u.runCalCommit _ flags = _
  unfold State.runCalCommit
  rw [hclosed]
  exact if_neg (Nat.not_lt.2 hflags)

theorem State.run_calCommit_asks (hflags : flags.toNat ≤ 1) (hstages : ∀ o ∈ u.nvm.imports, o.stage.isSome = true)
    (hfree : u.calBusy = false) (hmay : u.nvm.stored.origin ≠ 0 ∨ flags = 1) :
    u.run ⟨h, .calCommit flags⟩ = u.askWrite ⟨h, .calCommit flags⟩ := by
  have hgood : ¬(u.nvm.stored.origin = 0 ∧ flags.getLsbD 0 = false) := by
    rintro ⟨hzero, hoff⟩
    rcases hmay with hne | rfl
    · exact hne hzero
    · exact absurd hoff (by decide)
  rw [State.run_calCommit hflags hstages, hfree]
  exact if_neg hgood

end

/-! ### CAL_EXPORT and CAL_IMPORT -/

section
variable {s u : State} {h : Hdr} {which : Byte} {off count : Word} {data : List Byte} {dt : Nat}

/-- R526: the set that CAL_EXPORT gives. -/
def State.exportSet (s : State) (which : Byte) : CalSet := if which = 0 then s.nvm.stored else s.commitSet s.nvm.working.bytes 1

theorem State.run_calExport (hwhich : which.toNat ≤ 1) (hoff : off.toNat % 4 = 0) (hstart : off.toNat ≤ 9768)
    (hmin : 4 ≤ count.toNat) (hmax : count.toNat ≤ 224) (hcount : count.toNat % 4 = 0) (hend : off.toNat + count.toNat ≤ 9772) :
    u.run ⟨h, .calExport which off count⟩ = u.ok ⟨h, .calExport which off count⟩
      (leBytes 4 (if which = 0 then u.nvm.stored.serial.toNat else u.nvm.changes) ++ leBytes 4 9772 ++
        ((u.exportSet which).bytesOf.drop off.toNat).take count.toNat) := by
  have hplace : ¬((off.toNat % 4 != 0) = true ∨ 9768 < off.toNat) := by
    simp only [bne_iff_ne]
    omega
  have hsize : ¬(count.toNat < 4 ∨ 224 < count.toNat ∨ (count.toNat % 4 != 0) = true) := by
    simp only [bne_iff_ne]
    omega
  show u.runCalExport _ which off count = _
  unfold State.runCalExport
  rw [if_neg (Nat.not_lt.2 hwhich), if_neg hplace, if_neg hsize, if_neg (Nat.not_lt.2 hend)]
  rfl

/-- R527: an import opened for a port. -/
def State.importOpened (s : State) (p : Port) : State :=
  s.setNvm fun n => { n with
    imports := n.imports.filter (fun o : OpenImport => !(o.stage == none && o.port == p)) ++ [{ port := p, stage := none, at_ := s.now }] }

theorem State.openPiece_first (s : State) (p : Port) : s.openPiece p none true = s.importOpened p := by
  unfold State.openPiece
  cases s.openImport p none <;> rfl

theorem State.run_calImport_first (hmine : ∀ o ∈ u.nvm.imports, o.stage = none → o.port = h.port) (hoff : off.toNat % 4 = 0)
    (hend : off.toNat + data.length ≤ 9772) (hpf : u.pwr.pfActive = false) :
    u.run ⟨h, .calImport 1 off data⟩ = (u.importOpened h.port).askWrite ⟨h, .calImport 1 off data⟩ := by
  have hothers : u.nvm.imports.any (fun o => o.stage.isNone && o.port != h.port) = false :=
    List.any_eq_false.2 fun o ho hyes => by
      rw [Bool.and_eq_true, Option.isNone_iff_eq_none, bne_iff_ne] at hyes
      exact hyes.2 (hmine o ho hyes.1)
  have hplace : ¬((off.toNat % 4 != 0) = true ∨ 9772 < off.toNat + data.length) := by
    simp only [bne_iff_ne]
    omega
  show u.runCalImport _ 1 off data = _
  unfold State.runCalImport
  rw [hothers, if_neg Bool.false_ne_true, if_neg (by decide : ¬7 < (1 : Byte).toNat)]
  refine (if_neg Bool.false_ne_true).trans ((if_neg hplace).trans ?_)
  rw [hpf]
  exact congrArg (State.askWrite · _) (u.openPiece_first h.port)

/-! ### The idle import -/

theorem exec_importIdleTimeout_eq : exec (.importIdleTimeout dt) s = .next ((s.ticked dt).closeIdle.beginRuns.settle s.pending) := rfl

theorem State.beginRuns_of_none (hruns : s.nvm.runs_ = []) : s.beginRuns = s := by
  unfold State.beginRuns
  rw [hruns]
  split <;> rfl

/-- R527: with no command in execution and no write, what got no piece for 100 ms is closed. -/
theorem State.closeIdle_of_idle (hidle : s.idlePorts) (hjobs : s.nvm.jobs = []) : s.closeIdle =
    { s with nvm := { s.nvm with imports := s.nvm.imports.filter fun o => decide (s.now < o.at_ + 40000000) } } := by
  have hnone : ∀ p, s.nvmCmd p = none := fun p => by
    unfold State.nvmCmd
    rw [State.waitingFor_of_idle (hidle p (Port.mem_all p))]
    rfl
  have hkept : s.nvm.imports.filter (fun o => decide (s.now < o.at_ + ticksOfMs 100) ||
      (s.nvm.jobs.any fun j => match j with | .import_ p => o.stage.isNone && o.port == p | _ => false) || (s.nvmCmd o.port).isSome) =
      s.nvm.imports.filter fun o => decide (s.now < o.at_ + 40000000) :=
    List.filter_congr fun o _ => by
      rw [hjobs, hnone, List.any_nil, Option.isSome_none, Bool.or_false, Bool.or_false]
      rfl
  exact congrArg (fun l => s.setNvm fun n => { n with imports := l }) hkept

theorem State.closeIdle_beginRuns (hidle : s.idlePorts) (hjobs : s.nvm.jobs = []) (hruns : s.nvm.runs_ = []) :
    s.closeIdle.beginRuns =
      { s with nvm := { s.nvm with imports := s.nvm.imports.filter fun o => decide (s.now < o.at_ + 40000000) } } := by
  rw [State.closeIdle_of_idle hidle hjobs]
  exact State.beginRuns_of_none hruns

end

/-! ### Leave of kind 6 that is granted -/

section
variable {s u : State} {h : Hdr} {r : Running} {q : LeaveReq} {dt : Nat}

theorem exec_stewardGrant_eq : exec (.stewardGrant dt) s = .next ((s.ticked dt).stewardCycle.settle s.pending) := rfl

/-- R502: the queue's only request is granted. -/
def State.leaveMade (s : State) (q : LeaveReq) : State :=
  { s with pwr := { s.pwr with
    queue := [], grants := s.pwr.grants ++ [q], grantCount := satInc 16 s.pwr.grantCount
    maxWait := max s.pwr.maxWait ((s.now - q.at_) / 400) } }

theorem State.grantReq_write {p : Port} (hqueue : s.pwr.queue = [q]) (hwho : q.who = .nvm (some p)) (hlimit : q.limit ≠ some s.now) :
    s.grantReq q = ((s.leaveMade q).grantWrite (some p)).refreshBudget := by
  unfold State.grantReq
  extract_lets isDomain w s1 s2
  have h1 : s1 = s.leaveMade q := by
    unfold s1 w isDomain
    rw [hwho, hqueue]
    rfl
  have h2 : s2 = s1 := if_neg hlimit
  rw [h2, h1, hwho]
  rfl

theorem State.refreshBudget_pwr (s : State) : s.refreshBudget.pwr = s.pwr :=
  State.eq_of_quiet State.pwr (fun _ => rfl) (State.quiet_raiseLevel ..)

/-- R502: with one request, which fits, the cycle grants it and nothing else. -/
theorem State.stewardCycle_one (hqueue : s.pwr.queue = [q]) (hwait : s.nvm.calWait = false)
    (hcover : q.cost + s.standingUnits ≤ s.budget) (hfits : s.headFits q = true) (hdone : (s.grantReq q).pwr.queue = []) :
    s.stewardCycle = s.grantReq q := by
  have hretry : s.retryRound = s := if_neg (by rw [hwait]; exact Bool.false_ne_true)
  have hrefuse : s.refuseRequests = s := by
    unfold State.refuseRequests
    rw [hqueue, List.filter_cons_of_neg (by simpa using hcover)]
    rfl
  have hheads : s.grantHeads 64 = s.grantReq q := by
    show (match s.pwr.queue with
      | r :: _ => if s.headFits r then (s.grantReq r).grantHeads 63 else s
      | [] => s) = _
    rw [hqueue]
    refine (if_pos hfits).trans ?_
    unfold State.grantHeads
    rw [hdone]
  have hexpire : (s.grantReq q).expireRequests = s.grantReq q := by
    unfold State.expireRequests
    rw [hdone]
    rfl
  unfold State.stewardCycle
  rw [hretry, hrefuse, hheads, hexpire]

theorem State.nvmCmd_of_waits (hr : (s.port h.port).running = some r) (hh : r.h = h) (hwait : r.wait = .nvm) :
    s.nvmCmd h.port = some ⟨h, r.body⟩ := by
  unfold State.nvmCmd State.waitingFor
  rw [hr]
  dsimp only
  rw [hwait, ← hh]
  rfl

/-- What `granting` says of the command. -/
theorem State.awaits_of_granting (hg : u.granting h r q) : u.Awaits u r := by
  obtain ⟨-, -, -, -, -, -, -, hdirect, hr, hh, -, htie, hmirrors, hroom⟩ := hg
  exact .refl (hh.symm ▸ hdirect) hmirrors (hh.symm ▸ hr) htie hroom

theorem State.Awaits.leaveMade {x : State} (hx : u.Awaits x r) (q : LeaveReq) : u.Awaits (x.leaveMade q) r :=
  hx.congr rfl rfl rfl rfl rfl

theorem State.nvmCmd_of_granting (hg : u.granting h r q) : (u.leaveMade q).nvmCmd h.port = some ⟨h, r.body⟩ := by
  obtain ⟨-, -, -, -, -, -, -, -, hr, hh, hwait, -⟩ := hg
  exact State.nvmCmd_of_waits (s := u.leaveMade q) hr hh hwait

/-- R502: leave of kind 6 with which the command is answered at once. -/
theorem State.stewardCycle_answers {y : State} {status detail : Nat} {pl : List Byte} (hg : u.granting h r q)
    (hwho : q.who = .nvm (some h.port))
    (hgrant : (u.leaveMade q).grantWrite (some h.port) = y.reply ⟨h, r.body⟩ status detail pl 0 0) (hy : u.Awaits y r)
    (hqueue : y.pwr.queue = []) (l : List Instr) :
    (u.stewardCycle.settle l).nvm = y.nvm ∧ u.answered (u.stewardCycle.settle l) h r.body status detail pl := by
  obtain ⟨hone, hwait, -, hpf, hlimit, hcover, hfits, -, -, hh, -⟩ := hg
  have hreq : u.grantReq q = (y.reply ⟨h, r.body⟩ status detail pl 0 0).refreshBudget := by
    rw [State.grantReq_write hone hwho hlimit, hgrant]
  have hstill : (y.reply ⟨h, r.body⟩ status detail pl 0 0).still = y.still := State.still_reply ..
  have hdone : (u.grantReq q).pwr.queue = [] := by
    rw [hreq, State.refreshBudget_pwr, ← hqueue]
    exact congrArg Power.queue (State.pwr_of_still hstill)
  have hhead : u.headFits q = true := by
    unfold State.headFits
    rw [decide_eq_true hfits, hpf]
    rfl
  have hquiet : (y.reply ⟨h, r.body⟩ status detail pl 0 0).refreshBudget.quiet = (y.reply ⟨h, r.body⟩ status detail pl 0 0).quiet :=
    State.quiet_raiseLevel ..
  rw [State.stewardCycle_one hone hwait hcover hhead hdone, hreq]
  subst hh
  refine ⟨?_, ((hy.answered_reply status detail pl 0).of_quiet hy.direct hquiet).settle hy.direct l⟩
  exact ((State.eq_of_quiet State.nvm (fun _ => rfl) (State.quiet_settle ..)).trans
    (State.eq_of_quiet State.nvm (fun _ => rfl) hquiet)).trans (State.nvm_of_still hstill)

end

/-! ### A piece of an import -/

section
variable {u : State} {h : Hdr} {r : Running} {q : LeaveReq} {off : Word} {data : List Byte} {o : OpenImport}

/-- R527: a piece written, and its leave returned. -/
def State.piecePut (s : State) (p : Port) (stage : Option (Nat × Nat)) (off : Nat) (data : List Byte) : State :=
  (s.putPiece p stage off data).freeWrite p

theorem State.Awaits.piecePut {x : State} (hx : u.Awaits x r) (p : Port) (stage : Option (Nat × Nat)) (off : Nat) (data : List Byte) :
    u.Awaits (x.piecePut p stage off data) r := hx.congr rfl rfl rfl rfl rfl

theorem State.grantWrite_import (hcmd : u.nvmCmd h.port = some ⟨h, .calImport 0 off data⟩) :
    u.grantWrite (some h.port) = (u.piecePut h.port none off.toNat data).reply ⟨h, .calImport 0 off data⟩ 0 0 [] 0 0 := by
  unfold State.grantWrite
  dsimp only
  rw [hcmd]
  rfl

theorem State.queue_piecePut (u : State) (q : LeaveReq) (p : Port) (stage : Option (Nat × Nat)) (off : Nat) (data : List Byte) :
    ((u.leaveMade q).piecePut p stage off data).pwr.queue = [] := rfl

/-- R527: the open import of a port takes the piece. -/
theorem State.imports_piecePut (hopen : u.nvm.imports = [o]) (hstage : o.stage = none) (hport : o.port = h.port) (off : Nat) :
    (u.piecePut h.port none off data).nvm.imports =
      [{ o with at_ := u.now, cells := Memory.writeList zeroByte o.cells off data }] := by
  have hmine : (o.stage == none && o.port == h.port) = true := by
    rw [hstage, hport, beq_self_eq_true, beq_self_eq_true]
    rfl
  show u.nvm.imports.map _ = _
  rw [hopen, List.map_cons, List.map_nil, if_pos hmine]

end

section
variable {s : State} {h : Hdr} {r : Running} {off : Word} {data : List Byte} {o : OpenImport} {l dt : Nat}

/-- R527: the first piece of an import opens it and asks for leave. -/
theorem exec_calImport_first (hr : (s.ticked dt).runs h (.calImport 1 off data))
    (hmine : ∀ o ∈ (s.ticked dt).nvm.imports, o.stage = none → o.port = h.port) (hoff : off.toNat % 4 = 0)
    (hend : off.toNat + data.length ≤ 9772) (hpf : (s.ticked dt).pwr.pfActive = false)
    (hleave : (s.ticked dt).refuseLeave 8 = none) :
    ∃ t, exec (.calImport dt h 1 off data) s = .next t ∧ (s.ticked dt).waits t h (.calImport 1 off data) .nvm ∧
      t.still = (((s.ticked dt).importOpened h.port).enqueue
        ((s.ticked dt).cmdReq h (.nvm (some h.port)) 6 8 3)).still := by
  have hrun := State.run_calImport_first (u := (s.ticked dt).taken ⟨h, .calImport 1 off data⟩) hmine hoff hend hpf
  exact exec_asksWrite_nvm (n := ((s.ticked dt).importOpened h.port).nvm) rfl hr hpf hleave hrun

/-- R527: with leave a piece of an open import is kept, and its command is answered. -/
theorem exec_stewardGrant_import (hbody : r.body = .calImport 0 off data) (hopen : (s.ticked dt).nvm.imports = [o])
    (hstage : o.stage = none) (hport : o.port = h.port)
    (hg : (s.ticked dt).granting h r
      { who := .nvm (some h.port), kind := 6, cost := 8, prio := 3, at_ := (s.ticked dt).now, limit := some l }) :
    ∃ t, exec (.stewardGrant dt) s = .next t ∧
      t.nvm.imports = [{ o with at_ := (s.ticked dt).now, cells := Memory.writeList zeroByte o.cells off.toNat data }] ∧
      t.nvm.stored = (s.ticked dt).nvm.stored ∧ t.nvm.working = (s.ticked dt).nvm.working ∧
      (s.ticked dt).answered t h r.body 0 0 [] := by
  have hcmd := State.nvmCmd_of_granting hg
  rw [hbody] at hcmd
  have hgrant := State.grantWrite_import hcmd
  rw [← hbody] at hgrant
  obtain ⟨hnvm, hans⟩ := State.stewardCycle_answers hg rfl hgrant
    (((State.awaits_of_granting hg).leaveMade _).piecePut h.port none off.toNat data) (State.queue_piecePut ..) s.pending
  refine ⟨_, exec_stewardGrant_eq, ?_, ?_, ?_, hans⟩
  · rw [hnvm]
    exact State.imports_piecePut (u := (s.ticked dt).leaveMade _) hopen hstage hport off.toNat
  · rw [hnvm]
    rfl
  · rw [hnvm]
    rfl

end

end Sys2Proof.Machine

namespace Sys2Proof

open Machine

/-- Settles O46: each command is judged in the state it is taken in; a granted piece is written and answered in one cycle. -/
theorem calibrationCommands : Obligations.CalibrationCommands := by
  unfold Obligations.CalibrationCommands
  refine ⟨fun dt h type target flags s => ⟨fun hr => ⟨fun htype => ?_, fun hfits hbusy => ?_, fun hfits hready hleave => ?_⟩,
    fun hr hflags hstages => ⟨fun hbusy => ?_, fun hfree hmay hpf hleave => ?_⟩⟩, fun dt h which off count data o s =>
    ⟨fun hr hwhich hoff hstart hmin hmax hcount hend => ?_, fun hr hmine hoff hend hpf hleave => ?_,
      fun l r hbody hopen hstage hport hg => ?_, fun hidle hjobs hruns => ?_⟩⟩
  · obtain ⟨t, hex, hans, hstill⟩ := exec_bad (b := .calRun type target) rfl hr (State.run_calRun_noType htype)
    exact ⟨t, hex, hstill, hans⟩
  · obtain ⟨t, hex, hans, hstill⟩ := exec_fails (b := .calRun type target) rfl hr (State.run_calRun_notReady hfits hbusy)
    exact ⟨t, hex, hstill, hans⟩
  · obtain ⟨t, hex, hwaits, hstill⟩ := exec_waits (b := .calRun type target)
      (x := ((s.ticked dt).taken ⟨h, .calRun type target⟩).runJoined h type.toNat target.toNat) rfl hr (fun _ => rfl) rfl
      (State.run_calRun_asks hfits hready hleave)
    exact ⟨t, hex, hwaits, hstill.trans (State.still_runJoined_taken ..)⟩
  · have hrun := (State.run_calCommit (u := (s.ticked dt).taken ⟨h, .calCommit flags⟩) (h := h) hflags hstages).trans (if_pos hbusy)
    obtain ⟨t, hex, hans, hstill⟩ := exec_fails (b := .calCommit flags) rfl hr hrun
    exact ⟨t, hex, hstill, hans⟩
  · exact exec_asksWrite (b := .calCommit flags) rfl hr hpf hleave (State.run_calCommit_asks hflags hstages hfree hmay)
  · obtain ⟨t, hex, hans, hstill⟩ := exec_reads (b := .calExport which off count) rfl hr
      (State.run_calExport hwhich hoff hstart hmin hmax hcount hend)
    exact ⟨t, hex, hstill, hans⟩
  · exact exec_calImport_first hr hmine hoff hend hpf hleave
  · exact exec_stewardGrant_import hbody hopen hstage hport hg
  · refine ⟨_, exec_importIdleTimeout_eq, ?_⟩
    rw [State.closeIdle_beginRuns hidle hjobs hruns]
    exact becomes_settle_nil rfl _

end Sys2Proof
end

section
/-!
SUPPORT. Writes of the MRAM that end (R525, R528, R530), and staged images (R534 to R539).
-/
namespace Sys2Proof.Machine

/-! ### Writes that end -/

section
variable {s u : State} {p : Port} {r : Running} {rest : List NvmJob} {ok : Bool} {dt : Nat}

theorem exec_mramWriteDone_eq : exec (.mramWriteDone dt ok) s = .next (((s.ticked dt).jobDone ok).settle s.pending) := rfl

theorem exec_repairAppend_eq : exec (.repairAppend dt) s = .next ((s.ticked dt).askAppend.settle s.pending) := rfl

/-- R512: while a power failure holds the writes none ends. -/
theorem State.jobDone_held (h : s.pwr.pfHold = true) : s.jobDone ok = s := by
  unfold State.jobDone
  split
  · rfl
  · exact if_pos h

/-- R525, R530: a commit's write has ended: the working set is the stored one. -/
def State.committed (s : State) (p : Port) (rest : List NvmJob) : State :=
  { s.release (· == .nvm (some p)) with nvm := { s.nvm with
    pages := satAdd 32 s.nvm.pages 155, jobs := rest
    stored := { bytes := s.nvm.working.bytes, origin := 1, serial := s.nvm.stored.serial + 1, session := s.nvm.session, time := s.time } } }

theorem State.jobDone_commit (hjobs : s.nvm.jobs = .commit p :: rest) (hfree : s.pwr.pfHold = false) (hruns : s.nvm.runs_ = [])
    (hr : (s.port p).running = some r) (hwait : r.wait = .nvm) : s.jobDone true = (s.committed p rest).ok ⟨r.h, r.body⟩ [] := by
  have himports : s.nvm.imports.filter (fun _ => !false) = s.nvm.imports := List.filter_true _
  have hcmd : (s.committed p rest).nvmCmd p = some ⟨r.h, r.body⟩ := by
    unfold State.nvmCmd State.waitingFor
    rw [show (s.committed p rest).port p = s.port p from rfl, hr]
    dsimp only
    rw [hwait]
    rfl
  have hanswer : (s.committed p rest).answerJob (.commit p) true = (s.committed p rest).ok ⟨r.h, r.body⟩ [] := by
    unfold State.answerJob
    dsimp only
    rw [hcmd]
    rfl
  have hdone : ((s.committed p rest).ok ⟨r.h, r.body⟩ []).beginRuns = (s.committed p rest).ok ⟨r.h, r.body⟩ [] :=
    State.beginRuns_of_none ((congrArg Nvm.runs_ (State.nvm_of_still (State.still_reply ..))).trans hruns)
  unfold State.jobDone
  rw [hjobs]
  refine (if_neg (Bool.eq_false_iff.1 hfree)).trans ?_
  rw [← hdone, ← hanswer]
  exact congrArg (fun l => (State.answerJob { s.committed p rest with nvm := { (s.committed p rest).nvm with imports := l } }
    (.commit p) true).beginRuns) himports

theorem State.Awaits.committed {x : State} (hx : u.Awaits x r) (p : Port) (rest : List NvmJob) :
    u.Awaits (x.committed p rest) r := hx.congr rfl rfl rfl rfl rfl

/-- R525, R530: the step in which a commit's write ends. -/
theorem exec_mramWriteDone_commit (hjobs : (s.ticked dt).nvm.jobs = .commit r.h.port :: rest)
    (hfree : (s.ticked dt).pwr.pfHold = false) (hruns : (s.ticked dt).nvm.runs_ = []) (hu : (s.ticked dt).Awaits (s.ticked dt) r)
    (hwait : r.wait = .nvm) :
    ∃ t, exec (.mramWriteDone dt true) s = .next t ∧
      t.nvm = { (s.ticked dt).nvm with
        pages := satAdd 32 (s.ticked dt).nvm.pages 155, jobs := rest
        stored := { bytes := (s.ticked dt).nvm.working.bytes, origin := 1, serial := (s.ticked dt).nvm.stored.serial + 1
                    session := (s.ticked dt).nvm.session, time := (s.ticked dt).time } } ∧
      (s.ticked dt).answered t r.h r.body 0 0 [] ∧
      t.still = ({ (s.ticked dt).release (· == .nvm (some r.h.port)) with nvm := t.nvm } : State).still := by
  have hend := State.jobDone_commit hjobs hfree hruns hu.waiting hwait
  have hstill : (((s.ticked dt).jobDone true).settle s.pending).still = ((s.ticked dt).committed r.h.port rest).still := by
    rw [State.still_settle, hend]
    exact State.still_reply ..
  have hnvm := State.nvm_of_still hstill
  refine ⟨_, exec_mramWriteDone_eq, hnvm, ?_, ?_⟩
  · rw [hend]
    exact ((hu.committed r.h.port rest).answered_reply 0 0 [] 0).settle hu.direct _
  · rw [hnvm, hstill]
    rfl

/-- R528: an append's write has ended: the rows that waited stand in the stored set. -/
def State.appended (s : State) (rest : List NvmJob) : State :=
  { s.release (· == .nvm none) with nvm := { s.nvm with
    pages := satAdd 32 s.nvm.pages 155, jobs := rest, append := []
    stored := { s.nvm.stored with
      serial := s.nvm.stored.serial + 1
      bytes := s.nvm.append.foldl (fun b e => Memory.writeList calFactory b e.1 (leWord e.2)) s.nvm.stored.bytes } } }

/-- R528: an append is no longer in progress. -/
def State.appendLeft (s : State) (rest : List NvmJob) : State :=
  { s.release (· == .nvm none) with nvm := { s.nvm with jobs := rest } }

/-- R540: the pages of a whole set are written. -/
def State.setPaged (s : State) : State := s.setNvm fun n => { n with pages := satAdd 32 n.pages 155 }

theorem State.jobDone_append (hjobs : s.nvm.jobs = .append :: rest) (hfree : s.pwr.pfHold = false) (hruns : s.nvm.runs_ = []) :
    s.jobDone true = s.appended rest := by
  have himports : s.nvm.imports.filter (fun _ => !false) = s.nvm.imports := List.filter_true _
  have hdone : (s.appended rest).beginRuns = s.appended rest := State.beginRuns_of_none hruns
  unfold State.jobDone
  rw [hjobs]
  refine (if_neg (Bool.eq_false_iff.1 hfree)).trans (Eq.trans ?_ hdone)
  exact congrArg (fun l => State.beginRuns { s.appended rest with nvm := { (s.appended rest).nvm with imports := l } }) himports

theorem State.quiet_appendLeft {v : State} (h : v.quiet = u.quiet) (rest : List NvmJob) :
    (v.appendLeft rest).quiet = (u.appendLeft rest).quiet :=
  calc (v.appendLeft rest).quiet = v.quiet.appendLeft rest := rfl
    _ = u.quiet.appendLeft rest := by rw [h]

/-- R530: an abandoned write is reported and stores nothing. -/
theorem State.jobDone_abandoned (hjobs : s.nvm.jobs = .append :: rest) (hfree : s.pwr.pfHold = false) (hruns : s.nvm.runs_ = []) :
    s.jobDone false = (s.setPaged.raise 52 23).appendLeft rest := by
  have himports : (s.setPaged.raise 52 23).nvm.imports.filter (fun _ => !false) = (s.setPaged.raise 52 23).nvm.imports :=
    List.filter_true _
  have hnvm : (s.setPaged.raise 52 23).nvm = s.setPaged.nvm := State.eq_of_quiet State.nvm (fun _ => rfl) (State.quiet_raise ..)
  have hdone : ((s.setPaged.raise 52 23).appendLeft rest).beginRuns = (s.setPaged.raise 52 23).appendLeft rest :=
    State.beginRuns_of_none ((congrArg Nvm.runs_ hnvm).trans hruns)
  unfold State.jobDone
  rw [hjobs]
  refine (if_neg (Bool.eq_false_iff.1 hfree)).trans (Eq.trans ?_ hdone)
  exact congrArg (fun l => State.beginRuns { (s.setPaged.raise 52 23).appendLeft rest with
    nvm := { ((s.setPaged.raise 52 23).appendLeft rest).nvm with imports := l } }) himports

theorem becomes_abandoned (hjobs : s.nvm.jobs = .append :: rest) (hfree : s.pwr.pfHold = false) (hruns : s.nvm.runs_ = [])
    (q : List Instr) : becomes s (s.setPaged.appendLeft rest) ((s.jobDone false).settle q) [(52, 23)] := by
  have hblocks : ((s.setPaged.raise 52 23).appendLeft rest).ev.blocks = (s.setPaged.raise 52 23).ev.blocks := rfl
  have hset : newlySet s (s.setPaged.raise 52 23) [(52, 23)] :=
    (newlySet_of_eq (s := s) (t := s.setPaged) rfl).trans (newlySet_raise s.setPaged 52 23 (by decide))
  rw [State.jobDone_abandoned hjobs hfree hruns]
  exact becomes_reported (State.quiet_appendLeft (State.quiet_raise ..) rest) (hset.trans (newlySet_of_eq hblocks)) q

/-! ### Rows that wait -/

theorem State.askAppend_none (h : s.nvm.append = []) : s.askAppend = s := by
  unfold State.askAppend
  rw [h]
  rfl

theorem State.askAppend_asks (h : s.nvm.append ≠ []) (hasked : s.asked (· == .nvm none) = false)
    (hheld : s.holds (· == .nvm none) = false) (hleave : s.refuseLeave 8 = none) :
    s.askAppend = s.enqueue { who := .nvm none, kind := 6, cost := 8, prio := 3, at_ := s.now } := by
  have hrows : s.nvm.append.isEmpty = false := by
    rw [← Bool.not_eq_true, List.isEmpty_iff]
    exact h
  unfold State.askAppend
  rw [hrows, hasked, hheld, State.askSelf_of_leave hleave]
  rfl

end

/-! ### A stage that opens -/

section
variable {s u : State} {h : Hdr} {ix scope : Byte} {i : Fin 4} {data : List Byte} {r : Running} {q : LeaveReq} {dt l : Nat}

theorem index_toNat (i : Fin 4) : (BitVec.ofNat 8 i.val : Byte).toNat = i.val := by
  rw [BitVec.toNat_ofNat]
  exact Nat.mod_eq_of_lt (Nat.lt_trans i.isLt (by decide))

/-- R534: the stage of a configuration set begun anew. -/
def State.stageBegun (s : State) (p : Port) (i : Fin 4) : State :=
  (s.setImage 1 i.val fun _ => { state := 1 }).openPiece p (stageKey 1 i.val) true

theorem State.run_fwStage_first (hmine : ∀ o ∈ u.nvm.imports, o.stage.isSome = true → o.port = h.port)
    (hpf : u.pwr.pfActive = false) (hlen : data.length ≤ 240) :
    u.run ⟨h, .fwStage 1 (BitVec.ofNat 8 i.val) 1 0 data⟩ =
      (u.stageBegun h.port i).askWrite ⟨h, .fwStage 1 (BitVec.ofNat 8 i.val) 1 0 data⟩ := by
  have hothers : u.nvm.imports.any (fun o => o.stage.isSome && o.port != h.port) = false :=
    List.any_eq_false.2 fun o ho hyes => by
      rw [Bool.and_eq_true, bne_iff_ne] at hyes
      exact hyes.2 (hmine o ho hyes.1)
  have hplace : ¬(((0 : Word).toNat % 4 != 0) = true ∨ areaSize 1 < (0 : Word).toNat + data.length) := by
    show ¬((0 % 4 != 0) = true ∨ 262080 < 0 + data.length)
    simp only [bne_iff_ne]
    omega
  show u.runFwStage _ 1 _ 1 0 data = _
  unfold State.runFwStage
  dsimp only
  rw [index_toNat, hothers, hpf, if_neg (by decide : ¬2 < (1 : Byte).toNat), if_neg (Nat.not_lt.2 (Nat.le_of_lt_succ i.isLt)),
    if_neg (by decide : ¬3 < (1 : Byte).toNat), if_neg Bool.false_ne_true,
    if_neg (fun hz : (1 : Byte).toNat = 0 ∧ _ => absurd hz.1 (by decide)), if_neg Bool.false_ne_true]
  exact (if_neg (by simp)).trans (if_neg hplace)

/-- R534: what the opening of a stage does to the store. -/
theorem State.nvm_stageBegun (s : State) (p : Port) (i : Fin 4) :
    (s.stageBegun p i).nvm.sets = upd s.nvm.sets (Fin.ofNat 5 i.val) (fun _ => { state := 1 }) ∧
      (s.stageBegun p i).nvm.committed = s.nvm.committed := ⟨rfl, rfl⟩

theorem State.stageBegun_taken (u : State) (k : Cmd) (p : Port) (i : Fin 4) :
    (u.taken k).stageBegun p i = (u.taken k).withNvm (u.stageBegun p i).nvm := by
  unfold State.stageBegun State.openPiece State.setImage
  rfl

/-- R534: the first piece of an image of a configuration set opens its stage and asks for leave. -/
theorem exec_fwStage_first (hr : (s.ticked dt).runs h (.fwStage 1 (BitVec.ofNat 8 i.val) 1 0 data))
    (hmine : ∀ o ∈ (s.ticked dt).nvm.imports, o.stage.isSome = true → o.port = h.port)
    (hpf : (s.ticked dt).pwr.pfActive = false) (hlen : data.length ≤ 240) (hleave : (s.ticked dt).refuseLeave 8 = none) :
    ∃ t, exec (.fwStage dt h 1 (BitVec.ofNat 8 i.val) 1 0 data) s = .next t ∧
      t.nvm = ((s.ticked dt).stageBegun h.port i).nvm ∧
      (s.ticked dt).waits t h (.fwStage 1 (BitVec.ofNat 8 i.val) 1 0 data) .nvm ∧
      t.pwr = ((s.ticked dt).enqueue ((s.ticked dt).cmdReq h (.nvm (some h.port)) 6 8 3)).pwr := by
  have hrun := State.run_fwStage_first (u := (s.ticked dt).taken ⟨h, .fwStage 1 (BitVec.ofNat 8 i.val) 1 0 data⟩) (i := i) hmine hpf hlen
  rw [State.stageBegun_taken] at hrun
  obtain ⟨t, hex, hwaits, hstill⟩ := exec_asksWrite_nvm (b := .fwStage 1 (BitVec.ofNat 8 i.val) 1 0 data) rfl hr hpf hleave hrun
  exact ⟨t, hex, (State.nvm_of_still hstill).trans (State.nvm_enqueue_withNvm ..), hwaits,
    (State.pwr_of_still hstill).trans (State.pwr_enqueue_withNvm ..)⟩

/-! ### A piece that is staged -/

theorem putByte_length (l : List Byte) (v : Byte) : putByte l l.length v = l ++ [v] := by
  induction l with
  | nil => rfl
  | cons b l ih => exact congrArg (b :: ·) ih

/-- R534: the bytes of a piece put one after another are the piece. -/
theorem foldl_putByte (data : List Byte) : (List.range data.length).foldl (fun b k => putByte b (0 + k) (byteAt data k)) [] = data := by
  have htake : ∀ n ≤ data.length, (List.range n).foldl (fun b k => putByte b (0 + k) (byteAt data k)) [] = data.take n := by
    intro n
    induction n with
    | zero => exact fun _ => rfl
    | succ n ih =>
      intro hn
      have hlen : (data.take n).length = n := List.length_take_of_le (Nat.le_of_succ_le hn)
      rw [List.range_succ, List.foldl_append, ih (Nat.le_of_succ_le hn)]
      show putByte (data.take n) (0 + n) (byteAt data n) = _
      have hput := putByte_length (data.take n) (byteAt data n)
      rw [hlen] at hput
      rw [Nat.zero_add, hput, List.take_succ_eq_append_getElem hn]
      exact congrArg (fun b => data.take n ++ [b]) (List.getD_eq_getElem _ _ hn)
  rw [htake _ (Nat.le_refl _), List.take_length]

theorem upd_eq_of_get {α : Type} {n : Nat} {v : Vector α n} {i : Fin n} {f g : α → α} (h : f v[i] = g v[i]) :
    upd v i f = upd v i g := by
  unfold upd
  rw [h]

/-- R534: the image of a configuration set as its only piece gives it. -/
def State.pieceStaged (s : State) (i : Fin 4) (data : List Byte) : State :=
  s.setNvm fun n => { n with sets := upd n.sets (Fin.ofNat 5 i.val) fun _ => { state := 1, bytes := data } }

theorem State.grantWrite_stage (hcmd : u.nvmCmd h.port = some ⟨h, .fwStage 1 (BitVec.ofNat 8 i.val) 1 0 data⟩)
    (hset : u.nvm.sets[(Fin.ofNat 5 i.val : Fin 5)] = { state := 1 }) :
    u.grantWrite (some h.port) = ((u.piecePut h.port (stageKey 1 i.val) 0 data).pieceStaged i data).reply
      ⟨h, .fwStage 1 (BitVec.ofNat 8 i.val) 1 0 data⟩ 0 0 (leBytes 4 data.length) 0 0 := by
  have hpiece : (u.piecePut h.port (stageKey 1 i.val) 0 data).setImage 1 i.val (fun x => { x with
      bytes := (List.range data.length).foldl (fun b k => putByte b (0 + k) (byteAt data k)) x.bytes }) =
      (u.piecePut h.port (stageKey 1 i.val) 0 data).pieceStaged i data := by
    have hbytes : ({ u.nvm.sets[(Fin.ofNat 5 i.val : Fin 5)] with
        bytes := (List.range data.length).foldl (fun b k => putByte b (0 + k) (byteAt data k))
          u.nvm.sets[(Fin.ofNat 5 i.val : Fin 5)].bytes } : Image) = { state := 1, bytes := data } := by
      rw [hset]
      exact congrArg (fun b => ({ state := 1, bytes := b } : Image)) (foldl_putByte data)
    exact congrArg (fun v => (u.piecePut h.port (stageKey 1 i.val) 0 data).setNvm fun n => { n with sets := v })
      (upd_eq_of_get hbytes)
  have htotal : (((u.piecePut h.port (stageKey 1 i.val) 0 data).pieceStaged i data).image 1 i.val).bytes.length = data.length := by
    show (upd u.nvm.sets (Fin.ofNat 5 i.val) _)[(Fin.ofNat 5 i.val : Fin 5)].bytes.length = _
    rw [upd_same]
  have hstage : u.stagePiece ⟨h, .fwStage 1 (BitVec.ofNat 8 i.val) 1 0 data⟩ 1 i.val 1 0 data =
      ((u.piecePut h.port (stageKey 1 i.val) 0 data).pieceStaged i data).ok ⟨h, .fwStage 1 (BitVec.ofNat 8 i.val) 1 0 data⟩
        (leBytes 4 data.length) := by
    rw [← htotal, ← hpiece]
    rfl
  unfold State.grantWrite
  dsimp only
  rw [hcmd]
  dsimp only
  rw [index_toNat]
  exact hstage

theorem State.queue_pieceStaged (u : State) (q : LeaveReq) (p : Port) (stage : Option (Nat × Nat)) (off : Nat) (i : Fin 4)
    (data : List Byte) : (((u.leaveMade q).piecePut p stage off data).pieceStaged i data).pwr.queue = [] := rfl

theorem State.Awaits.pieceStaged {x : State} (hx : u.Awaits x r) (i : Fin 4) (data : List Byte) :
    u.Awaits (x.pieceStaged i data) r := hx.congr rfl rfl rfl rfl rfl

/-- R534: what a staged piece does to the images. -/
theorem State.sets_pieceStaged (u : State) (q : LeaveReq) (p : Port) (stage : Option (Nat × Nat)) (off : Nat) (i : Fin 4)
    (data : List Byte) :
    (((u.leaveMade q).piecePut p stage off data).pieceStaged i data).nvm.sets =
        upd u.nvm.sets (Fin.ofNat 5 i.val) (fun _ => { state := 1, bytes := data }) ∧
      (((u.leaveMade q).piecePut p stage off data).pieceStaged i data).nvm.committed = u.nvm.committed := ⟨rfl, rfl⟩

/-- R534: with leave the first piece of an image is staged and counted. -/
theorem exec_stewardGrant_stage (hbody : r.body = .fwStage 1 (BitVec.ofNat 8 i.val) 1 0 data)
    (hset : (s.ticked dt).nvm.sets[(Fin.ofNat 5 i.val : Fin 5)] = { state := 1 })
    (hg : (s.ticked dt).granting h r
      { who := .nvm (some h.port), kind := 6, cost := 8, prio := 3, at_ := (s.ticked dt).now, limit := some l }) :
    ∃ t, exec (.stewardGrant dt) s = .next t ∧
      t.nvm.sets = upd (s.ticked dt).nvm.sets (Fin.ofNat 5 i.val) (fun _ => { state := 1, bytes := data }) ∧
      t.nvm.committed = (s.ticked dt).nvm.committed ∧ (s.ticked dt).answered t h r.body 0 0 (leBytes 4 data.length) := by
  have hcmd := State.nvmCmd_of_granting hg
  rw [hbody] at hcmd
  have hgrant := State.grantWrite_stage hcmd hset
  rw [← hbody] at hgrant
  obtain ⟨hnvm, hans⟩ := State.stewardCycle_answers hg rfl hgrant
    ((((State.awaits_of_granting hg).leaveMade _).piecePut h.port (stageKey 1 i.val) 0 data).pieceStaged i data)
    (State.queue_pieceStaged ..) s.pending
  obtain ⟨hsets, hcommitted⟩ := (s.ticked dt).sets_pieceStaged
    { who := .nvm (some h.port), kind := 6, cost := 8, prio := 3, at_ := (s.ticked dt).now, limit := some l } h.port
    (stageKey 1 i.val) 0 i data
  exact ⟨_, exec_stewardGrant_eq, (congrArg Nvm.sets hnvm).trans hsets, (congrArg Nvm.committed hnvm).trans hcommitted, hans⟩

/-! ### FW_ACTIVATE -/

theorem State.run_fwActivate (hscope : scope.toNat ≤ 1) : u.run ⟨h, .fwActivate 1 (BitVec.ofNat 8 i.val) scope⟩ =
    if (u.nvm.sets[(Fin.ofNat 5 i.val : Fin 5)].state != 2) = true then u.bad ⟨h, .fwActivate 1 (BitVec.ofNat 8 i.val) scope⟩ 16
    else u.askWrite ⟨h, .fwActivate 1 (BitVec.ofNat 8 i.val) scope⟩ := by
  show u.runFwActivate _ 1 _ scope = _
  unfold State.runFwActivate
  dsimp only
  rw [index_toNat, if_neg (by decide : ¬2 < (1 : Byte).toNat),
    if_neg fun hi : (1 : Byte).toNat = 1 ∧ 3 < i.val => Nat.not_lt.2 (Nat.le_of_lt_succ i.isLt) hi.2]
  exact if_neg (by
    rw [if_neg (by decide : ¬(1 : Byte).toNat = 0), decide_eq_true_eq]
    exact Nat.not_lt.2 hscope)

/-! ### Trials -/

theorem exec_fwTrialConfirm_eq : exec (.fwTrialConfirm dt) s = .next ((s.ticked dt).confirmTrial.settle s.pending) := rfl

/-- R537: the running slot is active, and the one that was is the previous one. -/
def State.trialDone (s : State) : State :=
  s.setNvm fun n => { n with
    trial := false
    slots := updAll n.slots fun i x => if i.val = n.activeSlot then { x with state := 4 }
      else { x with state := if x.state = 4 then 5 else x.state }
    pages := satAdd 32 n.pages 3 }

theorem State.quiet_logFirmware (s : State) : ∃ n, s.logFirmware.quiet = (s.withFree n).quiet := by
  refine ⟨s.freeCtr + 3, (State.quiet_noteOverflow ..).trans ?_⟩
  exact congrArg (State.withFree · (s.freeCtr + 3)) (State.quiet_stage ..)

/-- R537: the trial slot that has run for 10 s is confirmed. -/
theorem State.confirmTrial_due {n : Fin 2} (htrial : s.nvm.trial = true) (hrunning : s.nvm.running = n.val)
    (hactive : s.nvm.activeSlot = n.val) (hready : s.sys.cmdReady = true) (hdue : s.sys.readyAt + 4000000000 ≤ s.now) :
    s.confirmTrial = s.trialDone.logFirmware := by
  have hall : (s.nvm.trial && s.nvm.running == s.nvm.activeSlot && s.sys.cmdReady &&
      decide (s.sys.readyAt + ticksOfMs 10000 ≤ s.now)) = true := by
    rw [htrial, hrunning, hactive, hready, beq_self_eq_true, decide_eq_true (show s.sys.readyAt + ticksOfMs 10000 ≤ s.now from hdue)]
    rfl
  exact if_pos hall

theorem State.confirmTrial_early (h : s.now < s.sys.readyAt + 4000000000) : s.confirmTrial = s := by
  have hnot : (s.nvm.trial && s.nvm.running == s.nvm.activeSlot && s.sys.cmdReady &&
      decide (s.sys.readyAt + ticksOfMs 10000 ≤ s.now)) = false := by
    rw [decide_eq_false (Nat.not_le.2 (show s.now < s.sys.readyAt + ticksOfMs 10000 from h)), Bool.and_false]
  exact if_neg (Bool.eq_false_iff.1 hnot)

theorem State.nvm_logFirmware_settle (s : State) (q : List Instr) : (s.logFirmware.settle q).nvm = s.nvm := by
  obtain ⟨n, hn⟩ := s.quiet_logFirmware
  exact (State.eq_of_quiet State.nvm (fun _ => rfl) ((State.quiet_settle ..).trans hn)).trans rfl

/-- R537: what a confirmed trial leaves of the slots. -/
theorem State.slot_trialDone {n : Fin 2} (hactive : s.nvm.activeSlot = n.val) (m : Fin 2) :
    s.trialDone.nvm.slots[m].state =
      if m = n then 4 else if s.nvm.slots[m].state = 4 then 5 else s.nvm.slots[m].state := by
  show (updAll s.nvm.slots _)[m].state = _
  rw [updAll_get, hactive]
  by_cases hm : m = n
  · rw [if_pos (congrArg Fin.val hm), if_pos hm]
  · rw [if_neg fun e => hm (Fin.ext e), if_neg hm]

end

end Sys2Proof.Machine

namespace Sys2Proof

open Machine

/-- Settles O48: writes end in order and stages, activations and trials follow leave of kind 6 and time. -/
theorem mramAndImages : Obligations.MramAndImages := by
  unfold Obligations.MramAndImages
  refine ⟨fun dt rest s => ⟨fun hheld ok => ?_, fun hfree hruns => ⟨fun p r hjobs hdirect hr hwait hport htie hmirrors hroom => ?_,
    fun hjobs => ⟨?_, ?_⟩⟩, fun hnone => ?_, fun hrows hasked hholds hleave => ?_⟩, fun dt h i scope data s =>
    ⟨fun hr hmine hpf hlen hleave => ?_, fun l r hbody hset _ hg => ?_, fun hr hscope => ⟨fun hoff => ?_, fun hstaged hpf hleave => ?_⟩,
      fun hr => ?_, fun n htrial hrunning hactive hready => ⟨fun hdue => ?_, fun hearly => ?_⟩⟩⟩
  · refine ⟨_, exec_mramWriteDone_eq, ?_⟩
    rw [State.jobDone_held hheld]
    exact becomes_settle_nil rfl _
  · subst hport
    exact exec_mramWriteDone_commit hjobs hfree hruns (.refl hdirect hmirrors hr htie hroom) hwait
  · refine ⟨_, exec_mramWriteDone_eq, ?_⟩
    rw [State.jobDone_append hjobs hfree hruns]
    exact becomes_settle_nil rfl _
  · exact ⟨_, exec_mramWriteDone_eq, becomes_abandoned hjobs hfree hruns _⟩
  · refine ⟨_, exec_repairAppend_eq, ?_⟩
    rw [State.askAppend_none hnone]
    exact becomes_settle_nil rfl _
  · refine ⟨_, exec_repairAppend_eq, ?_⟩
    rw [State.askAppend_asks hrows hasked hholds hleave]
    exact becomes_settle_nil rfl _
  · obtain ⟨t, hex, hnvm, hwaits, hpwr⟩ := exec_fwStage_first hr hmine hpf hlen hleave
    obtain ⟨hsets, hcommitted⟩ := (s.ticked dt).nvm_stageBegun h.port i
    refine ⟨t, hex, ?_, fun k hk => ?_, (congrArg Nvm.committed hnvm).trans hcommitted, hwaits, congrArg Power.queue hpwr⟩
    · rw [hnvm, hsets, upd_same]
    · rw [hnvm, hsets, upd_ne _ _ _ _ hk.symm]
  · obtain ⟨t, hex, hsets, hcommitted, hans⟩ := exec_stewardGrant_stage hbody hset hg
    refine ⟨t, hex, ?_, fun k hk => ?_, hcommitted, hans⟩
    · rw [hsets, upd_same]
    · rw [hsets, upd_ne _ _ _ _ hk.symm]
  · obtain ⟨t, hex, hans, hstill⟩ := exec_bad (b := .fwActivate 1 (BitVec.ofNat 8 i.val) scope) rfl hr
      ((State.run_fwActivate hscope).trans (if_pos (bne_iff_ne.2 hoff)))
    exact ⟨t, hex, hstill, hans⟩
  · exact exec_asksWrite (b := .fwActivate 1 (BitVec.ofNat 8 i.val) scope) rfl hr hpf hleave
      ((State.run_fwActivate hscope).trans (if_neg fun hne => bne_iff_ne.1 hne hstaged))
  · obtain ⟨t, hex, hans, hstill⟩ := exec_reads (b := .fwStatus) rfl hr rfl
    exact ⟨t, hex, hstill, hans⟩
  · refine ⟨_, exec_fwTrialConfirm_eq, ?_⟩
    rw [State.confirmTrial_due htrial hrunning hactive hready hdue, State.nvm_logFirmware_settle]
    refine ⟨rfl, ?_, fun m hm => ?_⟩
    · rw [State.slot_trialDone hactive, if_pos rfl]
    · rw [State.slot_trialDone hactive, if_neg hm]
  · refine ⟨_, exec_fwTrialConfirm_eq, ?_⟩
    rw [State.confirmTrial_early hearly]
    exact becomes_settle_nil rfl _

end Sys2Proof
end

section
/-!
SUPPORT. A mirrored command that is ready goes out at the end of any step that finds a free slot in MB6 (R424): the pair's state
changes in a step whose own command changes nothing of it.
-/
namespace Sys2Proof.Machine

/-- A command of P1 that the lead has executed and has still to send to the shadow. -/
def readyMirror : MirrorWait := { port := .p1, seq := 3, packet := [], word := 5, decided := 0, ready := true }

/-- A lead that is not in step with its partner yet, with a mirrored command to send. -/
def leadWithMirror : State :=
  let s := acceptingOver []
  { s with
    sys := { s.sys with twinSel := true }
    twin := { s.twin with state := .lead, gelainUp := true, hbAlive := true, mirrors := [readyMirror] } }

/-- A command header of P0. -/
def p0Hdr : Hdr := { p3Hdr with port := .p0 }

theorem receives_leadWithMirror : (leadWithMirror.ticked 0).receives p0Hdr := by decide +kernel

theorem checkCmd_leadWithMirror : (leadWithMirror.ticked 0).checkCmd ⟨p0Hdr, .roleSwap 30⟩ = none := by decide +kernel

theorem maySwap_leadWithMirror : (leadWithMirror.ticked 0).maySwap = false := by decide +kernel

/-- R424: the step of the refused ROLE_SWAP sends the mirrored command. -/
theorem exec_leadWithMirror :
    ∃ t, exec (.roleSwap 0 p0Hdr 30) leadWithMirror = .next t ∧ t.twin.mirrors = [{ readyMirror with sentAt := some 0 }] :=
  ⟨_, rfl, by decide +kernel⟩

end Sys2Proof.Machine

namespace Sys2Proof

open Machine

/-- Refutes O43: a lead that may not swap answers ROLE_SWAP with NOT_READY, but with a mirrored command to send the step marks
that command as sent, so the pair's state does not stay as it was. -/
theorem not_twinStates : ¬ Obligations.TwinStates := by
  unfold Obligations.TwinStates
  rintro ⟨-, hcommands⟩
  obtain ⟨-, hswap, -⟩ := hcommands 0 p0Hdr 30 { row := 0 } leadWithMirror
  obtain ⟨-, hrefused⟩ := hswap receives_leadWithMirror rfl checkCmd_leadWithMirror rfl rfl
  obtain ⟨t, ht, -, htwin⟩ := hrefused maySwap_leadWithMirror
  obtain ⟨t', ht', hsent⟩ := exec_leadWithMirror
  obtain rfl : t = t' := Host.Outcome.next.inj (ht.symm.trans ht')
  have hkept : t.twin.mirrors = [readyMirror] := congrArg Twin.mirrors htwin
  exact absurd (hkept.symm.trans hsent) (by decide)

end Sys2Proof
end

section
/-!
SUPPORT. What every step ends with (R424, R479, R485), seen from the pair: what a step has set stays set, and of the pair's
state only an escalation and the sending of mirrored commands change anything.
-/
namespace Sys2Proof.Machine

/-! ### What is set stays set -/

/-- Every source set in `s` is set in `t`. -/
structure State.KeepsSet (s t : State) : Prop where
  keeps : ∀ (k : Fin 53) (b : Nat), s.statusBit k b = true → t.statusBit k b = true

section
variable {s t v : State}

theorem State.KeepsSet.refl (s : State) : s.KeepsSet s := ⟨fun _ _ h => h⟩

theorem State.KeepsSet.trans (hst : s.KeepsSet t) (htv : t.KeepsSet v) : s.KeepsSet v :=
  ⟨fun k b h => htv.keeps k b (hst.keeps k b h)⟩

theorem State.keepsSet_of_blocks (h : t.ev.blocks = s.ev.blocks) : s.KeepsSet t :=
  ⟨fun k b hb => (State.statusBit_congr h k b).trans hb⟩

theorem State.keepsSet_ite {p : Prop} [Decidable p] (ht : s.KeepsSet t) (hv : s.KeepsSet v) : s.KeepsSet (if p then t else v) := by
  split <;> assumption

theorem State.keepsSet_stage (s : State) (e : Entry) : s.KeepsSet (s.stage e) :=
  ⟨fun k b h => (State.statusBit_stage s e k b).trans h⟩

theorem State.keepsSet_occur (s : State) (c : Src) (x y : Bool) (hb : c.bit < 32) : s.KeepsSet (s.occur c x y) :=
  ⟨fun k b h => by rw [State.statusBit_occur _ _ _ _ _ _ hb, h, Bool.true_or]⟩

theorem State.keepsSet_noteOverflow (s t : State) : t.KeepsSet (s.noteOverflow t) :=
  State.keepsSet_ite (State.keepsSet_occur t ⟨52, 4⟩ false false (by decide)) (.refl t)

theorem State.keepsSet_log (s : State) (e : Entry) : s.KeepsSet (s.log e) :=
  (s.keepsSet_stage e).trans (State.keepsSet_noteOverflow ..)

theorem State.keepsSet_raise (s : State) (k b : Nat) (hb : b < 32) : s.KeepsSet (s.raise k b) :=
  (s.keepsSet_occur ⟨k, b⟩ false false hb).trans (State.keepsSet_noteOverflow ..)

theorem State.keepsSet_raiseHeld (s : State) (k b : Nat) (hb : b < 32) : s.KeepsSet (s.raiseHeld k b) :=
  (s.keepsSet_occur ⟨k, b⟩ true false hb).trans (State.keepsSet_noteOverflow ..)

theorem State.statusBit_occur_same (s : State) (c : Src) (x y : Bool) (hk : c.block < 53) (hb : c.bit < 32) :
    (s.occur c x y).statusBit ⟨c.block, hk⟩ c.bit = true := by
  rw [State.statusBit_occur _ _ _ _ _ _ hb, decide_eq_true ⟨rfl, rfl⟩, Bool.or_true]

/-- R472: a source that occurs is set. -/
theorem State.statusBit_raise (s : State) (k : Fin 53) (b : Nat) (hb : b < 32) : (s.raise k.val b).statusBit k b = true :=
  (State.keepsSet_noteOverflow ..).keeps k b (s.statusBit_occur_same ⟨k.val, b⟩ false false k.isLt hb)

theorem State.statusBit_raiseHeld (s : State) (k : Fin 53) (b : Nat) (hb : b < 32) : (s.raiseHeld k.val b).statusBit k b = true :=
  (State.keepsSet_noteOverflow ..).keeps k b (s.statusBit_occur_same ⟨k.val, b⟩ true false k.isLt hb)

theorem State.keepsSet_setEpoch (s : State) (e : Half) : s.KeepsSet (s.setEpoch e) :=
  State.keepsSet_ite (.refl s) (State.keepsSet_of_blocks rfl)

/-- R408: what entering a state has set when its own sources are done: `p` says which of them are asked for. -/
theorem State.enter_keepsSet (s : State) (t : TwinState) (e : Half) :
    s.KeepsSet (s.enter t e) ∧ (t = .quarantine → (s.enter t e).statusBit 49 30 = true) ∧
      (t = .admitting → (s.enter t e).statusBit 49 23 = true) := by
  unfold State.enter
  extract_lets old oldEpoch s1 w s2 a s3 s4 s5 s6 s7 u s8 leaves
  have h2 : s.KeepsSet s2 := (s.keepsSet_setEpoch e).trans (State.keepsSet_of_blocks (s := s.setEpoch e) (t := s2) rfl)
  have h3 : s.KeepsSet s3 := h2.trans (State.keepsSet_log s2 _)
  have h4 : s3.KeepsSet s4 := State.keepsSet_ite (State.keepsSet_raise s3 49 0 (by decide)) (.refl s3)
  have h5 : s4.KeepsSet s5 := State.keepsSet_ite (State.keepsSet_raiseHeld s4 49 10 (by decide)) (.refl s4)
  have h6 : s5.KeepsSet s6 := State.keepsSet_ite (State.keepsSet_raiseHeld s5 49 30 (by decide)) (.refl s5)
  have h7 : s6.KeepsSet s7 := State.keepsSet_ite (State.keepsSet_raise s6 49 23 (by decide)) (.refl s6)
  have h8 : s7.KeepsSet s8 := State.keepsSet_ite
    ((State.keepsSet_of_blocks (s := s7) (t := { s7 with sluice := { u with released := true } }) rfl).trans
      (State.keepsSet_raise _ 50 23 (by decide)))
    (State.keepsSet_ite (State.keepsSet_of_blocks rfl) (.refl s7))
  have hend : ∀ x : Twin, s8.KeepsSet { s8 with twin := x } := fun _ => State.keepsSet_of_blocks rfl
  refine ⟨(((((h3.trans h4).trans h5).trans h6).trans h7).trans h8).trans (hend _), fun ht => ?_, fun ht => ?_⟩
  · have hbit : s6.statusBit 49 30 = true := by
      show (if t = .quarantine then s5.raiseHeld 49 30 else s5).statusBit 49 30 = true
      rw [if_pos ht]
      exact State.statusBit_raiseHeld s5 49 30 (by decide)
    exact ((h7.trans h8).trans (hend _)).keeps 49 30 hbit
  · have hbit : s7.statusBit 49 23 = true := by
      show (if t = .admitting then s6.raise 49 23 else s6).statusBit 49 23 = true
      rw [if_pos ht]
      exact State.statusBit_raise s6 49 23 (by decide)
    exact (h8.trans (hend _)).keeps 49 23 hbit

theorem State.keepsSet_enter (s : State) (t : TwinState) (e : Half) : s.KeepsSet (s.enter t e) := (s.enter_keepsSet t e).1

theorem State.keepsSet_fence (s : State) : s.KeepsSet s.fence := by
  unfold State.fence
  split
  · exact s.keepsSet_enter ..
  · exact s.keepsSet_enter ..
  · exact .refl s

theorem State.keepsSet_sendG (s : State) (f : GFrame) : s.KeepsSet (s.sendG f) :=
  State.keepsSet_ite (State.keepsSet_of_blocks rfl) (.refl s)

/-- R426: the swap that the unit has set up. -/
def State.withSwap (s : State) (w : Swap) : State := s.setTwin fun t => { t with swap := some w }

theorem State.keepsSet_startSwap (s : State) (row : Word) (handover : Bool) (port : Option Port) :
    s.KeepsSet (s.startSwap row handover port) :=
  (State.keepsSet_of_blocks (s := s) (t := s.withSwap { row, handover, port }) rfl).trans (State.keepsSet_sendG ..)

theorem State.keepsSet_escalateNow (s : State) : s.KeepsSet s.escalateNow := by
  unfold State.escalateNow
  split
  · exact State.keepsSet_ite (s.keepsSet_startSwap ..) (.refl s)
  · exact s.keepsSet_fence
  · exact s.keepsSet_fence
  · exact .refl s

theorem State.keepsSet_settle (s : State) (q : List Instr) : s.KeepsSet (s.settle q) := by
  have hesc : s.KeepsSet (if s.ev.escalate then s.escalateNow else s) := State.keepsSet_ite s.keepsSet_escalateNow (.refl s)
  refine hesc.trans ⟨fun k b h => ?_⟩
  rw [State.statusBit_congr (s.blocks_settle q) k b]
  generalize (if s.ev.escalate then s.escalateNow else s) = v at h ⊢
  obtain ⟨w, hw⟩ := v.sendMirrors.block_refreshCauses k
  have hstatus : v.sendMirrors.refreshCauses.ev.blocks[k].status = v.ev.blocks[k].status :=
    (congrArg EvBlock.status hw).trans (congrArg (fun l : Vector EvBlock 53 => l[k].status) v.blocks_sendMirrors)
  exact (congrArg (BitVec.getLsbD · b) hstatus).trans h

/-- R472: what is set when a step's effect has taken place is set after the step. -/
theorem State.source_settle {k : Fin 53} {b : Nat} (h : s.statusBit k b = true) (q : List Instr) :
    (s.settle q).source k.val b = true := by
  have hk : Fin.ofNat 53 k.val = k := Fin.ext (Nat.mod_eq_of_lt k.isLt)
  unfold State.source
  rw [hk]
  exact (s.keepsSet_settle q).keeps k b h

end

/-! ### The pair -/

/-- The pair's state but for what entering a state, an escalation and the sending of mirrored commands change. -/
def Twin.beside (t : Twin) : Twin :=
  { t with
    state := .single, epoch := 0, mirrors := [], swap := none, formBlocked := false, formConflict := false, deciding := false
    demoted := false, realign := none, holdSince := none, early := none, joining := [], tags := [] }

theorem Twin.own_of_beside {x y : Twin} (h : x.beside = y.beside) : x.own = y.own := (congrArg Twin.own h :)

theorem Twin.cleanRows_of_beside {x y : Twin} (h : x.beside = y.beside) : x.cleanRows = y.cleanRows := (congrArg Twin.cleanRows h :)

theorem Twin.diverged_of_beside {x y : Twin} (h : x.beside = y.beside) : x.diverged = y.diverged := (congrArg Twin.diverged h :)

theorem Twin.dropped_of_beside {x y : Twin} (h : x.beside = y.beside) : x.dropped = y.dropped := (congrArg Twin.dropped h :)

theorem Twin.settle_of_beside {x y : Twin} (h : x.beside = y.beside) : x.settle = y.settle := (congrArg Twin.settle h :)

section
variable {s t : State}

theorem State.twin_log (s : State) (e : Entry) : (s.log e).twin = s.twin := (State.twin_noteOverflow ..).trans (State.twin_stage ..)

theorem State.twin_raiseIf (s : State) (p : Bool) (k b : Nat) : (s.raiseIf p k b).twin = s.twin := by
  unfold State.raiseIf
  split
  · exact State.twin_raise ..
  · rfl

theorem State.twin_ite {p : Prop} [Decidable p] {x y : State} {w : Twin} (hx : x.twin = w) (hy : y.twin = w) :
    (if p then x else y).twin = w := by
  split <;> assumption

/-- R408: what entering a state does to the pair's state. -/
def Twin.entered (w : Twin) (t : TwinState) (e : Half) : Twin :=
  let leaves := t == .quarantine || t == .forming
  { w with
    state := t, epoch := e
    formBlocked := w.formBlocked && t == .forming, formConflict := w.formConflict && t == .forming
    deciding := w.deciding && (t == .shadow || t == .shadowDetached)
    demoted := w.demoted && t != .shadow
    swap := if leaves then none else w.swap
    realign := if leaves then none else w.realign
    holdSince := if leaves then none else w.holdSince
    early := if leaves then none else w.early
    joining := if t = .admitting then w.joining else []
    tags := if t = .shadow then w.tags else [] }

theorem State.twin_setEpoch (s : State) (e : Half) : (s.setEpoch e).twin = { s.twin with epoch := e } := by
  unfold State.setEpoch
  split
  · next h => rw [← h]
  · rfl

theorem State.twin_enter (s : State) (t : TwinState) (e : Half) : (s.enter t e).twin = s.twin.entered t e := by
  unfold State.enter
  extract_lets old oldEpoch s1 w s2 a s3 s4 s5 s6 s7 u s8 leaves
  have h2 : s2.twin = { s.twin with epoch := e, state := t } :=
    congrArg (fun w : Twin => { w with state := t }) (s.twin_setEpoch e)
  have h3 : s3.twin = s2.twin := s2.twin_log _
  have h4 : s4.twin = s3.twin := s3.twin_raiseIf ..
  have h5 : s5.twin = s4.twin := State.twin_ite (State.twin_raiseHeld ..) rfl
  have h6 : s6.twin = s5.twin := State.twin_ite (State.twin_raiseHeld ..) rfl
  have h7 : s7.twin = s6.twin := State.twin_ite (State.twin_raise ..) rfl
  have h8 : s8.twin = s7.twin := State.twin_ite (State.twin_raise ..) (State.twin_ite rfl rfl)
  have hall : s8.twin = { s.twin with epoch := e, state := t } :=
    (((((h8.trans h7).trans h6).trans h5).trans h4).trans h3).trans h2
  show { s8.twin with
      formBlocked := s8.twin.formBlocked && t == .forming, formConflict := s8.twin.formConflict && t == .forming
      deciding := s8.twin.deciding && (t == .shadow || t == .shadowDetached)
      demoted := s8.twin.demoted && t != .shadow
      swap := if leaves then none else s8.twin.swap
      realign := if leaves then none else s8.twin.realign
      holdSince := if leaves then none else s8.twin.holdSince
      early := if leaves then none else s8.twin.early
      joining := if t = .admitting then s8.twin.joining else []
      tags := if t = .shadow then s8.twin.tags else [] } = s.twin.entered t e
  rw [hall]
  rfl

theorem Twin.beside_entered (w : Twin) (t : TwinState) (e : Half) : (w.entered t e).beside = w.beside := rfl

theorem State.twin_sendG (s : State) (f : GFrame) : (s.sendG f).twin = s.twin := State.twin_ite rfl rfl

theorem State.twin_startSwap (s : State) (row : Word) (handover : Bool) (port : Option Port) :
    (s.startSwap row handover port).twin = { s.twin with swap := some { row, handover, port } } :=
  State.twin_sendG (s.withSwap { row, handover, port }) _

theorem State.beside_fence (s : State) : s.fence.twin.beside = s.twin.beside := by
  unfold State.fence
  split
  · rw [State.twin_enter, Twin.beside_entered]
  · rw [State.twin_enter, Twin.beside_entered]
  · rfl

theorem State.beside_escalateNow (s : State) : s.escalateNow.twin.beside = s.twin.beside := by
  unfold State.escalateNow
  split
  · split
    · exact (congrArg Twin.beside (s.twin_startSwap ..)).trans rfl
    · rfl
  · exact s.beside_fence
  · exact s.beside_fence
  · rfl

theorem State.twin_sendMirrors (s : State) : ∃ l, s.sendMirrors.twin = { s.twin with mirrors := l } := by
  unfold State.sendMirrors
  split
  · split
    · exact ⟨_, State.twin_sendG ..⟩
    · exact ⟨s.twin.mirrors, rfl⟩
  · exact ⟨s.twin.mirrors, rfl⟩

theorem State.twin_causeGone (s : State) (k b : Nat) : (s.causeGone k b).twin = s.twin := by
  unfold State.causeGone
  split <;> rfl

theorem State.twin_causesGone (l : List (Nat × Nat × (Unit → Bool))) (s : State) :
    (l.foldl (fun s c => s.causeGone c.1 c.2.1) s).twin = s.twin := by
  induction l generalizing s with
  | nil => rfl
  | cons c l ih => exact (ih _).trans (State.twin_causeGone ..)

theorem State.twin_levels (s : State) (q : List Instr) : ({ s.noteCauses.drivePins with pending := q } : State).twin = s.twin := rfl

/-- The pair's state at the end of a step: an escalation is answered, and mirrored commands go out. -/
theorem State.twin_settle (s : State) (q : List Instr) :
    ∃ l, (s.settle q).twin = { (if s.ev.escalate then s.escalateNow else s).twin with mirrors := l } := by
  obtain ⟨l, hl⟩ := (if s.ev.escalate then s.escalateNow else s).twin_sendMirrors
  refine ⟨l, ?_⟩
  unfold State.settle
  exact (State.twin_levels _ q).trans ((State.twin_causesGone _ _).trans hl)

/-- What a step ends with leaves the pair's state but for what escalations and mirrored commands change. -/
theorem State.beside_settle (s : State) (q : List Instr) : (s.settle q).twin.beside = s.twin.beside := by
  obtain ⟨l, hl⟩ := s.twin_settle q
  have hesc : (if s.ev.escalate then s.escalateNow else s).twin.beside = s.twin.beside := by
    split
    · exact s.beside_escalateNow
    · rfl
  rw [hl, ← hesc]
  rfl

/-- R485: no escalation is answered at the end of the step. -/
structure State.Calm (s : State) : Prop where
  calm : (if s.ev.escalate then s.escalateNow else s) = s

theorem State.calm_of_quietEvents (h : s.ev.escalate = false) : s.Calm := ⟨by rw [h]; rfl⟩

/-- R485: only a lead and a shadow answer an escalation. -/
theorem State.calm_of_state (h : s.twin.state = .leadAlone ∨ s.twin.state = .quarantine ∨ s.twin.state = .admitting) : s.Calm := by
  have hesc : s.escalateNow = s := by
    unfold State.escalateNow
    rcases h with h | h | h <;> rw [h]
  exact ⟨by rw [hesc, ite_self]⟩

theorem State.Calm.twin_settle (h : s.Calm) (q : List Instr) : ∃ l, (s.settle q).twin = { s.twin with mirrors := l } := by
  obtain ⟨l, hl⟩ := s.twin_settle q
  exact ⟨l, by rw [hl, h.calm]⟩

/-- With no command mirrored either, the pair's state is what the effect left. -/
theorem State.Calm.twin_settle_eq (h : s.Calm) (hnone : s.twin.mirrors = []) (q : List Instr) : (s.settle q).twin = s.twin := by
  unfold State.settle
  rw [h.calm, State.sendMirrors_of_unmirrored hnone]
  exact (State.twin_levels _ q).trans (State.twin_causesGone _ _)

end

end Sys2Proof.Machine
end
section
/-!
SUPPORT. Frames of the partner while the Gelain link carries traffic (R403, R406): what HEART, DIGEST, TAG, STATE and packet
frames do to a unit that is in step or joins.
-/
namespace Sys2Proof.Machine

/-! ### Presence and epochs -/

theorem newer_self (e : Half) : newer e e = false := by
  unfold newer
  rw [BitVec.sub_self]
  decide

/-- R410: the unit's own epoch is none that a swap brings. -/
theorem State.swapEpoch_own (s : State) : s.swapEpoch s.twin.epoch = false := by
  have hne : (s.twin.epoch == s.twin.epoch + 1) = false := beq_eq_false_iff_ne.2 fun h => by
    generalize s.twin.epoch = e at h
    bv_omega
  rw [State.swapEpoch, hne, Bool.and_false]

theorem State.gainGelain_of_up {s : State} (h : s.twin.gelainUp = true) : s.gainGelain = s := if_pos h

theorem State.ev_setTwin (s : State) (f : Twin → Twin) : (s.setTwin f).ev = s.ev := rfl

/-- R403: a frame of the partner was heard. -/
def State.heard (s : State) : State := s.setTwin fun t => { t with frameAt := s.now }

/-- R410: what the unit knows of its partner's epoch. -/
def Twin.met (t : Twin) (e ident : Half) : Twin :=
  { t with partnerEpoch := e, partnerIdent := ident, split := t.split && newer e t.epoch }

def State.met (s : State) (e ident : Half) : State := s.setTwin fun t => t.met e ident

section
variable {u v : State} {e ident : Half} {F : State → State}

theorem State.onGelain_of_active (hact : u.gl.state = 7) (hup : u.twin.gelainUp = true) (F : State → State) :
    u.onGelain F = F u.heard :=
  (if_pos hact).trans (congrArg F (State.gainGelain_of_up (s := u.heard) hup))

/-- R410: an epoch of the unit's own is neither newer nor brought by a swap. -/
theorem State.own_epoch_met (he : e = u.twin.epoch) :
    newer e u.twin.epoch = false ∧ (u.met e ident).swapEpoch e = false := by
  subst he
  exact ⟨newer_self _, u.swapEpoch_own⟩

/-- R410: a lead of this epoch goes on, unless its partner is a lead as well. -/
theorem State.meetEpoch_of_lead (hst : u.twin.state = .lead ∨ u.twin.state = .leadAlone) (he : e = u.twin.epoch)
    (hrole : ident.toNat / 2 ^ 14 ≠ 0) : u.meetEpoch e ident = u.met e ident := by
  obtain ⟨hnewer, hswap⟩ := State.own_epoch_met (ident := ident) he
  unfold State.meetEpoch
  extract_lets own x
  have hx : x.swapEpoch e = false := hswap
  have hown : newer e own = false := hnewer
  have hstate : x.twin.state = u.twin.state := rfl
  rcases hst with h | h <;>
    (rw [hstate, h]; dsimp only; rw [hx, hown, if_neg Bool.false_ne_true, if_neg Bool.false_ne_true,
      if_neg fun hc => hrole hc.2.1]; rfl)

/-- R410: a shadow follows a lead of its own epoch. -/
theorem State.meetEpoch_of_shadow (hst : u.twin.state = .shadow) (he : e = u.twin.epoch) : u.meetEpoch e ident = u.met e ident := by
  obtain ⟨hnewer, -⟩ := State.own_epoch_met (ident := ident) he
  unfold State.meetEpoch
  extract_lets own x
  have hown : newer e own = false := hnewer
  have hstate : x.twin.state = .shadow := hst
  rw [hstate]
  dsimp only
  rw [hown, Bool.false_and, if_neg Bool.false_ne_true]
  rfl

theorem State.meetEpoch_of_outside (hst : u.twin.state = .quarantine ∨ u.twin.state = .admitting) :
    u.meetEpoch e ident = u.met e ident := by
  unfold State.meetEpoch
  extract_lets own x
  have hstate : x.twin.state = u.twin.state := rfl
  rcases hst with h | h <;> (rw [hstate, h]; rfl)

/-- R410: a unit in operation adopts no epoch. -/
theorem State.adoptEpoch_of_operating (hst : u.twin.state = .lead ∨ u.twin.state = .leadAlone ∨ u.twin.state = .shadow) :
    u.adoptEpoch e = u := by
  unfold State.adoptEpoch
  rcases hst with h | h | h <;> rw [h]

theorem State.adoptEpoch_of_outside (hst : u.twin.state = .quarantine ∨ u.twin.state = .admitting) :
    u.adoptEpoch e = u.setEpoch e := by
  unfold State.adoptEpoch
  rcases hst with h | h <;> rw [h]

/-! ### Frames -/

/-- What is left to show of a frame's command is what the frame does to the state of its tick. -/
theorem commit_of_frame {dt : Nat} {s : State} {f : State → State} (hu : s.ticked dt = u) (hf : f u = v) :
    commit dt f s = .next (v.settle s.pending) := by
  subst hf hu
  exact commit_ticked dt f s

/-! ### HEART -/

/-- R403, R406: our own HEART goes out. -/
def State.hearted (s : State) : State := { s with out := { s.out with gelain := s.out.gelain ++ [s.heartFrame] } }

theorem State.sendHeart_ready (hact : u.gl.state = 7) (hq : u.queues[(41 : Fin 43)].state = 2) : u.sendHeart = u.hearted :=
  (if_neg (not_not_intro hact)).trans (if_pos hq)

/-- R407: a HEART that the transmit queue refuses is dropped. -/
def State.dropHeart (s : State) : State := s.setTwin fun t => { t with dropped := satInc 16 t.dropped }

theorem State.sendHeart_refused (hact : u.gl.state = 7) (hq : u.queues[(41 : Fin 43)].state ≠ 2) :
    u.sendHeart = u.dropHeart.raise 49 27 := (if_neg (not_not_intro hact)).trans (if_neg hq)

/-- What a HEART tells of the partner is noted. -/
def State.noteHeart (s : State) (h : Heart) : State := s.setTwin fun t => { t with
  frameAt := s.now, partnerState := some h.state, echoTx := h.txTime, echoRx := s.time }

/-- R406, R410: a lead whose shadow is in step with it goes on. -/
theorem State.takeHeart_of_lead {h : Heart} (hact : u.gl.state = 7) (hup : u.twin.gelainUp = true) (hst : u.twin.state = .lead)
    (hshadow : h.state = 4) (he : h.epoch = u.twin.epoch) (hrole : h.ident.toNat / 2 ^ 14 ≠ 0) :
    u.takeHeart h = (u.noteHeart h).met h.epoch h.ident := by
  have hheard : (u.noteHeart h).gainGelain = u.noteHeart h := State.gainGelain_of_up (s := u.noteHeart h) hup
  have hmeet : (u.noteHeart h).meetEpoch h.epoch h.ident = (u.noteHeart h).met h.epoch h.ident :=
    State.meetEpoch_of_lead (u := u.noteHeart h) (.inl hst) he hrole
  have hpartner : ∀ was, ((u.noteHeart h).met h.epoch h.ident).partnerIs h was = (u.noteHeart h).met h.epoch h.ident := by
    intro was
    have hstate : ((u.noteHeart h).met h.epoch h.ident).twin.state = .lead := hst
    unfold State.partnerIs
    rw [hstate]
    exact if_pos (.inl hshadow)
  have hadopt : ((u.noteHeart h).met h.epoch h.ident).adoptEpoch h.epoch = (u.noteHeart h).met h.epoch h.ident :=
    State.adoptEpoch_of_operating (u := (u.noteHeart h).met h.epoch h.ident) (.inl hst)
  have hlead : ((u.noteHeart h).met h.epoch h.ident).followsLead = false := by
    unfold State.followsLead
    rw [show ((u.noteHeart h).met h.epoch h.ident).twin.state = .lead from hst]
    rfl
  unfold State.takeHeart
  rw [if_neg (not_not_intro hact)]
  extract_lets ticks was x forming y z
  have hx : x = u.noteHeart h := hheard
  have hy : y = (u.noteHeart h).met h.epoch h.ident := by
    show (x.meetEpoch h.epoch h.ident).partnerIs h was = _
    rw [hx, hmeet, hpartner]
  have hz : z = (u.noteHeart h).met h.epoch h.ident := by
    show (if _ then y else y.adoptEpoch h.epoch : State) = _
    rw [hy, hadopt, ite_self]
  rw [hz, hlead, Bool.false_and, if_neg Bool.false_ne_true]

end
end Sys2Proof.Machine
end
section
/-!
SUPPORT. Digests, tags, packets and STATE chunks of the partner (R406, R417, R421, R424, R428).
-/
namespace Sys2Proof.Machine

section
variable {u : State}

/-! ### Digests -/

/-- R420: an entry of the partner, as it is kept. -/
def State.digestOf (s : State) (e : DigestEntry) : Digest :=
  { row := e.row, near := e.near, noStreams := e.noStreams, arrived := e.arrived, digest := e.digest, at_ := s.now }

/-- R421: a row's entries are taken out to be compared. -/
def State.comparing (s : State) (row : Word) : State := s.setTwin fun t => { t with
  cmpRow := row, own := t.own.filter (·.row != row), theirs := t.theirs.filter (·.row != row) }

/-- R421: the row agrees. -/
def State.agreed (s : State) : State := s.setTwin fun t => { t with cleanRows := min 256 (t.cleanRows + 1) }

/-- R421: the row differs. -/
def State.differs (s : State) : State := s.setTwin fun t => { t with
  diverged := satInc 16 t.diverged, divergedBoot := t.divergedBoot + 1, cleanRows := 0 }

theorem State.compareRow_of_same {a b : Digest} (h : a.digest = b.digest) : u.compareRow a b = (u.comparing a.row).agreed := if_pos h

/-- R421: entries of the same arrivals that differ outside a realignment are a divergence, which a lead reports. -/
theorem State.compareRow_of_differing {a b : Digest} (h : a.digest ≠ b.digest) (hst : u.twin.state = .lead)
    (harr : a.arrived = b.arrived) (hset : u.settling a.row = false) :
    u.compareRow a b = (u.comparing a.row).differs.raise 49 12 := by
  have hfence : ((u.comparing a.row).differs.raise 49 12).fence = (u.comparing a.row).differs.raise 49 12 := by
    unfold State.fence
    rw [State.twin_raise, show (u.comparing a.row).differs.twin.state = .lead from hst]
  have hsettling : (u.comparing a.row).settling a.row = false := hset
  unfold State.compareRow
  extract_lets x edge y z
  have hx : x = u.comparing a.row := rfl
  have hz : z = (u.comparing a.row).differs.raise 49 12 := rfl
  rw [if_neg h, if_neg fun hc => hc.1 harr, hx, hsettling, if_neg Bool.false_ne_true, hz, hfence, ite_self]

/-- R420: the partner's only entries. -/
def State.holding (s : State) (b : Digest) : State := s.setTwin fun t => { t with theirs := [b] }

/-- R420, R421: the only entry of each side is compared when both are of one row. -/
theorem State.takeDigests_one {a : Digest} {e : DigestEntry} (hst : u.twin.state = .lead) (htheirs : u.twin.theirs = [])
    (hown : u.twin.own = [a]) (hrow : a.row = e.row) :
    u.takeDigests [e] = (u.holding (u.digestOf e)).compareRow a (u.digestOf e) := by
  have hstep : u.twin.state.inStep = true := by rw [hst]; rfl
  have hlist : ((u.twin.theirs ++ [u.digestOf e]).reverse.take 4096).reverse = [u.digestOf e] := by rw [htheirs]; rfl
  have hhold : (u.setTwin fun t => { t with theirs := ((t.theirs ++ [u.digestOf e]).reverse.take 4096).reverse }) =
      u.holding (u.digestOf e) :=
    congrArg (fun l => u.setTwin fun t => { t with theirs := l }) hlist
  have hfind : (u.holding (u.digestOf e)).twin.theirs.find? (fun b => b.row == a.row) = some (u.digestOf e) :=
    List.find?_cons_of_pos (beq_iff_eq.2 hrow.symm)
  have hsame : (u.holding (u.digestOf e)).twin.own = [a] := hown
  have hcompare : (u.holding (u.digestOf e)).compareRows = (u.holding (u.digestOf e)).compareRow a (u.digestOf e) := by
    unfold State.compareRows
    rw [hsame]
    show (match (u.holding (u.digestOf e)).twin.theirs.find? (fun b => b.row == a.row) with
      | some b => if (u.holding (u.digestOf e)).twin.state.inStep then (u.holding (u.digestOf e)).compareRow a b
        else u.holding (u.digestOf e)
      | none => u.holding (u.digestOf e)) = _
    rw [hfind]
    exact if_pos hstep
  unfold State.takeDigests
  rw [if_pos hstep]
  exact (congrArg State.compareRows hhold).trans hcompare

/-- R421: the row of the partner's entry was compared. -/
def State.rowCompared (s : State) (e : DigestEntry) (row : Word) : State := (s.holding (s.digestOf e)).comparing row

theorem State.ev_rowCompared (s : State) (e : DigestEntry) (row : Word) : (s.rowCompared e row).ev = s.ev :=
  (State.ev_setTwin ..).trans (s.ev_setTwin _)

theorem State.ev_agreed_rowCompared (s : State) (e : DigestEntry) (row : Word) : (s.rowCompared e row).agreed.ev = s.ev :=
  ((s.rowCompared e row).ev_setTwin _).trans (s.ev_rowCompared e row)

/-- R421: what is left of the entries once the row was compared. -/
theorem State.rowCompared_entries {a : Digest} {e : DigestEntry} (hown : u.twin.own = [a]) (hrow : a.row = e.row) :
    (u.rowCompared e a.row).twin.own = [] ∧ (u.rowCompared e a.row).twin.theirs = [] := by
  refine ⟨?_, ?_⟩
  · show u.twin.own.filter (fun x => x.row != a.row) = []
    rw [hown]
    exact List.filter_cons_of_neg (by simp)
  · show [u.digestOf e].filter (fun x => x.row != a.row) = []
    rw [hrow]
    exact List.filter_cons_of_neg (by simp [State.digestOf])

/-- R421: an entry that agrees with ours. -/
theorem State.takeDigests_of_same {a : Digest} {e : DigestEntry} (hst : u.twin.state = .lead) (htheirs : u.twin.theirs = [])
    (hown : u.twin.own = [a]) (hrow : a.row = e.row) (hsame : a.digest = e.digest) :
    u.takeDigests [e] = (u.rowCompared e a.row).agreed :=
  (State.takeDigests_one hst htheirs hown hrow).trans (State.compareRow_of_same (b := u.digestOf e) hsame)

/-- R421: an entry that differs from ours. -/
theorem State.takeDigests_of_differing {a : Digest} {e : DigestEntry} (hst : u.twin.state = .lead) (htheirs : u.twin.theirs = [])
    (hown : u.twin.own = [a]) (hrow : a.row = e.row) (hne : a.digest ≠ e.digest) (hset : u.settling e.row = false)
    (harr : a.arrived = e.arrived) : u.takeDigests [e] = (u.rowCompared e a.row).differs.raise 49 12 := by
  have hset' : (u.holding (u.digestOf e)).settling a.row = false := by
    rw [hrow]
    exact hset
  exact (State.takeDigests_one hst htheirs hown hrow).trans
    (State.compareRow_of_differing (u := u.holding (u.digestOf e)) (b := u.digestOf e) hne hst harr hset')

/-! ### Tags -/

/-- R417: a wait and the entry it has met are gone. -/
def State.untag (s : State) (w : TagWait) (e : TagEntry) : State := s.setTwin fun t => { t with
  tags := t.tags.filter (fun x => x != w), leadTags := t.leadTags.filter fun x => x != e }

/-- R417: a frame's start moves by the difference of the two captures. -/
def State.shiftFrame (s : State) (c : Fin 64) (d : Int) : State := s.setCtx c fun x => { x with fsTime := x.fsTime + d }

theorem State.takeTag_of_frame {w : TagWait} {g : TagEntry} (hst : u.twin.state = .shadow) (htags : u.twin.tags = [w])
    (hfit : w.fits g = true) (hkind : w.kind = 2) (hnear : (g.time - w.time).toInt.natAbs ≤ 40) :
    u.takeTag g = (u.untag w g).shiftFrame (Fin.ofNat 64 w.index) (g.time - w.time).toInt := by
  have hfind : u.twin.tags.find? (fun x => x.fits g) = some w := by
    rw [htags]
    exact List.find?_cons_of_pos hfit
  have hwidth : (u.untag w g).adoptWidth w g.width = u.untag w g := if_neg fun h => absurd (hkind.symm.trans h) (by decide)
  have hadopt : (u.untag w g).adoptTag w g.time = (u.untag w g).shiftFrame (Fin.ofNat 64 w.index) (g.time - w.time).toInt := by
    unfold State.adoptTag
    rw [hkind]
    rfl
  have hmatch : u.matchTag w g = ((u.untag w g).adoptWidth w g.width).adoptTag w g.time := if_pos hnear
  unfold State.takeTag
  rw [if_neg (not_not_intro hst), hfind]
  dsimp only
  rw [hmatch, hwidth, hadopt]

theorem State.untag_tags {w : TagWait} {g : TagEntry} (htags : u.twin.tags = [w]) : (u.untag w g).twin.tags = [] := by
  show u.twin.tags.filter (fun x => x != w) = []
  rw [htags]
  exact List.filter_cons_of_neg (by simp)

/-! ### Packets -/

theorem State.slot_setSlot {ch : Fin 10} {i : Nat} {x : Slot} (h : u.mb.chans[ch].slots[i]? = some x) (f : Slot → Slot) :
    (u.setSlot ch i f).mb.chans[ch].slots[i]? = some (f x) := by
  obtain ⟨hi, rfl⟩ := List.getElem?_eq_some_iff.1 h
  show (upd u.mb.chans ch _)[ch].slots[i]? = _
  rw [upd_same]
  exact updAt_get_same _ _ f hi

/-- R406, R424: a mirrored command in its slot. -/
def State.mirrored (s : State) (mirror decided : Word) (slot : Nat) (packet : List Byte) : State :=
  (s.fillSlot 4 slot packet).setSlot 4 slot fun x => { x with mirror := some (mirror, decided) }

theorem State.takeMirror_of_empty {mirror decided : Word} {slot : Nat} {packet : List Byte} (hacc : u.accepting = true)
    (hempty : (u.mb.chans[(4 : Fin 10)].slots.getD slot {}).full = false) :
    u.takeMirror mirror decided slot packet = u.mirrored mirror decided slot packet :=
  (if_neg (ne_true_of_eq_false hempty)).trans (State.hwAnswer_of_accepting (s := u.mirrored mirror decided slot packet) hacc 4 slot)

/-- R406: the packet stands in its slot, with the mirror word. -/
theorem State.slot_mirrored {mirror decided : Word} {slot : Nat} {packet : List Byte}
    (h : slot < u.mb.chans[(4 : Fin 10)].slots.length) :
    ∃ x, (u.mirrored mirror decided slot packet).mb.chans[(4 : Fin 10)].slots[slot]? = some x ∧ x.full = true ∧
      x.bytes = packet ∧ x.mirror = some (mirror, decided) := by
  obtain ⟨x, hx, hfull, hbytes⟩ := u.slot_fillSlot 4 slot packet h
  exact ⟨{ x with mirror := some (mirror, decided) }, State.slot_setSlot hx _, hfull, hbytes, rfl⟩

/-- R76, R406: a slot of MB5 that the partner has read clears; no reply of the pair waits for it. -/
theorem State.clearSlot_of_pair {i : Nat} (hwait : (u.port .p2).outgoing = []) :
    u.clearSlot 5 i = (u.readTie 5 i).setSlot 5 i fun _ => emptySlot := by
  obtain ⟨tie, htie⟩ := u.readTie_eq 5 i
  have hport : (((u.readTie 5 i).setSlot 5 i fun _ => emptySlot).port .p2).outgoing = [] := by
    rw [htie]
    exact hwait
  show (match (((u.readTie 5 i).setSlot 5 i fun _ => emptySlot).port .p2).outgoing with
    | [] => (u.readTie 5 i).setSlot 5 i fun _ => emptySlot
    | bytes :: rest =>
      (((u.readTie 5 i).setSlot 5 i fun _ => emptySlot).setPort .p2 fun q => { q with outgoing := rest }).deliver .p2 bytes) = _
  rw [hport]

theorem State.slot_clearSlot_of_pair {i : Nat} (hwait : (u.port .p2).outgoing = [])
    (hi : i < u.mb.chans[(5 : Fin 10)].slots.length) :
    (u.clearSlot 5 i).mb.chans[(5 : Fin 10)].slots[i]? = some emptySlot := by
  obtain ⟨tie, htie⟩ := u.readTie_eq 5 i
  have hslot : (u.readTie 5 i).mb.chans[(5 : Fin 10)].slots[i]? = some u.mb.chans[(5 : Fin 10)].slots[i] := by
    rw [htie]
    show (upd u.mb.chans 5 _)[(5 : Fin 10)].slots[i]? = _
    rw [upd_same]
    exact List.getElem?_eq_getElem hi
  rw [State.clearSlot_of_pair hwait]
  exact State.slot_setSlot hslot _

theorem State.twin_clearSlot_of_pair {i : Nat} (hwait : (u.port .p2).outgoing = []) :
    (u.clearSlot 5 i).twin = u.twin := by
  obtain ⟨tie, htie⟩ := u.readTie_eq 5 i
  rw [State.clearSlot_of_pair hwait, htie]
  rfl

/-! ### STATE -/

/-- R428: a chunk of the lead's memory is installed. -/
def State.installMemory (s : State) (a : Nat) (bs : List Byte) : State :=
  { (s.setTwin fun t => { t with chunkFailed := false }) with lpddr := Memory.writeList zeroByte s.lpddr a bs }

theorem State.takeChunk_of_memory {c : StateChunk} {a : Nat} {bs : List Byte} (hst : u.twin.state = .admitting)
    (hgood : c.good = true) (hlast : c.last = false) (hitem : c.item = .memory a bs) (hlate : u.lateStrip a = false) :
    u.takeChunk c = u.installMemory a bs := by
  have hitem' : u.takeItem c = u.installMemory a bs := by
    unfold State.takeItem
    rw [hitem]
    exact if_neg (ne_true_of_eq_false hlate)
  unfold State.takeChunk
  rw [hst]
  dsimp only
  rw [if_pos hgood, hlast, Bool.false_and, if_neg Bool.false_ne_true, hitem']

end
end Sys2Proof.Machine
end
section
/-!
SUPPORT. CONTROL frames of the partner (R406, R422, R423, R426 to R430), heard by a unit of the partner's epoch or outside
operation.
-/
namespace Sys2Proof.Machine

section
variable {u : State} {epoch : Half} {F : State → State}

/-! ### The epoch in the header -/

/-- R403, R410: a CONTROL frame was heard, with the epoch in its header. -/
def State.told (s : State) (epoch : Half) : State := s.heard.met epoch s.twin.partnerIdent

theorem State.onControl_of_unswapped (hact : u.gl.state = 7) (hup : u.twin.gelainUp = true) (hswap : u.twin.swap = none) :
    u.onControl epoch F = F ((u.heard.meetEpoch epoch u.twin.partnerIdent).adoptEpoch epoch) := by
  have hnone : u.heard.twin.swap.isSome = false := by
    rw [show u.heard.twin.swap = none from hswap]
    rfl
  refine (State.onGelain_of_active hact hup _).trans ?_
  dsimp only
  rw [hnone, if_neg Bool.false_ne_true]
  rfl

/-- R426: a swap in progress sees to the epochs itself. -/
theorem State.onControl_of_swap {w : Swap} (hact : u.gl.state = 7) (hup : u.twin.gelainUp = true) (hswap : u.twin.swap = some w) :
    u.onControl epoch F = F u.heard := by
  have hsome : u.heard.twin.swap.isSome = true := by
    rw [show u.heard.twin.swap = some w from hswap]
    rfl
  refine (State.onGelain_of_active hact hup _).trans ?_
  dsimp only
  rw [hsome, if_pos rfl]

theorem State.onControl_of_shadow (hact : u.gl.state = 7) (hup : u.twin.gelainUp = true) (hswap : u.twin.swap = none)
    (hst : u.twin.state = .shadow) (he : epoch = u.twin.epoch) : u.onControl epoch F = F (u.told epoch) := by
  have hmeet : u.heard.meetEpoch epoch u.twin.partnerIdent = u.told epoch := State.meetEpoch_of_shadow (u := u.heard) hst he
  have hadopt : (u.told epoch).adoptEpoch epoch = u.told epoch :=
    State.adoptEpoch_of_operating (u := u.told epoch) (.inr (.inr hst))
  rw [State.onControl_of_unswapped hact hup hswap, hmeet, hadopt]

theorem State.onControl_of_leadAlone (hact : u.gl.state = 7) (hup : u.twin.gelainUp = true) (hswap : u.twin.swap = none)
    (hst : u.twin.state = .leadAlone) (he : epoch = u.twin.epoch) (hrole : u.twin.partnerIdent.toNat / 2 ^ 14 ≠ 0) :
    u.onControl epoch F = F (u.told epoch) := by
  have hmeet : u.heard.meetEpoch epoch u.twin.partnerIdent = u.told epoch :=
    State.meetEpoch_of_lead (u := u.heard) (.inr hst) he hrole
  have hadopt : (u.told epoch).adoptEpoch epoch = u.told epoch :=
    State.adoptEpoch_of_operating (u := u.told epoch) (.inr (.inl hst))
  rw [State.onControl_of_unswapped hact hup hswap, hmeet, hadopt]

/-- R410: a unit that is not in operation takes the partner's epoch. -/
def State.adopting (s : State) (epoch : Half) : State := (s.told epoch).setEpoch epoch

theorem State.onControl_of_outside (hact : u.gl.state = 7) (hup : u.twin.gelainUp = true) (hswap : u.twin.swap = none)
    (hst : u.twin.state = .quarantine ∨ u.twin.state = .admitting) : u.onControl epoch F = F (u.adopting epoch) := by
  have hmeet : u.heard.meetEpoch epoch u.twin.partnerIdent = u.told epoch := State.meetEpoch_of_outside (u := u.heard) hst
  have hadopt : (u.told epoch).adoptEpoch epoch = u.adopting epoch := State.adoptEpoch_of_outside (u := u.told epoch) hst
  rw [State.onControl_of_unswapped hact hup hswap, hmeet, hadopt]

theorem State.twin_adopting : (u.adopting epoch).twin = { (u.told epoch).twin with epoch := epoch } := State.twin_setEpoch ..

/-! ### Swaps -/

/-- R426: a shadow has the swap of a row set up. -/
def State.confirming (s : State) (row : Word) : State :=
  s.setTwin fun t => { t with swap := some { row, confirmed := true, port := t.swap.bind (·.port) } }

theorem State.swap_confirming {row : Word} (hswap : u.twin.swap = none) :
    (u.confirming row).twin.swap = some { row, confirmed := true } := by
  show some ({ row, confirmed := true, port := u.twin.swap.bind (·.port) } : Swap) = _
  rw [hswap]
  rfl

/-- R426: the lead knows that its swap is confirmed. -/
def State.confirmed (s : State) (w : Swap) : State := s.setTwin fun t => { t with swap := some { w with confirmed := true } }

/-! ### Quarantine -/

theorem State.fence_of_shadow (hst : u.twin.state = .shadow) : u.fence = u.enter .quarantine u.twin.epoch := by
  unfold State.fence
  rw [hst]

theorem State.sluice_stage (s : State) (e : Entry) : (s.stage e).sluice = s.sluice := by
  unfold State.stage
  split <;> rfl

theorem State.sluice_ite {p : Prop} [Decidable p] {x y : State} {w : Sluice} (hx : x.sluice = w) (hy : y.sluice = w) :
    (if p then x else y).sluice = w := by
  split <;> assumption

theorem State.sluice_occur (s : State) (c : Src) (x y : Bool) : (s.occur c x y).sluice = s.sluice := by
  unfold State.occur
  split
  · exact State.sluice_ite rfl (State.sluice_stage ..)
  · rfl

theorem State.sluice_raise (s : State) (k b : Nat) : (s.raise k b).sluice = s.sluice :=
  (State.sluice_ite (State.sluice_occur ..) rfl).trans (State.sluice_occur ..)

/-- R248: the pins of a unit in quarantine are released. -/
theorem State.released_enter_quarantine (s : State) (e : Half) : (s.enter .quarantine e).sluice.released = true := by
  unfold State.enter
  extract_lets old oldEpoch s1 w s2 a s3 s4 s5 s6 s7 u s8 leaves
  show s8.sluice.released = true
  show (if _ then State.raise _ 50 23 else if _ then _ else s7 : State).sluice.released = true
  split
  · exact congrArg Sluice.released (State.sluice_raise ..)
  · next h =>
    rw [if_neg (by decide)]
    simpa using h

theorem State.sluice_sendMirrors (s : State) : s.sendMirrors.sluice = s.sluice := by
  unfold State.sendMirrors
  split
  · split
    · exact State.sluice_ite rfl rfl
    · rfl
  · rfl

theorem State.sluice_causeGone (s : State) (k b : Nat) : (s.causeGone k b).sluice = s.sluice := by
  unfold State.causeGone
  split <;> rfl

theorem State.sluice_causesGone (l : List (Nat × Nat × (Unit → Bool))) (s : State) :
    (l.foldl (fun s c => s.causeGone c.1 c.2.1) s).sluice = s.sluice := by
  induction l generalizing s with
  | nil => rfl
  | cons c l ih => exact (ih _).trans (State.sluice_causeGone ..)

theorem State.sluice_levels (s : State) (q : List Instr) :
    ({ s.noteCauses.drivePins with pending := q } : State).sluice = s.sluice := rfl

theorem State.Calm.sluice_settle (h : u.Calm) (q : List Instr) : (u.settle q).sluice = u.sluice := by
  unfold State.settle
  rw [h.calm]
  exact (State.sluice_levels _ q).trans ((State.sluice_causesGone _ _).trans u.sluice_sendMirrors)

/-! ### Realignment -/

/-- R422: a shadow is told of a realignment. -/
def State.realigning (s : State) (row : Word) : State :=
  s.setTwin fun t => { t with realign := some row, settle := some (t.sealRow.getD (row - 4), row), sealRow := none }

/-! ### Admission -/

/-- R428: the admission that the unit has joined. -/
def State.joining (s : State) (limit : Nat) : State :=
  s.setTwin fun t => { t with admitRow := none, chunkFailed := false, joinLimit := some limit }

/-- R499: how long the joining unit's contexts may wait for leave. -/
def State.joinBy (s : State) (arg : Word) : Nat :=
  s.now + (if arg.toNat % 65536 = 0 then s.au 0x0F01 65535 2 2 else arg.toNat % 65536) * 40000

/-- R428: a quarantined unit takes part in an admission. -/
def State.joinsAdmission (s : State) (arg : Word) : State := (s.enter .admitting s.twin.epoch).joining (s.joinBy arg)

theorem State.twin_joinsAdmission (s : State) (arg : Word) : (s.joinsAdmission arg).twin =
    { s.twin.entered .admitting s.twin.epoch with admitRow := none, chunkFailed := false, joinLimit := some (s.joinBy arg) } :=
  congrArg (fun t : Twin => { t with admitRow := none, chunkFailed := false, joinLimit := some (s.joinBy arg) }) (s.twin_enter ..)

/-- R429: the joining unit knows its row. -/
def State.admitAt (s : State) (row : Word) (frames : List (Fin 64 × Word)) : State := s.setTwin fun t => { t with
  admitRow := some row, joinFrames := frames, realign := some (row - 1), settle := none, compareFrom := some row }

/-- R430: the lead's admission is over. -/
def State.unadmitted (s : State) : State :=
  s.setTwin fun t => { t with admitting := false, admitRow := none, joinFrames := [], realign := none }

theorem State.failSwap_of_unswapped (h : u.twin.swap = none) : u.failSwap = u :=
  if_neg (by rw [h]; exact Bool.false_ne_true)

theorem State.failJoin_of_outside (h : u.twin.state ≠ .admitting) : u.failJoin = u := if_neg h

/-- R430: the admission of a lead that answers no TWIN_ADMIT ends with a report and an ABORT. -/
theorem State.failAdmission_of_idle (h : u.twin.admitting = true) (hidle : u.idlePorts) (code : Nat) :
    u.failAdmission code = (u.unadmitted.raise 49 25).sendG (.control 6 0 code) := by
  have hports : ((u.unadmitted.raise 49 25).sendG (.control 6 0 code)).idlePorts := fun p hp => by
    rw [State.port_of_quiet (State.quiet_sendG ..), State.port_raise]
    exact hidle p hp
  exact (if_pos h).trans (State.answerWaiting_of_idle hports _ _)

/-- R406: why an admission has failed. -/
def abortReason (arg : Word) : Nat := if 1 ≤ arg.toNat ∧ arg.toNat ≤ 5 then arg.toNat else 2

/-- R406: a procedure that ABORT has ended runs no realignment. -/
def State.unaligned (s : State) : State := s.setTwin fun t => { t with realign := none, holdSince := none }

/-- R406, R430: ABORT has ended an admission. -/
def State.abortsAdmission (s : State) (arg : Word) : State :=
  ((s.unadmitted.raise 49 25).sendG (.control 6 0 (abortReason arg))).unaligned

theorem State.twin_abortsAdmission (s : State) (arg : Word) : (s.abortsAdmission arg).twin = s.unadmitted.unaligned.twin :=
  congrArg (fun t : Twin => { t with realign := none, holdSince := none }) ((State.twin_sendG ..).trans (State.twin_raise ..))

theorem State.statusBit_abortsAdmission (s : State) (arg : Word) : (s.abortsAdmission arg).statusBit 49 25 = true :=
  (State.keepsSet_sendG ..).keeps 49 25 (State.statusBit_raise _ 49 25 (by decide))

end
end Sys2Proof.Machine
end
section
/-!
SUPPORT. The steps of the partner's frames (R406): what each leaves when the step has settled.
-/
namespace Sys2Proof.Machine

section
variable {u v : State}

/-! ### What a step ends with -/

theorem State.ev_sendG (s : State) (f : GFrame) : (s.sendG f).ev = s.ev := by
  unfold State.sendG
  split <;> rfl

theorem State.ctxs_of_quiet (h : u.quiet = v.quiet) : u.ctxs = v.ctxs := by
  show u.quiet.ctxs = v.quiet.ctxs
  rw [h]

theorem State.lpddr_of_quiet (h : u.quiet = v.quiet) : u.lpddr = v.lpddr := by
  show u.quiet.lpddr = v.quiet.lpddr
  rw [h]

/-- With no command mirrored and no escalation nothing goes out at the end of the step. -/
theorem State.Calm.out_settle_eq (h : v.Calm) (hnone : v.twin.mirrors = []) (q : List Instr) : (v.settle q).out = v.out := by
  unfold State.settle
  rw [h.calm, State.sendMirrors_of_unmirrored hnone]
  exact (State.out_levels _ q).trans (State.out_refreshCauses _)

theorem State.out_ticked (s : State) (dt : Nat) : (s.ticked dt).out = {} := by
  unfold State.ticked State.advance
  split <;> rfl

/-- The partner's frames are heard, and nothing is escalated (R403, R485). -/
structure State.Hears (u : State) : Prop where
  active : u.gl.state = 7
  up : u.twin.gelainUp = true
  calm : u.ev.escalate = false

/-- R403, R485: the step of a frame that leaves the events as they are is calm. -/
theorem State.Hears.calm_of_ev (h : u.Hears) (hev : v.ev = u.ev) : v.Calm := State.calm_of_quietEvents (by rw [hev]; exact h.calm)

theorem commit_of_gelain {dt : Nat} {s : State} {F : State → State} (hu : s.ticked dt = u) (h : u.Hears) (hF : F u.heard = v) :
    commit dt (fun s => s.onGelain F) s = .next (v.settle s.pending) :=
  commit_of_frame (f := fun s => s.onGelain F) hu ((State.onGelain_of_active h.active h.up F).trans hF)

section
variable {dt : Nat} {s : State} (hu : s.ticked dt = u) (h : u.Hears)
include hu h

/-! ### HEART -/

/-- R403, R406: our own HEART leaves through its queue. -/
theorem exec_heartPeriod_ready (hnone : u.twin.mirrors = []) (hq : u.queues[(41 : Fin 43)].state = 2) :
    ∃ t, exec (.heartPeriod dt) s = .next t ∧ t.out.gelain = [u.heartFrame] ∧ t.twin = u.twin := by
  have hcalm : u.hearted.Calm := h.calm_of_ev rfl
  have hout : u.hearted.out.gelain = [u.heartFrame] := by
    show u.out.gelain ++ [u.heartFrame] = [u.heartFrame]
    rw [← hu, s.out_ticked]
    rfl
  exact ⟨_, commit_of_frame hu (State.sendHeart_ready h.active hq),
    (congrArg Out.gelain (hcalm.out_settle_eq hnone _)).trans hout, hcalm.twin_settle_eq hnone _⟩

/-- R407: a HEART that the queue refuses is counted and reported. -/
theorem exec_heartPeriod_refused (hq : u.queues[(41 : Fin 43)].state ≠ 2) :
    ∃ t, exec (.heartPeriod dt) s = .next t ∧ t.twin.dropped = satInc 16 u.twin.dropped ∧ t.source 49 27 = true := by
  have hbeside := (u.dropHeart.raise 49 27).beside_settle s.pending
  rw [State.twin_raise] at hbeside
  exact ⟨_, commit_of_frame hu (State.sendHeart_refused h.active hq), (Twin.dropped_of_beside hbeside).trans rfl,
    State.source_settle (k := 49) (State.statusBit_raise u.dropHeart 49 27 (by decide)) _⟩

/-- R406: a lead learns from a HEART that its shadow is in step. -/
theorem exec_gelainHeart_of_lead {hb : Heart} (hnone : u.twin.mirrors = []) (hst : u.twin.state = .lead) (hshadow : hb.state = 4)
    (he : hb.epoch = u.twin.epoch) (hrole : hb.ident.toNat / 2 ^ 14 ≠ 0) :
    ∃ t, exec (.gelainHeart dt hb) s = .next t ∧ t.twin.partnerState = some 4 ∧ t.twin.frameAt = u.now ∧
      t.twin.state = .lead ∧ t.twin.epoch = u.twin.epoch ∧ t.twin.echoTx = hb.txTime := by
  have hcalm : ((u.noteHeart hb).met hb.epoch hb.ident).Calm := h.calm_of_ev rfl
  have htwin := hcalm.twin_settle_eq hnone s.pending
  have hframe := State.takeHeart_of_lead h.active h.up hst hshadow he hrole
  exact ⟨_, commit_of_frame (f := fun s => s.takeHeart hb) hu hframe, (congrArg Twin.partnerState htwin).trans (congrArg some hshadow),
    (congrArg Twin.frameAt htwin).trans rfl, (congrArg Twin.state htwin).trans hst, (congrArg Twin.epoch htwin).trans rfl,
    (congrArg Twin.echoTx htwin).trans rfl⟩

/-! ### Digests -/

/-- R421: an entry that agrees with ours. -/
theorem exec_gelainDigest_of_same {a : Digest} {e : DigestEntry} (hnone : u.twin.mirrors = []) (hst : u.twin.state = .lead)
    (htheirs : u.twin.theirs = []) (hown : u.twin.own = [a]) (hrow : a.row = e.row) (hsame : a.digest = e.digest) :
    ∃ t, exec (.gelainDigest dt [e]) s = .next t ∧ t.twin.own = [] ∧ t.twin.theirs = [] ∧
      t.twin.cmpRow = e.row ∧ t.twin.cleanRows = min 256 (u.twin.cleanRows + 1) ∧ t.twin.diverged = u.twin.diverged := by
  have htake := State.takeDigests_of_same (u := u.heard) hst htheirs hown hrow hsame
  have hcalm : (u.heard.rowCompared e a.row).agreed.Calm :=
    h.calm_of_ev (u.heard.ev_agreed_rowCompared e a.row)
  obtain ⟨hown', htheirs'⟩ := State.rowCompared_entries (u := u.heard) hown hrow
  have htwin := hcalm.twin_settle_eq hnone s.pending
  exact ⟨_, commit_of_gelain (F := fun s => s.takeDigests [e]) hu h htake, (congrArg Twin.own htwin).trans hown', (congrArg Twin.theirs htwin).trans htheirs',
    (congrArg Twin.cmpRow htwin).trans hrow, (congrArg Twin.cleanRows htwin).trans rfl, (congrArg Twin.diverged htwin).trans rfl⟩

/-- R421: an entry that differs from ours. -/
theorem exec_gelainDigest_of_differing {a : Digest} {e : DigestEntry} (hst : u.twin.state = .lead) (htheirs : u.twin.theirs = [])
    (hown : u.twin.own = [a]) (hrow : a.row = e.row) (hne : a.digest ≠ e.digest) (hset : u.settling e.row = false)
    (harr : a.arrived = e.arrived) :
    ∃ t, exec (.gelainDigest dt [e]) s = .next t ∧ t.twin.own = [] ∧ t.twin.cleanRows = 0 ∧
      t.twin.diverged = satInc 16 u.twin.diverged ∧ t.source 49 12 = true := by
  have htake := State.takeDigests_of_differing (u := u.heard) hst htheirs hown hrow hne hset harr
  obtain ⟨hown', -⟩ := State.rowCompared_entries (u := u.heard) hown hrow
  have hbeside := ((u.heard.rowCompared e a.row).differs.raise 49 12).beside_settle s.pending
  rw [State.twin_raise] at hbeside
  exact ⟨_, commit_of_gelain (F := fun s => s.takeDigests [e]) hu h htake, (Twin.own_of_beside hbeside).trans hown', (Twin.cleanRows_of_beside hbeside).trans rfl,
    (Twin.diverged_of_beside hbeside).trans rfl, State.source_settle (k := 49) (State.statusBit_raise _ 49 12 (by decide)) _⟩

/-! ### Tags -/

/-- R417: a frame's capture takes the lead's value. -/
theorem exec_gelainTag_of_frame {w : TagWait} {g : TagEntry} (hnone : u.twin.mirrors = []) (hst : u.twin.state = .shadow)
    (htags : u.twin.tags = [w]) (hfit : w.fits g = true) (hkind : w.kind = 2) (hnear : (g.time - w.time).toInt.natAbs ≤ 40) :
    ∃ t, exec (.gelainTag dt [g]) s = .next t ∧ t.twin.tags = [] ∧
      t.ctxs = upd u.ctxs (Fin.ofNat 64 w.index) fun x => { x with fsTime := x.fsTime + (g.time - w.time).toInt } := by
  have htake := State.takeTag_of_frame (u := u.heard) hst htags hfit hkind hnear
  have hcalm : ((u.heard.untag w g).shiftFrame (Fin.ofNat 64 w.index) (g.time - w.time).toInt).Calm := h.calm_of_ev rfl
  have htwin := hcalm.twin_settle_eq hnone s.pending
  exact ⟨_, commit_of_gelain hu h htake, (congrArg Twin.tags htwin).trans (State.untag_tags (u := u.heard) htags),
    State.ctxs_of_quiet (State.quiet_settle ..)⟩

/-! ### Packets -/

/-- R406, R424: a command of the lead fills its slot. -/
theorem exec_gelainCmd_of_empty {mirror decided : Word} {slot : Fin 2} {packet : List Byte} (hnone : u.twin.mirrors = [])
    (hacc : u.accepting = true) (hlen : u.mb.chans[(4 : Fin 10)].slots.length = 2)
    (hempty : (u.mb.chans[(4 : Fin 10)].slots.getD slot {}).full = false) :
    ∃ t x, exec (.gelainCmd dt mirror decided slot packet) s = .next t ∧ t.mb.chans[(4 : Fin 10)].slots[slot.val]? = some x ∧
      x.full = true ∧ x.bytes = packet ∧ x.mirror = some (mirror, decided) := by
  have htake := State.takeMirror_of_empty (u := u.heard) (mirror := mirror) (decided := decided) (packet := packet) hacc hempty
  have hmb : ((u.heard.mirrored mirror decided slot packet).settle s.pending).mb = (u.heard.mirrored mirror decided slot packet).mb :=
    State.mb_settle_of_unmirrored (s := u.heard.mirrored mirror decided slot packet) hnone _
  obtain ⟨x, hx, hfull, hbytes, hmirror⟩ := State.slot_mirrored (u := u.heard) (mirror := mirror) (decided := decided)
    (packet := packet) (slot.isLt.trans_eq hlen.symm)
  exact ⟨_, x, commit_of_gelain hu h htake, by rw [hmb]; exact hx, hfull, hbytes,
    hmirror⟩

/-- R406: a reply of the partner fills its slot. -/
theorem exec_gelainReply_of_empty {slot : Fin 2} {packet : List Byte} (hnone : u.twin.mirrors = [])
    (hlen : u.mb.chans[(7 : Fin 10)].slots.length = 2) (hempty : (u.mb.chans[(7 : Fin 10)].slots.getD slot {}).full = false) :
    ∃ t x, exec (.gelainReply dt slot packet) s = .next t ∧ t.mb.chans[(7 : Fin 10)].slots[slot.val]? = some x ∧
      x.full = true ∧ x.bytes = packet := by
  have hmb : ((u.heard.fillSlot 7 slot packet).settle s.pending).mb = (u.heard.fillSlot 7 slot packet).mb :=
    State.mb_settle_of_unmirrored (s := u.heard.fillSlot 7 slot packet) hnone _
  obtain ⟨x, hx, hfull, hbytes⟩ := u.heard.slot_fillSlot 7 slot packet (slot.isLt.trans_eq hlen.symm)
  exact ⟨_, x, commit_of_gelain hu h (if_neg (ne_true_of_eq_false hempty)),
    by rw [hmb]; exact hx, hfull, hbytes⟩

/-- R406: the partner has read a slot of MB5. -/
theorem exec_gelainMboxAck_of_reply {slot : Fin 2} (hnone : u.twin.mirrors = [])
    (hlen : u.mb.chans[(5 : Fin 10)].slots.length = 2) (hwait : (u.port .p2).outgoing = []) :
    ∃ t x, exec (.gelainMboxAck dt 5 slot) s = .next t ∧ t.mb.chans[(5 : Fin 10)].slots[slot.val]? = some x ∧ x.full = false := by
  have htwin : (u.heard.clearSlot 5 slot).twin = u.heard.twin := State.twin_clearSlot_of_pair (u := u.heard) hwait
  have hmb : ((u.heard.clearSlot 5 slot).settle s.pending).mb = (u.heard.clearSlot 5 slot).mb :=
    State.mb_settle_of_unmirrored ((congrArg Twin.mirrors htwin).trans hnone) _
  have hslot := State.slot_clearSlot_of_pair (u := u.heard) hwait (i := slot) (slot.isLt.trans_eq hlen.symm)
  exact ⟨_, emptySlot, commit_of_gelain hu h (if_pos (.inl rfl)),
    by rw [hmb]; exact hslot, rfl⟩

/-! ### STATE -/

/-- R428: a chunk of the lead's memory is installed. -/
theorem exec_gelainState_of_memory {c : StateChunk} {a : Nat} {bs : List Byte} (hst : u.twin.state = .admitting)
    (hgood : c.good = true) (hlast : c.last = false) (hitem : c.item = .memory a bs) (hlate : u.lateStrip a = false) :
    ∃ t, exec (.gelainState dt c) s = .next t ∧ t.lpddr = Memory.writeList zeroByte u.lpddr a bs ∧ t.recs = u.recs ∧
      t.twin.state = .admitting := by
  have htake := State.takeChunk_of_memory (u := u.heard) hst hgood hlast hitem hlate
  have hcalm : (u.heard.installMemory a bs).Calm := h.calm_of_ev rfl
  obtain ⟨l, hl⟩ := hcalm.twin_settle s.pending
  exact ⟨_, commit_of_gelain hu h htake, State.lpddr_of_quiet (State.quiet_settle ..), State.recs_settle ..,
    (congrArg Twin.state hl).trans hst⟩

end
end
end Sys2Proof.Machine
end
section
/-!
SUPPORT. The steps of the partner's CONTROL frames (R406, R422, R423, R426 to R430).
-/
namespace Sys2Proof.Machine

section
variable {u v : State} {dt : Nat} {row arg : Word} {frames : List (Fin 64 × Word)} {epoch : Half} {w : Swap} {s : State}
  (hu : s.ticked dt = u) (h : u.Hears)
include hu

theorem commit_of_control {F : State → State} (hF : u.onControl epoch F = v) :
    commit dt (fun s => s.onControl epoch F) s = .next (v.settle s.pending) :=
  commit_of_frame (f := fun s => s.onControl epoch F) hu hF

include h

/-! ### A shadow of the partner's epoch -/

section
variable (hst : u.twin.state = .shadow) (he : epoch = u.twin.epoch) (hswap : u.twin.swap = none)
include hst he hswap

/-- R426: a shadow confirms the swap of a row. -/
theorem exec_swapAt_of_shadow :
    ∃ t, exec (.swapAt dt row epoch) s = .next t ∧ t.twin.swap = some { row, confirmed := true } ∧ t.twin.state = .shadow := by
  have htwin : (((u.told epoch).confirming row).sendG (.control 7 row 0)).twin = ((u.told epoch).confirming row).twin :=
    State.twin_sendG ..
  have hcalm : (((u.told epoch).confirming row).sendG (.control 7 row 0)).Calm := h.calm_of_ev (State.ev_sendG ..)
  obtain ⟨l, hl⟩ := hcalm.twin_settle s.pending
  rw [htwin] at hl
  refine ⟨_, ?_, (congrArg Twin.swap hl).trans (State.swap_confirming (u := u.told epoch) hswap), (congrArg Twin.state hl).trans hst⟩
  show execSwapAt dt row epoch s = _
  unfold execSwapAt
  exact commit_of_control hu ((State.onControl_of_shadow h.active h.up hswap hst he).trans (if_pos hst))

/-- R423: a shadow that the lead sends away enters quarantine. -/
theorem exec_quarantineYou_of_shadow :
    ∃ t, exec (.quarantineYou dt epoch) s = .next t ∧ t.twin.state = .quarantine ∧ t.twin.epoch = epoch ∧
      t.sluice.released = true ∧ t.source 49 30 = true := by
  have htwin := (u.told epoch).twin_enter .quarantine epoch
  have hcalm : ((u.told epoch).enter .quarantine epoch).Calm :=
    State.calm_of_state (.inr (.inl ((congrArg Twin.state htwin).trans rfl)))
  obtain ⟨l, hl⟩ := hcalm.twin_settle s.pending
  rw [htwin] at hl
  refine ⟨_, ?_, (congrArg Twin.state hl).trans rfl, (congrArg Twin.epoch hl).trans rfl,
    (congrArg Sluice.released (hcalm.sluice_settle _)).trans (State.released_enter_quarantine ..),
    State.source_settle (k := 49) (((u.told epoch).enter_keepsSet .quarantine epoch).2.1 rfl) _⟩
  have hfence : (u.told epoch).fence = (u.told epoch).enter .quarantine epoch :=
    (State.fence_of_shadow (u := u.told epoch) hst).trans (congrArg ((u.told epoch).enter .quarantine) he.symm)
  show execQuarantineYou dt epoch s = _
  unfold execQuarantineYou
  exact commit_of_control hu ((State.onControl_of_shadow h.active h.up hswap hst he).trans hfence)

/-- R422: a shadow learns the rows of a realignment. -/
theorem exec_realign_of_shadow :
    ∃ t, exec (.realign dt row epoch) s = .next t ∧ t.twin.settle = some (u.twin.sealRow.getD (row - 4), row) ∧
      t.source 49 14 = true := by
  have hbeside := (((u.told epoch).realigning row).raise 49 14).beside_settle s.pending
  rw [State.twin_raise] at hbeside
  refine ⟨_, ?_, (Twin.settle_of_beside hbeside).trans rfl,
    State.source_settle (k := 49) (State.statusBit_raise _ 49 14 (by decide)) _⟩
  show execRealign dt row epoch s = _
  unfold execRealign
  exact commit_of_control hu ((State.onControl_of_shadow h.active h.up hswap hst he).trans (if_pos hst))

end

/-! ### A lead -/

/-- R426: a lead learns that its swap is confirmed. -/
theorem exec_confirm_of_lead (hst : u.twin.state = .lead) (hswap : u.twin.swap = some w) (hrow : w.row = row) :
    ∃ t, exec (.confirm dt row epoch) s = .next t ∧ t.twin.swap = some { w with confirmed := true } ∧
      t.twin.state = .lead ∧ t.twin.epoch = u.twin.epoch := by
  have hcalm : (u.heard.confirmed w).Calm := h.calm_of_ev ((u.heard.ev_setTwin _).trans (u.ev_setTwin _))
  obtain ⟨l, hl⟩ := hcalm.twin_settle s.pending
  refine ⟨_, ?_, (congrArg Twin.swap hl).trans rfl, (congrArg Twin.state hl).trans hst, (congrArg Twin.epoch hl).trans rfl⟩
  have hleads : u.heard.twin.state.leads = true := by
    rw [show u.heard.twin.state = .lead from hst]
    rfl
  show execConfirm dt row epoch s = _
  unfold execConfirm
  refine commit_of_control hu ((State.onControl_of_swap h.active h.up hswap).trans ?_)
  rw [show u.heard.twin.swap = some w from hswap]
  exact if_pos ⟨hrow, hleads⟩

/-- R406, R430: ABORT ends the admission of a lead. -/
theorem exec_abort_of_admission (hst : u.twin.state = .leadAlone) (he : epoch = u.twin.epoch)
    (hrole : u.twin.partnerIdent.toNat / 2 ^ 14 ≠ 0) (hswap : u.twin.swap = none) (hadm : u.twin.admitting = true)
    (hidle : u.idlePorts) :
    ∃ t, exec (.abort dt epoch arg) s = .next t ∧ t.twin.state = .leadAlone ∧ t.twin.admitting = false ∧
      t.twin.admitRow = none ∧ t.twin.realign = none ∧ t.source 49 25 = true := by
  have htwin := (u.told epoch).twin_abortsAdmission arg
  have hcalm : ((u.told epoch).abortsAdmission arg).Calm := State.calm_of_state (.inl ((congrArg Twin.state htwin).trans hst))
  obtain ⟨l, hl⟩ := hcalm.twin_settle s.pending
  rw [htwin] at hl
  refine ⟨_, ?_, (congrArg Twin.state hl).trans hst, (congrArg Twin.admitting hl).trans rfl, (congrArg Twin.admitRow hl).trans rfl,
    (congrArg Twin.realign hl).trans rfl, State.source_settle (k := 49) ((u.told epoch).statusBit_abortsAdmission arg) _⟩
  have hjoin : (u.told epoch).failSwap.failJoin = u.told epoch := by
    rw [State.failSwap_of_unswapped (u := u.told epoch) hswap]
    refine State.failJoin_of_outside fun hc => ?_
    exact absurd (hst.symm.trans hc) (by decide)
  have hfail := State.failAdmission_of_idle (u := u.told epoch) hadm hidle (abortReason arg)
  show execAbort dt epoch arg s = _
  unfold execAbort
  refine commit_of_control hu ((State.onControl_of_leadAlone h.active h.up hswap hst he hrole).trans ?_)
  rw [hjoin]
  exact congrArg State.unaligned hfail

/-! ### A unit outside operation -/

section
variable (hswap : u.twin.swap = none)
include hswap

/-- R428: a quarantined unit joins the lead that admits it. -/
theorem exec_admitBegin_of_quarantine (hst : u.twin.state = .quarantine) :
    ∃ t, exec (.admitBegin dt epoch arg) s = .next t ∧ t.twin.state = .admitting ∧ t.twin.epoch = epoch ∧
      t.twin.admitRow = none ∧ t.source 49 23 = true := by
  have hepoch : (u.adopting epoch).twin.epoch = epoch := (congrArg Twin.epoch u.twin_adopting).trans rfl
  have hst' : (u.adopting epoch).twin.state = .quarantine := (congrArg Twin.state u.twin_adopting).trans hst
  have htwin := (u.adopting epoch).twin_joinsAdmission arg
  have hcalm : ((u.adopting epoch).joinsAdmission arg).Calm :=
    State.calm_of_state (.inr (.inr ((congrArg Twin.state htwin).trans rfl)))
  obtain ⟨l, hl⟩ := hcalm.twin_settle s.pending
  rw [htwin] at hl
  have hset : ((u.adopting epoch).joinsAdmission arg).statusBit 49 23 = true :=
    ((u.adopting epoch).enter_keepsSet .admitting (u.adopting epoch).twin.epoch).2.2 rfl
  refine ⟨_, ?_, (congrArg Twin.state hl).trans rfl, (congrArg Twin.epoch hl).trans hepoch, (congrArg Twin.admitRow hl).trans rfl,
    State.source_settle (k := 49) hset _⟩
  show execAdmitBegin dt epoch arg s = _
  unfold execAdmitBegin
  exact commit_of_control hu ((State.onControl_of_outside h.active h.up hswap (.inl hst)).trans (if_pos hst'))

/-- R429: the joining unit learns its row. -/
theorem exec_admitRow_of_admitting (hst : u.twin.state = .admitting) :
    ∃ t, exec (.admitRow dt row epoch frames) s = .next t ∧ t.twin.state = .admitting ∧
      t.twin.admitRow = some row ∧ t.twin.realign = some (row - 1) ∧ t.twin.compareFrom = some row := by
  have hst' : (u.adopting epoch).twin.state = .admitting := (congrArg Twin.state u.twin_adopting).trans hst
  have hcalm : ((u.adopting epoch).admitAt row frames).Calm := State.calm_of_state (.inr (.inr hst'))
  obtain ⟨l, hl⟩ := hcalm.twin_settle s.pending
  refine ⟨_, ?_, (congrArg Twin.state hl).trans hst', (congrArg Twin.admitRow hl).trans rfl, (congrArg Twin.realign hl).trans rfl,
    (congrArg Twin.compareFrom hl).trans rfl⟩
  show execAdmitRow dt row epoch frames s = _
  unfold execAdmitRow
  exact commit_of_control hu ((State.onControl_of_outside h.active h.up hswap (.inr hst)).trans (if_pos hst'))

end
end
end Sys2Proof.Machine
end
section
namespace Sys2Proof
open Machine

/-- Settles O42: a frame's effect is written out for the unit that hears it, and what the step ends with leaves of it all
but what an escalation and the mirrored commands change. -/
theorem framesOfThePartner : Obligations.FramesOfThePartner := by
  unfold Obligations.FramesOfThePartner
  refine ⟨fun dt hb e g w own slot packet mirror decided c s => ?_, fun dt row arg frames epoch w s => ?_⟩
  · dsimp only
    rintro ⟨hact, hup, hesc, hnone⟩
    have h : (s.ticked dt).Hears := ⟨hact, hup, hesc⟩
    refine ⟨exec_heartPeriod_ready rfl h hnone, exec_heartPeriod_refused rfl h, exec_gelainHeart_of_lead rfl h hnone,
      fun hst htheirs hown hrow => ⟨exec_gelainDigest_of_same rfl h hnone hst htheirs hown hrow,
        exec_gelainDigest_of_differing rfl h hst htheirs hown hrow⟩,
      fun hst htags hfit hkind _ => exec_gelainTag_of_frame rfl h hnone hst htags hfit hkind,
      exec_gelainCmd_of_empty rfl h hnone, exec_gelainReply_of_empty rfl h hnone, exec_gelainMboxAck_of_reply rfl h hnone,
      fun a bs => exec_gelainState_of_memory rfl h⟩
  · dsimp only
    intro hact hup hesc hidle
    have h : (s.ticked dt).Hears := ⟨hact, hup, hesc⟩
    refine ⟨fun hst he hswap => ⟨exec_swapAt_of_shadow rfl h hst he hswap, exec_quarantineYou_of_shadow rfl h hst he hswap,
        exec_realign_of_shadow rfl h hst he hswap⟩,
      exec_confirm_of_lead rfl h, fun hst hswap => exec_admitBegin_of_quarantine rfl h hswap hst,
      fun hst hswap => exec_admitRow_of_admitting rfl h hswap hst,
      fun hst he hrole hswap hadm => exec_abort_of_admission rfl h hst he hrole hswap hadm hidle⟩

end Sys2Proof
end
